-- ==== Sys2Proof/Word.lean ====
section
/-! DEFINITION. The plain words of the model: bytes, byte strings and sparse tables. -/
namespace Sys2Proof

/-- One byte. -/
abbrev Byte := BitVec 8

/-- A byte string, lowest address first (R9). -/
abbrev Bytes := List Byte

/-- A sparse table: keys strictly rising, no entry that equals the table's default.
`Sys2Proof.Machine.Table` holds its operations. -/
abbrev Table (α : Type) := List (Nat × α)

end Sys2Proof
end

