-- ==== Sys2Proof/Syntax.lean ====
section
/-! DEFINITION. The commands of the block: one constructor per row of the opcode table. -/
namespace Sys2Proof

/-- Three coordinates. -/
structure Vec3 where
  x : Int := 0
  y : Int := 0
  z : Int := 0
deriving DecidableEq, Repr

/-- One published solution of the Plumb solver (R170, R171, R175, R178, R190): the figures the solver
computed from a measurement set or a time-transfer result. -/
structure Solution where
  /-- R171: 1 own satellites, 2–4 a cell result -/
  source : Nat
  /-- SET_SEQ of the set solved -/
  setSeq : Nat
  svs : Nat
  /-- signed, 2⁻¹⁶ ns; of an own solution the group delays of the bands are removed and CABLE_DELAY is not (R175); a cell result's is in
  Q18 -/
  offset : Int
  /-- signed, 10⁻¹² -/
  refFreq : Int
  /-- 0.1 ns -/
  errBound : Nat
  /-- 0.1 mm -/
  pos : Vec3
  /-- mm -/
  sigma : Nat
  /-- mm/s -/
  vel : Vec3
  sysOffset : List Int
deriving DecidableEq, Repr

/-- What STATUS_GET reads outside the block: the measured frequency of REF_IN (R454), and the level of CTS_N of each UART (R439). -/
structure StatusFigures where
  refMeas : BitVec 32
  ctsHigh : BitVec 4
deriving DecidableEq, Repr

/-- What reaches a UART receiver from sample 0 of a start edge on (R426, R428). -/
structure UartLine where
  /-- RXD after the synchroniser, fabric clock by fabric clock; the line idles after the last one listed -/
  levels : List Bool
  /-- the uptime of sample 0, in units of QT (R425, R435) -/
  began : Nat
deriving DecidableEq, Repr

/-- A word of a Screed memory that the scrubber reads (R217). -/
inductive ScrubWord where
  | data (lane : Fin 16) (word : BitVec 15)
  | coefficient (pending : Bool) (lane : Fin 16) (w : BitVec 12)
  | program (word : BitVec 15)
deriving DecidableEq, Repr

/-- One received AES3 frame (R280, R289, R290): per subframe the audio word, V, whether parity fails, and the user bit. -/
structure AesFrame where
  wordA : BitVec 24
  wordB : BitVec 24
  validityA : Bool
  validityB : Bool
  parityA : Bool
  parityB : Bool
  userA : Bool
  userB : Bool
deriving DecidableEq, Repr

/-- What one correlator tap accumulates over an interval (R144). -/
structure Tap where
  i : Int := 0
  q : Int := 0
deriving DecidableEq, Repr

/-- One correlator dump of a tracking channel: the eight taps of R144 and what else the channel has of the interval. -/
structure Dump where
  /-- blanked samples, 0.01 % (R152) -/
  blanked : Nat
  ve : Tap
  e : Tap
  p : Tap
  l : Tap
  vl : Tap
  pp : Tap
  dp : Tap
  n : Tap
  /-- the PLL discriminator that the loop predicts, 2⁻³² cycle (R154), which the spec does not define: the sender gives it (log entry 136) -/
  expected : Int
  /-- the position in the sync period at the dump's end, in primary periods, that time, position and ephemeris predict (R149) -/
  predicted : Nat
deriving DecidableEq, Repr

/-- What the radio measures at a transition start: the level of the channel in 0.1 dBm (R331), the die temperature in 0.1 °C and VDD_PA in
mV (R322). -/
structure TransitionFigures where
  power : BitVec 16
  dieTemp : BitVec 16
  vddPa : BitVec 16
deriving DecidableEq, Repr

/-- What the receiver has at sync detection: the received power of each microsecond since the window opened or the search resumed, 10⁻¹⁵ mW;
the mean of its ADC samples; and the samples of the preamble and the sync word, I and Q, 4 to a symbol (R338, R347, R348, R351). -/
structure RxFront where
  powers : List Nat
  means : List (Int × Int)
  samples : List (Int × Int)
deriving DecidableEq, Repr

/-- The block of a header: its samples, 4 to each of the 76 symbols; the amplitude that the 4-bit quantiser takes as certain; and the 32 bits
of the path that the decoder takes (R343, R356; log entry 134). -/
structure HeaderSymbols where
  samples : List (Int × Int)
  scale : Nat
  header : BitVec 32
deriving DecidableEq, Repr

/-- The payload of a burst of MCS 0: its samples and the bytes of the path that the decoder takes (R356; log entry 134). A burst of
another MCS has its payload from its codewords. -/
structure PayloadSymbols where
  samples : List (Int × Int)
  payload : Bytes
deriving DecidableEq, Repr

/-- A line of a band's power spectrum (R129): which line it is, its offset from the band centre, and J/N in 0.1 dB. -/
structure SpectrumLine where
  id : Nat
  offset : Int
  jn : BitVec 16
deriving DecidableEq, Repr

/-- The strongest hypothesis of an SV in a Lath pass (R131, R133): power over the noise floor in 0.1 dB, code phase in 2⁻⁸
chip, Doppler in mHz, C/N0 in 0.01 dB-Hz. -/
structure LathPeak where
  sv : BitVec 8
  power : BitVec 16
  phase : BitVec 32
  doppler : Int
  cn0 : BitVec 16
deriving DecidableEq, Repr

/-- What the navigation data say of UTC (R186): QT − UTC, the announced leap, and the QT second at which it ends. -/
structure LeapNews where
  utcOffset : Int
  leap : Fin 3
  leapAt : BitVec 32
deriving DecidableEq, Repr

/-- What a boot finds: the frequency of REF_IN in hertz, 0 when absent (R441), and whether the lock region passes its CRC (R326). -/
structure BootFigures where
  refIn : BitVec 32
  locksGood : Bool := true
deriving DecidableEq, Repr

/-- A transaction on the balls of the host port (R62): the level of SCLK at the falling edge of CS_N, and the levels of IO3..IO0 that the
host drives, clock cycle by clock cycle. -/
structure PortCycles where
  sclkHigh : Bool
  cycles : List (BitVec 4)
deriving DecidableEq, Repr

/-- The operations and events of opcode_table.json, one constructor each, with what the environment supplies. -/
inductive Instr where
  /-- WRITE_QUEUE (R65) -/
  | writeQueue (n : Fin 32) (data : Bytes)
  /-- READ_QUEUE (R66) -/
  | readQueue (n : Fin 32) (clocked : Nat)
  /-- READ_STATUS (R67) -/
  | readStatus
  /-- ADDRESS (R69) -/
  | address (a : Byte)
  /-- PORT_RESET (R63) -/
  | portReset
  /-- UNKNOWN_PORT_COMMAND (R63) -/
  | unknownPortCommand (raw : PortCycles)
  /-- HP_RST_N (R95) -/
  | hpRstN (lowNs : Nat)
  /-- HOST_PORT_RESET_DONE (R95) -/
  | hostPortResetDone
  /-- IDENTITY_GET (R90) -/
  | identityGet
  /-- MODE_SET (R505) -/
  | modeSet
  /-- DEVICE_RESET (R93) -/
  | deviceReset
  /-- ECHO (R93) -/
  | echo
  /-- SESSION_CHALLENGE (R82) -/
  | sessionChallenge
  /-- SESSION_OPEN (R82) -/
  | sessionOpen
  /-- SESSION_CLOSE (R91) -/
  | sessionClose
  /-- SESSION_LIST (R91) -/
  | sessionList
  /-- RESULT_READ (R92) -/
  | resultRead
  /-- RESULT_RELEASE (R92) -/
  | resultRelease
  /-- PORT_STATUS_CLEAR (R93) -/
  | portStatusClear
  /-- PARAM_GET (R87) -/
  | paramGet
  /-- PARAM_SET (R88) -/
  | paramSet (nvOk : Bool)
  /-- STATUS_GET (R87) -/
  | statusGet (subsec : Fin 32768) (figures : StatusFigures)
  /-- COUNTERS_GET (R87) -/
  | countersGet
  /-- SESSION_IDLE_CLOSED (R82) -/
  | sessionIdleClosed (n : Fin 16)
  /-- NONCE_EXPIRY (R91) -/
  | nonceExpiry (n : Fin 16)
  /-- AUTH_LOCKOUT_EXPIRY (R82) -/
  | authLockoutExpiry
  /-- APPLET_OPCODE (R419) -/
  | appletOpcode (payloadAt : BitVec 16)
  /-- QUEUE_STATUS_GET (R101) -/
  | queueStatusGet
  /-- QUEUE_FLUSH (R102) -/
  | queueFlush
  /-- EVENT_ROUTE_SET (R113) -/
  | eventRouteSet (nvOk : Bool)
  /-- EVENT_CLEAR (R113) -/
  | eventClear
  /-- DMA_PROGRAM_LOAD (R121) -/
  | dmaProgramLoad (nvOk : Bool)
  /-- DMA_START (R121) -/
  | dmaStart
  /-- DMA_STOP (R118) -/
  | dmaStop
  /-- DMA_MOVE (R116) -/
  | dmaMove (ch : Fin 16)
  /-- DMA_FILL (R116) -/
  | dmaFill (ch : Fin 16)
  /-- DMA_CMP (R116) -/
  | dmaCmp (ch : Fin 16)
  /-- DMA_LOOP (R116) -/
  | dmaLoop (ch : Fin 16)
  /-- DMA_WAIT_LINE (R116) -/
  | dmaWaitLine (ch : Fin 16)
  /-- DMA_WAIT_EVENT (R116) -/
  | dmaWaitEvent (ch : Fin 16)
  /-- DMA_WAIT_QUEUE_DATA (R116) -/
  | dmaWaitQueueData (ch : Fin 16)
  /-- DMA_WAIT_QUEUE_ROOM (R116) -/
  | dmaWaitQueueRoom (ch : Fin 16)
  /-- DMA_WAIT_DONE (R116) -/
  | dmaWaitDone (ch : Fin 16)
  /-- DMA_SIGNAL_RAISE (R116) -/
  | dmaSignalRaise (ch : Fin 16)
  /-- DMA_SIGNAL_COMMIT (R116) -/
  | dmaSignalCommit (ch : Fin 16)
  /-- DMA_SIGNAL_CONSUME (R116) -/
  | dmaSignalConsume (ch : Fin 16)
  /-- DMA_END (R116) -/
  | dmaEnd (ch : Fin 16)
  /-- DMA_BURST (R117) -/
  | dmaBurst (ch : Fin 16) (secded : Option (Fin 64)) (writeError : Bool)
  /-- DMA_DRAIN_DONE (R118) -/
  | dmaDrainDone (ch : Fin 16)
  /-- GPIO_WRITE (R55) -/
  | gpioWrite
  /-- GPIO_READ (R55) -/
  | gpioRead
  /-- GPIO_EDGE (R56) -/
  | gpioEdge (level : BitVec 32)
  /-- RESET_N (R51) -/
  | resetN (lowNs : Nat)
  /-- POWER_ON_RESET (R528) -/
  | powerOnReset (asserted : Bool)
  /-- BOOT_SEQUENCE (R529) -/
  | bootSequence (figures : BootFigures)
  /-- REF_IN_REMEASURE (R441) -/
  | refInRemeasure (refIn : BitVec 32)
  /-- START_UP_DONE (R529) -/
  | startUpDone (startUs : BitVec 32)
  /-- START_MODE_ENTRY (R531) -/
  | startModeEntry
  /-- FIRST_TIME_ESTIMATE (R174) -/
  | firstTimeEstimate (source : Nat) (estimate : Nat) (errBound : Nat)
  /-- HOLD_READY (R515) -/
  | holdReady (vhold : BitVec 16)
  /-- HOLD_READY_CLEAR (R515) -/
  | holdReadyClear (vhold : BitVec 16)
  /-- SAMPLE_TICK (R207) -/
  | sampleTick (received : Nat)
  /-- UNDERRUN_HOLD_EXPIRY (R304) -/
  | underrunHoldExpiry (stream : BitVec 8)
  /-- CODE_TICK (R158) -/
  | codeTick (mismatch : BitVec 128)
  /-- CORRELATOR_DUMP (R146) -/
  | correlatorDump (ch : Fin 128) (dump : Dump)
  /-- PULL_IN_TIMEOUT (R153) -/
  | pullInTimeout (ch : Fin 128)
  /-- LOSS_TIMEOUT (R153) -/
  | lossTimeout (ch : Fin 128)
  /-- REACQ_TIMEOUT (R153) -/
  | reacqTimeout (ch : Fin 128)
  /-- CHANNEL_ASSIGN (R156) -/
  | channelAssign
  /-- CHANNEL_RELEASE (R157) -/
  | channelRelease
  /-- NAV_DATA_DECODE (R150) -/
  | navDataDecode (ch : Fin 128) (messages : List (Fin 3 × Bytes)) (inverted : Option Bool) (leap : Option LeapNews)
  /-- MEASUREMENT_TICK (R159) -/
  | measurementTick (tickError : Int)
  /-- MEAS_SET_READY (R162) -/
  | measSetReady
  /-- SOLUTION_PUBLISHED (R178) -/
  | solutionPublished (sol : Solution)
  /-- SOLVER_LATE (R178) -/
  | solverLate
  /-- HOLDOVER_ENTRY (R173) -/
  | holdoverEntry
  /-- STEP_APPLY (R181) -/
  | stepApply
  /-- STEP_ASK_TIMEOUT (R180) -/
  | stepAskTimeout
  /-- SURVEY_DONE (R175) -/
  | surveyDone (sigma : Nat) (nvOk : Bool)
  /-- FRAME_TICK (R367) -/
  | frameTick
  /-- SECOND_TICK (R24) -/
  | secondTick (rtcSubsec : Fin 32768)
  /-- AUDIO_CLOCK_RESUME (R450) -/
  | audioClockResume
  /-- TIME_PULSE_EDGE (R187) -/
  | timePulseEdge (output : Fin 6)
  /-- TIME_MARK (R189) -/
  | timeMark (input : Fin 4) (falling : Bool) (instant : Nat) (short : Bool)
  /-- TIME_GET (R190) -/
  | timeGet
  /-- POSITION_SET (R191) -/
  | positionSet (nvOk : Bool)
  /-- SURVEY_START (R192) -/
  | surveyStart
  /-- STEP_APPROVE (R193) -/
  | stepApprove
  /-- PULSE_CONFIG (R194) -/
  | pulseConfig (nvOk : Bool)
  /-- MARK_CONFIG (R195) -/
  | markConfig (nvOk : Bool)
  /-- ANT_BIAS_SET (R126) -/
  | antBiasSet (nvOk : Bool)
  /-- SEARCH_START (R134) -/
  | searchStart
  /-- SEARCH_STOP (R136) -/
  | searchStop
  /-- ASSIST_LOAD (R137) -/
  | assistLoad
  /-- ASSIST_LOAD_DONE (R137) -/
  | assistLoadDone (failed : List Nat) (leap : Option LeapNews)
  /-- AUTO_SEARCH (R138) -/
  | autoSearch (signal : BitVec 8) (visible lost : List (BitVec 8)) (segments : BitVec 16)
  /-- SNAPSHOT_CAPTURE_DONE (R130) -/
  | snapshotCaptureDone (samples : List (Int × Int))
  /-- LATH_PASS (R131) -/
  | lathPass (peaks : List LathPeak)
  /-- HANDOFF_RESUME (R140) -/
  | handoffResume
  /-- SEARCH_DONE (R135) -/
  | searchDone
  /-- AGC_UPDATE (R127) -/
  | agcUpdate (l5 : Bool) (i q : List Int) (instant : Nat)
  /-- ADC_CLIP (R127) -/
  | adcClip (l5 : Bool)
  /-- BLANK_DUTY (R128) -/
  | blankDuty (l5 : Bool)
  /-- NOTCH_SPECTRUM (R129) -/
  | notchSpectrum (l5 : Bool) (lines : List SpectrumLine)
  /-- NOTCH_RELEASE (R129) -/
  | notchRelease (l5 : Bool) (notch : Fin 4)
  /-- BIAS_LIMIT (R125) -/
  | biasLimit (l5 : Bool) (current : BitVec 16)
  /-- BIAS_SHORT (R125) -/
  | biasShort (l5 : Bool)
  /-- BIAS_RETRY (R125) -/
  | biasRetry (l5 : Bool)
  /-- BIAS_OPEN (R125) -/
  | biasOpen (l5 : Bool) (current : BitVec 16)
  /-- BIAS_RECOVERY (R125) -/
  | biasRecovery (l5 : Bool) (current : BitVec 16)
  /-- SCREED_LOAD_BEGIN (R257) -/
  | screedLoadBegin
  /-- SCREED_LOAD_DATA (R257) -/
  | screedLoadData
  /-- SCREED_LOAD_END (R257) -/
  | screedLoadEnd
  /-- SCREED_LOAD_LOAD (R258) -/
  | screedLoadLoad
  /-- SCREED_LOAD_DELETE (R257) -/
  | screedLoadDelete
  /-- SCREED_LOAD_DONE (R257) -/
  | screedLoadDone (nvOk : Bool)
  /-- SCREED_COMMIT (R262) -/
  | screedCommit
  /-- SCREED_COMMIT_CANCEL (R263) -/
  | screedCommitCancel
  /-- COEF_WRITE (R260) -/
  | coefWrite (nvOk : Bool)
  /-- COEF_COPY_DONE (R261) -/
  | coefCopyDone
  /-- GLIDE_START (R269) -/
  | glideStart
  /-- GLIDE_ABORT (R270) -/
  | glideAbort
  /-- GEOMETRY_SET (R276) -/
  | geometrySet (nvOk : Bool)
  /-- AIR_TEMP_SET (R275) -/
  | airTempSet
  /-- AIR_TEMP_LINE (R275) -/
  | airTempLine (uart : Fin 4) (line : Bytes)
  /-- AIR_TEMP_STALE (R275) -/
  | airTempStale
  /-- DELAY_DESC_SET (R218) -/
  | delayDescSet (nvOk : Bool)
  /-- SCRUB (R217) -/
  | scrub (word : ScrubWord) (uncorrectable : Bool)
  /-- BANK_RELOAD (R217) -/
  | bankReload
  /-- WINDOW_FETCH_DONE (R221) -/
  | windowFetchDone (desc : Fin 64) (tap : Fin 4) (err : Option (Bool × Fin 16 × BitVec 32))
  /-- SCREED_NOP (R240) -/
  | screedNop
  /-- MOV (R241) -/
  | mov
  /-- CLR (R240) -/
  | clr
  /-- SCREED_ADD (R240) -/
  | screedAdd
  /-- SCREED_SUB (R240) -/
  | screedSub
  /-- SCREED_NEG (R240) -/
  | screedNeg
  /-- ABS (R240) -/
  | abs
  /-- MIN (R240) -/
  | min
  /-- MAX (R240) -/
  | max
  /-- ASH (R241) -/
  | ash
  /-- SCREED_AND (R240) -/
  | screedAnd
  /-- SCREED_OR (R240) -/
  | screedOr
  /-- SCREED_XOR (R240) -/
  | screedXor
  /-- ADDA (R240) -/
  | adda
  /-- SUBA (R240) -/
  | suba
  /-- MUL (R240) -/
  | mul
  /-- MAC (R244) -/
  | mac
  /-- MSU (R244) -/
  | msu
  /-- MULA (R240) -/
  | mula
  /-- MULS (R241) -/
  | muls
  /-- PRODUCT_LANDS (R243) -/
  | productLands (background : Bool)
  /-- CMPEQ (R242) -/
  | cmpeq
  /-- CMPNE (R242) -/
  | cmpne
  /-- CMPLT (R242) -/
  | cmplt
  /-- CMPLE (R242) -/
  | cmple
  /-- CAND (R240) -/
  | cand
  /-- COR (R240) -/
  | cor
  /-- CNOT (R240) -/
  | cnot
  /-- FTAP (R249) -/
  | ftap
  /-- SCREED_LOOP (R245) -/
  | screedLoop
  /-- REP (R246) -/
  | rep
  /-- FGEND (R207) -/
  | fgend
  /-- EVWAIT (R248) -/
  | evwait
  /-- EVWAIT_SATISFIED (R206) -/
  | evwaitSatisfied (solver : Bool)
  /-- SCREED_JMP (R248) -/
  | screedJmp
  /-- BRANY (R248) -/
  | brany
  /-- BRALL (R248) -/
  | brall
  /-- LDAR (R240) -/
  | ldar
  /-- ADAR (R240) -/
  | adar
  /-- SETDP (R240) -/
  | setdp
  /-- SETMR (R240) -/
  | setmr
  /-- AES_CS_SET (R288) -/
  | aesCsSet (nvOk : Bool)
  /-- AES_CS_GET (R288) -/
  | aesCsGet
  /-- AES_USER_READ (R291) -/
  | aesUserRead
  /-- AES_USER_WRITE (R291) -/
  | aesUserWrite
  /-- TDM_START (R295) -/
  | tdmStart
  /-- TDM_STOP (R295) -/
  | tdmStop
  /-- ASRC_ASSIGN (R297) -/
  | asrcAssign (nvOk : Bool)
  /-- ROUTE_SET (R300) -/
  | routeSet (nvOk : Bool)
  /-- MUTE_SET (R303) -/
  | muteSet (nvOk : Bool)
  /-- GROUP_SET (R304) -/
  | groupSet (nvOk : Bool)
  /-- AES3_FRAME_RX (R282) -/
  | aes3FrameRx (port : Fin 8) (instant : Nat) (frame : AesFrame)
  /-- AES3_BLOCK_RX (R287) -/
  | aes3BlockRx (port : Fin 8) (csA : Bytes) (csB : Bytes)
  /-- AES_RX_LOCK (R284) -/
  | aesRxLock (port : Fin 8) (rate : BitVec 32)
  /-- AES_RX_LOCK_LOSS (R284) -/
  | aesRxLockLoss (port : Fin 8)
  /-- TDM_FRAME_RX (R293) -/
  | tdmFrameRx (port : Fin 4) (instant : Nat) (period : Nat) (slots : List (BitVec 32))
  /-- ASRC_LOCK (R296) -/
  | asrcLock (conv : Fin 8) (ratio : BitVec 32)
  /-- ASRC_UNLOCK (R296) -/
  | asrcUnlock (conv : Fin 8)
  /-- RF_CAL (R319) -/
  | rfCal
  /-- RF_CHANNEL_SET (R323) -/
  | rfChannelSet (nvOk : Bool)
  /-- TUNER_STATUS_GET (R336) -/
  | tunerStatusGet
  /-- LOCKS_WRITE (R327) -/
  | locksWrite (nvOk : Bool)
  /-- CAL_START (R317) -/
  | calStart
  /-- CAL_COMPLETE (R316) -/
  | calComplete (temp : BitVec 16) (vcoBand : BitVec 8)
  /-- TX_REQUEST (R318) -/
  | txRequest (kind : Fin 5)
  /-- TRANSITION_START (R320) -/
  | transitionStart (figures : TransitionFigures)
  /-- BURST_END (R324) -/
  | burstEnd (vswr : BitVec 16) (forward : BitVec 16) (reflected : BitVec 16)
  /-- VSWR_STOP (R325) -/
  | vswrStop (vswr : BitVec 16)
  /-- VSWR_RETRY (R325) -/
  | vswrRetry (subband : Fin 3)
  /-- RADIO_IDLE_SLEEP (R314) -/
  | radioIdleSleep
  /-- TOKEN_BIN_ROLL (R329) -/
  | tokenBinRoll
  /-- RX_WINDOW_OPEN (R347) -/
  | rxWindowOpen (kind : Fin 5)
  /-- RX_WINDOW_CLOSE (R349) -/
  | rxWindowClose
  /-- SYNC_DETECT (R349) -/
  | syncDetect (hard : BitVec 64) (front : RxFront) (stamp : Nat)
  /-- HEADER_DECODE (R343) -/
  | headerDecode (symbols : HeaderSymbols)
  /-- CODEWORD_DECODE (R355) -/
  | codewordDecode (samples : List (Int × Int)) (noise : Nat)
  /-- BURST_DELIVERED (R357) -/
  | burstDelivered (symbols : PayloadSymbols) (evm : BitVec 16) (scale : BitVec 32)
  /-- MODEM_QUALITY_GET (R362) -/
  | modemQualityGet
  /-- CELL_CONFIG_SET (R395) -/
  | cellConfigSet (nvOk : Bool)
  /-- CELL_STATUS_GET (R397) -/
  | cellStatusGet
  /-- CELL_COMMIT (R387) -/
  | cellCommit
  /-- CELL_COMMIT_CANCEL (R387) -/
  | cellCommitCancel
  /-- WORKER_ADMIT (R390) -/
  | workerAdmit (nvOk : Bool)
  /-- WORKER_REVOKE (R390) -/
  | workerRevoke (nvOk : Bool)
  /-- BEACON_RX (R374) -/
  | beaconRx
  /-- BEACON_LOST (R374) -/
  | beaconLost
  /-- DOWNLINK_RX (R375) -/
  | downlinkRx
  /-- MEAS (R384): of each record of the message, the worker's and the manager's range to the satellite over c, 2⁻¹⁶ ns, and its weight in
  the result; and the transfer's own bound, 0.1 ns -/
  | meas (ownRanges : List Nat) (mgrRanges : List Nat) (weights : List Nat) (bound : BitVec 32)
  /-- CTRL (R386) -/
  | ctrl
  /-- GRANT (R386) -/
  | grant
  /-- COMMIT (R388) -/
  | commit
  /-- ADMIT (R390) -/
  | cellAdmit
  /-- REPORT (R379) -/
  | report
  /-- DIAG (R376) -/
  | diag
  /-- TT_MANAGER_BURST_RX (R382) -/
  | ttManagerBurstRx (deviation : Nat) (combined : Nat)
  /-- TT_REPLY_RX (R382) -/
  | ttReplyRx
  /-- UPLINK_RX (R391) -/
  | uplinkRx
  /-- CELL_COMMIT_DONE (R388) -/
  | cellCommitDone
  /-- WIRED_BURST_RX (R393) -/
  | wiredBurstRx (kind : Fin 5) (station : BitVec 6) (payload : Bytes) (intact : Bool) (start : Nat) (deviation : Nat) (combined : Nat)
  /-- UART_BREAK (R437) -/
  | uartBreak
  /-- BREAK_BEGIN (R437) -/
  | breakBegin (uart : Fin 4)
  /-- CHARACTER_RECEIVED (R428) -/
  | characterReceived (uart : Fin 4) (line : UartLine)
  /-- IDLE_LINE (R432) -/
  | idleLine (uart : Fin 4)
  /-- BLOCK_FLUSH_IDLE (R433) -/
  | blockFlushIdle (uart : Fin 4)
  /-- CHARACTER_TRANSMIT (R434) -/
  | characterTransmit (uart : Fin 4) (ctsHigh : Bool)
  /-- BLOCK_TX (R433) -/
  | blockTx (uart : Fin 4)
  /-- USTAT (R430) -/
  | ustat (uart : Fin 4)
  /-- UDATA_READ (R429) -/
  | udataRead (uart : Fin 4)
  /-- UDATA_WRITE (R429) -/
  | udataWrite (uart : Fin 4) (value : BitVec 16)
  /-- PLL_STATUS_GET (R454) -/
  | pllStatusGet (refMeas : BitVec 32)
  /-- REF_GLITCH (R442) -/
  | refGlitch
  /-- REF_EDGES_RETURN (R442) -/
  | refEdgesReturn
  /-- REF_LOST (R442) -/
  | refLost
  /-- PLL_UNLOCK (R452) -/
  | pllUnlock (pll : Fin 4)
  /-- PLL_LOCK (R452) -/
  | pllLock (pll : Fin 4)
  /-- PLL_UNLOCK_TIMEOUT (R453) -/
  | pllUnlockTimeout (pll : Fin 4)
  /-- RTC_SET_TIME (R471) -/
  | rtcSetTime (nvOk : Bool)
  /-- RTC_SET_ZONE (R471) -/
  | rtcSetZone (nvOk : Bool)
  /-- RTC_GET (R472) -/
  | rtcGet (subsec : Fin 32768)
  /-- ALARM_SET (R468) -/
  | alarmSet (nvOk : Bool)
  /-- SUMMER_TIME (R465) -/
  | summerTime (nvOk : Bool)
  /-- RTC_SECOND (R466) -/
  | rtcSecond
  /-- RTC_SUPPLY_SWITCH (R458) -/
  | rtcSupplySwitch (vddMv : Nat) (vbatMv : Nat)
  /-- BROWN_OUT (R459) -/
  | brownOut (lowestMv : Nat)
  /-- LOG_EXPORT (R488) -/
  | logExport
  /-- LOG_EXPORT_ENTRY (R488) -/
  | logExportEntry
  /-- LOG_EXPORT_DONE (R488) -/
  | logExportDone
  /-- IMAGE_WRITE_BEGIN (R493) -/
  | imageWriteBegin (nvOk : Bool)
  /-- IMAGE_WRITE_DATA (R493) -/
  | imageWriteData (nvOk : Bool)
  /-- IMAGE_WRITE_END (R493) -/
  | imageWriteEnd
  /-- IMAGE_WRITE_FROM_FLASH (R493) -/
  | imageWriteFromFlash (flash : Bytes) (nvOk : Bool)
  /-- IMAGE_CHECK_DONE (R493) -/
  | imageCheckDone (nvOk : Bool)
  /-- IMAGE_ACTIVATE (R494) -/
  | imageActivate (nvOk : Bool)
  /-- BOOT_CONFIRM (R496) -/
  | bootConfirm (nvOk : Bool)
  /-- TRIAL_TIMEOUT (R496) -/
  | trialTimeout
  /-- JOURNAL_READ (R485) -/
  | journalRead
  /-- JOURNAL_READ_PUBLISH (R485) -/
  | journalReadPublish
  /-- SENSOR_READ (R491) -/
  | sensorRead
  /-- KEY_ADD (R479) -/
  | keyAdd (nvOk : Bool)
  /-- KEY_REVOKE (R479) -/
  | keyRevoke (nvOk : Bool)
  /-- PIN_SET_ENABLE (R480) -/
  | pinSetEnable (nvOk : Bool)
  /-- PIN_SET_DISABLE (R480) -/
  | pinSetDisable (nvOk : Bool)
  /-- TEST_ACCESS_CLOSE (R498) -/
  | testAccessClose (nvOk : Bool)
  /-- TEST_ACCESS_OPEN (R498) -/
  | testAccessOpen (nvOk : Bool)
  /-- TEST_ACCESS_JTAG (R498) -/
  | testAccessJtag (nvOk : Bool)
  /-- JTAG_FUSE_BLOW (R498) -/
  | jtagFuseBlow (nvOk : Bool)
  /-- JOURNAL_REQUEST (R482) -/
  | journalRequest (nvOk : Bool)
  /-- JOURNAL_COMMIT (R482) -/
  | journalCommit (nvOk : Bool)
  /-- COMPACTION_SLICE (R483) -/
  | compactionSlice (count : Nat)
  /-- EVENT_LOG_REQUEST (R487) -/
  | eventLogRequest
  /-- LOG_WRITE (R487) -/
  | logWrite (nvOk : Bool)
  /-- SESSION_PROOF_CHECK (R478) -/
  | sessionProofCheck
  /-- POWER_STATE_CONSENT (R508) -/
  | powerStateConsent
  /-- HEARTBEAT (R497) -/
  | heartbeat
  /-- UPDATE_WORK (R475) -/
  | updateWork (nvOk : Bool) (flash : Bytes)
  /-- REGION_READ (R475) -/
  | regionRead
  /-- DEVICE_RESET_REQUEST (R525) -/
  | deviceResetRequest
  /-- SESSION_TABLE_CHANGE (R478) -/
  | sessionTableChange
  /-- LOCKS_RELOADED (R326) -/
  | locksReloaded
  /-- SENSOR_SCAN (R489) -/
  | sensorScan (values : List (BitVec 16))
  /-- WATCHDOG_WARN (R497) -/
  | watchdogWarn
  /-- WD_H (R497) -/
  | wdH
  /-- WD_S (R497) -/
  | wdS
  /-- HOURLY_BUNDLE (R519) -/
  | hourlyBundle
  /-- POWER_ENTER (R506) -/
  | powerEnter
  /-- WATCH_CONFIG (R514) -/
  | watchConfig (nvOk : Bool)
  /-- DRAIN_END (R506) -/
  | drainEnd
  /-- DRAIN_TIMEOUT (R508) -/
  | drainTimeout (unit : BitVec 8)
  /-- WAKE (R512) -/
  | wake (us : BitVec 32)
  /-- WATCH_WINDOW (R514) -/
  | watchWindow
  /-- WATCH_WINDOW_END (R514) -/
  | watchWindowEnd (samples : List (BitVec 32)) (rssi : BitVec 16) (runs : List (BitVec 64))
  /-- WATCH_NOT_READY (R514) -/
  | watchNotReady
  /-- SUPPLY_SAG (R516) -/
  | supplySag (vdd : BitVec 16)
  /-- SAVE_END (R520) -/
  | saveEnd
  /-- SAVE_STOP (R518) -/
  | saveStop (done : Fin 6) (records : Nat)
  /-- SAG_RESET (R520) -/
  | sagReset
  /-- RESET_CAUSE_GET (R535) -/
  | resetCauseGet
  /-- TROWEL_NOP (R405) -/
  | trowelNop (core : Fin 2)
  /-- LIT8 (R405) -/
  | lit8 (core : Fin 2)
  /-- LIT16 (R405) -/
  | lit16 (core : Fin 2)
  /-- DROP (R405) -/
  | drop (core : Fin 2)
  /-- DUP (R405) -/
  | dup (core : Fin 2)
  /-- SWAP (R405) -/
  | swap (core : Fin 2)
  /-- OVER (R405) -/
  | over (core : Fin 2)
  /-- ROT (R405) -/
  | rot (core : Fin 2)
  /-- DROPW (R405) -/
  | dropw (core : Fin 2)
  /-- DUPW (R405) -/
  | dupw (core : Fin 2)
  /-- SWAPW (R405) -/
  | swapw (core : Fin 2)
  /-- OVERW (R405) -/
  | overw (core : Fin 2)
  /-- PICK (R405) -/
  | pick (core : Fin 2)
  /-- TO_R (R403) -/
  | toR (core : Fin 2)
  /-- R_FROM (R403) -/
  | rFrom (core : Fin 2)
  /-- R_FETCH (R403) -/
  | rFetch (core : Fin 2)
  /-- TROWEL_ADD (R405) -/
  | trowelAdd (core : Fin 2)
  /-- ADDC (R405) -/
  | addc (core : Fin 2)
  /-- TROWEL_SUB (R405) -/
  | trowelSub (core : Fin 2)
  /-- SUBB (R405) -/
  | subb (core : Fin 2)
  /-- TROWEL_AND (R405) -/
  | trowelAnd (core : Fin 2)
  /-- TROWEL_OR (R405) -/
  | trowelOr (core : Fin 2)
  /-- TROWEL_XOR (R405) -/
  | trowelXor (core : Fin 2)
  /-- NOT (R405) -/
  | notByte (core : Fin 2)
  /-- SHL (R405) -/
  | shl (core : Fin 2)
  /-- SHR (R405) -/
  | shr (core : Fin 2)
  /-- ASR (R405) -/
  | asr (core : Fin 2)
  /-- INC (R405) -/
  | inc (core : Fin 2)
  /-- DEC (R405) -/
  | dec (core : Fin 2)
  /-- TROWEL_NEG (R405) -/
  | trowelNeg (core : Fin 2)
  /-- MULU (R405) -/
  | mulu (core : Fin 2)
  /-- ADDW (R405) -/
  | addw (core : Fin 2)
  /-- SUBW (R405) -/
  | subw (core : Fin 2)
  /-- INCW (R405) -/
  | incw (core : Fin 2)
  /-- DECW (R405) -/
  | decw (core : Fin 2)
  /-- ANDW (R405) -/
  | andw (core : Fin 2)
  /-- ORW (R405) -/
  | orw (core : Fin 2)
  /-- XORW (R405) -/
  | xorw (core : Fin 2)
  /-- SHLW (R405) -/
  | shlw (core : Fin 2)
  /-- SHRW (R405) -/
  | shrw (core : Fin 2)
  /-- EXT (R405) -/
  | ext (core : Fin 2)
  /-- EQ (R405) -/
  | eq (core : Fin 2)
  /-- NE (R405) -/
  | ne (core : Fin 2)
  /-- LTU (R405) -/
  | ltu (core : Fin 2)
  /-- LEU (R405) -/
  | leu (core : Fin 2)
  /-- LTS (R405) -/
  | lts (core : Fin 2)
  /-- LES (R405) -/
  | les (core : Fin 2)
  /-- ZEQ (R405) -/
  | zeq (core : Fin 2)
  /-- EQW (R405) -/
  | eqw (core : Fin 2)
  /-- LTUW (R405) -/
  | ltuw (core : Fin 2)
  /-- LTSW (R405) -/
  | ltsw (core : Fin 2)
  /-- ZEQW (R405) -/
  | zeqw (core : Fin 2)
  /-- LD (R405) -/
  | ld (core : Fin 2)
  /-- ST (R405) -/
  | st (core : Fin 2)
  /-- LDW (R405) -/
  | ldw (core : Fin 2)
  /-- STW (R405) -/
  | stw (core : Fin 2)
  /-- LDA (R405) -/
  | lda (core : Fin 2)
  /-- STA (R405) -/
  | sta (core : Fin 2)
  /-- LDAW (R405) -/
  | ldaw (core : Fin 2)
  /-- STAW (R405) -/
  | staw (core : Fin 2)
  /-- LDP (R405) -/
  | ldp (core : Fin 2)
  /-- STP (R405) -/
  | stp (core : Fin 2)
  /-- LDC (R405) -/
  | ldc (core : Fin 2)
  /-- LDCF (R405) -/
  | ldcf (core : Fin 2)
  /-- IN (R405) -/
  | inIo (core : Fin 2)
  /-- OUT (R405) -/
  | outIo (core : Fin 2)
  /-- INA (R405) -/
  | ina (core : Fin 2)
  /-- OUTA (R405) -/
  | outa (core : Fin 2)
  /-- INW (R405) -/
  | inw (core : Fin 2)
  /-- OUTW (R405) -/
  | outw (core : Fin 2)
  /-- BSET (R406) -/
  | bset (core : Fin 2)
  /-- BCLR (R406) -/
  | bclr (core : Fin 2)
  /-- BCPL (R406) -/
  | bcpl (core : Fin 2)
  /-- BPUSH (R406) -/
  | bpush (core : Fin 2)
  /-- BPOP (R406) -/
  | bpop (core : Fin 2)
  /-- BPUSHI (R406) -/
  | bpushi (core : Fin 2)
  /-- BPOPI (R406) -/
  | bpopi (core : Fin 2)
  /-- TROWEL_JMP (R405) -/
  | trowelJmp (core : Fin 2)
  /-- JR (R405) -/
  | jr (core : Fin 2)
  /-- JZ (R405) -/
  | jz (core : Fin 2)
  /-- JNZ (R405) -/
  | jnz (core : Fin 2)
  /-- CALL (R405) -/
  | call (core : Fin 2)
  /-- CALLF (R405) -/
  | callf (core : Fin 2)
  /-- RET (R405) -/
  | ret (core : Fin 2)
  /-- RETI (R409) -/
  | reti (core : Fin 2)
  /-- JMPI (R405) -/
  | jmpi (core : Fin 2)
  /-- CALLI (R405) -/
  | calli (core : Fin 2)
  /-- JMPF (R405) -/
  | jmpf (core : Fin 2)
  /-- EI (R405) -/
  | ei (core : Fin 2)
  /-- DI (R405) -/
  | di (core : Fin 2)
  /-- WAIT_IDLE (R413) -/
  | waitIdle (core : Fin 2)
  /-- WAIT_POWER_ENTRY (R413) -/
  | waitPowerEntry (csLow : Bool)
  /-- TROWEL_LOOP (R408) -/
  | trowelLoop (core : Fin 2)
  /-- LBRK (R405) -/
  | lbrk (core : Fin 2)
  /-- LCNT (R405) -/
  | lcnt (core : Fin 2)
  /-- CRC16 (R407) -/
  | crc16 (core : Fin 2)
  /-- CRC32 (R407) -/
  | crc32 (core : Fin 2)
  /-- PAR (R405) -/
  | par (core : Fin 2)
  /-- BREV (R405) -/
  | brev (core : Fin 2)
  /-- BREVW (R405) -/
  | brevw (core : Fin 2)
  /-- BRB1 (R406) -/
  | brb1 (core : Fin 2)
  /-- BRB0 (R406) -/
  | brb0 (core : Fin 2)
  /-- BRB1C (R406) -/
  | brb1c (core : Fin 2)
  /-- BRB0S (R406) -/
  | brb0s (core : Fin 2)
  /-- CPSET (R411) -/
  | cpset (core : Fin 2)
  /-- CPGET (R411) -/
  | cpget (core : Fin 2)
  /-- CPWAIT (R411) -/
  | cpwait (core : Fin 2)
  /-- SHA256_INIT (R412) -/
  | sha256Init (core : Fin 2)
  /-- SHA256_UPDATE (R412) -/
  | sha256Update (core : Fin 2)
  /-- SHA256_FINAL (R412) -/
  | sha256Final (core : Fin 2)
  /-- ED25519_VERIFY (R567) -/
  | ed25519Verify (core : Fin 2)
  /-- CP2_ADD (R412) -/
  | cp2Add (core : Fin 2)
  /-- CP2_SUB (R412) -/
  | cp2Sub (core : Fin 2)
  /-- CP2_MULU (R412) -/
  | cp2Mulu (core : Fin 2)
  /-- CP2_MULS (R412) -/
  | cp2Muls (core : Fin 2)
  /-- CP2_DIVU (R412) -/
  | cp2Divu (core : Fin 2)
  /-- CP2_CMPU (R412) -/
  | cp2Cmpu (core : Fin 2)
  /-- CP2_SHL (R412) -/
  | cp2Shl (core : Fin 2)
  /-- CP2_SHR (R412) -/
  | cp2Shr (core : Fin 2)
  /-- COPROCESSOR_DONE (R411) -/
  | coprocessorDone (core : Fin 2) (cp : Fin 3)
  /-- REPLY_ITEM (R420) -/
  | replyItem
  /-- SYS_PARAM_GET (R420) -/
  | sysParamGet
  /-- SYS_PARAM_SET (R420) -/
  | sysParamSet (nvOk : Bool)
  /-- SYS_JOURNAL (R420) -/
  | sysJournal (nvOk : Bool)
  /-- SYS_GPIO_WRITE (R420) -/
  | sysGpioWrite
  /-- SYS_GPIO_READ (R420) -/
  | sysGpioRead
  /-- SYS_LOG (R420) -/
  | sysLog
  /-- VECTOR_TAKEN (R409) -/
  | vectorTaken
  /-- TRAP (R410) -/
  | trap (core : Fin 2)
  /-- HANDLER_TIME_LIMIT (R419) -/
  | handlerTimeLimit
  /-- PUSH_DATA (R416) -/
  | pushData (q : Fin 32) (value : Byte)
  /-- PUSH_LEN (R416) -/
  | pushLen (q : Fin 32) (len : BitVec 16)
  /-- POP_DATA (R416) -/
  | popData (q : Fin 32)
  /-- POP_RELEASE (R416) -/
  | popRelease (q : Fin 32) (value : Byte)
  /-- STAT (R109) -/
  | stat (index : Fin 16) (value : Byte)
  /-- SW_RAISE (R414) -/
  | swRaise (value : Byte)
  /-- QT_SNAP (R414) -/
  | qtSnap
  /-- REGISTER_WRITE (R11) -/
  | registerWrite (address : BitVec 16) (value : Byte)
  /-- BAD_OPCODE (R76) -/
  | badOpcode
  /-- COEX_GNT (R333) -/
  | coexGnt (level : Bool)
  /-- BREAK_END (R437) -/
  | breakEnd (uart : Fin 4)
deriving DecidableEq, Repr

end Sys2Proof
end

