-- ==== Sys2Proof/WellFormed.lean ====
section
/-! DEFINITION. What the environment can hand to the block: the operands of an event within the widths that the spec gives
what they stand for. The meanings are total; an ill-formed operand is no event of this hardware. -/
namespace Sys2Proof

/-- A share in units of 0.01 %. -/
def wfShare (n : Nat) : Bool := decide (n ≤ 10000)

/-- A QT stamp or instant in 2⁻¹⁶ ns (R21): 80 bits. -/
def wfInstant (t : Nat) : Bool := decide (t < 2 ^ 80)

/-- The taps of an interval (R144): samples within ±127 (R127), at most 100 ms of them at 81.84 MHz. -/
def Tap.wf (x : Tap) : Bool :=
  decide (-(2 ^ 32) ≤ x.i) && decide (x.i ≤ 2 ^ 32) && decide (-(2 ^ 32) ≤ x.q) && decide (x.q ≤ 2 ^ 32)

/-- What a dump holds of a channel (R144): a share of its samples, its taps, and a prediction within half a cycle (R154). -/
def Dump.wf (d : Dump) : Bool :=
  wfShare d.blanked && d.ve.wf && d.e.wf && d.p.wf && d.l.wf && d.vl.wf && d.pp.wf && d.dp.wf && d.n.wf &&
  decide (-(2 ^ 31) ≤ d.expected) && decide (d.expected < 2 ^ 31)

/-- The figures of a solution (R171): its source, its four system offsets, and the widths of R190. -/
def Solution.wf (v : Solution) : Bool :=
  decide (1 ≤ v.source) && decide (v.source ≤ 4) && decide (v.setSeq < 2 ^ 32) && decide (v.svs < 256) &&
  decide (v.sysOffset.length = 4)

/-- The check of every command's operands. -/
def Instr.wf : Instr → Bool
  | .correlatorDump _ d => d.wf
  | .agcUpdate _ i q t => i.length == q.length && wfInstant t
  | .solutionPublished v => v.wf
  | .snapshotCaptureDone l => l.all (fun x => decide (x.1.natAbs ≤ 127) && decide (x.2.natAbs ≤ 127))
  | .sensorScan v => decide (v.length = 26)
  | .aes3BlockRx _ a b => decide (a.length = 24) && decide (b.length = 24)
  | .aes3FrameRx _ t _ => wfInstant t
  | .tdmFrameRx _ t period slots => wfInstant t && decide (0 < period) && decide (slots.length ≤ 16)
  | .timeMark _ _ t _ => wfInstant t
  | .firstTimeEstimate source estimate _ => decide (source ≤ 6) && wfInstant estimate
  | .syncDetect _ x t => wfInstant t && x.powers.length == x.means.length
  | .headerDecode x => decide (0 < x.scale)
  | .codewordDecode _ n => decide (0 < n)
  | .burstDelivered _ _ v => decide (v ≠ 0)
  | .compactionSlice n => decide (1 ≤ n)
  | .assistLoadDone failed _ => decide (failed.length ≤ 65536) && failed.all (fun n => decide (n < 65536))
  | _ => true

end Sys2Proof
end

