-- ==== Sys2Proof/Machine/Bits.lean ====
section
/-! DEFINITION. Byte order, signed values, bit fields and checks over byte strings. -/
namespace Sys2Proof.Machine

/-- `n` bytes of `v`, low byte first (R9). -/
def le : Nat → Nat → Bytes
  | 0, _ => []
  | n + 1, v => BitVec.ofNat 8 v :: le n (v / 256)

/-- The value of a byte string, low byte first (R9). -/
def ofLE : Bytes → Nat
  | [] => 0
  | b :: r => b.toNat + 256 * ofLE r

/-- `n` bytes at offset `o`. -/
def slice (o n : Nat) (b : Bytes) : Bytes := (b.drop o).take n

/-- The unsigned field of `n` bytes at offset `o` (R9). -/
def fieldAt (o n : Nat) (b : Bytes) : Nat := ofLE (slice o n b)

/-- A value of `n` bits read as two's complement (R10). -/
def signed (n v : Nat) : Int :=
  if v % 2 ^ n < 2 ^ (n - 1) then ((v % 2 ^ n : Nat) : Int) else ((v % 2 ^ n : Nat) : Int) - ((2 ^ n : Nat) : Int)

/-- An integer as an unsigned value of `n` bits, two's complement. -/
def unsigned (n : Nat) (i : Int) : Nat := (i % ((2 ^ n : Nat) : Int)).toNat

/-- The signed field of `n` bytes at offset `o`. -/
def signedAt (o n : Nat) (b : Bytes) : Int := signed (8 * n) (fieldAt o n b)

/-- `n` bytes of a signed value. -/
def leInt (n : Nat) (i : Int) : Bytes := le n (unsigned (8 * n) i)

/-- Bits `[hi:lo]` of a value. -/
def bits (hi lo v : Nat) : Nat := v / 2 ^ lo % 2 ^ (hi + 1 - lo)

/-- Bit `n` of a value. -/
def bit (n v : Nat) : Bool := Nat.testBit v n

/-- A flag as 0 or 1. -/
def b01 (b : Bool) : Nat := if b then 1 else 0

/-- `n` zero bytes. -/
def zeros (n : Nat) : Bytes := List.replicate n 0

/-- A byte string cut or filled with zeros to `n` bytes. -/
def padTo (n : Nat) (b : Bytes) : Bytes := b.take n ++ zeros (n - b.length)

/-- All bytes are zero. -/
def allZero (b : Bytes) : Bool := b.all (· == 0)

/-- 32-bit counters wrap (R98, R109). -/
def wrap32 (n : Nat) : Nat := n % 2 ^ 32

/-- 64-bit counters wrap. -/
def wrap64 (n : Nat) : Nat := n % 2 ^ 64

/-- One bit of a reflected CRC register. -/
def crcBit (poly : Nat) (c : Nat) : Nat :=
  if c % 2 = 1 then Nat.xor (c / 2) poly else c / 2

/-- Eight bits of a reflected CRC register. -/
def crcByte (poly : Nat) (c : Nat) (b : Byte) : Nat :=
  let x := Nat.xor c b.toNat
  crcBit poly (crcBit poly (crcBit poly (crcBit poly (crcBit poly (crcBit poly (crcBit poly (crcBit poly x)))))))

/-- The CRC-32 register after a byte string (R73: polynomial 0x04C1_1DB7, reflected). -/
def crc32Run (c : Nat) : Bytes → Nat
  | [] => c
  | b :: r => crc32Run (crcByte 0xEDB88320 c b) r

/-- CRC-32 of R73. -/
def crc32 (b : Bytes) : Nat := Nat.xor (crc32Run 0xFFFFFFFF b) 0xFFFFFFFF

/-- Replace element `i` of a list by a function of it. -/
def modAt {α : Type} (i : Nat) (f : α → α) : List α → List α
  | [] => []
  | a :: r => match i with
    | 0 => f a :: r
    | j + 1 => a :: modAt j f r

end Sys2Proof.Machine
end

