-- ==== Sys2Proof/Machine/Crypto.lean ====
section
/-! DEFINITION. SHA-256, SHA-512 and the Ed25519 verification that cp0, cp1 and the Steward use
(R412, R478, R480, R492, R567). The constants are those of the standards the rules name (log entry 14). -/
namespace Sys2Proof.Machine

/-- SHA-256 round constants: the fractional parts of the cube roots of the first 64 primes. -/
def sha256K0 : List Nat :=
  [0x428A2F98, 0x71374491, 0xB5C0FBCF, 0xE9B5DBA5,
   0x3956C25B, 0x59F111F1, 0x923F82A4, 0xAB1C5ED5,
   0xD807AA98, 0x12835B01, 0x243185BE, 0x550C7DC3,
   0x72BE5D74, 0x80DEB1FE, 0x9BDC06A7, 0xC19BF174]

/-- Continued. -/
def sha256K1 : List Nat :=
  [0xE49B69C1, 0xEFBE4786, 0x0FC19DC6, 0x240CA1CC,
   0x2DE92C6F, 0x4A7484AA, 0x5CB0A9DC, 0x76F988DA,
   0x983E5152, 0xA831C66D, 0xB00327C8, 0xBF597FC7,
   0xC6E00BF3, 0xD5A79147, 0x06CA6351, 0x14292967]

/-- Continued. -/
def sha256K2 : List Nat :=
  [0x27B70A85, 0x2E1B2138, 0x4D2C6DFC, 0x53380D13,
   0x650A7354, 0x766A0ABB, 0x81C2C92E, 0x92722C85,
   0xA2BFE8A1, 0xA81A664B, 0xC24B8B70, 0xC76C51A3,
   0xD192E819, 0xD6990624, 0xF40E3585, 0x106AA070]

/-- Continued. -/
def sha256K3 : List Nat :=
  [0x19A4C116, 0x1E376C08, 0x2748774C, 0x34B0BCB5,
   0x391C0CB3, 0x4ED8AA4A, 0x5B9CCA4F, 0x682E6FF3,
   0x748F82EE, 0x78A5636F, 0x84C87814, 0x8CC70208,
   0x90BEFFFA, 0xA4506CEB, 0xBEF9A3F7, 0xC67178F2]

/-- All of them. -/
def sha256K : List Nat := sha256K0 ++ sha256K1 ++ sha256K2 ++ sha256K3

/-- SHA-256 initial state: the fractional parts of the square roots of the first 8 primes. -/
def sha256H0 : List Nat :=
  [0x6A09E667, 0xBB67AE85, 0x3C6EF372, 0xA54FF53A,
   0x510E527F, 0x9B05688C, 0x1F83D9AB, 0x5BE0CD19]

/-- SHA-512 round constants: the fractional parts of the cube roots of the first 80 primes. -/
def sha512K0 : List Nat :=
  [0x428A2F98D728AE22, 0x7137449123EF65CD, 0xB5C0FBCFEC4D3B2F, 0xE9B5DBA58189DBBC,
   0x3956C25BF348B538, 0x59F111F1B605D019, 0x923F82A4AF194F9B, 0xAB1C5ED5DA6D8118,
   0xD807AA98A3030242, 0x12835B0145706FBE, 0x243185BE4EE4B28C, 0x550C7DC3D5FFB4E2,
   0x72BE5D74F27B896F, 0x80DEB1FE3B1696B1, 0x9BDC06A725C71235, 0xC19BF174CF692694]

/-- Continued. -/
def sha512K1 : List Nat :=
  [0xE49B69C19EF14AD2, 0xEFBE4786384F25E3, 0x0FC19DC68B8CD5B5, 0x240CA1CC77AC9C65,
   0x2DE92C6F592B0275, 0x4A7484AA6EA6E483, 0x5CB0A9DCBD41FBD4, 0x76F988DA831153B5,
   0x983E5152EE66DFAB, 0xA831C66D2DB43210, 0xB00327C898FB213F, 0xBF597FC7BEEF0EE4,
   0xC6E00BF33DA88FC2, 0xD5A79147930AA725, 0x06CA6351E003826F, 0x142929670A0E6E70]

/-- Continued. -/
def sha512K2 : List Nat :=
  [0x27B70A8546D22FFC, 0x2E1B21385C26C926, 0x4D2C6DFC5AC42AED, 0x53380D139D95B3DF,
   0x650A73548BAF63DE, 0x766A0ABB3C77B2A8, 0x81C2C92E47EDAEE6, 0x92722C851482353B,
   0xA2BFE8A14CF10364, 0xA81A664BBC423001, 0xC24B8B70D0F89791, 0xC76C51A30654BE30,
   0xD192E819D6EF5218, 0xD69906245565A910, 0xF40E35855771202A, 0x106AA07032BBD1B8]

/-- Continued. -/
def sha512K3 : List Nat :=
  [0x19A4C116B8D2D0C8, 0x1E376C085141AB53, 0x2748774CDF8EEB99, 0x34B0BCB5E19B48A8,
   0x391C0CB3C5C95A63, 0x4ED8AA4AE3418ACB, 0x5B9CCA4F7763E373, 0x682E6FF3D6B2B8A3,
   0x748F82EE5DEFB2FC, 0x78A5636F43172F60, 0x84C87814A1F0AB72, 0x8CC702081A6439EC,
   0x90BEFFFA23631E28, 0xA4506CEBDE82BDE9, 0xBEF9A3F7B2C67915, 0xC67178F2E372532B]

/-- Continued. -/
def sha512K4 : List Nat :=
  [0xCA273ECEEA26619C, 0xD186B8C721C0C207, 0xEADA7DD6CDE0EB1E, 0xF57D4F7FEE6ED178,
   0x06F067AA72176FBA, 0x0A637DC5A2C898A6, 0x113F9804BEF90DAE, 0x1B710B35131C471B,
   0x28DB77F523047D84, 0x32CAAB7B40C72493, 0x3C9EBE0A15C9BEBC, 0x431D67C49C100D4C,
   0x4CC5D4BECB3E42B6, 0x597F299CFC657E2A, 0x5FCB6FAB3AD6FAEC, 0x6C44198C4A475817]

/-- All of them. -/
def sha512K : List Nat := sha512K0 ++ sha512K1 ++ sha512K2 ++ sha512K3 ++ sha512K4

/-- SHA-512 initial state. -/
def sha512H0 : List Nat :=
  [0x6A09E667F3BCC908, 0xBB67AE8584CAA73B, 0x3C6EF372FE94F82B, 0xA54FF53A5F1D36F1,
   0x510E527FADE682D1, 0x9B05688C2B3E6C1F, 0x1F83D9ABFB41BD6B, 0x5BE0CD19137E2179]

/-- The widths and rotations that tell SHA-512 from SHA-256. -/
structure ShaKind where
  /-- word bits -/
  w : Nat
  s0 : Nat × Nat × Nat
  s1 : Nat × Nat × Nat
  e0 : Nat × Nat × Nat
  e1 : Nat × Nat × Nat
  k : List Nat

/-- SHA-256. -/
def sha256Kind : ShaKind := { w := 32, s0 := (7, 18, 3), s1 := (17, 19, 10), e0 := (2, 13, 22), e1 := (6, 11, 25), k := sha256K }

/-- SHA-512. -/
def sha512Kind : ShaKind := { w := 64, s0 := (1, 8, 7), s1 := (19, 61, 6), e0 := (28, 34, 39), e1 := (14, 18, 41), k := sha512K }

/-- Rotate a word of `w` bits right by `n`. -/
def rotr (w n x : Nat) : Nat := Nat.lor (x / 2 ^ n) (x * 2 ^ (w - n) % 2 ^ w)

/-- A small sigma of the message schedule: two rotations and a shift. -/
def shaSmall (w : Nat) (r : Nat × Nat × Nat) (x : Nat) : Nat :=
  Nat.xor (Nat.xor (rotr w r.1 x) (rotr w r.2.1 x)) (x / 2 ^ r.2.2)

/-- A big sigma of a round: three rotations. -/
def shaBig (w : Nat) (r : Nat × Nat × Nat) (x : Nat) : Nat :=
  Nat.xor (Nat.xor (rotr w r.1 x) (rotr w r.2.1 x)) (rotr w r.2.2 x)

/-- One round, `v` the eight working words, `win` the last sixteen schedule words. -/
def shaRound (c : ShaKind) (k : Nat) (v win : List Nat) : List Nat × List Nat :=
  match v with
  | [a, b, x, d, e, f, g, h] =>
    let wt := win.headD 0
    let ch := Nat.xor (Nat.land e f) (Nat.land (2 ^ c.w - 1 - e) g)
    let maj := Nat.xor (Nat.xor (Nat.land a b) (Nat.land a x)) (Nat.land b x)
    let t1 := h + shaBig c.w c.e1 e + ch + k + wt
    let t2 := shaBig c.w c.e0 a + maj
    let next := (shaSmall c.w c.s1 (win.getD 14 0) + win.getD 9 0 + shaSmall c.w c.s0 (win.getD 1 0) + wt) % 2 ^ c.w
    ([(t1 + t2) % 2 ^ c.w, a, b, x, (d + t1) % 2 ^ c.w, e, f, g], win.drop 1 ++ [next])
  | _ => (v, win)

/-- All rounds of one block. -/
def shaRounds (c : ShaKind) : List Nat → List Nat × List Nat → List Nat
  | [], p => p.1
  | k :: r, p => shaRounds c r (shaRound c k p.1 p.2)

/-- The value of a byte string, high byte first. -/
def ofBE (b : Bytes) : Nat := b.foldl (fun a x => a * 256 + x.toNat) 0

/-- `n` bytes of `v`, high byte first. -/
def be (n v : Nat) : Bytes := (le n v).reverse

/-- A block as words, high byte first. -/
def beWords (bytes : Nat) : Nat → Bytes → List Nat
  | 0, _ => []
  | n + 1, b => ofBE (b.take bytes) :: beWords bytes n (b.drop bytes)

/-- The state after one block. -/
def shaBlock (c : ShaKind) (h : List Nat) (blk : Bytes) : List Nat :=
  let v := shaRounds c c.k (h, beWords (c.w / 8) 16 blk)
  List.zipWith (fun a b => (a + b) % 2 ^ c.w) h v

/-- The state after `n` blocks. -/
def shaBlocks (c : ShaKind) : Nat → List Nat → Bytes → List Nat
  | 0, h, _ => h
  | n + 1, h, b => shaBlocks c n (shaBlock c h (b.take (2 * c.w))) (b.drop (2 * c.w))

/-- Padding of a message whose last partial block is `tail` and whose whole length is `len` bytes. -/
def shaPad (c : ShaKind) (tail : Bytes) (len : Nat) : Bytes :=
  let blk := 2 * c.w
  let lf := c.w / 4
  let z := (2 * blk - 1 - lf - tail.length % blk) % blk
  tail ++ [0x80] ++ zeros z ++ be lf (8 * len)

/-- The whole hash. -/
def sha (c : ShaKind) (h0 : List Nat) (b : Bytes) : Bytes :=
  let p := shaPad c b b.length
  (shaBlocks c (p.length / (2 * c.w)) h0 p).flatMap (be (c.w / 8))

/-- SHA-256 of a byte string. -/
def sha256 (b : Bytes) : Bytes := sha sha256Kind sha256H0 b

/-- SHA-512 of a byte string. -/
def sha512 (b : Bytes) : Bytes := sha sha512Kind sha512H0 b

/-- The prime of the field of Ed25519. -/
def edP : Nat := 2 ^ 255 - 19
/-- The group order. -/
def edL : Nat := 2 ^ 252 + 27742317777372353535851937790883648493
/-- The curve constant d. -/
def edD : Nat := 37095705934669439343138083508754565189542113879843219016388785533085940283555
/-- A square root of −1. -/
def edI : Nat := 19681161376707505956807079304988542015446066515923890162744021073123829784752
/-- The base point. -/
def edBx : Nat := 15112221349535400772501151409588531511454012693041857206046113283949847762202
/-- The base point. -/
def edBy : Nat := 46316835694926478169428394003475163141307993866256225615783033603165251855960

/-- `a ^ e` in the field, `n` bits of `e`. -/
def edPow (a : Nat) : Nat → Nat → Nat → Nat
  | 0, _, acc => acc
  | n + 1, e, acc => edPow (a * a % edP) n (e / 2) (if e % 2 = 1 then acc * a % edP else acc)

/-- Inverse in the field. -/
def edInv (a : Nat) : Nat := edPow a 256 (edP - 2) 1

/-- A point in extended coordinates X, Y, Z, T. -/
abbrev EdPoint := Nat × Nat × Nat × Nat

/-- Point addition (RFC 8032, 5.1.4). -/
def edAdd (a b : EdPoint) : EdPoint :=
  let (x1, y1, z1, t1) := a
  let (x2, y2, z2, t2) := b
  let m := (y1 + edP - x1) * (y2 + edP - x2) % edP
  let n := (y1 + x1) * (y2 + x2) % edP
  let c := t1 * (2 * edD) % edP * t2 % edP
  let d := z1 * 2 * z2 % edP
  let e := (n + edP - m) % edP
  let f := (d + edP - c) % edP
  let g := (d + c) % edP
  let h := (n + m) % edP
  (e * f % edP, g * h % edP, f * g % edP, e * h % edP)

/-- Scalar multiplication, `n` bits of `k`. -/
def edMul : Nat → Nat → EdPoint → EdPoint → EdPoint
  | 0, _, _, acc => acc
  | n + 1, k, p, acc => edMul n (k / 2) (edAdd p p) (if k % 2 = 1 then edAdd acc p else acc)

/-- Decode a point (RFC 8032, 5.1.3): refused when y is not below p, when no x exists, or when x is
0 with the sign bit set (R567). -/
def edDecode (b : Bytes) : Option EdPoint :=
  let v := ofLE b
  let sign := v / 2 ^ 255 % 2
  let y := v % 2 ^ 255
  if edP ≤ y then none else
  let u := (y * y + edP - 1) % edP
  let w := (edD * (y * y % edP) + 1) % edP
  let xx := u * edInv w % edP
  let x0 := edPow xx 256 ((edP + 3) / 8) 1
  let x1 := if x0 * x0 % edP = xx then x0 else x0 * edI % edP
  if x1 * x1 % edP ≠ xx then none
  else if x1 = 0 ∧ sign = 1 then none
  else
    let x := if x1 % 2 = sign then x1 else (edP - x1) % edP
    some (x, y, 1, x * y % edP)

/-- Equality of points in extended coordinates. -/
def edEq (a b : EdPoint) : Bool :=
  let (x1, y1, z1, _) := a
  let (x2, y2, z2, _) := b
  (x1 * z2 % edP == x2 * z1 % edP) && (y1 * z2 % edP == y2 * z1 % edP)

/-- cp1 VERIFY (R567): 0 valid, 1 invalid, 2 malformed. -/
def ed25519Verify (msg pub sig : Bytes) : Nat :=
  match edDecode (pub.take 32), edDecode (sig.take 32) with
  | some a, some r =>
    let s := ofLE ((sig.drop 32).take 32)
    if edL ≤ s then 2 else
    let k := ofLE (sha512 (sig.take 32 ++ pub.take 32 ++ msg)) % edL
    let id : EdPoint := (0, 1, 1, 0)
    let lhs := edMul 4 8 (edMul 256 s (edBx, edBy, 1, edBx * edBy % edP) id) id
    let rhs := edMul 4 8 (edAdd r (edMul 256 k a id)) id
    if edEq lhs rhs then 0 else 1
  | _, _ => 2

end Sys2Proof.Machine
end

