-- ==== Sys2Proof/Config.lean ====
section
/-! DEFINITION. What one part fixes and the spec does not give, and the free values: constants without a body. -/
namespace Sys2Proof.Config

/-- One free bit per draw (log entry 3). -/
opaque freeBit : Nat → Bool

/-- One free byte per draw: the Steward's random source (R91, R480). -/
opaque freeByte : Nat → BitVec 8

/-- One free natural number per draw, cut to the width it is used at. -/
opaque freeNat : Nat → Nat

/-- One free integer per draw. -/
opaque freeInt : Nat → Int

/-- R130: a component of a front-end sample requantised to 2 bits; the spec gives no levels. -/
opaque quantise : Int → BitVec 2

/-- Die serial number (R90). -/
opaque serial : BitVec 64

/-- Primer ROM version (R90). -/
opaque primerVersion : BitVec 16

/-- Public keys of the factory (R477; log entry 5): of the firmware key 0x0100 and of the maker's key, and the maker's KEY_ID. -/
opaque firmwareKey : Nat → BitVec 8
opaque makerKey : Nat → BitVec 8
opaque makerKeyId : BitVec 16

/-- The ROM's phase sets (R220, R249): coefficient i of phase φ under each coefficient format, in units of 2⁻³¹. -/
opaque phase : Bool → Nat → Nat → Int

/-- The calibration region as the part leaves Lerhorn (R476; log entry 112). -/
opaque calibration : Nat → BitVec 8

/-- What a window that is never fetched reads as, by tap and tick (log entry 21). -/
opaque unfetched : Nat → Nat → BitVec 32

/-- The taps of the equaliser as recursive least squares leaves them (R351), whose forgetting factor and start the spec does not give: by the
T/2 outputs of the receive filter over the known symbols and those symbols, tap k: 0–23 feed-forward, 24–39 feedback. -/
opaque rlsTap : List (Int × Int) → List (Int × Int) → Nat → Int × Int

/-- The gains of the carrier loop of second order and 50 kHz (R351), by RATE, in 2⁻³²: its damping is not given. -/
opaque carrierGain : Nat → Nat × Nat

/-- The gain at which the AGC of the radio opens a window, 0.1 dB, and the input that reads 0 dBFS at gain 0, 0.1 dBm (R347). -/
opaque agcStart : Int
opaque fullScale : Int

/-- The calibrated delay of the receive chain (R350), by RATE, 2⁻¹⁶ ns. -/
opaque rxDelay : Nat → Nat

/-- The audio loop's own term, 10⁻¹² (R184): by AUDIO_LOOP_BW (mHz), the measured error of the sample tick (2⁻¹⁶ ns) and its last output. -/
opaque audioLoop : Nat → Int → Int → Int

/-- The angle of two components that are both 0 (R145), in 2⁻³² cycle: there is none. -/
opaque zeroAngle : Int

/-- The DLL discriminator normalised to chips (R145), by SIGNAL, spacing in ADC samples and (|E| − |L|) / (|E| + |L|) in 10⁻⁶, in 2⁻³² chip. -/
opaque dllChips : Nat → Nat → Int → Int

/-- The secondary and overlay codes of the systems' interface specifications (R148): chip i of a SIGNAL and SV. -/
opaque secondary : Nat → Nat → Nat → Bool

/-- The reference time of a navigation message, QT seconds (R139): by system, KIND and data words, as the interface specifications lay them out. -/
opaque navReference : Nat → Nat → List (BitVec 8) → Nat

/-- Where the vernier places the pulse edge of an instant (R187). -/
opaque vernier : Int → Nat

/-- The PA compensation table of the calibration region (R322): the correction in 0.25 dB, by the die temperature at the last calibration
and at the burst (0.1 °C), and VDD_PA (mV). -/
opaque paTable : Int → Int → Nat → Int

/-- The position bound of a manager at a position in mm (R382): no message carries it. mm. -/
opaque managerSigma : Int → Int → Int → Nat

/-- The die temperature point of the radio (R316, R489): which of the eight is not stated. -/
opaque radioPoint : Nat

end Sys2Proof.Config
end

