-- ==== Sys2Proof/Machine/State.lean ====
section
/-! DEFINITION. The state of the QN8 as plain data, its reasons to stop, and the machine right after reset. -/
namespace Sys2Proof.Machine

/-- Why the machine would stop with a fault. The QN8 reports its faults as statuses, event
sources, traps and resets, so no row of the table raises one. -/
inductive Fault where
  /-- raised by nothing in this model; safe -/
  | none
deriving DecidableEq, Repr

/-- Why a command has no meaning here. -/
inductive Refusal where
  /-- the arm of `exec` that has no meaning yet raises it; safe -/
  | notModelled (mnemonic : String)
  /-- Trowel access to a unit register that R414 does not publish; raised by the I/O operations of
  the Trowel cores; safe -/
  | unpublishedRegister (address : Nat)
deriving DecidableEq, Repr

/-- R2: tier letter. -/
inductive Tier where | a | b | c
deriving DecidableEq, Repr

/-- R1: package letter. -/
inductive Package where | g | h
deriving DecidableEq, Repr

/-- R1, R7: what fuses and bonding fix about one part. -/
structure Part where
  tier : Tier := .a
  /-- radio letter W (`true`) or N (`false`), R3 -/
  radio : Bool := true
  package : Package := .g
deriving DecidableEq, Repr

/-- R32, R67: the eight operating modes. -/
inductive Mode where
  | backup | sleep | watch | standby | timing | runWorker | runManager | maintenance
deriving DecidableEq, Repr

/-- What the consumption of a reply from Q01 sets going (R93, R94, R479, R494, R506). -/
inductive ReplyTag where
  | none
  /-- device reset with this cause, R525 -/
  | deviceReset (cause : Nat)
  /-- HP_LANES in force from the next transaction, R94 -/
  | lanes (v : Nat)
  /-- sessions opened with this key close, R479 -/
  | keyRevoked (keyId : Nat)
  /-- the ACCEPTED reply of POWER_ENTER, R506 event 4 -/
  | powerEnter
deriving DecidableEq, Repr

/-- The command a piece of accepted work answers to (R77); `epoch` tells whether a host-port reset
has dropped its completion event (R95). -/
structure Ticket where
  seq : Nat := 0
  session : Nat := 0
  epoch : Nat := 0
deriving DecidableEq, Repr

/-- One queue entry. `credit` says that it carries a credit (R80, R99). -/
structure QEntry where
  data : Bytes
  credit : Bool := false
  tag : ReplyTag := .none
deriving DecidableEq, Repr

/-- One hardware queue (R97–R100), with the producer cell its push ports fill (R114, R416)
and the read positions its pop ports keep. -/
structure Queue where
  entries : List QEntry := []
  cell : Bytes := []
  /-- low byte written to PUSH_LEN (R416) -/
  lenLow : Nat := 0
  /-- entries that the producer of a Wait queue holds until a cell is free, oldest first (R97) -/
  waiting : List Bytes := []
  popPos : Nat := 0
  dmaPopPos : Nat := 0
  prodIdx : Nat := 0
  consIdx : Nat := 0
  hwm : Nat := 0
  produced : Nat := 0
  consumed : Nat := 0
  drops : Nat := 0
  crIssued : Nat := 0
  crReturned : Nat := 0
  crReclaimed : Nat := 0
deriving DecidableEq, Repr

/-- One event source (R109, R110). -/
structure EventSource where
  stat : Bool := false
  occur : Nat := 0
  cfg : Nat := 0
  /-- CODE, QT and DETAIL of the last occurrence (R111: a packet may be posted later) -/
  lastCode : Nat := 0
  lastStamp : Nat := 0
  lastDetail : Bytes := []
deriving DecidableEq, Repr

/-- The host port (R62–R70, R94, R95, R564). -/
structure Port where
  framing : Nat := 0
  hostResets : Nat := 0
  crcFails : Nat := 0
  portErr : Bool := false
  resetSeen : Bool := true
  lanes : Nat := 1
  irqMask : Nat := 3
  /-- a host-port reset is in progress (R95) -/
  resetting : Bool := false
  /-- CODE and DETAIL that EV009 will carry (R564) -/
  resetCode : Nat := 0
  resetDetail : Bytes := []
  /-- HP_RST_N seen in a low-power mode (R51) -/
  resetLatched : Bool := false
  /-- HP_WAKE_ADDR as in force for this low-power entry (R94) -/
  wakeAddr : Nat := 0
  /-- host-port resets so far, as works remember it (R95) -/
  epoch : Nat := 0
  /-- bytes the port drove in the last read transaction; the model's own record of an output -/
  hostOut : Bytes := []
deriving DecidableEq, Repr

/-- R81, R82: a session ID is free, reserved by a challenge, or open. -/
inductive SessionState where | free | reserved | opened
deriving DecidableEq, Repr

/-- One session ID (R81–R83). -/
structure Session where
  state : SessionState := .free
  role : Nat := 0
  keyId : Nat := 0
  idleLimit : Nat := 0
  /-- when the idle time last restarted (R82; State.up) -/
  idleFrom : Nat := 0
  nonce : Bytes := []
  baseline : Option Nat := none
  /-- the stored reply: its OPCODE and its payload (R83) -/
  storedOp : Nat := 0
  stored : Bytes := []
deriving DecidableEq, Repr

/-- One result slot (R84, R85, R92). -/
structure Slot where
  seq : Nat := 0
  ready : Bool := false
  delivered : Bool := false
  owner : Option Nat := none
  allocated : Bool := false
  data : Bytes := []
  overwrite : Nat := 0
deriving DecidableEq, Repr

/-- A host command taken from Q00 whose reply is still to come (R77, R419): an applet handler runs. -/
structure Executing where
  opcode : Nat
  ticket : Ticket
  role : Nat
  keyId : Nat
  items : Bytes := []
  tag : ReplyTag := .none
  /-- uptime at which the handler's limit passes -/
  due : Nat := 0
  /-- the depth of the return stack with the entry of the handler's call (R419) -/
  depth : Nat := 0
deriving DecidableEq, Repr

/-- R120: channel states. -/
inductive DmaPhase where
  | idle | running | waitLine | waitEvent | waitQueue | draining | done | stopped | faulted
deriving DecidableEq, Repr

/-- The transfer instruction a channel is executing burst by burst (R116, R117). -/
structure DmaXfer where
  /-- 1 MOVE, 2 FILL, 3 CMP -/
  op : Nat
  src : Nat
  dst : Nat
  const : Nat
  burstsLeft : Nat
  /-- a beat of this CMP has mismatched -/
  missed : Bool := false
deriving DecidableEq, Repr

/-- One DMA channel (R116–R121). -/
structure DmaChannel where
  program : List Nat := []
  priority : Nat := 0
  pc : Nat := 0
  phase : DmaPhase := .idle
  faultCode : Nat := 0
  mismatch : Bool := false
  mismatchAddr : Nat := 0
  lineOverrun : Bool := false
  outstanding : Nat := 0
  armed0 : Bool := false
  count0 : Nat := 0
  armed1 : Bool := false
  count1 : Nat := 0
  /-- the state DRAINING leads to -/
  drainTo : DmaPhase := .done
  xfer : Option DmaXfer := none
  /-- where the addresses of the instruction at each word stopped (CONTINUE): (src, dst) -/
  resume : Table (Nat × Nat) := []
deriving DecidableEq, Repr

/-- The DMA engine: channels, request-line pending counts and overruns (R115), and the
round-robin mark per priority (R117). -/
structure Dma where
  channels : List DmaChannel := List.replicate 16 {}
  /-- pending requests of event lines 48–63 -/
  linePending : List Nat := List.replicate 16 0
  lineOverruns : List Nat := List.replicate 16 0
  lastGranted : List Nat := List.replicate 4 15
deriving DecidableEq, Repr

/-- The GPIO unit (R54–R56). -/
structure Gpio where
  /-- level that the circuits outside and the pull-downs give each ball that the part does not drive -/
  ext : Nat := 0
  /-- level at each ball after the synchroniser, and when it counts (State.up; GPIO_FILTER) -/
  raw : Nat := 0
  due : List Nat := List.replicate 32 0
  /-- level at each ball after GPIO_FILTER -/
  level : Nat := 0
  out : Nat := 0
  edges : List Nat := List.replicate 32 0
  /-- hold latch closed (R50) -/
  held : Bool := false
deriving DecidableEq, Repr
/-- One notch filter in auto mode (R129). -/
structure Notch where
  /-- the line it tracks -/
  line : Option Nat := none
  /-- Hz from the band centre -/
  offset : Int := 0
  /-- 0.1 dB -/
  jn : Nat := 0
  /-- its line has been below the release level since (State.up) -/
  lowSince : Option Nat := none
deriving DecidableEq, Repr

/-- One band of the GNSS front-end (R125–R129). -/
structure GnssBand where
  /-- BAND_ENABLE as in force since the last code tick -/
  on : Bool := true
  notches : List Notch := List.replicate 4 {}
  /-- lines of the last spectrum that found no notch -/
  homeless : List Nat := []
  /-- the window of CLIP_LIMIT: samples, saturated components -/
  clipSamples : Nat := 0
  clipCount : Nat := 0
  /-- CLIP_LIMIT of that window -/
  clipLimit : Nat := 0
  /-- the window of BLANK_DUTY_LIMIT: samples, blanked samples -/
  dutySamples : Nat := 0
  dutyCount : Nat := 0
  /-- BLANK_DUTY_LIMIT of that window -/
  dutyLimit : Nat := 0
  /-- the last sample of at least BLANK_THRESH (State.up; R128) -/
  lastPulse : Option Nat := none
  /-- samples of the last AGC update that were not blanked, and their sums of squares of I and of Q (R127, R128) -/
  used : Nat := 0
  energyI : Nat := 0
  energyQ : Nat := 0
  /-- AGC gain, linear, 2⁻¹⁶ (log entry 142) -/
  gain : Nat := 65536
  /-- what goes on from the blanking of the last AGC update to the notches, blanked samples as 0 (R128) -/
  stream : List (Int × Int) := []
  /-- when that update ended, and the spans of blanked samples up to it that dumps and snapshots may still cover (State.up) -/
  frontAt : Nat := 0
  spans : List (Nat × Nat) := []
  /-- BLANK_THRESH and BLANK_HOLD as they were before a commit since the last update, each with the commit's time (State.up; R141) -/
  blankWas : List (Nat × Nat × Nat) := []
  /-- bias current, 0.1 mA -/
  current : Nat := 0
  /-- the current limit has held since (State.up) -/
  limitSince : Option Nat := none
  /-- the switch opened after a short at (State.up), with BIAS_RETRY as then in force -/
  shortAt : Option (Nat × Nat) := none
  /-- faults reported and not recovered -/
  short : Bool := false
  open_ : Bool := false
deriving DecidableEq, Repr

/-- What the decoder or ASSIST_LOAD has stored in DRAM (R137, R150). -/
structure NavMessage where
  signal : Nat
  sv : Nat
  /-- 0 ephemeris and clock, 1 almanac, 2 ionosphere and UTC -/
  kind : Nat
  data : Bytes
deriving DecidableEq, Repr

/-- What a search holds of one SV (R135). -/
structure SearchSv where
  sv : Nat
  state : Nat := 4
  /-- a candidate of the first stage: its power (0.1 dB), code phase (2⁻⁸ chip) at the start of its snapshot, Doppler (mHz) -/
  candidate : Option (Nat × Nat × Int) := none
  peak : Nat := 0
  phase : Nat := 0
  doppler : Int := 0
  cn0 : Nat := 0
deriving DecidableEq, Repr

/-- One acquisition search (R131–R138). -/
structure Search where
  /-- none for an automatic search: its ticket and slot -/
  host : Option (Ticket × Nat) := none
  signal : Nat
  mode : Nat := 0
  coh : Nat := 1
  nc : Nat := 1
  noHandoff : Bool := false
  excludeTracked : Bool := false
  /-- DOPPLER_CENTRE, Hz; from the start of the search on, with Plumb's oscillator offset (R134), mHz -/
  centre : Int := 0
  centreMhz : Int := 0
  span : Nat := 0
  svs : List SearchSv := []
  acceptedAt : Nat := 0
  started : Bool := false
  /-- segments of the predicted windows of an assisted search, where its row gives them (R131, R132) -/
  segments : Option Nat := none
  /-- passes per snapshot (R132) -/
  passes : Nat := 0
  snapshots : Nat := 0
  passesDone : Nat := 0
  /-- LATH_THRESH of the current pass (R141) -/
  thresh : Nat := 0
  /-- the snapshot placed or under way (R130): its start (QT) and LATH_BLANK_MAX -/
  snapAt : Option (Nat × Nat) := none
  /-- start of the last snapshot of the search proper -/
  lastSnap : Nat := 0
  /-- the verification snapshot is due or taken (R133), and its start -/
  verify : Bool := false
  verifyAt : Option Nat := none
  rejects : Nat := 0
  stopped : Bool := false
  done : Bool := false
deriving DecidableEq, Repr

/-- A confirmed signal on its way to Q28 (R140). -/
structure Handoff where
  signal : Nat
  sv : Nat
  flags : Nat
  phase : Nat
  doppler : Int
  cn0 : Nat
  found : Nat
deriving DecidableEq, Repr

/-- The GNSS front-end and Lath (R122–R142). -/
structure Gnss where
  l1 : GnssBand := {}
  l5 : GnssBand := {}
  nav : List NavMessage := []
  run : Option Search := none
  queue : List Search := []
  /-- automatic search is suspended (R136) -/
  suspended : Bool := false
  /-- when the last automatic search of each signal began (State.up) -/
  autoAt : Table Nat := []
  /-- the signal of the last automatic search; 0 none (R138) -/
  autoLast : Nat := 0
  /-- confirmed signals that wait for room in Q28 -/
  held : List Handoff := []
  /-- the snapshot area, oldest first: start, and the samples of 2-bit I and Q (R130) -/
  area : List (Nat × List (BitVec 2 × BitVec 2)) := []
  /-- accepted ASSIST_LOADs: items and ticket -/
  assists : List (List Bytes × Ticket) := []
deriving DecidableEq, Repr
/-- A dump that waits for the next code tick (R146): its interval, ms; the number of primary periods at its end; the tap spacings it was
taken with, ADC samples (R144). -/
structure HeldDump where
  ms : Nat
  pos : Nat
  dllSpacing : Nat
  veSpacing : Nat
  dump : Dump
deriving DecidableEq, Repr

/-- One tracking channel (R143–R165). -/
structure Chan where
  /-- R168: 0 IDLE, 1 PULL_IN, 2 CODE_LOCK, 3 CARRIER_LOCK, 4 FINE, 5 REACQ, 6 RETIRED -/
  state : Nat := 0
  signal : Nat := 0
  sv : Nat := 0
  /-- R168: 0 none, 1 bit or symbol, 2 secondary or overlay code -/
  sync : Nat := 0
  halfCycle : Bool := false
  host : Bool := false
  /-- coherent interval, and the one to change to at a boundary of the longer (R148), ms -/
  coh : Nat := 0
  cohNext : Nat := 0
  /-- the tap spacings of the current interval, ADC samples (R144) -/
  dllSpacing : Nat := 0
  veSpacing : Nat := 0
  /-- integrators of the PLL and of the FLL, 2⁻³² mHz per second, and the second one of both, 2⁻³² mHz (R145) -/
  acc1 : Int := 0
  accF : Int := 0
  acc2 : Int := 0
  /-- P of the dump before, if it was used (R145) -/
  lastP : Option Tap := none
  /-- lock indicators of the last 10 dumps, 10⁻⁶ (R153) -/
  locks : List Int := []
  /-- dumps of the last CN0_AVG_MS: when used (State.up), powers of P and N, unblanked time in QT units (R160) -/
  powers : List (Nat × Nat × Nat × Nat) := []
  /-- carrier NCO, mHz from nominal; code NCO, 2⁻³² chip per second -/
  doppler : Int := 0
  codeRate : Int := 0
  /-- phases at `phaseAt` (State.up): mHz × QT units; (2⁻³² chip per second) × QT units -/
  carrier : Int := 0
  code : Int := 0
  phaseAt : Nat := 0
  cn0 : Nat := 0
  slips : Nat := 0
  /-- LOCK_MS counts from here (State.up) -/
  lockFrom : Nat := 0
  /-- when the state was entered (State.up) -/
  since : Nat := 0
  /-- consecutive dumps towards the next state, and below PLL_LOCK_THRESH -/
  good : Nat := 0
  bad : Nat := 0
  /-- consecutive dumps with |VE|, |VL| above |P| -/
  veRun : Nat := 0
  vlRun : Nat := 0
  /-- the loss condition has held since (State.up) -/
  lowSince : Option Nat := none
  /-- it has been in CARRIER_LOCK and not left CODE_LOCK, CARRIER_LOCK and FINE since -/
  hadLock : Bool := false
  /-- REACQ_MS as at the entry to REACQ -/
  reacqMs : Nat := 0
  /-- sign of the last prompt, and sign changes by epoch position (R149) -/
  lastNegative : Option Bool := none
  hist : List Nat := []
  /-- BIT_SYNC_MIN of this histogram -/
  syncMin : Nat := 0
  /-- primary periods integrated, and the number to add for the position in the sync period (R148, R149) -/
  pos : Nat := 0
  base : Nat := 0
  /-- signs of the last P dumps, oldest first, 0 for a discarded dump (R149) -/
  signs : List Int := []
  /-- the decoder has resolved the polarity: inverted or not (R150, R151) -/
  polarity : Option Bool := none
  /-- dumps since the last code tick -/
  dumps : List HeldDump := []
  /-- the spacings that wait for a primary code epoch: when it is (State.up), DLL and VE/VL (R166) -/
  spacingsDue : Option (Nat × Nat × Nat) := none
  /-- when the current interval began (State.up) -/
  began : Nat := 0
  /-- the data symbols: DP of the used dumps since the decoder last took them, oldest first (R150) -/
  symbols : List Tap := []
  release : Bool := false
  /-- retired, and its MT is still to come: the QT of the mismatch -/
  retiredAt : Option Nat := none
  /-- a CHANNEL_ASSIGN starts here at the next code tick: SIGNAL, SV, code phase (2⁻³² chip), Doppler, QT of both -/
  assign : Option (Nat × Nat × Nat × Int × Nat) := none
deriving DecidableEq, Repr

/-- A set latched at an MT and not yet published (R162). -/
structure Latch where
  instant : Nat
  holdover : Bool
  /-- channel and record -/
  records : List (Nat × Bytes)
  /-- of each record, when its carrier's arc began; and the latch before (State.up; R384) -/
  arcs : List Nat := []
  since : Nat := 0
  /-- tracking status at the latch -/
  words : Bytes := []
deriving DecidableEq, Repr

/-- The tracking unit (R143–R169). -/
structure Track where
  chans : List Chan := List.replicate 128 {}
  /-- SET_SEQ of the last completed set (R162) -/
  setSeq : Nat := 0
  latch : Option Latch := none
  /-- the last latch instant (State.up; R384) -/
  latchedAt : Nat := 0
  /-- channel words of the last completed set's latch (R162) -/
  words : Bytes := []
  /-- the last code tick (State.up; R164) -/
  lastTick : Nat := 0
deriving DecidableEq, Repr
/-- A pending step of Plumb (R180). -/
structure PendingStep where
  id : Nat
  /-- 0 auto, 1 ask, 3 a step of the first-estimate rule (R174), which no decision waits on -/
  policy : Nat
  /-- OFFSET at the decision -/
  offset : Int
  /-- QT second at which it applies; none while an ask step waits for its answer -/
  applyAt : Option Nat
  /-- DELTA of a step announced by the manager (R389) -/
  delta : Option Int := none
  /-- an ask step waits for its answer until (State.up; R180) -/
  deadline : Nat := 0
deriving DecidableEq, Repr

/-- PULSE_CONFIG of one output (R194). -/
structure PulseCfg where
  flags : Nat := 0
  period : Nat := 1000000000
  width : Nat := 100000000
  /-- signed, 31.25 ps -/
  offset : Int := 0
deriving DecidableEq, Repr

/-- One time-pulse output (R187, R188). -/
structure Pulse where
  cfg : PulseCfg := {}
  /-- journalled, in force at the next second boundary -/
  next : Option PulseCfg := none
  /-- the last edge instant considered, on the local scale -/
  last : Nat := 0
  /-- the last active edge emitted (State.up), the width it completes, and whether it is active-low -/
  edge : Option (Nat × Nat × Bool) := none
  /-- the one before, which it completes first (R188) -/
  edgeOld : Option (Nat × Nat × Bool) := none
deriving DecidableEq, Repr

/-- One time-mark input (R189, R195). -/
structure Mark where
  flags : Nat := 0
  deadtime : Nat := 1
  /-- signed, 31.25 ps -/
  delay : Int := 0
  seq : Nat := 0
  /-- time of the last stamped edge (State.up) -/
  last : Option Nat := none
deriving DecidableEq, Repr

/-- A running survey (R175, R192). -/
structure Survey where
  ticket : Ticket
  startAt : Nat
  duration : Nat
  target : Nat
  role : Nat
  keyId : Nat
  epochs : Nat := 0
  sum : Vec3 := {}
deriving DecidableEq, Repr

/-- A re-anchor that the next sample tick carries out (R182). -/
structure Reanchor where
  /-- Δ, 2⁻¹⁶ ns -/
  delta : Int
  /-- the QT instant of the step on the old scale -/
  at_ : Nat
deriving DecidableEq, Repr

/-- Plumb (R170–R198). -/
structure Plumb where
  /-- R172 -/
  state : Nat := 0
  /-- R171 -/
  source : Nat := 0
  /-- the state RECOVERING was entered from (R172) -/
  recoverFrom : Nat := 0
  offset : Int := 0
  refFreq : Int := 0
  /-- the frequency term behind REF_FREQ, 10⁻¹² · 2⁻³², and when it last moved (State.up); none before the first qualified solution (R196) -/
  freqTerm : Int := 0
  freqAt : Option Nat := none
  /-- ERR_BOUND, 0.1 ns; none reads 0xFFFF_FFFF -/
  errBound : Option Nat := none
  /-- b₀ of R176 and the time of the last qualified solution (State.up) -/
  bound0 : Nat := 0
  qualifiedAt : Nat := 0
  /-- time of the last usable solution (State.up) -/
  usableAt : Nat := 0
  /-- consecutive solutions or results that qualified, and the source of the last -/
  qualified : Nat := 0
  qualSource : Nat := 0
  /-- results taken from Q18 and not used yet, by source: x and its bound (R171, R385), and when the last came (State.up) -/
  results : Table (Int × Nat) := []
  cellAt : Option Nat := none
  /-- when the last common-view result came (State.up; R171) -/
  viewAt : Option Nat := none
  utcOffset : Int := 0
  leap : Nat := 0
  leapAt : Nat := 0
  svsUsed : Nat := 0
  audioSteer : Int := 0
  stepIds : Nat := 0
  step : Option PendingStep := none
  /-- a rejected step: the whole offset is slewed -/
  slewAll : Bool := false
  slewing : Bool := false
  /-- the slew applied to the scale in this MT period, 10⁻¹² -/
  slewNow : Int := 0
  /-- the audio loop's own term, 10⁻¹², and the error of the sample tick against its nominal instant, 2⁻¹⁶ ns (R182, R184) -/
  loop : Int := 0
  tickErr : Int := 0
  sysOffset : List Int := [0, 0, 0, 0]
  qerr : Int := 0
  solSeq : Nat := 0
  /-- the set last reported late (R178) -/
  lateSeq : Option Nat := none
  position : Option Vec3 := none
  sigma : Nat := 0
  velocity : Vec3 := {}
  /-- the stored position and its sigma (R191) -/
  stored : Option (Vec3 × Nat) := none
  survey : Option Survey := none
  /-- the first estimate has been applied (R174) -/
  estimated : Bool := false
  /-- an output stream has started since the reset (R16) -/
  streamed : Bool := false
  reanchor : Option Reanchor := none
  /-- index of the last code, measurement, frame and second tick: the instant over the period -/
  codeIdx : Nat := 0
  mtIdx : Nat := 0
  frameIdx : Nat := 0
  secIdx : Nat := 0
  pulses : List Pulse := { cfg := { flags := 0xD1 } } :: List.replicate 5 {}
  marks : List Mark := List.replicate 4 {}
deriving DecidableEq, Repr
/-- A product in flight (R205, R243): the slot of its context in which it lands, the opcode it was
issued by, the destination register, MOD, and the exact product of each lane that took part. -/
structure Product where
  due : Nat
  op : Nat
  reg : Nat
  mod : Nat
  lanes : List (Nat × Int)
deriving DecidableEq, Repr

/-- LS, LE and LC of one loop level (R204). -/
structure ScreedLoop where
  ls : Nat := 0
  le : Nat := 0
  lc : Nat := 0
deriving DecidableEq, Repr

/-- The registers of one context (R204): V by lane × 32 + n, ACC and C by lane × 8 + n, P by
lane × 4 + n, each as the unsigned word it holds. -/
structure ScreedCtx where
  v : Table Nat := []
  acc : Table Nat := []
  p : Table Nat := []
  c : Table Nat := []
  a : List Nat := List.replicate 16 0
  dpage : Nat := 0
  loops : List ScreedLoop := List.replicate 4 {}
  /-- slots this context has issued -/
  slot : Nat := 0
  flight : List Product := []
deriving DecidableEq, Repr

/-- One program of Screed: foreground, customer background or solver (R206). -/
structure ScreedProg where
  /-- it has words and has not stopped -/
  on : Bool := false
  pc : Nat := 0
  /-- repetitions of the instruction at PC still to issue; 0 outside a REP -/
  rep : Nat := 0
  /-- the source an unsatisfied EVWAIT waits on -/
  wait : Option Nat := none
deriving DecidableEq, Repr

/-- One bank of program words (R213); the rest of it holds the fill of R250. -/
structure ScreedBank where
  words : List Nat := []
  entry : Nat := 0
  loaded : Bool := false
  invalid : Bool := false
  /-- slots of the longest path (R210) -/
  path : Nat := 0
deriving DecidableEq, Repr

/-- One delay-line descriptor (R218) with the write position of its line (R219). -/
structure Descriptor where
  flags : Nat := 0
  taps : Nat := 1
  base : Nat := 0
  length : Nat := 2
  delays : List Nat := [0, 0, 0, 0]
  pos : Nat := 0
deriving DecidableEq, Repr

/-- A scheduled swap (R262, R267). -/
structure ScreedCommit where
  what : Nat
  index : Nat
  cell : Bool
deriving DecidableEq, Repr

/-- One glide unit (R268). -/
structure Glide where
  on : Bool := false
  w : Nat := 0
  lanes : Nat := 0
  target : Nat := 0
  samples : Nat := 1
  start : Nat := 0
  /-- steps done -/
  step : Nat := 0
  /-- v₀ by lane -/
  v0 : Table Nat := []
deriving DecidableEq, Repr

/-- A virtual source (R276). -/
structure GeoSource where
  on : Bool := false
  pos : Vec3 := {}
  ref : Nat := 0
deriving DecidableEq, Repr

/-- A bound output (R276). -/
structure GeoOutput where
  on : Bool := false
  source : Nat := 0
  desc : Nat := 0
  tap : Nat := 0
  arm : Vec3 := {}
  offset : Int := 0
deriving DecidableEq, Repr

/-- The geometry unit of one output: target and current delay in 1/1,024 sample (R272–R274). -/
structure GeoTap where
  target : Option Int := none
  current : Option Int := none
  /-- a target the solver has written, and the switch cycles that still pass it by (R273) -/
  next : Option (Int × Nat) := none
  /-- a JUMP (R274): 0 none, 1 asked for and waiting for its MT, 2 the output ramps down -/
  jump : Nat := 0
deriving DecidableEq, Repr

/-- Staging of a library entry (R257). -/
structure Staging where
  target : Nat
  entry : Nat
  total : Nat
  words : Table Nat := []
  written : Table Bool := []
deriving DecidableEq, Repr

/-- An accepted part of SCREED_LOAD whose work is not done (R257). -/
structure LoadWork where
  part : Nat
  target : Nat
  entry : Nat
  offset : Nat
  words : List Nat
  ticket : Ticket
  role : Nat
  keyId : Nat
deriving DecidableEq, Repr

/-- Screed (R199–R279). -/
structure Screed where
  fg : ScreedProg := {}
  cust : ScreedProg := {}
  solver : ScreedProg := {}
  f : ScreedCtx := {}
  b : ScreedCtx := {}
  maxrep : Nat := 64
  bankA : ScreedBank := {}
  bankB : ScreedBank := {}
  /-- the active foreground bank is B -/
  activeB : Bool := false
  custBank : ScreedBank := {}
  solverWords : List Nat := []
  /-- data memory, by lane × 32768 + word -/
  data : Table Nat := []
  /-- coefficient banks, by lane × 4096 + w -/
  coefActive : Table Nat := []
  coefPending : Table Nat := []
  dirty : Table Bool := []
  /-- words that a glide has written since the last swap (R271) -/
  glided : Table Bool := []
  /-- the copy of R261 runs -/
  copying : Bool := false
  /-- generation of the active bank -/
  generation : Nat := 0
  descs : List Descriptor := List.replicate 64 {}
  /-- committed descriptors that take effect at the next sample tick (R218) -/
  descNext : List (Nat × Descriptor) := []
  /-- the tap words in use and those latched for the next tick, by (4 × descriptor + tap) × 16 + lane -/
  tapNow : Table Nat := []
  tapNext : Table Nat := []
  /-- DRAM delay lines, by lane × 4194304 + sample: 24-bit words -/
  dram : Table Nat := []
  /-- samples written to DRAM lines, not yet written back -/
  back : Table Nat := []
  /-- windows in use and fetched for the next tick, by key of `tapNow`: the tap word and the samples -/
  winNow : List (Nat × Nat × List Nat) := []
  winNext : List (Nat × Nat × List Nat) := []
  /-- windows being fetched, as 4 × descriptor + tap -/
  fetching : List Nat := []
  /-- output words staged by the last completed FGEND -/
  staged : Table Nat := []
  /-- the pass of this tick has not reached FGEND -/
  passOpen : Bool := false
  /-- index of the current tick -/
  index : Nat := 0
  /-- sample ticks have begun -/
  ticked : Bool := false
  /-- the index the next tick carries, where it is not the one after the last (R450) -/
  forced : Option Nat := none
  /-- ticks still to come that repeat an index (R182) -/
  repeats : Nat := 0
  fgSlots : Nat := 0
  fgMax : Nat := 0
  bgMin : Nat := 0
  satMask : Nat := 0
  muted : Nat := 0
  halted : Bool := false
  /-- the foreground banks that Trowel-H has yet to reload: true for bank B (R217) -/
  reloads : List Bool := []
  /-- background words that wait for their reload (R217): bit 0 solver, bit 1 customer -/
  bgReload : Nat := 0
  commits : List ScreedCommit := []
  glides : List Glide := List.replicate 64 {}
  geo : List GeoTap := List.replicate 64 {}
  posValid : Bool := false
  /-- T in 0.01 °C with the time it came (State.up), by AIR_TEMP_SOURCE -/
  airTemp : Table (Int × Nat) := []
  /-- T as this MT uses it -/
  airNow : Option Int := none
  staleTemp : Bool := true
  staging : Option Staging := none
  loads : List LoadWork := []
deriving DecidableEq, Repr

/-- One entry of the program library (R257). -/
structure LibEntry where
  entry : Nat
  target : Nat
  words : List Nat
deriving DecidableEq, Repr

/-- A journalled change of a coefficient bank (R260, R271): the generation it belongs to, and what it
writes to which words, as (lane × 4096 + w, value). -/
structure CoefRecord where
  generation : Nat
  values : List (Nat × Nat)
deriving DecidableEq, Repr
/-- A ramp phase (R302): q = num / den, moving 1/N a tick towards its target. -/
structure Phase where
  num : Nat := 0
  den : Nat := 1
  up : Bool := true
  n : Nat := 1
  /-- its shape, taken as the ramp begins: raised cosine, or linear (R308) -/
  cosine : Bool := true
deriving DecidableEq, Repr

/-- One routed output (R298, R302, R307). -/
structure AudioOut where
  dst : Nat
  src : Nat
  /-- its stream runs -/
  on : Bool := false
  s0 : Nat := 0
  computed : Nat := 0
  held : Nat := 0
  filled : Nat := 0
  repeated : Nat := 0
  skipped : Nat := 0
  /-- operator and system phases -/
  op : Phase := {}
  sys : Phase := {}
  /-- the router's last word and the last sample emitted -/
  word : Nat := 0
  out : Nat := 0
  /-- muted after an uncorrectable error (R217) -/
  laneMute : Bool := false
  /-- scheduled MUTE_SETs: index, and whether it mutes (R303) -/
  muteAt : List (Nat × Bool) := []
  /-- first index that the stream no longer emits (R295, R300) -/
  stopAt : Option Nat := none
  /-- its last sample counted HELD or FILLED (R289) -/
  flagged : Bool := false
  /-- it has emitted a sample since it started (R37) -/
  begun : Bool := false
deriving DecidableEq, Repr

/-- One input stream of the router (R304–R306): [7:4] kind, [3:0] instance. -/
structure InStream where
  id : Nat
  /-- missing indices of the run in progress -/
  run : Nat := 0
  underruns : Nat := 0
  late : Nat := 0
  /-- last sample presented, by channel -/
  last : Table Nat := []
  /-- a held value ramps to 0: ticks done and ramp length (R304) -/
  fade : Option (Nat × Nat) := none
  /-- frames of the head entry already used or discarded (Q08–Q15) -/
  pos : Nat := 0
  /-- a run of consecutive late samples is in progress (R306) -/
  lateRun : Bool := false
deriving DecidableEq, Repr

/-- GROUP_SET of one group (R304). -/
structure AudioGroup where
  fill : Nat := 0
  holdMs : Nat := 0
  streams : List Nat := []
deriving DecidableEq, Repr

/-- One transmitted AES3 subframe (R280, R286, R289, R290): the 24-bit audio field, the auxiliary bits, and V, U and C. -/
structure SubframeOut where
  audio : Nat := 0
  aux : Nat := 0
  v : Bool := false
  u : Bool := false
  c : Bool := false
deriving DecidableEq, Repr

/-- One transmitted AES3 frame (R281, R285): its index, whether it opens a block (preamble Z), and its subframes. -/
structure FrameOut where
  index : Nat
  block : Bool
  a : SubframeOut
  b : SubframeOut
deriving DecidableEq, Repr

/-- One AES3 pair (R284–R291). -/
structure AesPort where
  locked : Bool := false
  rate : Nat := 0
  crcGood : Bool := false
  consumer : Bool := false
  /-- accepted blocks since lock -/
  blockSeq : Nat := 0
  csA : Bytes := List.replicate 24 0
  csB : Bytes := List.replicate 24 0
  /-- a block has been accepted on A, B -/
  gotA : Bool := false
  gotB : Bool := false
  /-- last samples with V = 0 -/
  goodA : Nat := 0
  goodB : Nat := 0
  /-- user bits received, and to transmit: oldest first -/
  userRx : List Bool := []
  userTx : List Bool := []
  /-- a run of drops, of empty bits -/
  ovfRun : Bool := false
  unfRun : Bool := false
  /-- templates in force, and committed ones that wait for a block boundary -/
  templA : Bytes := List.replicate 24 0
  templB : Bytes := List.replicate 24 0
  nextA : Option Bytes := none
  nextB : Option Bytes := none
  /-- channel status sent in the current block (R286) -/
  sentA : Bytes := []
  sentB : Bytes := []
  /-- frames on their way to the ball, oldest first, and the frame at the ball (R281) -/
  pipe : List FrameOut := []
  wire : Option FrameOut := none
deriving DecidableEq, Repr

/-- One direction of a TDM port (R295). -/
structure TdmDir where
  on : Bool := false
  s0 : Nat := 0
  startAt : Option Nat := none
  stopAt : Option Nat := none
  /-- the index at which it last stopped (R295) -/
  endAt : Option Nat := none
deriving DecidableEq, Repr

/-- One TDM port (R292–R295). -/
structure TdmPort where
  rx : TdmDir := {}
  tx : TdmDir := {}
  /-- measured FS period in BCLK -/
  period : Nat := 0
  /-- output frames on their way to the ball, oldest first, and the frame at the ball: index and slot words (R281, R292) -/
  pipe : List (Nat × List Nat) := []
  wire : Option (Nat × List Nat) := none
deriving DecidableEq, Repr

/-- One rate converter (R296, R297). -/
structure Asrc where
  source : Nat := 0
  slot : Nat := 0
  locked : Bool := false
  /-- 2⁻²⁴ -/
  ratio : Nat := 0
deriving DecidableEq, Repr

/-- The audio ports and the router (R280–R311). -/
structure Audio where
  /-- the route map in force: (source, destination) -/
  routes : List (Nat × Nat) := []
  /-- committed maps and the QT second at which each takes effect (R300) -/
  routeNext : List (List (Nat × Nat) × Nat) := []
  outs : List AudioOut := []
  ins : List InStream := []
  groups : List AudioGroup := List.replicate 8 {}
  groupNext : Option (List AudioGroup) := none
  aes : List AesPort := List.replicate 8 {}
  tdm : List TdmPort := List.replicate 4 {}
  asrc : List Asrc := List.replicate 8 {}
  /-- committed bindings that wait for their boundary: converter, source, slot, QT second -/
  asrcNext : List (Nat × Nat × Nat × Nat) := []
  /-- frames received in device time: stream, index, words by channel (R282) -/
  frames : List (Nat × Nat × List Nat) := []
  /-- downlink samples by index: index, channel, word (R19) -/
  downlink : List (Nat × Nat × Nat) := []
  /-- index-presented samples taken for the next index: (index, source channel → word and filled) (R283) -/
  taken : Nat × Table (Nat × Bool) := (0, [])
  /-- samples presented at the current index -/
  now : Table (Nat × Bool) := []
  /-- the index the router emits: that of the tick before; and whether that tick overran, or repeats an index -/
  outIndex : Nat := 0
  outHeld : Bool := false
  outRepeat : Bool := false
  outValid : Bool := false
  /-- frames gathered for the host output queues: queue, first index, words (R301) -/
  blocks : List (Nat × Nat × List Nat) := []
  /-- words gathered for the Omba downlink transmit: channel, index, word -/
  omba : List (Nat × Nat × Nat) := []
  /-- output streams run (R15 step 7) -/
  started : Bool := false
  /-- cycles of AUDIO_CLK by which the tick, MCLK and the TDM clocks were stretched at the last re-anchor (R182, R294) -/
  stretch : Nat := 0
deriving DecidableEq, Repr
/-- The locks of one sub-band (R327). -/
structure Locks where
  permitted : Bool := false
  lbt : Bool := false
  rates : Nat := 0
  /-- 0.25 dB -/
  margin : Nat := 0
  /-- 0.25 dBm -/
  maxCond : Int := 0
  maxEirp : Int := 0
  /-- 0.1 dB -/
  minGain : Int := 0
  /-- 0.01 % -/
  duty : Nat := 0
  /-- dBm -/
  lbtThresh : Int := -100
  channels : Nat := 0
deriving DecidableEq, Repr

/-- The channel plan of R323. -/
structure ChannelPlan where
  subband : Nat := 0
  channel : Nat := 0
  /-- 0 4, 1 8, 2 16 Msym/s -/
  rate : Nat := 0
  /-- 0.25 dB -/
  power : Int := 0
  /-- 0.1 dB -/
  gain : Int := 0
deriving DecidableEq, Repr

/-- What the radio keeps of one sub-band (R324, R325, R329, R331). -/
structure SubBand where
  series : Nat := 0x20
  shunt : Nat := 0x20
  /-- the bank that moves next is SHUNT_C -/
  moveShunt : Bool := false
  /-- the codes before a move that the next burst judges -/
  before : Option (Nat × Nat) := none
  /-- mismatch state: 0 NORMAL, 1 REDUCED, 2 STOPPED -/
  state : Nat := 0
  goodBursts : Nat := 0
  stoppedAt : Nat := 0
  /-- VSWR_RETRY as at the stop -/
  retry : Nat := 0
  probe : Bool := false
  vswr : Nat := 100
  forward : Int := 0
  reflected : Int := 0
  /-- the current minute's airtime, then the 60 before it, µs -/
  bins : List Nat := List.replicate 61 0
  /-- end of the last transmission (State.up) -/
  lastEnd : Option Nat := none
  /-- the level was below TOKENS_LOW percent of B when it was last held against it (R329) -/
  low : Bool := false
deriving DecidableEq, Repr

/-- What a burst of the Omba unit carries (R372–R381). -/
structure Load where
  /-- channels of audio -/
  audio : Nat := 0
  /-- the cell section of a downlink, the whole payload of another burst -/
  body : Bytes := []
  /-- MEAS bodies in it, which a refusal gives back -/
  meas : List Bytes := []
  /-- DIAG messages of Q23 in it, and frames of `carried` whose messages are in it: they leave when it is sent -/
  diag : Nat := 0
  carried : Nat := 0
deriving DecidableEq, Repr

/-- A burst from its request to its end (R318, R320). -/
structure Burst where
  /-- 0 beacon, 1 downlink, 2 manager time transfer, 3 worker reply, 4 uplink -/
  kind : Nat
  frame : Nat
  /-- B, QT -/
  start : Nat
  /-- µs -/
  airtime : Nat
  subband : Nat
  power : Int
  probe : Bool
  /-- what it carries -/
  load : Load
  /-- the PA correction held for the burst, 0.25 dB (R322) -/
  correction : Int := 0
  /-- when its PA ramp begins (State.up; R333), and TX_BLANK_GUARD for it, QT units (R128) -/
  rampAt : Nat := 0
  guard : Nat := 0
  /-- it is on the air -/
  onAir : Bool := false
  cut : Bool := false
  /-- the channel plan at B (R323), and RAMP_US as at the request, µs -/
  plan : ChannelPlan := {}
  ramp : Nat := 2
  /-- TUNER_MODE and VSWR_REDUCE as at its transition start (R334) -/
  tuner : Nat := 1
  reduce : Nat := 300
deriving DecidableEq, Repr

/-- The link radio front-end (R312–R337). -/
structure Radio where
  /-- R336: 0 OFF, 1 SLEEP, 2 STANDBY, 3 SYNTH_ON, 4 RX, 5 TX, 6 CAL -/
  state : Nat := 1
  /-- settling or calibration in progress ends by (State.up), from the maximum times of R314 -/
  readyAt : Nat := 0
  /-- when a wake from SLEEP reaches STANDBY, and when it first reaches SYNTH_ON (State.up; R314) -/
  standbyAt : Nat := 0
  synthAt : Nat := 0
  /-- the channel PLL 3 stands on, sub-band × 128 + channel -/
  tuned : Nat := 0
  calibrated : Bool := false
  /-- a calibration that is due or runs: 0 command, 1 temperature, 2 first use -/
  cal : Option Nat := none
  immediate : Bool := false
  calTicket : Option Ticket := none
  /-- 0.1 °C -/
  calTemp : Int := 0
  vcoBand : Nat := 0
  /-- the loop gain that the last calibration set (R316) -/
  loopGain : Int := 0
  plan : ChannelPlan := {}
  /-- committed plans and the QT second at which each takes effect -/
  planNext : List (ChannelPlan × Nat) := []
  locks : List Locks := List.replicate 3 {}
  bands : List SubBand := List.replicate 3 {}
  /-- QT minute of the current bins -/
  minute : Nat := 0
  /-- accepted bursts, the one on the air or next first -/
  bursts : List Burst := []
  /-- B of the last request (QT) -/
  lastB : Option Nat := none
  /-- static DC offset of I and Q, and the code that nulls the carrier leakage of each, from the last synthesiser calibration (R348) -/
  dc : Int × Int := (0, 0)
  leak : Int × Int := (0, 0)
  coexGnt : Bool := false
  /-- its level before the last COEX_GNT, and when that came (State.up) -/
  gntBefore : Bool := false
  gntSince : Nat := 0
  /-- the blanking of the bursts before, from their guard to its release (State.up), those of the last 2 ms (R128, R333) -/
  blanks : List (Nat × Nat) := []
  /-- REF_MODE that PLL 3 chose at the calibration of a channel, by sub-band × 128 + channel (R448) -/
  pfd : Table Nat := []
  /-- payload of the last burst sent, and its coded symbols: the model's own record of an output -/
  sent : Bytes := []
  symbols : List (Int × Int) := []
  /-- amplitude of its PA rise, sample by sample, and its samples after both filters (R338, R358, R359): the model's own record -/
  rise : List (Int × Int) := []
  samples : List (Int × Int) := []
deriving DecidableEq, Repr
/-- A receive window (R347, R349). -/
structure RxWindow where
  /-- 0 beacon, 1 downlink, 2 manager time transfer, 3 worker reply, 4 uplink -/
  kind : Nat
  frame : Nat
  /-- expected station -/
  station : Nat
  /-- QT at which it closes -/
  close : Nat
  /-- a burst has passed its header check -/
  heard : Bool := false
deriving DecidableEq, Repr

/-- The decision-feedback equaliser of a burst with its carrier loop (R351): the samples in the receive filter, its T/2 outputs and the
decisions, each latest first; the taps, 2⁻¹⁶; phase and frequency, 2⁻³² cycle and 2⁻³² cycle a symbol, and
the gains of both, 2⁻³²; the step 2^−EQ_MU; and the sums of
R360. -/
structure Equaliser where
  line : List (Int × Int) := List.replicate 65 (0, 0)
  delay : List (Int × Int) := List.replicate 24 (0, 0)
  past : List (Int × Int) := List.replicate 16 (0, 0)
  ff : List (Int × Int) := List.replicate 24 (0, 0)
  fb : List (Int × Int) := List.replicate 16 (0, 0)
  phase : Int := 0
  freq : Int := 0
  gains : Nat × Nat := (0, 0)
  mu : Nat := 7
  error : Nat := 0
  reference : Nat := 0
deriving DecidableEq, Repr

/-- A burst being received and decoded (R343, R355, R357). -/
structure RxBurst where
  kind : Nat
  frame : Nat
  station : Nat
  stamp : Nat
  errs : Nat
  rssi : Int
  mcs : Nat := 0
  length : Nat := 0
  codewords : Nat := 0
  decoded : Nat := 0
  iterations : Nat := 0
  /-- failed codewords, by number -/
  failed : List Nat := []
  /-- SEED of its header (R343), and the information bits of the codewords decoded so far, still scrambled (R344, R345) -/
  seed : Nat := 0
  info : List Bool := []
  eq : Equaliser := {}
  /-- payload symbols equalised so far, and their log-likelihood ratios that no codeword has taken (R355) -/
  symbols : Nat := 0
  llr : List Int := []
deriving DecidableEq, Repr

/-- A burst delivered to the Omba unit (R357). -/
structure RxFrame where
  kind : Nat
  frame : Nat
  station : Nat
  stamp : Nat
  payload : Bytes
  mcs : Nat
  failed : List Nat
  lq : Nat
  /-- SEED and LENGTH of its header (R343), RSSI and EVM, 0.1 dB(m) (R357) -/
  seed : Nat := 0
  length : Nat := 0
  rssi : Int := 0
  evm : Int := 0
deriving DecidableEq, Repr

/-- The modem (R338–R365). -/
structure Modem where
  window : Option RxWindow := none
  /-- R365: 0 idle, 1 searching, 2 header, 3 payload -/
  rx : Nat := 0
  frozen : Bool := false
  /-- the residual DC offset of I and Q: tracked until sync detection, frozen with the AGC (R348) -/
  residual : Int × Int := (0, 0)
  /-- the analogue gain of the AGC (R347), 0.1 dB -/
  gain : Int := 0
  /-- R347: QT at which the burst whose header has passed ends -/
  rxEnd : Nat := 0
  /-- the burst whose header is awaited -/
  current : Option RxBurst := none
  /-- bursts being decoded, oldest first: at most two -/
  buffers : List RxBurst := []
  lastStamp : Nat := 0
  /-- R362: the last figures by station, as reply items; and the station of the last burst of any -/
  quality : Table Bytes := []
  lastStation : Option Nat := none
  /-- stations heard in this superframe -/
  heard : List Nat := []
  delivered : List RxFrame := []
deriving DecidableEq, Repr
/-- CELL_CONFIG_SET as committed (R395). -/
structure CellCfg where
  cellId : Nat := 0
  station : Nat := 1
  dlChannels : Nat := 0
  dlMcs : Nat := 5
  ulMcs : Nat := 3
  presentMs : Nat := 20
  credits : Nat := 1
  link : Nat := 0
  uart : Nat := 0
  baud : Nat := 0
  /-- signed, 0.1 ns -/
  asym : Int := 0
deriving DecidableEq, Repr

/-- A station as this member sees it (R386, R397): a worker on the manager, the manager on a worker. -/
structure Member where
  station : Nat
  /-- 0 never heard, 1 present, 2 absent -/
  state : Nat := 0
  timeState : Nat := 0
  /-- what it last reported of a cell commit (R379) -/
  commitId : Nat := 0
  commitState : Nat := 0
  /-- 0.1 ns -/
  offset : Int := 0
  missed : Nat := 0
  lqDl : Nat := 0
  lqUl : Nat := 0
  lastSeen : Nat := 0
  /-- one more than the frame of its last valid burst -/
  seenFrame : Nat := 0
  /-- LIMIT it has granted, SEQ of the first unacknowledged message to it, messages from there on already sent once -/
  limitIn : Nat := 0
  base : Nat := 0
  sent : Nat := 0
  /-- LIMIT granted to it, SEQ expected from it next -/
  limitOut : Nat := 0
  expect : Nat := 0
  /-- x of its last exchange, 2⁻¹⁶ ns (R382) -/
  x : Int := 0
deriving DecidableEq, Repr

/-- An admitted or revoked station (R390). -/
structure Admission where
  station : Nat
  serial : Nat
  admitted : Bool
deriving DecidableEq, Repr

/-- A message for one of the unit's rows: sending station, TYPE and body (R376). -/
structure CellMessage where
  from_ : Nat
  kind : Nat
  body : Bytes
deriving DecidableEq, Repr

/-- A cell-wide commit of the manager (R387, R388). -/
structure CellCommit where
  id : Nat
  what : Nat
  index : Nat
  /-- the frame in which the index passes -/
  last : Nat
  cancel : Bool := false
  /-- its message is owed: the downlink that was to carry it was refused (R371) -/
  owed : Bool := false
  /-- the manager's own COMMIT_STATE for it, once a later commit has taken its place -/
  own : Nat := 1
  /-- the stations admitted when it was accepted, and the states 2 to 5 that stations have reported -/
  members : List Nat := []
  reports : List (Nat × Nat) := []
  /-- its CELL_COMMIT_DONE is still to come -/
  waits : Bool := true
deriving DecidableEq, Repr

/-- A satellite signal at a latch instant common to a worker and its manager (R384): φ_W − φ_M, 2⁻¹⁶ cycle, with φ_W corrected;
(ρ_W − ρ_M) / c, 2⁻¹⁶ ns; its weight in the result; when the worker's arc began; and NEW_ARC. -/
structure CvPair where
  signal : Nat
  sv : Nat
  phase : Int
  range : Int
  weight : Nat
  arc : Nat
  restart : Bool
deriving DecidableEq, Repr

/-- A fixed arc: the integer ambiguity of a signal, and when the worker's arc began (R384). -/
structure CvArc where
  signal : Nat
  sv : Nat
  n : Int
  arc : Nat
deriving DecidableEq, Repr

/-- The Omba unit (R366–R399). -/
structure Cell where
  cfg : CellCfg := {}
  /-- committed configurations and the QT second at which each takes effect -/
  cfgNext : List (CellCfg × Nat) := []
  members : List Member := []
  /-- BEACON_LOST (R374), and consecutive frames without a valid beacon -/
  lost : Bool := false
  missed : Nat := 0
  /-- a valid beacon came in this frame -/
  gotBeacon : Bool := false
  /-- worker: the stations whose last ADMIT heard names this part with ACTION 1 (R390) -/
  permits : List Nat := []
  /-- manager's time state and bound, from its beacon -/
  mgrState : Nat := 0
  mgrBound : Nat := 0xFFFFFFFF
  /-- CONFIG item last heard: FS, DL_CHANNELS, DL_MCS, UL_MCS, PRESENT_MS, MEAS_PERIOD, RATE, LINK -/
  config : Option (List Nat) := none
  /-- what QT lacks by the last beacon (R374), 2⁻¹⁶ ns -/
  beaconEst : Option Int := none
  /-- manager: a withdrawn step, still announced: STEP_ID, DELTA and the QT second it would have applied at (R389) -/
  withdrawn : Option (Nat × Int × Nat) := none
  /-- POSITION item last heard, mm -/
  mgrPos : Option Vec3 := none
  lqDl : Nat := 0
  /-- manager: its cell commits, the oldest first; the last one's ID is `commitId` -/
  commits : List CellCommit := []
  /-- manager: frames whose downlink was refused, whose ADMIT and GRANT messages are still to be sent (R371) -/
  carried : List Nat := []
  commitId : Nat := 0
  /-- own outcome (R379): state and status -/
  commitState : Nat := 0
  commitStatus : Nat := 0
  /-- a COMMIT_ID has been heard -/
  heardCommit : Bool := false
  /-- manager: station and t4 − t3 of the last frame's reply, with its frame (R381) -/
  lastReply : Option (Nat × Nat × Int) := none
  /-- worker: frame and t2 − t1 of the last manager burst, and of the last exchange replied to -/
  ttBurst : Option (Nat × Int) := none
  ttReplied : Option (Nat × Int) := none
  /-- worker: two-way d, its bound (0.1 ns) and when (State.up) -/
  twoWay : Option (Int × Nat × Nat) := none
  /-- worker: the last two-way x -/
  twoWayX : Option Int := none
  /-- worker: its own sets of the last 2 s: instant, and of each channel in CARRIER_LOCK or FINE its record and when its arc began -/
  cvSets : List (Nat × List (Bytes × Nat)) := []
  /-- worker: SET_SEQ of the manager's set that is coming in, and its pairs with this part's own set (R384) -/
  cvSeq : Option Nat := none
  cvPairs : List CvPair := []
  /-- worker: the fixed arcs -/
  cvArcs : List CvArc := []
  lastOffset : Int := 0
  messages : List CellMessage := []
  /-- manager: MEAS bodies still to send; worker: MEAS bodies received -/
  measOut : List Bytes := []
  capacity : Bool := false
  /-- wired bursts of the last frame sent, as characters: the model's own record of an output -/
  wireSent : List (Nat × Bytes) := []
  /-- wired: slots of this frame still to come: kind, uplink burst, frame -/
  wireDue : List (Nat × Nat × Nat) := []
deriving DecidableEq, Repr
/-- One loop level (R408, R415). -/
structure LoopLevel where
  ls : Nat := 0
  le : Nat := 0
  lc : Nat := 0
  prio : Nat := 0
  armed : Bool := false
deriving DecidableEq, Repr

/-- One coprocessor (R411). -/
structure Coprocessor where
  regs : List Nat := List.replicate 16 0
  /-- registers set while it was busy: they take effect at the next CPGO -/
  late : List (Nat × Nat) := []
  busy : Bool := false
  status : Nat := 0
deriving DecidableEq, Repr

/-- One Trowel core (R400–R415). -/
structure Trowel where
  /-- Trowel-S -/
  steward : Bool := false
  /-- its code is in place and it runs -/
  loaded : Bool := false
  code : Table Byte := []
  data : Table Byte := []
  /-- bit space: the numbers of the bits that are 1 -/
  bitSpace : Table Bool := []
  pc : Nat := 0
  cbank : Nat := 0
  /-- the hardware entries of the data stack, top first -/
  stack : List Nat := []
  dsBase : Nat := 0
  dsSpill : Nat := 0
  dsLimit : Nat := 0
  /-- the return stack, top first -/
  rs : List Nat := []
  /-- return-stack depths at which firmware has called the applet (R417) -/
  calls : List Nat := []
  ie : Bool := false
  isr : Nat := 0
  trapActive : Bool := false
  trapCause : Nat := 0
  trapBank : Nat := 0
  trapPc : Nat := 0
  halted : Bool := false
  /-- the clock is gated by WAIT (R413) -/
  waiting : Bool := false
  wake : Bool := false
  pwrMode : Nat := 0
  pwrValid : Bool := false
  pwrResult : Nat := 0
  pwrRefuser : Nat := 0
  loops : List LoopLevel := List.replicate 3 {}
  crc16 : Nat := 0
  reflect : Bool := false
  crc32 : Nat := 0
  qtSnap : Bytes := List.replicate 10 0
  cps : List Coprocessor := List.replicate 3 {}
deriving DecidableEq, Repr

/-- The running applet (R417–R421): its opcode table as OPCODE, ROLE, BANK, HANDLER, JOURNAL. -/
structure Applet where
  running : Bool := false
  init : Nat := 0xFFFF
  vec0 : Nat := 0xFFFF
  vec1 : Nat := 0xFFFF
  table : List (Nat × Nat × Nat × Nat × Bool) := []
  keyId : Nat := 0
  /-- SPILL of its image -/
  spill : Nat := 64
deriving DecidableEq, Repr
/-- One UART (R423–R440). -/
structure Uart where
  /-- receive FIFO: entries in the UDATA layout, [11:0] -/
  rx : List Nat := []
  /-- transmit FIFO: 9-bit characters -/
  tx : List Nat := []
  shifter : Option Nat := none
  /-- UART_CFG and SAMP_DIV of the last frame of each direction (R425) -/
  rxCfg : Nat := 0x06041000
  txCfg : Nat := 0x06041000
  rxDiv : Nat := 1736
  txDiv : Nat := 1736
  /-- what has been committed since the receiver's last start edge: uptime, UART_CFG and SAMP_DIV -/
  versions : List (Nat × Nat × Nat) := []
  /-- UART_CFG as the transmitter has taken it at a character boundary (R438) -/
  txMode : Nat := 0x06041000
  /-- RC flags of USTAT [5:1]: IDLE, BI, FE, PE, OE -/
  flags : Nat := 0
  /-- the flags a USTAT read saw, while a UDATA read may still clear them (R430) -/
  seen : Option Nat := none
  /-- IDLE has been set in this idle period (R432) -/
  idleDone : Bool := false
  muted : Bool := true
  rtsHigh : Bool := true
  ctsHigh : Bool := false
  /-- a run of characters keeps DE high (R435) -/
  de : Bool := false
  /-- DE_LAG of the run, and when DE falls after the last one, as uptime -/
  deLag : Nat := 0
  deFall : Option Nat := none
  /-- when the last character or break left the transmitter, as uptime -/
  sentAt : Option Nat := none
  /-- the start edge of the character in the shifter, or of the break, as uptime -/
  edgeAt : Nat := 0
  /-- UART_FLOW of the last character stored and UART_BLOCK of the entry being filled (R438) -/
  flow : Nat := 0x1030
  block : Nat := 0x0440
  /-- break: 0 none, 1 scheduled, 2 on the line -/
  brk : Nat := 0
  brkBits : Nat := 0
  /-- characters of the head queue entry already in the transmit FIFO (R433) -/
  moved : Nat := 0
  /-- what the last register read returned; the model's own record of an output -/
  out : Nat := 0
deriving DecidableEq, Repr
/-- One PLL (R443–R453). -/
structure Pll where
  /-- R454: 0 off, 1 locking, 2 locked, 3 unlocked, 4 retuning, 5 frozen -/
  state : Nat := 0
  /-- the state a reference glitch froze -/
  thawed : Nat := 0
  refMode : Nat := 1
  /-- nominal f_VCO, Hz; 0 while none is set -/
  vco : Nat := 0
  /-- steering applied, 10⁻¹² -/
  steer : Int := 0
deriving DecidableEq, Repr

/-- Clock synthesis (R441–R457). -/
structure Clocks where
  plls : List Pll := List.replicate 4 {}
  refHz : Nat := 38400000
  refMismatch : Bool := false
  glitch : Bool := false
  /-- the audio PLL's shadow ratio, which its next strobe loads (R445) -/
  shadow : Option Int := none
  /-- steering of the 10 MHz divider, 10⁻¹² (R451) -/
  steer10M : Int := 0
  /-- MCLK and the master bit clocks are held L between T and T + 0.5 ms of a family change (R450) -/
  held : Bool := false
deriving DecidableEq, Repr
/-- One alarm of the RTC (R467–R469). `time` values are local seconds since 2000-01-01. -/
structure Alarm where
  enabled : Bool := false
  wake : Bool := false
  mask : Nat := 0
  second : Nat := 0
  minute : Nat := 0
  hour : Nat := 0
  day : Nat := 0
  month : Nat := 0
  weekday : Nat := 0
  lastRaised : Option Nat := none
  latched : Nat := 0
  latchedTime : Nat := 0
deriving DecidableEq, Repr

/-- The RTC domain (R458–R472). The calendar is held as local seconds since 2000-01-01T00:00:00,
which `Machine.calendarOf` reads as date and time; SUBSEC is the crystal's and comes with the row that reads it. -/
structure Rtc where
  localSec : Nat := 0
  zoneMin : Int := 0
  dst : Nat := 0
  valid : Bool := false
  /-- the brown-out latch, which powers up set (R459) -/
  brownOut : Bool := true
  borSeen : Bool := false
  onVbat : Bool := false
  /-- a zone or DST change not yet applied: ZONE_MIN, DST, and whether SUMMER_TIME asked for it -/
  pendingZone : Option (Int × Nat × Bool) := none
  /-- the next boundary begins an inserted leap second: the calendar does not advance (R463) -/
  hold : Bool := false
  alarms : List Alarm := [{}, {}]
deriving DecidableEq, Repr

/-- WATCH_CONFIG (R514). -/
structure WatchCfg where
  source : Nat := 0
  metric : Nat := 0
  input : Nat := 0
  period : Nat := 1
  window : Nat := 1000
  /-- signed, 0.1 dB -/
  thresh : Int := 0
  count : Nat := 1
deriving DecidableEq, Repr

/-- The journalled command items, as committed (R78, R481 KIND 1): what start-up re-applies. -/
structure Configuration where
  /-- EV_CFG by source, once an EVENT_ROUTE_SET has committed it (R113) -/
  evCfg : Table Nat := []
  /-- DMA programs by channel: priority and words (R121) -/
  dmaPrograms : List (Nat × Nat × List Nat) := []
  /-- net zone and DST of the journal (R460), and both alarm configurations -/
  zoneMin : Int := 0
  dst : Nat := 0
  alarms : List Alarm := [{}, {}]
  /-- R191, R194, R195 -/
  position : Option (Vec3 × Nat) := none
  pulses : List PulseCfg := { flags := 0xD1 } :: List.replicate 5 {}
  marks : List Mark := List.replicate 4 {}
  /-- descriptors by number (R218) -/
  descs : List (Nat × Descriptor) := []
  /-- R276 -/
  geoSources : List GeoSource := List.replicate 16 {}
  geoOutputs : List GeoOutput := List.replicate 64 {}
  /-- coefficient writes and glide ends in their order (R260, R271) -/
  coefs : List CoefRecord := []
  /-- the generation and library entry of the last ACTIVATE record (R265); 0 for none -/
  activeGen : Nat := 0
  activeEntry : Nat := 0
  /-- library entry of the customer background program; 0 for none -/
  custEntry : Nat := 0
  /-- R288, R297, R300, R303, R304 -/
  aesTemplates : List (Bytes × Bytes) := List.replicate 8 (List.replicate 24 0, List.replicate 24 0)
  asrc : List (Nat × Nat) := List.replicate 8 (0, 0)
  routes : List (Nat × Nat) := []
  groups : List AudioGroup := List.replicate 8 {}
  /-- muted outputs -/
  mutes : List Nat := []
  /-- R395 -/
  cell : CellCfg := {}
  /-- R390 -/
  admissions : List Admission := []
  /-- R323 -/
  plan : ChannelPlan := {}
  /-- R514 -/
  watch : Option WatchCfg := none
deriving DecidableEq, Repr

/-- One configuration-journal record (R481). -/
structure JournalRecord where
  jseq : Nat
  kind : Nat
  role : Nat
  keyId : Nat
  stamp : Nat
  id : Nat
  old : Bytes
  new : Bytes
deriving DecidableEq, Repr

/-- One event-log record (R486). -/
structure LogRecord where
  seq : Nat
  stamp : Nat
  /-- bit 7 of KIND: the stamp is RTC time -/
  rtc : Bool
  unit : Nat
  kind : Nat
  data : Bytes
deriving DecidableEq, Repr

/-- One key-store entry (R477). -/
structure Key where
  keyId : Nat
  kind : Nat
  revoked : Bool
  pub : Bytes
deriving DecidableEq, Repr

/-- One firmware image slot as bytes written to it (R492, R493). -/
structure Image where
  /-- image bytes announced by BEGIN or FROM_FLASH -/
  length : Nat := 0
  bytes : Table Byte := []
  rejected : Bool := false
deriving DecidableEq, Repr

/-- The boot record and rollback counters (R494–R496, R534, R535). -/
structure BootRecord where
  activeH : Nat := 0
  activeS : Nat := 0
  /-- TRIAL: target and slot -/
  trial : Option (Nat × Nat) := none
  rollbackH : Nat := 0
  rollbackS : Nat := 0
  consumedGen : Nat := 0
  boots : Nat := 0
  jtagBlown : Bool := false
  /-- a reverted trial still to be reported (R496): target and slot -/
  reverted : Option (Nat × Nat) := none
deriving DecidableEq, Repr

/-- The warm-start bundle (R519): header and sections. `time` is STATE, SOURCE, ERR_BOUND,
OFFSET, REF_FREQ, UTC_OFFSET, LEAP, LEAP_AT. -/
structure Bundle where
  valid : Bool := false
  gen : Nat := 0
  cause : Nat := 0
  savedAt : Nat := 0
  rtcUtc : Nat := 0
  saveUs : Nat := 0
  saveUj : Nat := 0
  jtail : Nat := 0
  logrec : Nat := 0
  time : List Int := []
  oscillator : List Int := []
  position : List Int := []
  tokens : List (List Nat) := []
  radio : List Int := []
  nav : List NavMessage := []
deriving DecidableEq, Repr

/-- R483: progress of a journal compaction. `target` is the other segment. -/
structure Compaction where
  /-- steps 1–3 of R483 done so far: 0 begin due, 1 snapshots running, 2 end written -/
  stage : Nat := 0
  jseqN : Nat := 0
  /-- snapshot records still to write: (KIND, ID, value) -/
  todo : List (Nat × Nat × Bytes) := []
  written : List JournalRecord := []
deriving DecidableEq, Repr

/-- The configuration journal of R476, R481–R484. -/
structure Journal where
  records : List JournalRecord := []
  /-- JSEQ of the last record that took one -/
  jseq : Nat := 0
  used : Nat := 0
  segment : Nat := 0
  generation : Nat := 0
  compaction : Option Compaction := none
  /-- a record whose CRC write is still due (first write of R482) -/
  torn : Bool := false
deriving DecidableEq, Repr

/-- The event log of R486, R487: the NV ring and the next SEQ. -/
structure EventLog where
  records : List LogRecord := []
  nextSeq : Nat := 0
deriving DecidableEq, Repr

/-- R489: one sensor as last scanned. `state` 0 within, 1 low, 2 high. -/
structure Sensor where
  value : Int := -32768
  min : Int := -32768
  max : Int := -32768
  state : Nat := 0
  goodScans : Nat := 0
deriving DecidableEq, Repr

/-- R488: a running log export. -/
structure LogExport where
  ticket : Ticket
  next : Nat
  first : Nat
  last : Nat
  exported : Nat
  truncated : Bool
deriving DecidableEq, Repr

/-- R485: a journal read waiting for its publication. -/
structure JournalReadWork where
  slot : Nat
  fromJseq : Nat
  max : Nat
  filter : Nat
  filterKind : Nat
deriving DecidableEq, Repr

/-- R493: an accepted image write whose completion event is due. -/
structure ImageWork where
  target : Nat
  slot : Nat
  /-- 0 erase of BEGIN, 1 DATA, 2 check of END or FROM_FLASH -/
  part : Nat
  ticket : Ticket
deriving DecidableEq, Repr

/-- A journal record of the device's own (R481): KIND, ID, value, and the SEQ of its request where it came through Q30. -/
structure DeviceRecord where
  kind : Nat
  id : Nat
  new : Bytes
  seq : Option Nat := none
deriving DecidableEq, Repr

/-- The Steward outside its NV array (R474–R501). -/
structure Steward where
  /-- its own session table (R478): id, role, key -/
  sessions : List (Nat × Nat × Nat) := []
  logQueue : List LogRecord := []
  /-- gap markers due, oldest first: FIRST_MISSING, COUNT, CAUSE (R487) -/
  gaps : List (Nat × Nat × Nat) := []
  sensors : List Sensor := List.replicate 26 {}
  scanSeq : Nat := 0
  hotScans : Nat := 0
  coolScans : Nat := 0
  logExport : Option LogExport := none
  journalReads : List JournalReadWork := []
  imageWork : Option ImageWork := none
  /-- EV119 has occurred since the last heartbeat (R497) -/
  warned : Bool := false
  watchdogsSuspended : Bool := false
  /-- the trial slot runs and its timer is on (R495) -/
  trialRunning : Bool := false
  /-- when the trial timer expires (State.up) -/
  trialEnd : Nat := 0
  /-- R498: 0 closed, 1 test unit, 2 test unit and JTAG -/
  testAccess : Nat := 0
  testSession : Nat := 0
  /-- an append whose CRC write is due (R482), with the Q30 SEQ to answer -/
  append : Option (JournalRecord × Option Nat) := none
  /-- records of the device that the Steward has taken, oldest first (R496, R498, R517) -/
  asked : List DeviceRecord := []
  /-- those that Trowel-H asked for, whose requests are in Q30 (R164, R265, R271), and the SEQ of the next -/
  own : List DeviceRecord := []
  ownSeq : Nat := 0
  /-- when consent to an entry was given (State.up; R508) -/
  consentAt : Option Nat := none
  /-- the Plumb record and the radio records kept in Trowel-S data RAM for a low-power mode (R198, R504), in a bundle's form -/
  record : Option Bundle := none
  /-- applet image being written (R418) -/
  appletStage : Image := {}
  runningH : Nat := 0
  runningS : Nat := 0
  versionH : Nat := 0
  versionS : Nat := 0
deriving DecidableEq, Repr

/-- The NV array as structured content (R476, R533 "kept"). -/
structure Nv where
  /-- committed parameters; an unlisted parameter is at its default -/
  params : Table Nat := []
  journal : Journal := {}
  /-- committed records whose values are not yet in `params` and `config`: the next start-up folds them in (R501, R517) -/
  late : List JournalRecord := []
  /-- bytes of the calibration region that differ from what it left Lerhorn with (R476) -/
  calibration : Table Byte := []
  log : EventLog := {}
  keys : List Key := []
  /-- salt and digest (R480) -/
  pin : Option (Bytes × Bytes) := none
  boot : BootRecord := {}
  images : List Image := List.replicate 4 {}
  applets : List Image := List.replicate 2 {}
  bundle : Bundle := {}
  library : List LibEntry := []
  /-- the lock region (R326); invalid where its CRC fails -/
  locks : List Locks := List.replicate 3 {}
  locksValid : Bool := true
  config : Configuration := {}
deriving DecidableEq, Repr

/-- R506: an accepted POWER_ENTER. `stage`: 0 consent asked, 1 prepare, 2 WAIT passed and drain. -/
structure PowerEntry where
  target : Mode
  ticket : Ticket
  stage : Nat := 0
  /-- E, the time of execution (State.up) -/
  at_ : Nat := 0
  replyConsumed : Bool := false
  wakeSeen : Bool := false
deriving DecidableEq, Repr

/-- R516–R521: a supply-loss save. `began`: 0 none, 1 whole, 2 step 3 only, 3 steps 3–6. -/
structure Save where
  running : Bool := false
  began : Nat := 0
  /-- it has ended or stopped (R520) -/
  ended : Bool := false
  /-- it stopped before its last step -/
  stopped : Bool := false
  /-- VDD_IO33 and HOLD_READY at the sag (R523) -/
  vdd : Nat := 0
  /-- the mode the sag found (R521) -/
  mode : Mode := .backup
  /-- RESET_N is low until (State.up; R526) -/
  resetLow : Nat := 0
deriving DecidableEq, Repr

/-- The power controller (R502–R524). -/
structure Power where
  mode : Mode := .backup
  /-- the interpreter accepts packets, a host-port reset apart (R68) -/
  ready : Bool := false
  holdReady : Bool := false
  vhold : Nat := 0
  vddIo33 : Nat := 0
  pfailLow : Bool := false
  save : Save := {}
  entry : Option PowerEntry := none
  /-- the mode a wake returns to (R513) -/
  returnMode : Mode := .timing
  wakeLatched : Nat := 0
  lastResult : Nat := 0
  lastCondition : Nat := 0
  lastRefuser : Nat := 0
  lastWakeMask : Nat := 0
  /-- Watch: consecutive windows met, a window is open, and it measures (R514) -/
  watchRun : Nat := 0
  watchOpen : Bool := false
  /-- a period has expired during the window (R514) -/
  watchDue : Bool := false
  /-- the mode left, and the wake came during the entry (R510, R523) -/
  modeLeft : Nat := 0
  duringEntry : Bool := false
  /-- commits and glides withdrawn by prepare, still to be reported (R509): the commits; unit, lanes and index of the glides -/
  withdrawnCommits : List ScreedCommit := []
  withdrawnGlides : List (Nat × Nat × Nat) := []
deriving DecidableEq, Repr

/-- Reset and start-up (R525–R537). -/
structure ResetUnit where
  cause : Nat := 1
  /-- the internal power-on reset is asserted (R528) -/
  por : Bool := false
  /-- the lock region failed its CRC at this boot (R326) -/
  locksFailed : Bool := false
  prevMode : Nat := 0
  flags : Nat := 0
  resetRtc : Nat := 0
  startUs : Nat := 0
  /-- a reset is in progress: from its start until HOST_RDY first rises (R51) -/
  inReset : Bool := true
  /-- the units have applied the journalled configuration since the reset (R45, R56) -/
  configured : Bool := false
  /-- boot steps of R529 passed -/
  bootStep : Nat := 0
  /-- the recovery port of R530 serves -/
  recovery : Bool := false
  /-- held by THERMAL (R490) -/
  thermalHold : Bool := false
  /-- REF_IN absent or out of range at step 3 (R441) -/
  refWait : Bool := false
  startStep : Nat := 0
  startMode : Nat := 4
  /-- the run mode of START_MODE is still to be entered (R531) -/
  startPending : Bool := false
deriving DecidableEq, Repr
/-- The whole part. `pending` is the queue of commands that wait, `freeTick` counts the free values
drawn; both are the model's own fields. -/
structure State where
  part : Part := {}
  pending : List Instr := []
  freeTick : Nat := 0
  /-- QT now, in units of 2⁻¹⁶ ns (R21) -/
  qt : Nat := 0
  /-- time since the reset in units of QT, which no step of the scale moves; the model's own field -/
  up : Nat := 0
  port : Port := {}
  sessions : List Session := { state := .opened, role := 1 } :: List.replicate 15 {}
  /-- times of the AUTH_FAILs of the last 60 s (R82; State.up) -/
  authFails : List Nat := []
  lockout : Bool := false
  slots : List Slot := List.replicate 32 {}
  executing : Option Executing := none
  queues : List Queue := List.replicate 32 {}
  events : List EventSource := []
  /-- unit counters, keyed by unit × 256 + index in COUNTERS_GET order -/
  counters : Table Nat := []
  /-- the values in force of the parameters whose moment is not the commit itself -/
  inForce : Table Nat := []
  /-- committed values that wait for their moment, oldest first: ID, value, time of the commit (State.up) -/
  waiting : List (Nat × Nat × Nat) := []
  dma : Dma := {}
  gpio : Gpio := {}
  steward : Steward := {}
  nv : Nv := {}
  power : Power := {}
  rst : ResetUnit := {}
  rtc : Rtc := {}
  plumb : Plumb := {}
  gnss : Gnss := {}
  track : Track := {}
  screed : Screed := {}
  audio : Audio := {}
  radio : Radio := {}
  modem : Modem := {}
  cell : Cell := {}
  clocks : Clocks := {}
  uarts : List Uart := List.replicate 4 {}
  trowelH : Trowel := {}
  /-- it starts in Primer, bank 6 (R400) -/
  trowelS : Trowel := { steward := true, loaded := true, cbank := 6 }
  applet : Applet := {}
deriving DecidableEq, Repr

/-- EV_CFG after a device or power-on reset (R110): TO_HOST 1, ENABLE 1 but for the listed sources. -/
def State.evCfgReset (n : Nat) : Nat :=
  if (16 ≤ n ∧ n ≤ 31) ∨ n = 52 ∨ (56 ≤ n ∧ n ≤ 59) ∨ (64 ≤ n ∧ n ≤ 67) ∨ n = 94 ∨ n = 96 ∨ n = 101 ∨
      (120 ≤ n ∧ n ≤ 127) then 0x10 else 0x11

/-- The event controller after a device or power-on reset (R109, R110). -/
def State.eventsReset : List EventSource :=
  (List.range 128).map (fun n => { cfg := State.evCfgReset n })

/-- The queues after a device or power-on reset: empty, with `credits` command credits issued (R80) and
16 credits on each queue of Q08–Q15 that `dir` leaves an input (R99, R308). -/
def State.queuesReset (credits dir : Nat) : List Queue :=
  (List.range 32).map (fun n =>
    if n = 0 then { crIssued := credits }
    else if 8 ≤ n ∧ n ≤ 15 ∧ !Nat.testBit dir (n - 8) then { crIssued := 16 }
    else {})

/-- R477: the keys a part leaves Lerhorn with: the firmware key, and one maker key (log entry 5). -/
def factoryKeys : List Key :=
  [ { keyId := 0x0100, kind := 4, revoked := false, pub := (List.range 32).map Config.firmwareKey },
    { keyId := Config.makerKeyId.toNat, kind := 3, revoked := false, pub := (List.range 32).map Config.makerKey } ]

/-- The part right after reset: every field at the value the spec gives it for reset, or at the value
the assumption log names. -/
def State.reset : State := { events := State.eventsReset, queues := State.queuesReset 8 0, nv := { keys := factoryKeys } }

end Sys2Proof.Machine
end

