-- ==== Sys2Proof/Machine/Table.lean ====
section
/-! DEFINITION. Sparse tables in one canonical form: keys strictly rising, no entry equal to the default. -/
namespace Sys2Proof.Machine.Table

/-- The value at key `k`; an unlisted key reads as `d`. -/
def get {α : Type} (d : α) (k : Nat) : Table α → α
  | [] => d
  | (j, v) :: r => if j = k then v else get d k r

/-- Remove key `k`. -/
def erase {α : Type} (k : Nat) : Table α → Table α
  | [] => []
  | (j, v) :: r => if j = k then erase k r else (j, v) :: erase k r

/-- Put a listed value at key `k`, keeping the keys rising. -/
def insert {α : Type} (k : Nat) (v : α) : Table α → Table α
  | [] => [(k, v)]
  | (j, w) :: r =>
    if k < j then (k, v) :: (j, w) :: r
    else if k = j then (k, v) :: r
    else (j, w) :: insert k v r

/-- Write `v` at `k`; writing what an unlisted key reads as removes the entry. -/
def set {α : Type} [DecidableEq α] (d : α) (k : Nat) (v : α) (t : Table α) : Table α :=
  if v = d then erase k t else insert k v t

/-- All keys exceed `k`. -/
def above {α : Type} (k : Nat) (t : Table α) : Bool := t.all (fun p => decide (k < p.1))

/-- The canonical form. -/
def wf {α : Type} [DecidableEq α] (d : α) : Table α → Bool
  | [] => true
  | (j, v) :: r => above j r && !decide (v = d) && wf d r

/-- Write consecutive values from key `k`. -/
def setList {α : Type} [DecidableEq α] (d : α) (k : Nat) : List α → Table α → Table α
  | [], t => t
  | v :: r, t => setList d (k + 1) r (set d k v t)

/-- `n` consecutive values from key `k`. -/
def getList {α : Type} (d : α) (k : Nat) : Nat → Table α → List α
  | 0, _ => []
  | n + 1, t => get d k t :: getList d (k + 1) n t

end Sys2Proof.Machine.Table
end

