-- ==== Sys2Proof/Machine/Params.lean ====
section
/-! DEFINITION. Status codes and the parameter tables of every unit. -/
namespace Sys2Proof.Machine

/-- R86: the status codes. -/
inductive Status where
  | ok | accepted | notReady | busy | busyCal | badOpcode | badLength | badParam | outOfRange
  | invalidDate | badVersion | deniedRole | deniedLock | deniedVariant | authFail | noSession
  | crcFail | seqError | nvFull | nvFault | tooLate | internalFault
deriving DecidableEq, Repr

/-- R86: the code of a status. -/
def Status.code : Status → Nat
  | .ok => 0x0000 | .accepted => 0x0001 | .notReady => 0x0010 | .busy => 0x0011 | .busyCal => 0x0012
  | .badOpcode => 0x0020 | .badLength => 0x0021 | .badParam => 0x0022 | .outOfRange => 0x0023
  | .invalidDate => 0x0024 | .badVersion => 0x0025 | .deniedRole => 0x0030 | .deniedLock => 0x0031
  | .deniedVariant => 0x0032 | .authFail => 0x0033 | .noSession => 0x0034 | .crcFail => 0x0040
  | .seqError => 0x0041 | .nvFull => 0x0050 | .nvFault => 0x0051 | .tooLate => 0x0060
  | .internalFault => 0x00FF

/-- When a committed parameter comes into force, where that is not read off at its next use. -/
inductive Effect where
  | now | mt | second | boundary | superframe | sampleTick
  /-- at the next start-up -/
  | start
deriving DecidableEq, Repr

/-- One row of a parameter table: width, default, role, moment, and its value checks
(reserved encodings first, then the range; R566). -/
structure ParamSpec where
  bytes : Nat
  default : Nat
  role : Nat := 2
  journalled : Bool := true
  readOnly : Bool := false
  effect : Effect := .now
  legal : Nat → Bool := fun _ => true
  range : Nat → Bool := fun _ => true

/-- A value within two bounds. -/
def within (lo hi v : Nat) : Bool := decide (lo ≤ v) && decide (v ≤ hi)

/-- A signed value of `n` bits within two bounds. -/
def withinInt (n : Nat) (lo hi : Int) (v : Nat) : Bool :=
  decide (lo ≤ signed n v) && decide (signed n v ≤ hi)

/-- Only the bits of `mask` are set. -/
def onlyBits (mask v : Nat) : Bool := decide (Nat.land v mask = v)

/-- Number of one bits in the low `n` bits. -/
def ones : Nat → Nat → Nat
  | 0, _ => 0
  | n + 1, v => v % 2 + ones n (v / 2)

/-- The `k`-th field of `n` bits. -/
def lane (n k v : Nat) : Nat := v / 2 ^ (n * k) % 2 ^ n

/-- R22: samples per second of a SCREED_FS code. -/
def fsOf (code : Nat) : Nat :=
  match code with
  | 0 => 44100 | 1 => 48000 | 2 => 88200 | 3 => 96000 | 4 => 176400 | _ => 192000

/-- R28: whole Screed cycles per tick. -/
def cyclesPerTick (code : Nat) : Nat := 400000000 / fsOf code

/-- R28: least background reservation with the solver enabled. -/
def minReserve (code : Nat) : Nat := (40000000 + fsOf code - 1) / fsOf code

/-- R25: the measurement tick periods. -/
def measPeriods : List Nat := [10, 20, 25, 40, 50, 100, 125, 200, 250, 500, 1000]

/-- R489: LOW and HIGH of each sensor, 0x8000 and 0x7FFF where off. -/
def sensorDefault (n : Nat) : Int × Int :=
  match n with
  | 8 => (760, 840) | 9 => (808, 892) | 10 => (1710, 1890) | 11 => (3000, 3600) | 12 => (1140, 1260)
  | 13 => (3000, 3600) | 14 => (1045, 1155) | 15 => (1800, 3600) | 16 => (760, 840) | 17 => (760, 840)
  | 18 => (855, 945) | 19 => (1500, 3600) | 20 => (3000, 3700) | 21 => (-32768, 32767)
  | 22 => (-32768, 32767) | 23 => (-32768, 400) | 24 => (-32768, 32767) | 25 => (-2000, 2000)
  | _ => (-400, 1050)

/-- R489: hysteresis of each sensor. -/
def sensorHysteresis (n : Nat) : Int :=
  match n with
  | 8 | 9 | 16 | 17 | 18 | 21 | 22 => 5
  | 10 | 12 | 14 | 23 => 10
  | 24 => 4
  | 25 => 100
  | _ => 20

/-- R444: f_PFD of PLL `k` in hertz × 2 for a reference and a REF_MODE code. -/
def pfdTwice (ref code : Nat) : Nat := if code = 0 then 2 * ref else if code = 1 then 4 * ref else ref

/-- R444: f_PFD within 5–104 MHz and N within 16–1,023 for every VCO frequency of one PLL. -/
def pllFits (ref code vcoLow vcoHigh : Nat) : Bool :=
  let f2 := pfdTwice ref code
  within 10000000 208000000 f2 && within 16 1023 (2 * vcoLow / f2) && within 16 1023 (2 * vcoHigh / f2)

/-- R443, R444, R455: REF_NOMINAL and REF_MODE put every PLL within its range. -/
def refFits (ref mode : Nat) : Bool :=
  pllFits ref (bits 1 0 mode) 3200000000 3200000000 &&
  pllFits ref (bits 3 2 mode) 2890137600 3145728000 &&
  pllFits ref (bits 5 4 mode) 7856640000 7856640000

/-- R308: AES_CFG. -/
def aesCfgLegal (v : Nat) : Bool := bits 31 25 v == 0 && !bit 7 v && !bit 2 v && bits 5 4 v != 3
def aesCfgRange (v : Nat) : Bool := within 1 200 (bits 23 16 v) && within 3 64 (bits 15 8 v)

/-- R308: TDM_CFG. -/
def tdmCfgLegal (v : Nat) : Bool := bits 31 25 v == 0 && !bit 7 v && bits 2 1 v != 3
def tdmCfgRange (v : Nat) : Bool := within 1 200 (bits 23 16 v) && within 2 64 (bits 15 8 v)

/-- R438: reserved fields and encodings of UART_CFG. -/
def uartCfgLegal (v : Nat) : Bool :=
  bits 31 29 v == 0 && bits 6 0 v == 0 && bits 21 20 v != 3 && bits 19 18 v != 3 && bits 15 14 v != 3 &&
  bits 13 12 v != 3 && bits 11 10 v != 3

/-- R129: a fixed notch frequency. -/
def notchRange (v : Nat) : Bool :=
  (List.range 4).all (fun k => lane 32 k v == 0x7FFFFFFF || withinInt 32 (-40920000) 40920000 (lane 32 k v))

/-- R358: a RAMP_TABLE rises and ends at 255. -/
def rampTableLegal (v : Nat) : Bool :=
  (List.range 15).all (fun k => decide (lane 8 k v ≤ lane 8 (k + 1) v)) && lane 8 15 v == 255

/-- R359: the sum of the 63 coefficients of a MASK_FIR. -/
def maskFirSum (v : Nat) : Int :=
  signed 16 (lane 16 31 v) + 2 * ((List.range 31).map (fun k => signed 16 (lane 16 k v))).foldl (· + ·) 0

/-- R359: unity gain within ±0.5 dB. -/
def maskFirLegal (v : Nat) : Bool := decide (30935 ≤ maskFirSum v) && decide (maskFirSum v ≤ 34711)

/-- R94, R537: System and Hawk. -/
def paramHost (id : Nat) : Option ParamSpec :=
  match id with
  | 0x0020 => some { bytes := 1, default := 4, range := within 4 6 }
  | 0x0100 => some { bytes := 1, default := 1, role := 1, journalled := false, range := fun v => v == 1 || v == 2 || v == 4 }
  | 0x0101 => some { bytes := 1, default := 3, role := 1, journalled := false, legal := onlyBits 3 }
  | 0x0102 => some { bytes := 1, default := 0x5C }
  | 0x0103 => some { bytes := 1, default := 8, range := within 1 15 }
  | 0x0104 => some { bytes := 4, default := 600, range := within 10 86400 }
  | _ => none

/-- R97: cells of each queue. -/
def queueDepth (n : Nat) : Nat :=
  if n < 2 then 16 else if n = 2 then 128 else if n = 3 then 8 else if n = 4 then 256 else if n = 5 then 64
  else if n < 8 then 256 else if n < 16 then 16 else if n = 16 then 256 else if n = 17 then 32
  else if n = 18 then 128 else if n < 28 then 64 else if n = 28 then 128 else if n < 31 then 256 else 64

/-- R97: bytes of a cell. -/
def queueCell (n : Nat) : Nat :=
  if n < 2 then 4112 else if n = 2 then 512 else if n = 3 then 6176 else if n = 4 then 32 else if n = 5 then 1024
  else if n < 8 then 256 else if n < 16 then 1552 else if n = 16 then 64 else if n = 17 then 4096
  else if n = 18 then 64 else if n < 28 then 256 else if n = 28 then 32 else if n < 31 then 64 else 256

/-- R100. -/
def paramQueue (id : Nat) : Option ParamSpec :=
  if 0x0200 ≤ id ∧ id ≤ 0x021F then
    some { bytes := 2, default := 0, range := fun v => decide (v ≤ queueDepth (id - 0x0200)) }
  else none

/-- R141. -/
def paramGnss (id : Nat) : Option ParamSpec :=
  match id with
  | 0x1000 => some { bytes := 1, default := 3, legal := onlyBits 3 }
  | 0x1001 => some { bytes := 1, default := 5, legal := fun v => onlyBits 15 v && bits 1 0 v != 3 && bits 3 2 v != 3 }
  | 0x1002 => some { bytes := 1, default := 12, range := within 6 30 }
  | 0x1003 | 0x1004 => some { bytes := 16, default := 0x7FFFFFFF7FFFFFFF7FFFFFFF7FFFFFFF, range := notchRange }
  | 0x1005 => some { bytes := 1, default := 100, range := fun v => v == 0 || within 16 127 v }
  | 0x1006 => some { bytes := 2, default := 500, range := within 0 10000 }
  | 0x1007 => some { bytes := 2, default := 2000, range := within 0 10000 }
  | 0x1008 => some { bytes := 1, default := 70, range := within 1 100 }
  | 0x1009 => some { bytes := 2, default := 100, range := within 1 10000 }
  | 0x100A => some { bytes := 1, default := 0, legal := onlyBits 3 }
  | 0x100B | 0x100C => some { bytes := 1, default := 40, range := within 10 60 }
  | 0x100D => some { bytes := 1, default := 3, range := within 1 10 }
  | 0x100E => some { bytes := 2, default := 10, range := within 0 3600 }
  | 0x1100 => some { bytes := 1, default := 1, range := within 0 1 }
  | 0x1101 => some { bytes := 4, default := 0x003F007F, legal := onlyBits 0x003F007F }
  | 0x1102 => some { bytes := 2, default := 130, range := within 80 250 }
  | 0x1103 => some { bytes := 1, default := 25, range := within 0 100 }
  | 0x1104 => some { bytes := 2, default := 5000, range := within 500 10000 }
  | 0x1105 => some { bytes := 1, default := 1, range := within 1 10 }
  | 0x1106 => some { bytes := 1, default := 4, range := within 1 64 }
  | _ => none

/-- R166. -/
def paramTrack (id : Nat) : Option ParamSpec :=
  match id with
  | 0x1200 => some { bytes := 2, default := 100, effect := .second, range := fun v => measPeriods.contains v }
  | 0x1201 | 0x1202 => some { bytes := 2, default := 150, range := within 10 500 }
  | 0x1203 => some { bytes := 2, default := 100, range := within 10 200 }
  | 0x1204 => some { bytes := 2, default := 50, range := within 5 500 }
  | 0x1205 => some { bytes := 1, default := 16, range := within 4 64 }
  | 0x1206 => some { bytes := 1, default := 32, range := within 8 64 }
  | 0x1207 => some { bytes := 1, default := 32, range := within 16 128 }
  | 0x1208 | 0x1209 => some { bytes := 1, default := 20, range := within 1 20 }
  | 0x120A => some { bytes := 1, default := 80, range := within 50 99 }
  | 0x120B => some { bytes := 2, default := 2300, range := within 1500 3500 }
  | 0x120C => some { bytes := 2, default := 500, range := within 100 10000 }
  | 0x120D => some { bytes := 2, default := 2000, range := within 0 10000 }
  | 0x120E => some { bytes := 1, default := 35, range := within 10 50 }
  | 0x120F => some { bytes := 2, default := 1000, range := within 100 10000 }
  | 0x1210 => some { bytes := 2, default := 2000, range := within 100 10000 }
  | 0x1211 => some { bytes := 1, default := 10, range := within 4 64 }
  | 0x1212 => some { bytes := 1, default := 1, range := within 0 1 }
  | _ => none

/-- R196. -/
def paramPlumb (id : Nat) : Option ParamSpec :=
  match id with
  | 0x1300 => some { bytes := 1, default := 0, effect := .mt, range := within 0 2 }
  | 0x1301 => some { bytes := 1, default := 0, effect := .mt, range := within 0 1 }
  | 0x1302 => some { bytes := 1, default := 0, range := within 0 2 }
  | 0x1303 => some { bytes := 4, default := 100000, effect := .mt, range := within 1000 1000000000 }
  | 0x1304 => some { bytes := 2, default := 5000, effect := .mt, range := within 1 5000 }
  | 0x1305 => some { bytes := 2, default := 60, range := within 1 3600 }
  | 0x1306 => some { bytes := 4, default := 1000, effect := .mt, range := within 10 1000000 }
  | 0x1307 => some { bytes := 4, default := 10000, effect := .mt, range := within 10 4000000000 }
  | 0x1308 => some { bytes := 2, default := 2000, effect := .mt, range := within 0 60000 }
  | 0x1309 => some { bytes := 4, default := 100000000, effect := .start, range := within 10 4000000000 }
  | 0x130A => some { bytes := 2, default := 100, effect := .mt, range := within 10 10000 }
  | 0x130B => some { bytes := 4, default := 300, effect := .mt, range := within 1 100000 }
  | 0x130C => some { bytes := 4, default := 65000, effect := .mt, range := within 0 10000000 }
  | 0x130D => some { bytes := 4, default := 0, effect := .mt, range := withinInt 32 (-1000000) 1000000 }
  | 0x130E => some { bytes := 2, default := 100, effect := .mt, range := within 1 1000 }
  | 0x130F => some { bytes := 1, default := 1, effect := .mt, range := within 0 1 }
  | _ => none

/-- R224, R277. The default of BG_RESERVE follows the rate in force: 65536 stands for it (`State.reserve`). -/
def paramScreed (id : Nat) : Option ParamSpec :=
  match id with
  | 0x2000 => some { bytes := 1, default := 1, effect := .boundary, range := within 0 5 }
  | 0x2001 => some { bytes := 2, default := 65536, effect := .sampleTick }
  | 0x2002 => some { bytes := 1, default := 1, legal := onlyBits 3 }
  | 0x2003 => some { bytes := 1, default := 0, effect := .mt, range := within 0 4 }
  | 0x2004 => some { bytes := 2, default := 2000, effect := .mt, range := withinInt 16 (-5000) 6000 }
  | 0x2005 => some { bytes := 2, default := 300, effect := .mt, range := within 10 3600 }
  | 0x2006 => some { bytes := 4, default := 100, effect := .mt, range := within 1 100000 }
  | 0x2007 => some { bytes := 4, default := 2, role := 1, journalled := false, readOnly := true }
  | _ => none

/-- R308. -/
def paramAudio (id : Nat) : Option ParamSpec :=
  if 0x2300 ≤ id ∧ id ≤ 0x2307 then
    some { bytes := 4, default := 0x010A0860, effect := .boundary, legal := aesCfgLegal, range := aesCfgRange }
  else if 0x2400 ≤ id ∧ id ≤ 0x2403 then
    some { bytes := 4, default := 0x010A0851, effect := .boundary, legal := tdmCfgLegal, range := tdmCfgRange }
  else if 0x2404 ≤ id ∧ id ≤ 0x2407 then some { bytes := 4, default := 0xFFFFFFFF, effect := .boundary }
  else if 0x2408 ≤ id ∧ id ≤ 0x240B then some { bytes := 1, default := 0, effect := .boundary, range := within 0 3 }
  else if id = 0x2500 then
    some { bytes := 2, default := 0x010A, legal := onlyBits 0x01FF, range := fun v => within 1 200 (bits 7 0 v) }
  else if id = 0x2501 then some { bytes := 1, default := 0, effect := .boundary }
  else none

/-- R334, R363. The default of MASK_FIR comes from the calibration region, which the spec does not
list, and that of RAMP_TABLE is named only as a raised cosine (log entries 12, 13). -/
def paramRadio (id : Nat) : Option ParamSpec :=
  match id with
  | 0x3000 => some { bytes := 1, default := 10, range := within 2 30 }
  | 0x3001 => some { bytes := 2, default := 200, effect := .superframe, range := within 20 1000 }
  | 0x3002 => some { bytes := 2, default := 300, range := within 200 500 }
  | 0x3003 => some { bytes := 1, default := 24, range := within 0 48 }
  | 0x3004 => some { bytes := 2, default := 60, range := within 0 3600 }
  | 0x3005 => some { bytes := 1, default := 1, range := within 0 1 }
  | 0x3006 => some { bytes := 2, default := 0x2020, legal := onlyBits 0x3F3F }
  | 0x3007 => some { bytes := 1, default := 0, effect := .superframe, legal := fun v => onlyBits 7 v && bits 1 0 v != 3 }
  | 0x3008 => some { bytes := 2, default := 20, effect := .superframe, range := within 0 500 }
  | 0x3009 => some { bytes := 1, default := 10, range := within 0 100 }
  | 0x300A => some { bytes := 1, default := 0, effect := .superframe, legal := onlyBits 7 }
  | 0x3100 => some { bytes := 1, default := 6, range := within 0 12 }
  | 0x3101 => some { bytes := 8, default := 0x4B2E91D73A6C0F85, effect := .superframe, range := fun v => within 24 40 (ones 64 v) }
  | 0x3102 => some { bytes := 1, default := 7, range := within 1 15 }
  | 0x3103 => some { bytes := 1, default := 24, range := within 1 24 }
  | 0x3104 => some { bytes := 1, default := 2, effect := .superframe, range := within 2 8 }
  | 0x3105 => some { bytes := 1, default := 0, effect := .superframe, range := within 0 2 }
  | 0x3106 => some { bytes := 16, default := 0xFFFDF5EADAC6B0987F674F3925150A02, effect := .superframe, legal := rampTableLegal }
  | 0x3107 | 0x3108 | 0x3109 =>
    some { bytes := 64, default := 0x7FFF * 2 ^ 496, role := 3, effect := .superframe, legal := maskFirLegal }
  | 0x3200 => some { bytes := 1, default := 10, effect := .superframe, range := within 1 100 }
  | 0x3201 => some { bytes := 2, default := 500, effect := .superframe, range := within 200 10000 }
  | 0x3202 => some { bytes := 1, default := 20, effect := .superframe, range := within 1 50 }
  | 0x3203 => some { bytes := 2, default := 60, effect := .superframe, range := within 1 3600 }
  | _ => none

/-- R438, one UART. -/
def paramUart (id : Nat) : Option ParamSpec :=
  match id % 256 with
  | 0x00 => some { bytes := 4, default := 0x06041000, legal := fun v => uartCfgLegal v && (id / 256 == 0x43 || !bit 27 v) }
  | 0x01 => some { bytes := 4, default := 1736, range := fun v => v == 16 || within 32 1818182 v }
  | 0x02 => some { bytes := 2, default := 0xFF00 }
  | 0x03 => some { bytes := 2, default := 0x1030, range := fun v => within 1 64 (bits 7 0 v) && decide (bits 15 8 v < bits 7 0 v) }
  | 0x04 => some { bytes := 2, default := 0x1010 }
  | 0x05 => some { bytes := 2, default := 0x0440, range := fun v => within 1 255 (bits 7 0 v) }
  | _ => none

/-- R54, R455, R499, R522. -/
def paramRest (id : Nat) : Option ParamSpec :=
  if 0x4800 ≤ id ∧ id ≤ 0x4804 then some { bytes := 4, default := 0 }
  else if id = 0x4805 then some { bytes := 2, default := 0, range := within 0 10000 }
  else if id = 0x5000 then some { bytes := 4, default := 38400000, range := within 10000000 52000000 }
  else if id = 0x5001 then
    some { bytes := 1, default := 0x15, legal := fun v => onlyBits 63 v && bits 1 0 v != 3 && bits 3 2 v != 3 && bits 5 4 v != 3 }
  else if id = 0x5002 then some { bytes := 1, default := 0, effect := .second, range := within 0 2 }
  else if id = 0x6000 then some { bytes := 2, default := 600, range := within 60 3600 }
  else if 0x6200 ≤ id ∧ id ≤ 0x6219 then
    some { bytes := 4, default := unsigned 16 (sensorDefault (id - 0x6200)).1 + 65536 * unsigned 16 (sensorDefault (id - 0x6200)).2 }
  else if id = 0x6220 then some { bytes := 1, default := 115, role := 3, range := within 105 125 }
  else if id = 0x7000 then some { bytes := 1, default := 1 }
  else if id = 0x7001 then some { bytes := 1, default := 0, range := within 0 1 }
  else if id = 0x7002 then some { bytes := 4, default := 0 }
  else if id = 0x7003 then some { bytes := 4, default := 0xFFFFFFFF }
  else none

/-- The parameter an ID names, if any parameter table defines it (R87). -/
def paramSpec (id : Nat) : Option ParamSpec :=
  match id / 256 with
  | 0x00 | 0x01 => paramHost id
  | 0x02 => paramQueue id
  | 0x10 | 0x11 => paramGnss id
  | 0x12 => paramTrack id
  | 0x13 => paramPlumb id
  | 0x20 => paramScreed id
  | 0x23 | 0x24 | 0x25 => paramAudio id
  | 0x30 | 0x31 | 0x32 => paramRadio id
  | 0x40 | 0x41 | 0x42 | 0x43 => paramUart id
  | _ => paramRest id

/-- The default of a parameter. -/
def paramDefault (id : Nat) : Nat := match paramSpec id with | some p => p.default | none => 0

/-- The committed value of a parameter. -/
def State.committed (id : Nat) (s : State) : Nat := Table.get (paramDefault id) id s.nv.params

/-- The moment at which a committed value comes into force. -/
def paramEffect (id : Nat) : Effect := match paramSpec id with | some p => p.effect | none => .now

/-- The value in force. -/
def State.param (id : Nat) (s : State) : Nat :=
  if paramEffect id = .now then s.committed id else Table.get (paramDefault id) id s.inForce

/-- R224: a BG_RESERVE at its default is the least reservation of the rate. -/
def reserveAt (fsCode v : Nat) : Nat := if v = 65536 then minReserve fsCode else v

/-- BG_RESERVE in force (R224). -/
def State.reserve (s : State) : Nat := reserveAt (s.param 0x2000) (s.param 0x2001)

/-- Commit a parameter (R88); an effect that waits joins the waiting values. -/
def State.setParam (id v : Nat) (s : State) : State :=
  let s := { s with nv := { s.nv with params := Table.set (paramDefault id) id v s.nv.params } }
  if paramEffect id = .now then s else { s with waiting := s.waiting ++ [(id, v, s.up)] }

/-- QT units of one microsecond. -/
def qtUs : Nat := 65536000

/-- QT units of one millisecond. -/
def qtMs : Nat := 1000000 * 65536

/-- QT units of one second. -/
def qtSec : Nat := 1000 * qtMs

/-- A waiting value comes into force at moment `e`; a boundary value needs a commit at least
100 ms old (R308). -/
def waitingDue (e : Effect) (now : Nat) (w : Nat × Nat × Nat) : Bool :=
  decide (paramEffect w.1 = e) && (decide (e ≠ .boundary) || decide (w.2.2 + 100 * qtMs ≤ now))

/-- The waiting values of one moment come into force, in the order of their commits. -/
def State.release (e : Effect) (s : State) : State :=
  { s with
    inForce := (s.waiting.filter (waitingDue e s.up)).foldl (fun t w => Table.set (paramDefault w.1) w.1 w.2.1 t) s.inForce
    waiting := s.waiting.filter (fun w => !waitingDue e s.up w) }

/-- Every committed value in force at once: re-application of the journal (R529 step 8). -/
def State.applyParams (s : State) : State := { s with inForce := s.nv.params, waiting := [] }

end Sys2Proof.Machine
end

