-- ==== Sys2Proof/Machine/Ops.lean ====
section
/-! DEFINITION. The shared operations: counters, packets, queues, events, the journal and the log. -/
namespace Sys2Proof.Machine

/-! Counters and free values -/

/-- Key of counter `i` of a unit, in the order its COUNTERS_GET gives. -/
def ctrKey (unit i : Nat) : Nat := unit * 256 + i

/-- The value of a unit counter. -/
def State.counter (unit i : Nat) (s : State) : Nat := Table.get 0 (ctrKey unit i) s.counters

/-- Add `n` to a 32-bit unit counter, which wraps. -/
def State.bumpBy (unit i n : Nat) (s : State) : State :=
  { s with counters := Table.set 0 (ctrKey unit i) (wrap32 (s.counter unit i + n)) s.counters }

/-- Add 1 to a 32-bit unit counter. -/
def State.bump (unit i : Nat) (s : State) : State := s.bumpBy unit i 1

/-- Add `n` to a 64-bit unit counter. -/
def State.bump64 (unit i n : Nat) (s : State) : State :=
  { s with counters := Table.set 0 (ctrKey unit i) (wrap64 (s.counter unit i + n)) s.counters }

/-- Draw one free value: the counter of draws advances. -/
def State.draw (s : State) : State := { s with freeTick := s.freeTick + 1 }

/-- Draw `n` free bytes. -/
def freeBytes : Nat → Nat → Bytes
  | 0, _ => []
  | n + 1, k => Config.freeByte k :: freeBytes n (k + 1)

/-- A free 16-bit CODE. -/
def freeCode (k : Nat) : Nat := Config.freeNat k % 65536

/-! Packets and stamps -/

/-- A QT stamp of 10 bytes (R21). -/
def qtBytes (t : Nat) : Bytes := le 2 (t % 65536) ++ le 8 (t / 65536)

/-- The instant of a 10-byte stamp, `none` for a negative QT_NS (R21). -/
def qtOf (b : Bytes) : Option Nat :=
  if fieldAt 2 8 b < 2 ^ 63 then some (fieldAt 2 8 b * 65536 + fieldAt 0 2 b) else none

/-- One TLV item (R74). -/
structure Item where
  id : Nat
  value : Bytes
deriving DecidableEq, Repr

/-- An item as bytes (R74). -/
def Item.bytes (i : Item) : Bytes := le 2 i.id ++ le 2 i.value.length ++ i.value

/-- Items packed with no padding (R74). -/
def itemBytes (l : List Item) : Bytes := l.flatMap Item.bytes

/-- A whole packet (R71, R73): `flags` of R72. -/
def packet (flags opcode seq session : Nat) (payload : Bytes) : Bytes :=
  let body := [0x5A, BitVec.ofNat 8 (0x20 + flags)] ++ le 2 opcode ++ le 2 seq ++
    le 2 (payload.length % 4096 + 4096 * (session % 16)) ++ payload
  body ++ le 4 (crc32 body)

/-! Queues -/

/-- Queue `n`. -/
def State.queue (n : Nat) (s : State) : Queue := s.queues.getD n {}

/-- Replace queue `n` by a function of it. -/
def State.modQueue (n : Nat) (f : Queue → Queue) (s : State) : State := { s with queues := modAt n f s.queues }

/-- Credits outstanding (R99). -/
def Queue.outstanding (q : Queue) : Nat := wrap32 (q.crIssued + 2 ^ 33 - q.crReturned - q.crReclaimed)

/-- Entries of a queue that carry a credit. -/
def Queue.carried (q : Queue) : Nat := (q.entries.filter (·.credit)).length

/-- Store one entry: PRODUCED, HWM and the next cell (R98, R100). -/
def Queue.push (depth : Nat) (e : QEntry) (q : Queue) : Queue :=
  { q with
    entries := q.entries ++ [e]
    prodIdx := (q.prodIdx + 1) % depth
    hwm := max q.hwm (q.entries.length + 1)
    produced := wrap32 (q.produced + 1) }

/-- Discard one offered entry (R98). -/
def Queue.reject (q : Queue) : Queue := { q with produced := wrap32 (q.produced + 1), drops := wrap32 (q.drops + 1) }

/-- Remove the head entry (R98); the read positions return to 0. -/
def Queue.pop (depth : Nat) (q : Queue) : Queue :=
  match q.entries with
  | [] => q
  | _ :: r => { q with entries := r, consIdx := (q.consIdx + 1) % depth, consumed := wrap32 (q.consumed + 1), popPos := 0, dmaPopPos := 0 }

/-- Empty a queue, counting each entry as a drop (R98). -/
def Queue.dropAll (depth : Nat) (q : Queue) : Queue :=
  { q with
    entries := []
    consIdx := (q.consIdx + q.entries.length) % depth
    drops := wrap32 (q.drops + q.entries.length)
    popPos := 0
    dmaPopPos := 0 }

/-- A credit returns and is issued again at once (R80, R99). -/
def Queue.creditReturn (q : Queue) : Queue :=
  { q with crReturned := wrap32 (q.crReturned + 1), crIssued := wrap32 (q.crIssued + 1) }

/-- Every outstanding credit is reclaimed (R99). -/
def Queue.reclaimAll (q : Queue) : Queue := { q with crReclaimed := wrap32 (q.crReclaimed + q.outstanding) }

/-- Issue `n` credits. -/
def Queue.issue (n : Nat) (q : Queue) : Queue := { q with crIssued := wrap32 (q.crIssued + n) }

/-- R308: bit n of HOSTQ_DIR makes Q(8 + n) an output. -/
def State.hostqOutput (n : Nat) (s : State) : Bool := bit (n - 8) (s.param 0x2501)

/-- R99: a queue of Q08–Q15 in the input direction. -/
def State.inputQueue (n : Nat) (s : State) : Bool := decide (8 ≤ n) && decide (n ≤ 15) && !s.hostqOutput n

/-- Room for one more entry. -/
def State.hasRoom (n : Nat) (s : State) : Bool := decide ((s.queue n).entries.length < queueDepth n)

/-- Command credits the host holds (R80): those outstanding less those that packets carry whose
replies have not been consumed; the reply of a command that a host-port reset overtook carries none (R95). -/
def State.creditsHeld (s : State) : Nat :=
  (s.queue 0).outstanding - ((s.queue 0).carried + (s.queue 1).carried + (if s.executing.any (fun e => e.ticket.epoch == s.port.epoch) then 1 else 0))

/-! Events -/

/-- R108: the unit of each source. -/
def eventUnit (n : Nat) : Nat :=
  if n < 8 then 0x00 else if n < 12 then 0x01 else if n < 16 then 0x02 else if n < 36 then 0x04
  else if n < 44 then 0x10 else if n < 48 then 0x11 else if n < 56 then 0x12 else if n < 72 then 0x13
  else if n = 78 then 0x21 else if n < 80 then 0x20 else if n < 82 then 0x22 else if n < 86 then 0x23
  else if n < 88 then 0x25 else if n < 94 then 0x30 else if n < 96 then 0x31 else if n < 104 then 0x32
  else if n < 108 then 0x40 + (n - 104) else if n < 110 then 0x48 else if n < 112 then 0x50
  else if n < 114 then 0x51 else if n = 114 then 0x62 else if n < 117 then 0x61 else if n = 117 then 0x60
  else if n = 118 then 0x70 else if n = 119 then 0x60 else 0x03

/-- R108: sources that never set their flag. -/
def reservedSource (n : Nat) : Bool := [7, 15, 34, 35, 47, 53, 54, 55, 71, 103].contains n

/-- Source `n`. -/
def State.event (n : Nat) (s : State) : EventSource := s.events.getD n {}

/-- Replace source `n` by a function of it. -/
def State.modEvent (n : Nat) (f : EventSource → EventSource) (s : State) : State := { s with events := modAt n f s.events }

/-- R110: ENABLE. -/
def EventSource.enabled (e : EventSource) : Bool := bit 0 e.cfg
/-- R110: TO_HOST and ENABLE. -/
def EventSource.toHost (e : EventSource) : Bool := e.enabled && bit 4 e.cfg
/-- R110: TO_DMA and ENABLE. -/
def EventSource.toDma (e : EventSource) : Bool := e.enabled && bit 11 e.cfg
/-- R110: TO_SCREED and ENABLE. -/
def EventSource.toScreed (e : EventSource) : Bool := e.enabled && bit 3 e.cfg
/-- R110: TO_TH and ENABLE. -/
def EventSource.toTh (e : EventSource) : Bool := e.enabled && bit 1 e.cfg

/-- R109: an occurrence sets STAT and counts in OCCUR, whatever masks and routes. -/
def EventSource.hit (code now : Nat) (detail : Bytes) (e : EventSource) : EventSource :=
  { e with stat := true, occur := wrap32 (e.occur + 1), lastCode := code % 65536, lastStamp := now, lastDetail := padTo 16 detail }

/-- R79, R103: the host event packet of source `n`. -/
def hostEventPacket (n : Nat) (e : EventSource) : Bytes :=
  let v := le 1 n ++ le 1 (eventUnit n) ++ le 2 e.lastCode ++ le 4 e.occur ++ qtBytes e.lastStamp ++
    padTo 16 e.lastDetail ++ zeros 2
  packet 2 0x0300 0 0 (itemBytes [{ id := 0x0300, value := v }])

/-- R115, R120: the channel waits on request line `line`: a paced transfer, or a WAIT of KIND 0. -/
def DmaChannel.waitsOn (line : Nat) (c : DmaChannel) : Bool :=
  let w := c.program.getD c.pc 0
  (c.phase == .running || c.phase == .waitLine) && bits 56 51 w == line &&
  ((within 1 2 (bits 63 60 w) && bit 57 w) || (bits 63 60 w == 5 && bits 42 40 w == 0))

/-- R115: a pulse on event request line `k` (48 + k): pending to 15, then lost and counted. -/
def pulseLine (k : Nat) (s : State) : State × Bool :=
  if s.dma.linePending.getD k 0 < 15 then
    ({ s with dma := { s.dma with linePending := modAt k (· + 1) s.dma.linePending } }, false)
  else
    ({ s with dma := { s.dma with
        lineOverruns := modAt k (fun n => wrap32 (n + 1)) s.dma.lineOverruns
        channels := s.dma.channels.map (fun c =>
          if c.waitsOn (48 + k) then { c with lineOverrun := true } else c) } }, true)

/-- R565: DETAIL of EV012. -/
def dropDetail (n drops : Nat) : Bytes := le 1 n ++ zeros 1 ++ le 4 drops

/-- R565: DETAIL of EV013. -/
def alertDetail (n occ level : Nat) : Bytes := le 1 n ++ zeros 1 ++ le 2 occ ++ le 2 level

/-- R100: the level whose reaching is an alert. -/
def State.alertLevel (n : Nat) (s : State) : Nat := s.param (0x0200 + n)

/-- R67: a drop of Q00–Q02 or a framing error sets PORT_ERR. -/
def State.setPortErr (s : State) : State := { s with port := { s.port with portErr := true } }

/-- An occurrence of source `n` and all it sets going: the request-line pulse, and the packet to Q02,
whose storing may raise EV013 and whose drop raises EV008 and EV012 (R100, R109, R111, R115, R564); the lower source is posted
first (R112). STAMP is the quantum time as it stands, not cut to the fabric clock (DESIGN CHOICE, log entry 126).
`fuel` bounds the chain; each link is a source raised by the one before. -/
def occurN : Nat → Nat → Nat → Bytes → State → State
  | 0, _, _, _, s => s
  | fuel + 1, n, code, detail, s =>
    if reservedSource n then s else
    let was := (s.event n).stat
    let s := s.modEvent n (EventSource.hit code s.qt detail)
    let e := s.event n
    let r := if e.toDma then pulseLine (bits 15 12 e.cfg) s else (s, false)
    let overrun := fun (s : State) =>
      if r.2 then occurN fuel 33 (freeCode s.freeTick) (freeBytes 16 (s.freeTick + 1)) { s with freeTick := s.freeTick + 17 } else s
    let post := fun (s : State) =>
      if !was && e.toHost then
        if s.hasRoom 2 then
          let s := s.modQueue 2 (Queue.push 128 { data := hostEventPacket n e })
          let occ := (s.queue 2).entries.length
          if s.alertLevel 2 ≠ 0 ∧ occ = s.alertLevel 2 then
            occurN fuel 13 2 (alertDetail 2 occ (s.alertLevel 2)) s
          else s
        else
          let s := s.setPortErr.modQueue 2 Queue.reject
          let d := (s.queue 2).drops
          occurN fuel 12 2 (dropDetail 2 d) (occurN fuel 8 3 (le 4 d) s)
      else s
    if n < 33 then overrun (post r.1) else post (overrun r.1)

/-- An occurrence of an event source (R109, R111). -/
def State.occur (n code : Nat) (detail : Bytes) (s : State) : State := occurN 8 n code detail s

/-- An occurrence whose CODE and DETAIL the spec does not give: both are free (log entry 4). -/
def State.occurFree (n : Nat) (s : State) : State :=
  ({ s with freeTick := s.freeTick + 17 }).occur n (freeCode s.freeTick) (freeBytes 16 (s.freeTick + 1))

/-- R111: enabling a host route while STAT is 1 posts one packet; this posts it. -/
def State.postEvent (n : Nat) (s : State) : State :=
  if s.hasRoom 2 then
    let s := s.modQueue 2 (Queue.push 128 { data := hostEventPacket n (s.event n) })
    let occ := (s.queue 2).entries.length
    if s.alertLevel 2 ≠ 0 ∧ occ = s.alertLevel 2 then s.occur 13 2 (alertDetail 2 occ (s.alertLevel 2)) else s
  else
    let s := s.setPortErr.modQueue 2 Queue.reject
    let d := (s.queue 2).drops
    (s.occur 8 3 (le 4 d)).occur 12 2 (dropDetail 2 d)

/-- The source of a host event packet (R103); a completion event has none. -/
def packetSource (b : Bytes) : Option Nat := if fieldAt 2 2 b = 0x0300 then some (fieldAt 12 1 b) else none

/-- A packet among the packets of one clock that were posted after it. -/
def putAscending (x : QEntry) : List QEntry → List QEntry
  | [] => [x]
  | y :: r =>
    match packetSource x.data, packetSource y.data with
    | some a, some b => if b < a then y :: putAscending x r else x :: y :: r
    | _, _ => x :: y :: r

/-- R112: what happens in one fabric clock posts its packets in ascending source number. -/
def State.ascending (f : State → State) (s : State) : State :=
  let n := (s.queue 2).entries.length
  (f s).modQueue 2 (fun q => { q with entries := q.entries.take n ++ (q.entries.drop n).foldr putAscending [] })

/-- R109: clear STAT of a source. -/
def State.clearStat (n : Nat) (s : State) : State := s.modEvent n (fun e => { e with stat := false })

/-- What one drop of queue `n` raises: EV008 for Q00–Q02, EV012 for every queue (R100, R564). -/
def State.dropEvents (n : Nat) (s : State) : State :=
  let d := (s.queue n).drops
  let s := if n ≤ 2 then s.setPortErr.occur 8 (n + 1) (le 4 d) else s
  s.occur 12 n (dropDetail n d)

/-- R106: the format rules of an entry of an input queue of Q08–Q15. -/
def blockLegal (b : Bytes) : Bool :=
  let fr := fieldAt 8 2 b
  let ch := fieldAt 10 1 b
  decide (16 ≤ b.length) && decide (1 ≤ fr) && within 1 8 ch && decide (fr * ch ≤ 384) && allZero (slice 11 5 b) &&
  decide (b.length = 16 + fr * ch * 4)

/-- Offer an entry that needs no credit to queue `n` (R97 Drop, R98): stored, or dropped when full
or when its length does not fit a cell. -/
def State.offer (n : Nat) (e : QEntry) (s : State) : State :=
  if s.hasRoom n ∧ 1 ≤ e.data.length ∧ e.data.length ≤ queueCell n then
    let s := s.modQueue n (Queue.push (queueDepth n) e)
    let occ := (s.queue n).entries.length
    if s.alertLevel n ≠ 0 ∧ occ = s.alertLevel n then s.occur 13 n (alertDetail n occ (s.alertLevel n)) else s
  else (s.modQueue n Queue.reject).dropEvents n

/-- Offer an entry under the credit rules of an input queue of Q08–Q15 (R99, R106): without a credit
it is a drop; an ill-formed one is a drop whose credit is issued again. -/
def State.offerInput (n : Nat) (b : Bytes) (s : State) : State :=
  let q := s.queue n
  if q.outstanding ≤ q.carried then (s.modQueue n Queue.reject).dropEvents n
  else if blockLegal b ∧ s.hasRoom n then s.offer n { data := b, credit := true }
  else ((s.modQueue n Queue.reject).modQueue n Queue.creditReturn).dropEvents n

/-- Offer to any queue: the credit rules where the queue has them: an entry that a DMA channel or Trowel-H commits to an input queue uses one of
the host's credits (DESIGN CHOICE, log entry 125). -/
def State.offerAny (n : Nat) (b : Bytes) (s : State) : State :=
  if s.inputQueue n then s.offerInput n b else s.offer n { data := b }

/-- R565: DETAIL of EV014. -/
def reclaimDetail (k reason station : Nat) : Bytes := le 2 k ++ le 1 reason ++ le 1 station

/-- EV014 for an action that reclaimed `k` credits of queue `n` (R565). -/
def State.reclaimEvent (n k reason station : Nat) (s : State) : State :=
  if k = 0 then s else s.occur 14 n (reclaimDetail k reason station)

/-- The head entry of an input queue is consumed: its credit returns, or, after a host-port reset,
one new credit is issued for its cell (R99). -/
def Queue.popCredited (depth : Nat) (q : Queue) : Queue :=
  match q.entries with
  | [] => q
  | e :: _ => if e.credit then (q.pop depth).creditReturn else (q.pop depth).issue 1

/-- A message consumed from Q22 returns its credit (R386). -/
def Queue.popControl (q : Queue) : Queue :=
  match q.entries with
  | [] => q
  | e :: _ => if e.credit then { q.pop 64 with crReturned := wrap32 (q.crReturned + 1) } else q.pop 64

/-- R97: queues whose producer waits on a full queue. -/
def waitQueue (n : Nat) : Bool := [5, 21, 28, 29, 30].contains n

/-- R97 Wait: an entry is stored, or held by its producer until a cell is free; nothing is counted before. -/
def State.offerWait (n : Nat) (b : Bytes) (s : State) : State :=
  if (s.queue n).waiting.isEmpty && s.hasRoom n then s.offer n { data := b }
  else s.modQueue n (fun q => { q with waiting := q.waiting ++ [b] })

/-- R475: entries a mailbox body of `len` bytes takes. -/
def mailNeed (len : Nat) : Nat := max 1 ((len + 55) / 56)

/-- R475: a body in pieces of 56 bytes, at most `n` of them. -/
def chunks : Nat → Bytes → List Bytes
  | 0, _ => []
  | n + 1, b => if b.length ≤ 56 then [b] else b.take 56 :: chunks n (b.drop 56)

/-- Put a message into a mailbox queue, whose producer waits while it is full (R97, R475). -/
def State.post (q kind seq : Nat) (body : Bytes) (s : State) : State :=
  (chunks (mailNeed body.length) body).foldl (fun s p =>
    s.offerWait q (le 2 kind ++ le 2 seq ++ le 2 body.length ++ zeros 2 ++ p)) s

/-- R97: a cell is free: the oldest entry held for it is stored. -/
def State.refill (n : Nat) (s : State) : State :=
  match (s.queue n).waiting with
  | [] => s
  | b :: r => if s.hasRoom n then (s.modQueue n (fun q => { q with waiting := r })).offer n { data := b } else s

/-- Every held entry that finds a cell, at most `k` of them. -/
def State.refillN (n : Nat) : Nat → State → State
  | 0, s => s
  | k + 1, s => State.refillN n k (s.refill n)

/-- Remove the head entry of queue `n` with its credit (R98, R99, R386). -/
def State.removeHead (n : Nat) (s : State) : State :=
  if n = 22 then s.modQueue 22 Queue.popControl
  else if s.inputQueue n then s.modQueue n (Queue.popCredited (queueDepth n)) else s.modQueue n (Queue.pop (queueDepth n))

/-- Consume the head entry of queue `n`; an entry held for the cell is stored (R97–R99, R386). -/
def State.consume (n : Nat) (s : State) : State := (s.removeHead n).refill n

/-- What `k` drops of queue `n` raise, the count already taken (R100): EV012 once each. -/
def State.occurDrops (n : Nat) : Nat → State → State
  | 0, s => s
  | k + 1, s => State.occurDrops n k (s.occur 12 n (dropDetail n (wrap32 ((s.queue n).drops + 2 ^ 32 - k))))

/-- The router reads the next entry of Q(8 + k) from its first frame (R102, R306). -/
def State.rewindStream (n : Nat) (s : State) : State :=
  { s with audio := { s.audio with
    ins := s.audio.ins.map (fun x => if within 8 15 n && x.id == 0x40 + (n - 8) then { x with pos := 0 } else x) } }

/-- R102, R433: the next entry of Q(24 + k) goes to its UART from its first character. -/
def State.rewindUart (n : Nat) (s : State) : State :=
  if within 24 27 n then { s with uarts := modAt (n - 24) (fun u => { u with moved := 0 }) s.uarts } else s

/-- R102: empty a queue, counting drops; an input queue's credits are reclaimed and one is issued
per freed cell. -/
def State.flushQueue (n : Nat) (s : State) : State :=
  let s := (s.rewindStream n).rewindUart n
  let q := s.queue n
  let k := q.entries.length
  let c := q.carried
  let s := s.modQueue n (Queue.dropAll (queueDepth n))
  let s := if s.inputQueue n then
      (s.modQueue n (fun q => { q with crReclaimed := wrap32 (q.crReclaimed + c), crIssued := wrap32 (q.crIssued + k) }))
    else s
  ((s.occurDrops n k).reclaimEvent n (if s.inputQueue n then c else 0) 1 0xFF).refillN n (s.queue n).waiting.length

/-! Host event queue: completions -/

/-- Post a completion event (R77): EVT set, the command's OPCODE, SEQ and SESSION; a host-port reset
since the acceptance has dropped it (R95). -/
def State.complete (opcode : Nat) (t : Ticket) (st : Status) (items : List Item) (s : State) : State :=
  if t.epoch = s.port.epoch then
    s.offer 2 { data := packet 2 opcode t.seq t.session (le 2 st.code ++ itemBytes items) }
  else s

/-! Result slots (R84, R85) -/

/-- Publish a result: SLOT_SEQ + 1, an unreleased one is overwritten and counted (R85). -/
def Slot.publish (b : Bytes) (x : Slot) : Slot :=
  { x with
    seq := wrap32 (x.seq + 1), ready := true, delivered := false, data := b
    overwrite := if x.ready then wrap32 (x.overwrite + 1) else x.overwrite }

/-- Publish a result in slot `n`. -/
def State.publish (n : Nat) (b : Bytes) (s : State) : State := { s with slots := modAt n (Slot.publish b) s.slots }

/-- Slot `n`. -/
def State.slot (n : Nat) (s : State) : Slot := s.slots.getD n {}

/-- R84: the lowest free slot of 8–31. -/
def State.freeSlot (s : State) : Option Nat := ((List.range 24).map (· + 8)).find? (fun n => !(s.slot n).allocated)

/-- R84: allocate a slot to a session. -/
def State.allocate (n session : Nat) (s : State) : State :=
  { s with slots := modAt n (fun x => { x with allocated := true, owner := some session, ready := false, delivered := false, data := [] }) s.slots }

/-! The event log (R486, R487) -/

/-- R464: UTC of the calendar, in seconds since 2000-01-01T00:00:00. -/
def State.utcNow (s : State) : Int := (s.rtc.localSec : Int) - s.rtc.zoneMin * 60 - 3600 * (s.rtc.dst : Int)

/-- R535: UTC_SEC of R472; 0 if unknown. -/
def State.utcSec (s : State) : Nat := if s.rtc.valid then unsigned 32 s.utcNow else 0

/-- R486: the stamp is RTC time while the device holds no QT and the RTC is valid (log entry 31). -/
def State.rtcStamped (s : State) : Bool := decide (s.plumb.state = 0) && s.rtc.valid

/-- R486 STAMP: QT_NS, or RTC UTC seconds × 10⁹. -/
def State.logStamp (s : State) : Nat := if s.rtcStamped then s.utcSec * 1000000000 else s.qt / 65536

/-- R487: a lost SEQ joins the last gap when it follows it and has the same cause. -/
def addGap (seq cause : Nat) (l : List (Nat × Nat × Nat)) : List (Nat × Nat × Nat) :=
  match l.getLast? with
  | some (f, n, c) => if c = cause ∧ wrap32 (f + n) = seq then l.dropLast ++ [(f, n + 1, c)] else l ++ [(seq, 1, cause)]
  | none => [(seq, 1, cause)]

/-- R487: a record takes its SEQ; it enters the 64-record queue, or is lost and a gap becomes due. -/
def State.log (unit kind : Nat) (data : Bytes) (s : State) : State :=
  let seq := s.nv.log.nextSeq
  let r : LogRecord := { seq := seq, stamp := s.logStamp, rtc := s.rtcStamped, unit := unit, kind := kind, data := padTo 16 data }
  let s := { s with nv := { s.nv with log := { s.nv.log with nextSeq := wrap32 (seq + 1) } } }
  if s.steward.logQueue.length < 64 then { s with steward := { s.steward with logQueue := s.steward.logQueue ++ [r] } }
  else { s with steward := { s.steward with gaps := addGap seq 0 s.steward.gaps } }

/-- A record whose DATA the spec does not lay out: its 16 bytes are free (log entry 3). -/
def State.logFree (unit kind : Nat) (s : State) : State :=
  ({ s with freeTick := s.freeTick + 16 }).log unit kind (freeBytes 16 s.freeTick)

/-- A record whose kind the spec does not name: KIND and DATA are free (log entry 3). -/
def State.logAny (unit : Nat) (s : State) : State := s.draw.logFree unit (Config.freeNat s.freeTick % 128)

/-- R486: a session record of kind 0x02. -/
def State.logSession (action session role keyId : Nat) (s : State) : State :=
  s.log 0x63 0x02 (le 1 action ++ le 1 session ++ le 1 role ++ zeros 1 ++ le 2 keyId)

/-- R498: the journal record of test access that closes by itself. -/
def Steward.testRecord (x : Steward) : List DeviceRecord := if x.testAccess = 0 then [] else [{ kind := 1, id := 0x7210, new := le 1 0 }]

/-- R498: test access closes by itself; the change is journalled, once HOLD_READY lets it be (R34), and logged. -/
def State.endTestAccess (s : State) : State :=
  if s.steward.testAccess = 0 then s
  else
    { s with steward := { s.steward with
      testAccess := 0, testSession := 0, asked := s.steward.asked ++ s.steward.testRecord } }.logAny 0x72

/-! What the reset and the bundle take from the units -/

/-- R519: the sections of a bundle as of now. -/
def State.formBundle (s : State) : Bundle :=
  let p := s.plumb
  { savedAt := if p.state = 0 then 0 else s.qt
    rtcUtc := s.utcSec
    time := [p.state, p.source, (p.errBound.getD 0xFFFFFFFF : Nat), p.offset, p.refFreq, p.utcOffset, p.leap, p.leapAt]
    oscillator := [s.param 0x130B, s.param 0x130C, p.audioSteer]
    position := match p.position with | some v => [v.x, v.y, v.z, p.sigma, s.param 0x1301] | none => []
    tokens := s.radio.bands.map (fun b => s.radio.minute :: b.bins)
    radio := s.radio.bands.flatMap (fun b => [(b.series : Int), (b.shunt : Int)]) ++ [s.radio.calTemp, s.radio.vcoBand]
    nav := s.gnss.nav }

/-! The configuration journal (R481–R484) -/

/-- Bytes of a record (R481): 28 before OLD, values padded to 4, CRC. -/
def recordBytes (old new : Bytes) : Nat := 28 + (old.length + new.length + 3) / 4 * 4 + 4

/-- R476: bytes of a journal segment. -/
def segmentBytes : Nat := 524288

/-- R517: bytes of the active segment kept free for the save. -/
def segmentReserve : Nat := 16384

/-- R481: the kinds that take a JSEQ of their own. -/
def takesJseq (kind : Nat) : Bool := decide (kind ≤ 5) || within 10 12 kind

/-- An NV write that failed twice is counted and logged (R476). -/
def State.nvFault (s : State) : State := (s.bump 0x61 2).logFree 0x61 0x0B

/-- R476: the read-back of an NV write that is retried once: `true` when one of the two is good. Where the row does not carry the
outcome it is free. -/
def State.readBack (s : State) : Bool × State := (Config.freeBit s.freeTick, s.draw)

/-- The regions of the NV array (R476). -/
inductive NvRegion where
  | imageH (slot : Nat) | imageS (slot : Nat) | library | journal (segment : Nat) | eventLog | calibration | bundle | locks | keyStore | reserved
deriving DecidableEq, Repr

/-- R476: the region of an address of the array. -/
def nvRegion (a : Nat) : Option NvRegion :=
  if a < 0x100000 then some (.imageH 0)
  else if a < 0x200000 then some (.imageH 1)
  else if a < 0x280000 then some (.imageS 0)
  else if a < 0x300000 then some (.imageS 1)
  else if a < 0x400000 then some .library
  else if a < 0x480000 then some (.journal 0)
  else if a < 0x500000 then some (.journal 1)
  else if a < 0x700000 then some .eventLog
  else if a < 0x740000 then some .calibration
  else if a < 0x750000 then some .bundle
  else if a < 0x754000 then some .locks
  else if a < 0x758000 then some .keyStore
  else if a < 0x800000 then some .reserved
  else none

/-- R476: a byte of the calibration region; what the part leaves Lerhorn with is not stated (log entry 112). -/
def Nv.calibrationByte (x : Nv) (k : Nat) : Byte := ((x.calibration.find? (fun p => p.1 == k)).map (·.2)).getD (Config.calibration k)

/-- The record of an append (R481). -/
def State.journalRecord (kind role keyId id : Nat) (old new : Bytes) (s : State) : JournalRecord :=
  { jseq := if takesJseq kind then wrap32 (s.nv.journal.jseq + 1) else s.nv.journal.jseq
    kind := kind, role := role, keyId := keyId, stamp := if s.plumb.state = 0 then 0 else s.qt, id := id, old := old, new := new }

/-- Append one record to the active segment (R482). -/
def State.appendRecord (r : JournalRecord) (s : State) : State :=
  let j := s.nv.journal
  ({ s with nv := { s.nv with journal := { j with
      records := j.records ++ [r]
      jseq := if takesJseq r.kind then r.jseq else j.jseq
      used := j.used + recordBytes r.old r.new } } }).bump 0x61 0

/-- A request of the interpreter to the Steward is counted (R500; log entry 112). -/
def State.mailed (s : State) : State := s.bump 0x60 2

/-- A record that a request asks the Steward for (R34, R78, R482, R484, R517): it is appended and verified, or nothing changes but
what the failure itself reports. -/
def State.stewardAppend (ok : Bool) (kind role keyId id : Nat) (old new : Bytes) (s : State) : Status × State :=
  let r := s.journalRecord kind role keyId id old new
  if !s.power.holdReady then (.notReady, s)
  else if s.nv.journal.used + recordBytes old new > segmentBytes - segmentReserve then (.nvFull, s)
  else if !ok then (.nvFault, s.nvFault)
  else (.ok, s.appendRecord r)

/-- A journal request of the interpreter (R78, R500). -/
def State.journalAppend (ok : Bool) (kind role keyId id : Nat) (old new : Bytes) (s : State) : Status × State :=
  s.mailed.stewardAppend ok kind role keyId id old new

end Sys2Proof.Machine
end

