-- ==== Sys2Proof/Machine/Command.lean ====
section
/-! DEFINITION. The command interpreter: taking a packet from Q00, the checks of R76 in their order,
sequence baselines, and the reply in Q01. -/
namespace Sys2Proof.Machine

/-- A command packet as parsed (R71). -/
structure Packet where
  version : Nat
  flags : Nat
  opcode : Nat
  seq : Nat
  session : Nat
  payload : Bytes
  crcOk : Bool

/-- Parse one whole packet. -/
def parsePacket (b : Bytes) : Packet :=
  let n := fieldAt 6 2 b % 4096
  { version := bits 7 5 (fieldAt 1 1 b), flags := bits 4 0 (fieldAt 1 1 b), opcode := fieldAt 2 2 b
    seq := fieldAt 4 2 b, session := fieldAt 6 2 b / 4096, payload := slice 8 n b
    crcOk := fieldAt (8 + n) 4 b == crc32 (b.take (8 + n)) }

/-- Items of a payload; `none` when an item runs past its end (R74). -/
def parseItemsN : Nat → Bytes → Option (List Item)
  | 0, b => if b.isEmpty then some [] else none
  | n + 1, b =>
    if b.isEmpty then some []
    else
      let len := fieldAt 2 2 b
      if b.length < 4 + len then none
      else (parseItemsN n (b.drop (4 + len))).map ({ id := fieldAt 0 2 b, value := slice 4 len b } :: ·)

/-- Items of a payload (R74). -/
def parseItems (b : Bytes) : Option (List Item) := parseItemsN (b.length / 4 + 1) b

/-- A command that has passed its packet checks. -/
structure Cmd where
  opcode : Nat
  seq : Nat
  session : Nat
  role : Nat
  keyId : Nat
  items : List Item

/-- The bytes of the first item's VALUE: the fixed request of R74. -/
def Cmd.value (c : Cmd) : Bytes := match c.items with | i :: _ => i.value | [] => []

/-- An unsigned request field. -/
def Cmd.u (c : Cmd) (o n : Nat) : Nat := fieldAt o n c.value

/-- A signed request field. -/
def Cmd.i (c : Cmd) (o n : Nat) : Int := signedAt o n c.value

/-- The ticket of a command whose work goes on (R77). -/
def Cmd.ticket (c : Cmd) (s : State) : Ticket := { seq := c.seq, session := c.session, epoch := s.port.epoch }

/-- What a command comes to. -/
structure Result where
  status : Status
  items : List Item := []
  /-- the reply delivers a result already delivered (R85) -/
  again : Bool := false
  tag : ReplyTag := .none
  /-- the session closes once the reply is written (R91) -/
  closing : Bool := false
  /-- the session opened by this command: its baseline is empty (R83) -/
  opened : Bool := false
  /-- the reply comes later, from an applet handler (R419) -/
  deferred : Bool := false
  state : State

/-- A refusal: nothing changes. -/
def refuse (st : Status) (s : State) : Result := { status := st, state := s }

/-- OK with no items. -/
def done (s : State) : Result := { status := .ok, state := s }

/-- OK with one item. -/
def reply (id : Nat) (v : Bytes) (s : State) : Result := { status := .ok, items := [{ id := id, value := v }], state := s }

/-- The first test that fails, in order (R566). -/
def firstFail : List (Bool × Status) → Option Status
  | [] => none
  | (b, st) :: r => if b then some st else firstFail r

/-- A result that the listed tests precede: each pair is a condition of refusal and its status. -/
def guarded (l : List (Bool × Status)) (s : State) (r : Result) : Result :=
  match firstFail l with
  | some st => refuse st s
  | none => r

/-- The first item, in payload order, that fails a test of its own. -/
def failItem (f : Bytes → List (Bool × Status)) : List Item → Option Status
  | [] => none
  | i :: r => match firstFail (f i.value) with
    | some st => some st
    | none => failItem f r

/-- Tests over every item of a command that takes one or more (R566 within R89). -/
def Cmd.guardItems (c : Cmd) (f : Bytes → List (Bool × Status)) (s : State) (r : Result) : Result :=
  match failItem f c.items with
  | some st => refuse st s
  | none => r

/-- How one row of the opcode directory is checked (R89) before its own rules. -/
structure CmdSpec where
  opcode : Nat
  /-- 0 none, 1 operator, 2 installer, 3 maker -/
  role : Nat
  /-- check 3: the items have the expected sizes -/
  shape : List Item → Bool
  /-- which of the rows that share the opcode this is -/
  selects : List Item → Bool := fun _ => true
  /-- check 7: the command names something absent from the part -/
  absent : State → List Item → Bool := fun _ _ => false
  /-- check 8 where the role depends on the request -/
  roleOf : List Item → Nat := fun _ => 0
  /-- check 9: maker and regulatory locks -/
  locked : State → List Item → Bool := fun _ _ => false
  /-- R566 stage 1 -/
  naming : State → Cmd → Option Status := fun _ _ => none
  /-- R89: only in Maintenance -/
  maintenance : Bool := false
  /-- R78: appends to the journal, so HOLD_READY is needed -/
  journals : Bool := false
  /-- R88: items of the refusal at check 3 -/
  badShape : List Item → List Item := fun _ => []
  /-- R88: checks 7 and on are made in the body, item by item -/
  ownChecks : Bool := false
  body : Cmd → State → Result

/-- Check 3 of a command with one fixed item of `n` bytes under its own opcode; an item of another ID is BAD_LENGTH (DESIGN CHOICE, log
entry 135). -/
def oneItem (op n : Nat) (l : List Item) : Bool :=
  match l with
  | [i] => i.id == op && i.value.length == n
  | _ => false

/-- Check 3 of a command with no request items. -/
def noItems (l : List Item) : Bool := l.isEmpty

/-- Check 3 of a command with one or more fixed items of `n` bytes. -/
def someItems (op n : Nat) (l : List Item) : Bool :=
  !l.isEmpty && l.all (fun i => i.id == op && i.value.length == n)

/-- HOST_RDY (R68): the interpreter accepts packets and no host-port reset runs. -/
def State.hostRdy (s : State) : Bool := s.power.ready && !s.port.resetting

/-- Session ID `n`. -/
def State.session (n : Nat) (s : State) : Session := s.sessions.getD n {}

/-- Replace session `n` by a function of it. -/
def State.modSession (n : Nat) (f : Session → Session) (s : State) : State := { s with sessions := modAt n f s.sessions }

/-- Whether a session ID is open. -/
def State.sessionOpen (n : Nat) (s : State) : Bool := decide ((s.session n).state = .opened)

/-- R81: what a restricted session 0 may still send. -/
def pinExempt (op : Nat) : Bool := [0x0010, 0x0110, 0x0111, 0x0116, 0x0114].contains op

/-- R495: what the recovery port accepts. -/
def recoveryOpcode (op : Nat) : Bool :=
  [0x0010, 0x0110, 0x0111, 0x0112, 0x0113, 0x6110, 0x6111, 0x6010].contains op

/-- R83: the verdict on a SEQ. -/
inductive SeqVerdict where | execute | repeated | error

/-- R83. -/
def Session.checkSeq (seq : Nat) (x : Session) : SeqVerdict :=
  match x.baseline with
  | none => .execute
  | some b => if seq = (b + 1) % 65536 then .execute else if seq = b then .repeated else .error

/-- Put a reply in Q01, with the command's credit (R75, R80). -/
def State.putReply (flags opcode seq session : Nat) (payload : Bytes) (tag : ReplyTag) (s : State) : State :=
  s.offer 1 { data := packet flags opcode seq session payload, credit := true, tag := tag }

/-- The reply of a refusal at the packet checks, with the item of R88 where there is one (R76). -/
def State.refuseItems (p : Packet) (st : Status) (items : List Item) (s : State) : State :=
  s.putReply 1 p.opcode p.seq p.session (le 2 st.code ++ itemBytes items) .none

/-- The reply of a refusal at the packet checks: STATUS only (R76). -/
def State.refusePacket (p : Packet) (st : Status) (s : State) : State := s.refuseItems p st []

/-- Statuses that no check of R76 gives: the command executed (R83). -/
def Status.executed : Status → Bool
  | .ok | .accepted | .nvFull | .nvFault | .authFail | .internalFault => true
  | _ => false

/-- R91: the slots of a closed session are unowned. -/
def Slot.disown (n : Nat) (y : Slot) : Slot := if y.owner = some n then { y with owner := none } else y

/-- R91: a closed session leaves its ID free and its slots unowned; the maker session that opened test access takes it along (R498). -/
def State.closeSession (n action : Nat) (s : State) : State :=
  let x := s.session n
  let s := if n = s.steward.testSession then s.endTestAccess else s
  let s := s.modSession n (fun _ => {})
  let s := { s with
    slots := s.slots.map (Slot.disown n)
    steward := { s.steward with sessions := s.steward.sessions.filter (fun t => t.1 != n) } }
  s.logSession action n x.role x.keyId

/-- What follows the execution of a command: its reply, its baseline, its stored reply (R75, R83). -/
def State.finish (c : Cmd) (r : Result) : State :=
  let s := r.state
  if r.deferred then s.modSession c.session (fun x => { x with baseline := some c.seq, storedOp := c.opcode, stored := [] })
  else
    let payload := le 2 r.status.code ++ itemBytes r.items
    let s := s.putReply (if r.again then 5 else 1) c.opcode c.seq c.session payload r.tag
    let s := if r.status.executed && s.sessionOpen c.session && !r.opened then
        s.modSession c.session (fun x => { x with baseline := some c.seq, storedOp := c.opcode, stored := payload })
      else s
    if r.closing then s.closeSession c.session 1 else s

/-- Checks 7–10 and the command's own rules (R76, R566). -/
def CmdSpec.execute (k : CmdSpec) (c : Cmd) (s : State) : Result :=
  if k.ownChecks then k.body c s
  else if k.absent s c.items then refuse .deniedVariant s
  else if c.role < max k.role (k.roleOf c.items) then refuse .deniedRole s
  else if c.session = 0 ∧ s.nv.pin.isSome ∧ !pinExempt c.opcode then refuse .deniedRole s
  else if k.locked s c.items then refuse .deniedLock s
  else match k.naming s c with
  | some st => refuse st s
  | none =>
    if s.rst.recovery && !recoveryOpcode c.opcode then refuse .notReady s
    else if k.maintenance && decide (s.power.mode ≠ .maintenance) then refuse .notReady s
    else if k.journals && !s.power.holdReady then refuse .notReady s
    else k.body c s

/-- SESSION_OPEN names a reserved ID (R91). -/
def State.reserved (n : Nat) (s : State) : Bool := decide ((s.session n).state = .reserved)

/-- R82: a command that passes check 4 restarts the idle time of its session. -/
def State.touch (n : Nat) (s : State) : State := s.modSession n (fun x => { x with idleFrom := s.up })

/-- R82: a SESSION_OPEN that opened nothing frees its reserved ID; the nonce is spent. -/
def State.spendNonce (op n : Nat) (s : State) : State :=
  if op = 0x0111 ∧ (s.session n).state = .reserved then s.modSession n (fun _ => {}) else s

/-- The checks after a packet's own structure: session, SEQ, and what follows (R76). -/
def CmdSpec.enter (k : CmdSpec) (p : Packet) (items : List Item) (s : State) : State :=
  let pass := if p.opcode = 0x0111 then s.reserved p.session else s.sessionOpen p.session
  if !pass then s.refusePacket p .noSession
  else
    let x := s.session p.session
    let s := s.touch p.session
    match x.checkSeq p.seq with
    | .error => s.refusePacket p .seqError
    | .repeated => s.putReply 5 x.storedOp p.seq p.session x.stored .none
    | .execute =>
      let c : Cmd := { opcode := p.opcode, seq := p.seq, session := p.session
                       role := if p.opcode = 0x0111 then 0 else x.role, keyId := x.keyId, items := items }
      (State.finish c (k.execute c s)).spendNonce p.opcode p.session

/-- The row of a host command: it takes the packet at the head of Q00 when the interpreter runs, the
CRC is right and the packet is this row's (R77); otherwise it is not the part's next step and nothing
changes (log entry 1). -/
def CmdSpec.run (k : CmdSpec) (s : State) : State :=
  match (s.queue 0).entries with
  | [] => s
  | e :: _ =>
    let p := parsePacket e.data
    if !s.hostRdy || s.executing.isSome || !p.crcOk || p.opcode != k.opcode then s
    else match parseItems p.payload with
    | none =>
      if !k.selects [] then s
      else
        let s := s.modQueue 0 (Queue.pop 16)
        if p.version ≠ 1 then s.refusePacket p .badVersion
        else if p.flags ≠ 0 then s.refusePacket p .badParam
        else s.refusePacket p .badLength
    | some items =>
      if !k.selects items then s
      else
        let s := s.modQueue 0 (Queue.pop 16)
        if p.version ≠ 1 then s.refusePacket p .badVersion
        else if p.flags ≠ 0 then s.refusePacket p .badParam
        else if !k.shape items then s.refuseItems p .badLength (k.badShape items)
        else k.enter p items s

/-- The units of the opcode directory (R12, R87). -/
def directoryUnits : List Nat :=
  [0x00, 0x01, 0x02, 0x03, 0x04, 0x10, 0x11, 0x12, 0x13, 0x20, 0x21, 0x22, 0x23, 0x24, 0x25, 0x30, 0x31, 0x32,
   0x40, 0x41, 0x42, 0x43, 0x48, 0x50, 0x51, 0x60, 0x61, 0x62, 0x63, 0x70, 0x71, 0x72]

/-- The unit-specific opcodes (R89). -/
def directoryOpcodes : List Nat :=
  [0x0010, 0x0011, 0x0012, 0x0013, 0x0110, 0x0111, 0x0112, 0x0113, 0x0114, 0x0115, 0x0116, 0x0210, 0x0211, 0x0310,
   0x0311, 0x0410, 0x0411, 0x0412] ++
  [0x1010, 0x1110, 0x1111, 0x1112, 0x1210, 0x1211, 0x1310, 0x1311, 0x1312, 0x1313, 0x1314, 0x1315, 0x2010, 0x2011,
   0x2012, 0x2013, 0x2014, 0x2015, 0x2110, 0x2210, 0x2310, 0x2311, 0x2312, 0x2313, 0x2410, 0x2411, 0x2510, 0x2511, 0x2512] ++
  [0x3010, 0x3011, 0x3012, 0x3013, 0x3110, 0x3210, 0x3211, 0x3212, 0x3213, 0x4010, 0x4110, 0x4210, 0x4310, 0x4810,
   0x4811, 0x5010, 0x5110, 0x5111, 0x5112, 0x5113, 0x6010, 0x6110, 0x6111, 0x6112, 0x6113, 0x6210, 0x6310, 0x6311,
   0x7010, 0x7011, 0x7110, 0x7210]

/-- Check 6 (R87): the opcode is defined. -/
def opcodeDefined (op : Nat) : Bool :=
  directoryOpcodes.contains op || (directoryUnits.contains (op / 256) && within 1 4 (op % 256))

end Sys2Proof.Machine
end

