-- ==== Sys2Proof/Machine/Resets.lean ====
section
/-! DEFINITION. The device and power-on reset, the warm-start bundle, and the host-port reset. -/
namespace Sys2Proof.Machine

/-- R67: the code of a mode. -/
def Mode.code : Mode → Nat
  | .backup => 0 | .sleep => 1 | .watch => 2 | .standby => 3 | .timing => 4 | .runWorker => 5 | .runManager => 6
  | .maintenance => 7

/-- The mode of a code (R67). -/
def modeOf (n : Nat) : Mode :=
  match n with
  | 1 => .sleep | 2 => .watch | 3 => .standby | 4 => .timing | 5 => .runWorker | 6 => .runManager | 7 => .maintenance
  | _ => .backup

/-- Sleep, Watch or Standby. -/
def Mode.low : Mode → Bool
  | .sleep | .watch | .standby => true
  | _ => false

/-- Run-Worker or Run-Manager. -/
def Mode.run : Mode → Bool
  | .runWorker | .runManager => true
  | _ => false

/-- Timing, the run modes or Maintenance: the port serves every command (R68, R69). -/
def Mode.serves : Mode → Bool
  | .timing | .runWorker | .runManager | .maintenance => true
  | _ => false

/-- R486: the ring holds the last 65,536 records. -/
def ringPut (l : List LogRecord) (ring : List LogRecord) : List LogRecord :=
  (ring ++ l).drop ((ring ++ l).length - 65536)

/-- R487: a record's NV write: it enters the ring, or has failed twice and leaves a gap. -/
def State.putLog (ok : Bool) (r : LogRecord) (s : State) : State :=
  if ok then ({ s with nv := { s.nv with log := { s.nv.log with records := ringPut [r] s.nv.log.records } } }).bump 0x61 3
  else { (s.bump 0x61 2) with steward := { s.steward with gaps := addGap r.seq 1 s.steward.gaps } }

/-- The records of the log queue go to the NV ring (R476, R487, R518 step 3). -/
def State.flushQueueLog (s : State) : State :=
  let l := s.steward.logQueue
  l.foldl (fun s r => s.readBack.2.putLog s.readBack.1 r) { s with steward := { s.steward with logQueue := [] } }

/-- R487: a gap marker takes the next SEQ and is itself logged; LOG_GAP occurs. -/
def State.gapMarker (g : Nat × Nat × Nat) (s : State) : State :=
  ((s.log 0x61 0x7F (le 4 g.1 ++ le 4 g.2.1 ++ le 1 g.2.2)).bump 0x61 4).occur 116 g.2.2 (le 4 g.1 ++ le 4 g.2.1)

/-- Every gap marker that is due. -/
def State.gapMarkers (s : State) : State :=
  s.steward.gaps.foldl (fun s g => s.gapMarker g) { s with steward := { s.steward with gaps := [] } }

/-- Step 3 of R518 without a supply-sag record: the log queue, then the gap markers due. -/
def State.flushLog (s : State) : State := s.flushQueueLog.gapMarkers.flushQueueLog

/-- A record committed on the way to a reset: its value is in force from the next start-up (R501). A write that fails its
verification is counted and logged (R476). -/
def State.commitLate (r : JournalRecord) (s : State) : State :=
  let x := s.readBack
  if x.1 then { x.2.appendRecord r with nv := { (x.2.appendRecord r).nv with late := s.nv.late ++ [r] } } else x.2.nvFault

/-- The append that waits for its CRC write is committed (R518 step 2). -/
def State.flushAppend (s : State) : State :=
  match s.steward.append with
  | some (r, _) => ({ s with steward := { s.steward with append := none } }).commitLate r
  | none => s

/-- R487, R41: the SEQ after the last record in NV. -/
def EventLog.next (l : EventLog) : Nat := match l.records.getLast? with | some r => wrap32 (r.seq + 1) | none => 0

/-- R495: the image slot of a target: 0 Trowel-H, 1 Trowel-S. -/
def imageIndex (target slot : Nat) : Nat := 2 * target + slot

/-- R496: the trial reverts: TRIAL clears and the slot is marked rejected. -/
def Nv.revertTrial (x : Nv) : Nv :=
  match x.boot.trial with
  | none => x
  | some (target, slot) =>
    { x with
      boot := { x.boot with trial := none, reverted := some (target, slot) }
      images := modAt (imageIndex target slot) (fun g => { g with rejected := true }) x.images }

/-- R496, R34: the boot record of a revert, which the journal takes once HOLD_READY lets it (log entry 112). -/
def Nv.revertRecord (x : Nv) : List DeviceRecord :=
  match x.boot.trial with | none => [] | some (target, slot) => [{ kind := 12, id := 0x6112, new := le 1 target ++ le 1 slot }]

/-- R496: the trial reverts. -/
def State.revertTrial (s : State) : State :=
  { s with nv := s.nv.revertTrial, steward := { s.steward with asked := s.steward.asked ++ s.nv.revertRecord } }

/-- R519: the bundle written with steps 4–6 of R518. SAVE_US and SAVE_UJ are measured, so free. A write that fails its verification
leaves MAGIC cleared (R476, R518). -/
def State.writeBundle (cause jtail logrec : Nat) (s : State) : State :=
  let b := s.formBundle
  let x := s.draw.draw.readBack
  let t := { x.2 with nv := { s.nv with bundle := { b with
      valid := x.1, gen := wrap32 (s.nv.bundle.gen + 1), cause := cause, jtail := jtail, logrec := logrec
      saveUs := Config.freeNat s.freeTick % 65536, saveUj := Config.freeNat (s.freeTick + 1) % 65536 } } }
  if x.1 then t else t.nvFault

/-- R517: the Steward takes every entry of Q30 within 10 µs, so its journal tail holds the records asked for there too. -/
def Steward.taken (x : Steward) : List DeviceRecord := x.asked ++ x.own

/-- The device's own record of a request (R164, R265, R271, R496, R498). -/
def State.askedRecord (r : DeviceRecord) (s : State) : JournalRecord := s.journalRecord r.kind 0 0 r.id [] r.new

/-- R518 step 2, R519: the first `k` of the records that the device has asked for are committed; none without HOLD_READY (R34). -/
def State.commitAsked (k : Nat) (s : State) : State :=
  if !s.power.holdReady then s
  else (s.steward.taken.take k).foldl (fun s r => s.commitLate (s.askedRecord r)) { s with steward := { s.steward with asked := s.steward.taken.drop k, own := [] } }

/-- R517: records of the journal tail, an append in progress among them. -/
def State.tailLength (s : State) : Nat := b01 s.steward.append.isSome + s.steward.taken.length

/-- R519: before a device reset the Steward starts, it commits what it has received, writes its log
queue and then the bundle with CAUSE 2. -/
def State.bundleBeforeReset (s : State) : State :=
  let j := s.tailLength
  let l := s.steward.logQueue.length + s.steward.gaps.length
  ((s.flushAppend.commitAsked s.steward.taken.length).flushLog).writeBundle 2 j l

/-- R496: the causes that revert a running trial: the watchdogs, a trap, and the expiry of its timer. -/
def revertingCause (cause : Nat) : Bool := within 4 6 cause || cause == 0x0F

/-- R496: a reset of this cause reverts the trial that runs. -/
def State.reverts (cause : Nat) (s : State) : Bool := s.steward.trialRunning && revertingCause cause

/-- What the NV array holds once a reset has begun: an append without its CRC is torn (R482), and the log goes on after its last
record (R487); log records a stopped save left undone are covered by a gap marker whose COUNT is not known (R518). -/
def State.nvAfterReset (cause : Nat) (s : State) : Nv :=
  let nv := if s.reverts cause then s.nv.revertTrial else s.nv
  { nv with
    boot := { nv.boot with boots := wrap32 (nv.boot.boots + 1) }
    journal := { nv.journal with torn := s.steward.append.isSome }
    log := { nv.log with nextSeq := nv.log.next } }

/-- R525, R526, R533: a device or power-on reset begins. Everything is at its reset value but the NV
array, the RTC, the balls and supplies, and what the reset reports. A reset inside a reset restarts
the boot; the cause first recorded stands unless the new one is POWER_ON. -/
def State.startReset (cause : Nat) (s : State) : State :=
  let old := s.rst.inReset && decide (s.rst.cause ≠ 0)
  let c := if old && decide (cause ≠ 1) then s.rst.cause else cause
  let nv := s.nvAfterReset cause
  { State.reset with
    part := s.part
    pending := s.pending
    freeTick := s.freeTick + 2
    queues := State.queuesReset (s.committed 0x0103) (s.committed 0x2501)
    nv := nv
    steward := {
      gaps := if s.power.save.stopped then
        [(nv.log.nextSeq, Config.freeNat s.freeTick % 2 ^ 32, Config.freeNat (s.freeTick + 1) % 256)] else []
      asked := (if s.reverts cause then s.nv.revertRecord else []) ++ s.steward.testRecord }
    gpio := { ext := s.gpio.ext }
    rtc := s.rtc
    power := { vhold := s.power.vhold, vddIo33 := s.power.vddIo33 }
    rst := { cause := c
             prevMode := if c = 1 then 0 else if old then s.rst.prevMode else if s.power.save.began ≠ 0 then s.power.save.mode.code else s.power.mode.code
             resetRtc := if old then s.rst.resetRtc else s.utcSec
             por := s.rst.por
             thermalHold := s.rst.thermalHold || decide (cause = 0x0C) } }

/-- A device reset the Steward starts, after the bundle (R519, R525). -/
def State.stewardReset (cause : Nat) (s : State) : State := (s.endTestAccess.bundleBeforeReset).startReset cause

/-- R479: the sessions opened with a revoked key close. -/
def State.closeKeySessions (keyId : Nat) : Nat → State → State
  | 0, s => s
  | n + 1, s =>
    let s := State.closeKeySessions keyId n s
    if n ≠ 0 ∧ s.sessionOpen n ∧ (s.session n).keyId = keyId then s.closeSession n 6 else s

/-- What the consumption of a reply sets going. -/
def State.replyConsumed (t : ReplyTag) (s : State) : State :=
  match t with
  | .none => s
  | .deviceReset c => s.stewardReset c
  | .lanes v => { s with port := { s.port with lanes := v } }
  | .keyRevoked k => s.closeKeySessions k 16
  | .powerEnter => { s with power := { s.power with entry := s.power.entry.map (fun e => { e with replyConsumed := true }) } }

/-- Consume the head of Q01: its credit returns to the host at once (R80), then what waits on it. -/
def State.consumeReply (s : State) : State :=
  match (s.queue 1).entries with
  | [] => s
  | e :: _ =>
    let s := s.modQueue 1 (Queue.pop 16)
    let s := if e.credit then s.modQueue 0 Queue.creditReturn else s
    s.replyConsumed e.tag

/-- R95: a host-port reset begins; HOST_RDY is low until it is done. -/
def State.startHostReset (code : Nat) (s : State) : State :=
  { s with port := { s.port with resetting := true, resetCode := code } }

/-- R99: a host-port reset on one input queue: every outstanding credit is reclaimed and one is
issued per free cell; stored entries carry none. -/
def Queue.hostReset (depth : Nat) (q : Queue) : Queue :=
  { (q.reclaimAll.issue (depth - q.entries.length)) with entries := q.entries.map (fun e => { e with credit := false }) }

/-- R99, over Q(8 + k) for k below `n`. -/
def State.resetInputs : Nat → State → State
  | 0, s => s
  | n + 1, s =>
    let s := State.resetInputs n s
    let k := 8 + n
    if s.inputQueue k then
      let c := (s.queue k).outstanding
      (s.modQueue k (Queue.hostReset (queueDepth k))).reclaimEvent k c 0 0xFF
    else s

/-- R95 step 2: sessions 1–15 close (ACTION 5 in the log for the open ones). -/
def State.closeAll : Nat → State → State
  | 0, s => s
  | n + 1, s =>
    let s := State.closeAll n s
    if n = 0 then s.modSession 0 (fun x => { x with baseline := none, stored := [] })
    else if s.sessionOpen n then s.closeSession n 5
    else s.modSession n (fun _ => {})

/-- R95 step 3: ownership of slots 8–31 is cleared. -/
def State.disownSlots (s : State) : State := { s with slots := s.slots.map (fun y => { y with owner := none }) }

/-- Replies dropped by a host-port reset count as consumed (R95): the tags they carried, in order. -/
def replyTags (l : List QEntry) : List ReplyTag := (l.map QEntry.tag).filter (· ≠ .none)

/-- The work of a host-port reset (R95 steps 1–6), up to its end: HOST_RDY may rise again and EV009
occurs (R564). -/
def State.hostReset (s : State) : State :=
  let n0 := (s.queue 0).entries.length
  let n1 := (s.queue 1).entries.length
  let n2 := (s.queue 2).entries.length
  let closed := ((List.range 16).filter (fun n => n ≠ 0 && s.sessionOpen n)).length
  let tags := replyTags (s.queue 1).entries
  let code := s.port.resetCode
  let c0 := (s.queue 0).outstanding
  let s := ((s.modQueue 0 (Queue.dropAll 16)).modQueue 1 (Queue.dropAll 16)).modQueue 2 (Queue.dropAll 128)
  let s := s.modQueue 0 (fun q => q.reclaimAll.issue (s.committed 0x0103))
  let s := { s with
    port := { s.port with resetting := false, lanes := 1, irqMask := 3, portErr := false, framing := 0, resetSeen := true,
                          hostResets := wrap32 (s.port.hostResets + 1), epoch := s.port.epoch + 1, resetLatched := false } }
  let s := s.disownSlots.closeAll 16
  let s := (((s.occurDrops 0 n0).occurDrops 1 n1).occurDrops 2 n2).reclaimEvent 0 c0 0 0xFF
  let s := s.resetInputs 8
  let s := s.occur 9 code (le 2 n0 ++ le 2 n1 ++ le 2 n2 ++ le 1 closed)
  tags.foldl (fun s t => match t with | .lanes _ => s | t => s.replyConsumed t) s

end Sys2Proof.Machine
end

