-- ==== Sys2Proof/Machine/Host.lean ====
section
/-! DEFINITION. The host port's transactions, its resets, the System and Hawk commands, and sessions. -/
namespace Sys2Proof.Machine

/-! The port (R62–R70) -/

/-- A row whose effect is a next state. -/
abbrev Step := Host.Outcome State Fault Refusal

/-- The port acts on transactions (R69, R95). -/
def State.portServes (s : State) : Bool := s.power.mode.serves && !s.port.resetting

/-- R64: queues the host may write. -/
def State.hostMayWrite (n : Nat) (s : State) : Bool :=
  decide (n = 0) || s.inputQueue n || within 24 27 n || decide (n = 6) || decide (n = 7) || decide (n = 31)

/-- R64: queues the host may read. -/
def State.hostMayRead (n : Nat) (s : State) : Bool :=
  within 1 5 n || (within 8 15 n && s.hostqOutput n) || within 24 27 n || decide (n = 6) || decide (n = 7) || decide (n = 31)

/-- R63, R65, R564: FRAMING counts, PORT_ERR is set and EV008 occurs. -/
def State.framingError (s : State) : State :=
  let f := wrap32 (s.port.framing + 1)
  ({ s with port := { s.port with framing := f, portErr := true } }).occur 8 0 (le 4 f)

/-- R65: a packet discarded at the port: a drop of Q00 and a framing error. -/
def State.discardPacket (s : State) : State := ((s.modQueue 0 Queue.reject).dropEvents 0).framingError

/-- R65: the packets of one write transaction to Q00, in order. -/
def storePackets : Nat → Bytes → State → State
  | 0, _, s => s
  | fuel + 1, b, s =>
    if b.isEmpty then s else
    let size := 12 + fieldAt 6 2 b % 4096
    if b.headD 0 ≠ 0x5A ∨ b.length < 8 ∨ b.length < size then s.discardPacket
    else
      let s := if s.creditsHeld = 0 then s.discardPacket else s.offer 0 { data := b.take size, credit := true }
      storePackets fuel (b.drop size) s

/-- WRITE_QUEUE (R64, R65). -/
def State.writeQueue (n : Nat) (data : Bytes) (s : State) : State :=
  if !s.portServes then s
  else if n = 0 then storePackets data.length data s
  else if data.isEmpty then s
  else if s.hostMayWrite n then s.offerAny n data
  else (s.modQueue n Queue.reject).dropEvents n

/-- WRITE_QUEUE (R65). -/
def execWriteQueue (n : Fin 32) (data : Bytes) (s : State) : Step := .next (s.writeQueue n.val data)

/-- What a READ_QUEUE of queue `n` drives: the entry's length and its bytes (R66). -/
def State.readStream (n : Nat) (s : State) : Bytes :=
  match s.hostMayRead n, (s.queue n).entries with
  | true, e :: _ => le 2 e.data.length ++ e.data
  | _, _ => le 2 0

/-- READ_QUEUE (R66): the entry is consumed once its last byte has been clocked out; bytes beyond
its end read 0. `clocked` counts the bytes clocked after the dummy cycles. -/
def State.readQueue (n clocked : Nat) (s : State) : State :=
  if !s.portServes then s
  else
    let str := s.readStream n
    let s' := { s with port := { s.port with hostOut := padTo clocked str } }
    if str.length > 2 ∧ clocked ≥ str.length then
      if n = 1 then s'.consumeReply else s'.consume n
    else s'

/-- READ_QUEUE (R66). -/
def execReadQueue (n : Fin 32) (clocked : Nat) (s : State) : Step := .next (s.readQueue n.val clocked)

/-- R67: the port status word. -/
def State.statusWord (s : State) : Nat :=
  let q1 := (s.queue 1).entries.length
  let q2 := (s.queue 2).entries.length
  min q1 255 * 2 ^ 24 + min q2 255 * 2 ^ 16 + min s.creditsHeld 15 * 2 ^ 12 + b01 s.power.holdReady * 2 ^ 11 +
  b01 (q2 != 0) * 2 ^ 10 + b01 (q1 != 0) * 2 ^ 9 + b01 s.port.portErr * 2 ^ 8 + s.power.mode.code * 2 ^ 5 +
  b01 s.port.resetSeen * 2 ^ 4

/-- R68: HOST_IRQ_N is driven low; during a host-port reset it is not driven (R45, R95). -/
def State.hostIrqLow (s : State) : Bool :=
  !s.port.resetting && (((s.queue 1).entries.length != 0 && bit 0 s.port.irqMask) || ((s.queue 2).entries.length != 0 && bit 1 s.port.irqMask))

/-- READ_STATUS (R67); in Sleep and Watch it is ignored and what is read is not state (R69, R70). -/
def State.readStatus (s : State) : State :=
  if s.port.resetting then s
  else if s.power.mode.serves || decide (s.power.mode = .standby) then
    { s with port := { s.port with hostOut := le 4 s.statusWord } }
  else s

/-- READ_STATUS (R67). -/
def execReadStatus (s : State) : Step := .next s.readStatus

/-- Latch a wake source in the always-on domain (R510, R511). -/
def State.latchWake (code : Nat) (s : State) : State :=
  { s with power := { s.power with wakeLatched := Nat.lor s.power.wakeLatched (2 ^ code)
                                   entry := s.power.entry.map (fun e => { e with wakeSeen := true }) } }

/-- A low-power mode or an entry to one is on, so wake sources are taken (R510). -/
def State.wakeable (s : State) : Bool := s.power.mode.low || s.power.entry.isSome

/-- R94: the address byte that wakes: as in force at the entry. -/
def State.wakeAddress (s : State) : Nat := if s.power.mode.low then s.port.wakeAddr else s.committed 0x0102

/-- ADDRESS (R69, R70): a matching frame is a wake source; elsewhere it is ignored. -/
def State.addressFrame (a : Byte) (s : State) : State :=
  if s.wakeable ∧ !s.port.resetting ∧ s.wakeAddress ≠ 0 ∧ a.toNat = s.wakeAddress then s.latchWake 0 else s

/-- ADDRESS (R69). -/
def execAddress (a : Byte) (s : State) : Step := .next (s.addressFrame a)

/-- PORT_RESET (R63, R95): the exact sequence. -/
def State.portResetCommand (s : State) : State := if s.portServes then s.startHostReset 1 else s

/-- PORT_RESET (R63). -/
def execPortReset (s : State) : Step := .next s.portResetCommand

/-- The port commands of R63. -/
inductive PortCommand where
  | writeQueue (n : Nat)
  | readQueue (n : Nat)
  | readStatus
  | address
  | portReset
deriving DecidableEq, Repr

/-- R63: the port command of a first byte. -/
def portCommand (c : Nat) : Option PortCommand :=
  if within 0x20 0x3F c then some (.writeQueue (c - 0x20))
  else if within 0x40 0x5F c then some (.readQueue (c - 0x40))
  else if c = 0x80 then some .readStatus
  else if c = 0xA0 then some .address
  else if c = 0xE5 then some .portReset
  else none

/-- R62: the SPI mode of a transaction, from the level of SCLK at the falling edge of CS_N. -/
def spiMode (sclkHigh : Bool) : Nat := if sclkHigh then 3 else 0

/-- R62: a byte on IO3..IO0, cycle by cycle; with one lane the host drives IO0 and the device IO1. -/
def laneCycles (lanes : Nat) (fromHost : Bool) (b : Nat) : List Nat :=
  match lanes with
  | 4 => [b / 16 % 16, b % 16]
  | 2 => [b / 64 % 4, b / 16 % 4, b / 4 % 4, b % 4]
  | _ => (List.range 8).map (fun k => (if fromHost then 1 else 2) * (b / 2 ^ (7 - k) % 2))

/-- R62: the byte that the levels of IO3..IO0 spell, cycle by cycle. -/
def laneByte (lanes : Nat) (fromHost : Bool) (l : List Nat) : Nat :=
  match lanes with
  | 4 => l.foldl (fun v c => v * 16 + c % 16) 0
  | 2 => l.foldl (fun v c => v * 4 + c % 4) 0
  | _ => l.foldl (fun v c => v * 2 + (if fromHost then c else c / 2) % 2) 0

/-- R62, R63: a transaction on the lanes: the port command byte on IO0 alone, the dummy cycles of a read, and its data. -/
def transactionCycles (lanes cmd : Nat) (data : List Nat) : List Nat :=
  match portCommand cmd with
  | some (.readQueue _) | some .readStatus => laneCycles 1 true cmd ++ List.replicate 8 0 ++ data.flatMap (laneCycles lanes false)
  | _ => laneCycles 1 true cmd ++ data.flatMap (laneCycles lanes true)

/-- R62: the bytes that the levels of the lanes spell; cycles short of a byte spell none. -/
def laneBytes (lanes : Nat) : Nat → List Nat → Bytes
  | 0, _ => []
  | n + 1, l =>
    let k := 8 / lanes
    if l.length < k then [] else BitVec.ofNat 8 (laneByte lanes true (l.take k)) :: laneBytes lanes n (l.drop k)

/-- R62: the cycles in which the port drives what it was asked for, after the dummy cycles. -/
def State.driveCycles (s : State) : List Nat := s.port.hostOut.flatMap (fun b => laneCycles s.port.lanes false b.toNat)

/-- R63: the bytes after a command byte make it no port command: another first byte, or 0xE5 without its exact sequence. -/
def unknownTransaction (c lanes cycles : Nat) (b : Bytes) : Bool :=
  match portCommand c with
  | none => true
  | some .portReset => cycles * lanes != 24 || b != [0x1A, 0xE5, 0x1A]
  | some _ => false

/-- R62, R63: a transaction as the port takes it: the command byte on IO0 alone, then the bytes on HP_LANES lanes. In mode 0 and in mode 3
the levels are those at the rising edges of SCLK, so the mode changes nothing here. -/
def State.rawTransaction (x : PortCycles) (s : State) : State :=
  let l := x.cycles.map (·.toNat)
  if l.length < 8 then s
  else
    let c := laneByte 1 true (l.take 8)
    let d := l.drop 8
    let b := laneBytes s.port.lanes d.length d
    if unknownTransaction c s.port.lanes d.length b then (if s.portServes then s.framingError else s)
    else match portCommand c with
    | some (.writeQueue n) => s.writeQueue n b
    | some (.readQueue n) => s.readQueue n ((d.length - 8) * s.port.lanes / 8)
    | some .readStatus => s.readStatus
    | some .address => match b with | a :: _ => s.addressFrame a | [] => s
    | some .portReset => s.portResetCommand
    | none => s

/-- UNKNOWN_PORT_COMMAND (R62, R63): a transaction by its cycles. One that is no port command is ignored, FRAMING counts and PORT_ERR is
set; the others are what their own rows are (log entry 135). -/
def execUnknownPortCommand (raw : PortCycles) (s : State) : Step := .next (s.rawTransaction raw)

/-- R546: a low pulse of at least `full` ns acts, one of at most `never` ns does not, and between them
which of the two happens is free. -/
def pulseActs (full never lowNs tick : Nat) : Bool :=
  if full ≤ lowNs then true else if lowNs ≤ never then false else Config.freeBit tick

/-- R546: a pulse between the two limits draws a free value. -/
def pulseDraws (full never lowNs : Nat) : Bool := decide (never < lowNs) && decide (lowNs < full)

/-- HP_RST_N asserted (R51, R95): a host-port reset, latched in a low-power mode, ignored while a
device or power-on reset is in progress. -/
def State.hostResetPin (s : State) : State :=
  if s.rst.inReset then s
  else if s.power.mode.low then { s with port := { s.port with resetLatched := true } }
  else if s.power.mode.serves ∧ !s.port.resetting then s.startHostReset 0
  else s

/-- HP_RST_N held low for `lowNs` (R95, R546). -/
def State.hpRstN (lowNs : Nat) (s : State) : State :=
  let t := s.freeTick
  let s := if pulseDraws 1000 100 lowNs then s.draw else s
  if pulseActs 1000 100 lowNs t then s.hostResetPin else s

/-- HP_RST_N (R95). -/
def execHpRstN (lowNs : Nat) (s : State) : Step := .next (s.hpRstN lowNs)

/-- HOST_PORT_RESET_DONE (R95): not this part's next step unless a host-port reset runs. -/
def State.hostPortResetDone (s : State) : State := if s.port.resetting then s.hostReset else s

/-- HOST_PORT_RESET_DONE (R95). -/
def execHostPortResetDone (s : State) : Step := .next s.hostPortResetDone

/-! System and Hawk commands -/

/-- R90 SLOTS. -/
def State.slotsByte (s : State) : Nat :=
  b01 (s.steward.runningH != 0) + 2 * b01 (s.steward.runningS != 0) + 4 * b01 s.nv.boot.trial.isSome

/-- The tier letter (R1). -/
def Tier.letter : Tier → Nat | .a => 0x41 | .b => 0x42 | .c => 0x43
/-- The radio letter (R1). -/
def Part.radioLetter (p : Part) : Nat := if p.radio then 0x57 else 0x4E
/-- The package letter (R1). -/
def Package.letter : Package → Nat | .g => 0x47 | .h => 0x48

/-- R90: the reply item of IDENTITY_GET. -/
def State.identity (role : Nat) (s : State) : Bytes :=
  le 1 s.part.tier.letter ++ le 1 s.part.radioLetter ++ le 1 s.part.package.letter ++ le 1 0xB0 ++
  le 8 Config.serial.toNat ++ le 2 Config.primerVersion.toNat ++ le 4 s.steward.versionH ++ le 4 s.steward.versionS ++
  le 1 s.slotsByte ++ le 1 role

/-- IDENTITY_GET (R90). -/
def identityGet : CmdSpec :=
  { opcode := 0x0010, role := 1, shape := noItems, body := fun c s => reply 0x0010 (s.identity c.role) s }

/-- IDENTITY_GET (R90). -/
def execIdentityGet (s : State) : Step := .next (identityGet.run s)

/-- DEVICE_RESET (R93): the reset starts once the reply is consumed. -/
def deviceResetCommand : CmdSpec :=
  { opcode := 0x0012, role := 2, shape := noItems
    body := fun _ s => { status := .ok, tag := .deviceReset 0x03, state := s } }

/-- DEVICE_RESET (R93). -/
def execDeviceReset (s : State) : Step := .next (deviceResetCommand.run s)

/-- ECHO (R93): the items unchanged; they must fit a reply. -/
def echo : CmdSpec :=
  { opcode := 0x0013, role := 1, shape := fun l => decide ((itemBytes l).length ≤ 4093)
    body := fun c s => { status := .ok, items := c.items, state := s } }

/-- ECHO (R93). -/
def execEcho (s : State) : Step := .next (echo.run s)

/-- R82: the lowest ID of 1–15 that is neither open nor reserved. -/
def State.freeSession (s : State) : Option Nat :=
  ((List.range 15).map (· + 1)).find? (fun n => decide ((s.session n).state = .free))

/-- R81: IDs open or reserved besides session 0. -/
def State.sessionsUsed (s : State) : Nat :=
  (((List.range 15).map (· + 1)).filter (fun n => decide ((s.session n).state ≠ .free))).length

/-- SESSION_CHALLENGE (R82, R91): the nonce comes from the Steward's random source. -/
def sessionChallenge : CmdSpec :=
  { opcode := 0x0110, role := 1, shape := noItems
    body := fun _ s =>
      if s.lockout ∨ 7 ≤ s.sessionsUsed then refuse .busy s
      else match s.freeSession with
      | none => refuse .busy s
      | some n =>
        let nonce := freeBytes 32 s.freeTick
        let s := { s.modSession n (fun _ => { state := .reserved, nonce := nonce }) with freeTick := s.freeTick + 32 }
        reply 0x0110 (le 1 n ++ zeros 1 ++ le 2 10000 ++ nonce) s }

/-- SESSION_CHALLENGE (R82). -/
def execSessionChallenge (s : State) : Step := .next (sessionChallenge.run s)

/-- The key-store entry of a KEY_ID (R477). -/
def State.key (id : Nat) (s : State) : Option Key := s.nv.keys.find? (fun k => k.keyId == id)

/-- R478: a signature under an unrevoked key of the wanted kind verifies. -/
def State.keyVerifies (kind id : Nat) (msg sig : Bytes) (s : State) : Bool :=
  match s.key id with
  | some k => k.kind == kind && !k.revoked && ed25519Verify msg k.pub sig == 0
  | none => false

/-- R478: the Steward's check of a SESSION_OPEN item for a session ID; no other ROLE passes. -/
def State.proofPasses (n : Nat) (item : Bytes) (s : State) : Bool :=
  let proof := slice 8 64 item
  match fieldAt 0 1 item with
  | 1 => match s.nv.pin with
    | some (salt, digest) => allZero (slice 8 56 proof) && sha256 (salt ++ slice 0 8 proof) == digest
    | none => false
  | r => within 2 3 r && s.keyVerifies r (fieldAt 2 2 item) ((s.session n).nonce ++ slice 0 8 item ++ le 1 n) proof

/-- R82, R564: a failed proof counts; the fifth within 60 s starts the lockout. -/
def State.authFailed (n role keyId : Nat) (s : State) : State :=
  let s := (s.bump 0x63 1).logSession 2 n role keyId
  let fails := s.authFails.filter (fun t => decide (s.up < t + 60 * qtSec)) ++ [s.up]
  if fails.length < 5 then { s with authFails := fails }
  else
    (({ s with authFails := [], lockout := true }.bump 0x63 2).logSession 3 n role keyId).occur 11 0
      (le 1 fails.length ++ zeros 1 ++ le 2 60 ++ le 2 keyId)

/-- R82: the request's own fields, in their order. -/
def openFields (c : Cmd) : Option Status :=
  if !within 1 3 (c.u 0 1) then some .badParam
  else if c.u 1 1 ≠ 0 then some .badParam
  else if c.u 0 1 = 1 ∧ c.u 2 2 ≠ 0 then some .badParam
  else if c.u 4 4 < 10 then some .outOfRange
  else none

/-- R82, R478: a proof that passes opens the session; the Steward records it. -/
def State.openSession (n role keyId idle : Nat) (s : State) : State :=
  let s := s.modSession n (fun _ => { state := .opened, role := role, keyId := keyId, idleLimit := idle, idleFrom := s.up })
  let s := { s with steward := { s.steward with sessions := s.steward.sessions ++ [(n, role, keyId)] } }
  (s.bump 0x63 0).logSession 0 n role keyId

/-- SESSION_OPEN (R82, R91, R478). -/
def sessionOpen : CmdSpec :=
  { opcode := 0x0111, role := 0, shape := oneItem 0x0111 72
    body := fun c s =>
      match openFields c with
      | some st => refuse st s
      | none =>
        let role := c.u 0 1
        let key := c.u 2 2
        if s.proofPasses c.session c.value then
          let idle := min (c.u 4 4) (s.param 0x0104)
          { status := .ok, opened := true
            items := [{ id := 0x0111, value := le 1 c.session ++ le 1 role ++ zeros 2 ++ le 4 idle }]
            state := s.mailed.openSession c.session role key idle }
        else { status := .authFail, state := s.mailed.authFailed c.session role key } }

/-- SESSION_OPEN (R82). -/
def execSessionOpen (s : State) : Step := .next (sessionOpen.run s)

/-- SESSION_CLOSE (R91). -/
def sessionClose : CmdSpec :=
  { opcode := 0x0112, role := 1, shape := noItems
    body := fun c s => if c.session = 0 then refuse .badParam s else { status := .ok, closing := true, state := s } }

/-- SESSION_CLOSE (R91). -/
def execSessionClose (s : State) : Step := .next (sessionClose.run s)

/-- R82: whole seconds left before a session's idle limit, a begun second counted whole (DESIGN CHOICE, log entry 135). -/
def Session.idleLeft (now : Nat) (x : Session) : Nat := x.idleLimit - (now - x.idleFrom) / qtSec

/-- R91: the record of one open session. -/
def State.sessionRecord (n : Nat) (s : State) : Bytes :=
  let x := s.session n
  le 1 n ++ le 1 x.role ++ le 2 x.keyId ++ le 4 (if n = 0 then 0xFFFFFFFF else x.idleLeft s.up)

/-- SESSION_LIST (R91). -/
def sessionList : CmdSpec :=
  { opcode := 0x0113, role := 1, shape := noItems
    body := fun _ s =>
      let ids := (List.range 16).filter (fun n => s.sessionOpen n)
      reply 0x0113 (le 1 ids.length ++ zeros 3 ++ ids.flatMap (fun n => s.sessionRecord n)) s }

/-- SESSION_LIST (R91). -/
def execSessionList (s : State) : Step := .next (sessionList.run s)

/-- R92: OWNER of a slot. -/
def Slot.ownerByte (x : Slot) : Nat := x.owner.getD 0xFF

/-- RESULT_READ (R85, R92), in R92's own order of checks. -/
def resultRead : CmdSpec :=
  { opcode := 0x0114, role := 1, shape := oneItem 0x0114 12
    body := fun c s =>
      let n := c.u 0 1
      let x := s.slot n
      let off := c.u 4 4
      if 31 < n then refuse .outOfRange s
      else if !x.ready then refuse .notReady s
      else if c.u 1 1 ≠ 0 then refuse .badParam s
      else if !within 1 4064 (c.u 2 2) then refuse .outOfRange s
      else if c.u 8 4 ≠ 0 ∧ c.u 8 4 ≠ x.seq then refuse .seqError s
      else if x.data.length ≤ off then refuse .outOfRange s
      else
        let part := slice off (c.u 2 2) x.data
        let last := decide (x.data.length ≤ off + part.length)
        { status := .ok, again := x.delivered
          items := [{ id := 0x0114, value := le 1 n ++ le 1 x.ownerByte ++ zeros 2 ++ le 4 x.seq ++ le 4 x.data.length ++
                                             le 4 off ++ part }]
          state := { s with slots := modAt n (fun x => { x with delivered := x.delivered || last }) s.slots } } }

/-- RESULT_READ (R92). -/
def execResultRead (s : State) : Step := .next (resultRead.run s)

/-- R85, R92: a released slot: READY clears; slots 8–31 return to the free pool. -/
def Slot.release (n : Nat) (x : Slot) : Slot :=
  if 8 ≤ n then { x with ready := false, data := [], allocated := false, owner := none } else { x with ready := false, data := [] }

/-- RESULT_RELEASE (R85, R92). -/
def resultRelease : CmdSpec :=
  { opcode := 0x0115, role := 1, shape := oneItem 0x0115 8
    naming := fun _ c => if 31 < c.u 0 1 then some .outOfRange else none
    body := fun c s =>
      let n := c.u 0 1
      let x := s.slot n
      if x.owner.isSome ∧ x.owner ≠ some c.session then refuse .deniedRole s
      else if !x.ready then refuse .notReady s
      else if c.u 1 3 ≠ 0 then refuse .badParam s
      else if c.u 4 4 ≠ x.seq then refuse .seqError s
      else done { s with slots := modAt n (Slot.release n) s.slots } }

/-- RESULT_RELEASE (R92). -/
def execResultRelease (s : State) : Step := .next (resultRelease.run s)

/-- PORT_STATUS_CLEAR (R67, R93). -/
def portStatusClear : CmdSpec :=
  { opcode := 0x0116, role := 1, shape := oneItem 0x0116 4
    body := fun c s =>
      let m := c.u 0 4
      if !onlyBits 0x110 m then refuse .badParam s
      else done { s with port := { s.port with
        portErr := s.port.portErr && !bit 8 m, resetSeen := s.port.resetSeen && !bit 4 m } } }

/-- PORT_STATUS_CLEAR (R93). -/
def execPortStatusClear (s : State) : Step := .next (portStatusClear.run s)

/-- SESSION_IDLE_CLOSED (R82, R564): the idle time of session `n` reaches its limit. -/
def State.idleClosed (n : Nat) (s : State) : State :=
  let x := s.session n
  if n ≠ 0 ∧ x.state = .opened ∧ !s.power.mode.low then
    (s.closeSession n 4).occur 10 n (le 1 x.role ++ zeros 1 ++ le 2 x.keyId ++ le 4 x.idleLimit)
  else s

/-- SESSION_IDLE_CLOSED (R82). -/
def execSessionIdleClosed (n : Fin 16) (s : State) : Step := .next (s.idleClosed n.val)

/-- NONCE_EXPIRY (R91): an unused reserved ID returns to the free pool. -/
def State.nonceExpired (n : Nat) (s : State) : State := if s.reserved n then s.modSession n (fun _ => {}) else s

/-- NONCE_EXPIRY (R91). -/
def execNonceExpiry (n : Fin 16) (s : State) : Step := .next (s.nonceExpired n.val)

/-- AUTH_LOCKOUT_EXPIRY (R82): SESSION_CHALLENGE is accepted again. -/
def execAuthLockoutExpiry (s : State) : Step := .next { s with lockout := false }

/-- A registered applet opcode (R419). -/
def State.appletOpcode (op : Nat) (s : State) : Bool := s.applet.running && s.applet.table.any (fun e => e.1 == op)

/-- BAD_OPCODE (R76): the packet at the head of Q00 fails its CRC, or names no opcode. -/
def State.badOpcode (s : State) : State :=
  match (s.queue 0).entries with
  | [] => s
  | e :: _ =>
    let p := parsePacket e.data
    if !s.hostRdy || s.executing.isSome then s
    else if !p.crcOk then
      let s := s.modQueue 0 (Queue.pop 16)
      ({ s with port := { s.port with crcFails := wrap32 (s.port.crcFails + 1) } }).refusePacket p .crcFail
    else if opcodeDefined p.opcode || s.appletOpcode p.opcode then s
    else
      let s := s.modQueue 0 (Queue.pop 16)
      if p.version ≠ 1 then s.refusePacket p .badVersion
      else if p.flags ≠ 0 then s.refusePacket p .badParam
      else match parseItems p.payload with
      | none => s.refusePacket p .badLength
      | some _ =>
        if !s.sessionOpen p.session then s.refusePacket p .noSession
        else
          let x := s.session p.session
          let s := s.touch p.session
          match x.checkSeq p.seq with
          | .error => s.refusePacket p .seqError
          | .repeated => s.putReply 5 x.storedOp p.seq p.session x.stored .none
          | .execute => s.refusePacket p .badOpcode

/-- BAD_OPCODE (R76). -/
def execBadOpcode (s : State) : Step := .next s.badOpcode

end Sys2Proof.Machine
end

