-- ==== Sys2Proof/Machine/Queues.lean ====
section
/-! DEFINITION. Commands of the queue unit, the event controller and the GPIO unit, and GPIO edges. -/
namespace Sys2Proof.Machine

/-! Journalled command items -/

/-- NEW of the last command-item record with this opcode and these key bytes (R481 OLD). -/
def oldItem (id : Nat) (key : Bytes) (l : List JournalRecord) : Bytes :=
  match (l.reverse).find? (fun r => r.kind == 1 && r.id == id && r.new.take key.length == key) with
  | some r => r.new
  | none => []

/-- The items of a command as one journal value: the VALUE of a single item, the TLV items of several. -/
def Cmd.journalValue (c : Cmd) : Bytes :=
  match c.items with
  | [i] => i.value
  | l => itemBytes l

/-- Journal the value `v` for a command under KIND 1 (R78, R481), `keyBytes` naming the object it replaces; on
success go on with `f`. -/
def Cmd.journalValueThen (c : Cmd) (ok : Bool) (keyBytes : Nat) (v : Bytes) (s : State) (f : State → Result) : Result :=
  match s.journalAppend ok 1 c.role c.keyId c.opcode (oldItem c.opcode (v.take keyBytes) s.nv.journal.records) v with
  | (.ok, s') => f s'
  | (st, s') => { status := st, state := s' }

/-- Journal a command's items (R78, R481). -/
def Cmd.journalThen (c : Cmd) (ok : Bool) (keyBytes : Nat) (s : State) (f : State → Result) : Result :=
  c.journalValueThen ok keyBytes c.journalValue s f

/-! Queues -/

/-- R101: the reply item of QUEUE_STATUS_GET. -/
def State.queueStatus (n : Nat) (s : State) : Bytes :=
  let q := s.queue n
  le 1 n ++ zeros 1 ++ le 2 (queueDepth n) ++ le 2 (queueCell n) ++ le 2 q.entries.length ++ le 2 q.hwm ++ le 2 q.prodIdx ++
  le 2 q.consIdx ++ zeros 2 ++ le 4 q.produced ++ le 4 q.consumed ++ le 4 q.drops ++ le 4 q.crIssued ++ le 4 q.crReturned ++
  le 4 q.crReclaimed

/-- QUEUE_STATUS_GET (R100, R101). -/
def queueStatusGet : CmdSpec :=
  { opcode := 0x0210, role := 1, shape := oneItem 0x0210 2
    naming := fun _ c => if 31 < c.u 0 1 then some .outOfRange else none
    body := fun c s =>
      let n := c.u 0 1
      if !onlyBits 1 (c.u 1 1) then refuse .badParam s
      else
        let v := s.queueStatus n
        let s := if bit 0 (c.u 1 1) then s.modQueue n (fun q => { q with hwm := q.entries.length }) else s
        reply 0x0210 v s }

/-- QUEUE_STATUS_GET (R101). -/
def execQueueStatusGet (s : State) : Step := .next (queueStatusGet.run s)

/-- R102: queues that are never flushed. -/
def unflushable (n : Nat) : Bool := decide (n ≤ 2) || within 16 23 n || within 28 30 n

/-- QUEUE_FLUSH (R102). -/
def queueFlush : CmdSpec :=
  { opcode := 0x0211, role := 2, shape := oneItem 0x0211 1
    naming := fun _ c => if unflushable (c.u 0 1) then some .badParam else if 31 < c.u 0 1 then some .outOfRange else none
    body := fun c s => done (s.flushQueue (c.u 0 1)) }

/-- QUEUE_FLUSH (R102). -/
def execQueueFlush (s : State) : Step := .next (queueFlush.run s)

/-! Events -/

/-- R113: EV_CFG as written; [7:5] and [2] belong to the Steward. -/
def mergeCfg (old new : Nat) : Nat := Nat.lor (Nat.land old 0x00E4) (Nat.land new 0xFF1B)

/-- Set EV_CFG of one source; opening the host route of a set STAT posts one packet (R111). -/
def State.setEvCfg (n cfg : Nat) (s : State) : State :=
  let was := (s.event n).toHost
  let s := s.modEvent n (fun e => { e with cfg := mergeCfg e.cfg cfg })
  let e := s.event n
  if e.stat && e.toHost && !was then s.postEvent n else s

/-- Set EV_CFG of `k` sources from `n`, in ascending order (R112). -/
def State.setEvCfgs (cfg : Nat) : Nat → Nat → State → State
  | 0, _, s => s
  | k + 1, n, s => State.setEvCfgs cfg k (n + 1) (s.setEvCfg n cfg)

/-- The journalled EV_CFG of a range of sources. -/
def commitEvCfg (first count cfg : Nat) (t : Table Nat) : Table Nat :=
  (List.range count).foldl (fun t k => Table.insert (first + k) cfg t) t

/-- EVENT_ROUTE_SET (R113). -/
def eventRouteSet (ok : Bool) : CmdSpec :=
  { opcode := 0x0310, role := 2, shape := oneItem 0x0310 4, journals := true
    naming := fun _ c => if 127 < c.u 0 1 ∨ c.u 1 1 < c.u 0 1 ∨ 127 < c.u 1 1 then some .outOfRange else none
    body := fun c s =>
      let first := c.u 0 1
      let count := c.u 1 1 + 1 - first
      c.journalThen ok 2 s (fun s =>
        let cf := { s.nv.config with evCfg := commitEvCfg first count (c.u 2 2) s.nv.config.evCfg }
        done ({ s with nv := { s.nv with config := cf } }.setEvCfgs (c.u 2 2) count first)) }

/-- EVENT_ROUTE_SET (R113). -/
def execEventRouteSet (nvOk : Bool) (s : State) : Step := .next ((eventRouteSet nvOk).run s)

/-- R113: clear the STAT bits named by four 32-bit masks. -/
def clearMasked (v : Bytes) (n : Nat) (e : EventSource) : EventSource :=
  if bit (n % 32) (fieldAt (4 * (n / 32)) 4 v) then { e with stat := false } else e

/-- EVENT_CLEAR (R113). -/
def eventClear : CmdSpec :=
  { opcode := 0x0311, role := 1, shape := oneItem 0x0311 16
    body := fun c s => done { s with events := s.events.mapIdx (clearMasked c.value) } }

/-- EVENT_CLEAR (R113). -/
def execEventClear (s : State) : Step := .next (eventClear.run s)

/-! GPIO -/

/-- R4, R54: the GPIOs the package bonds. -/
def State.gpioBonded (s : State) : Nat := if s.part.package = .g then 0xFFFFFFFF else 0x0000FFFF

/-- R55: the item of GPIO_READ and of STATUS_GET; LEVEL is the synchronised level at the balls, before GPIO_FILTER. -/
def State.gpioItem (s : State) : Bytes :=
  let m := s.gpioBonded
  le 4 (Nat.land s.gpio.raw m) ++ le 4 (Nat.land s.gpio.out m) ++ le 4 (Nat.land (s.param 0x4800) m)

/-- Bits of `old` replaced by `new` under `mask`. -/
def maskWrite (old new mask : Nat) : Nat := Nat.lor (Nat.land old (0xFFFFFFFF - mask)) (Nat.land new mask)

/-- R55: what a GPIO write of `mask` is refused with. -/
def State.gpioRefusal (mask : Nat) (s : State) : Option Status :=
  if mask = 0 ∨ Nat.land mask (s.param 0x4800) ≠ mask then some .badParam else none

/-- R54, R56: an enabled edge of GPIO `n` between two levels: 0 rising, 1 falling. -/
def enabledEdge (rise fall old new n : Nat) : Option Nat :=
  if !bit n old && bit n new && bit n rise then some 0
  else if bit n old && !bit n new && bit n fall then some 1
  else none

/-- R56: EDGES of GPIO `n` counts: the edges that GPIO_RISE and GPIO_FALL enable (DESIGN CHOICE, log entry 107). -/
def State.countEdge (n : Nat) (s : State) : State :=
  { s with gpio := { s.gpio with edges := modAt n (fun c => wrap32 (c + 1)) s.gpio.edges } }

/-- R56: the edges of one source in one clock are that many occurrences; CODE is the lowest GPIO. -/
def State.edgeOccurrences (ev code edge level : Nat) : List Nat → State → State
  | [], s => s
  | n :: r, s =>
    State.edgeOccurrences ev code edge level r ((s.countEdge n).occur ev code (le 1 edge ++ zeros 1 ++ le 4 level))

/-- The edges among GPIO `base` to `base + 15`. -/
def State.edgesOf (base old new : Nat) (s : State) : List Nat :=
  ((List.range 16).map (· + base)).filter
    (fun n => bit n s.gpioBonded && (enabledEdge (s.param 0x4803) (s.param 0x4804) old new n).isSome)

/-- The occurrences of one GPIO source. EDGE is that of the lowest GPIO, whose number CODE is, in each of them (DESIGN CHOICE, log
entry 107). -/
def State.edgeSource (ev base old new : Nat) (s : State) : State :=
  match s.edgesOf base old new with
  | [] => s
  | n :: r =>
    s.edgeOccurrences ev n ((enabledEdge (s.param 0x4803) (s.param 0x4804) old new n).getD 0) new (n :: r)

/-- R511: a GPIO edge that wakes: an input whose wake bit is set, in the direction PWR_WAKE_EDGE names. -/
def State.gpioWakes (old new : Nat) (s : State) : Bool :=
  (List.range 32).any (fun n =>
    bit n s.gpioBonded && bit n (s.committed 0x7002) && !bit n (s.param 0x4800) &&
    (if bit n (s.committed 0x7003) then !bit n old && bit n new else bit n old && !bit n new))

/-- R54: the GPIOs whose balls the part drives: outputs, and of those with GPIO_OD the ones at low. -/
def State.gpioDriven (s : State) : Nat :=
  Nat.land (s.param 0x4800) (0xFFFFFFFF - Nat.land (s.param 0x4801) s.gpio.out)

/-- R54, R55: the level at every ball. -/
def State.gpioBalls (s : State) : Nat := Nat.land (maskWrite s.gpio.ext s.gpio.out s.gpioDriven) s.gpioBonded

/-- R54: the levels that count once the balls have the levels `g.raw`. -/
def Gpio.counted (now : Nat) (g : Gpio) : Nat :=
  (List.range 32).foldl (fun v n => v + 2 ^ n * b01 (if g.due.getD n 0 ≤ now then bit n g.raw else bit n g.level)) 0

/-- R54: each ball whose level has changed counts GPIO_FILTER later. -/
def Gpio.sample (new filter now : Nat) (g : Gpio) : Gpio :=
  let g := { g with raw := new, due := g.due.mapIdx (fun n t => if bit n g.raw == bit n new then t else now + filter * qtUs) }
  { g with level := g.counted now }

/-- The unit samples the balls (R56, R502, R516). -/
def State.gpioRuns (s : State) : Bool := s.rst.configured && !s.power.mode.low && s.power.save.began == 0

/-- R54, R56: the unit samples the balls, and the levels that newly count are edges, an output's own among them. DETAIL's LEVEL is the
level after GPIO_FILTER (DESIGN CHOICE, log entry 135). -/
def State.gpioSense (s : State) : State :=
  if s.gpioRuns then
    let old := s.gpio.level
    let s := { s with gpio := s.gpio.sample s.gpioBalls (s.param 0x4805) s.up }
    (s.edgeSource 108 0 old s.gpio.level).edgeSource 109 16 old s.gpio.level
  else s

/-- R54, R55, R512, R529: the unit takes its configuration and drives `out`; the first levels it samples are no edges (DESIGN CHOICE,
log entry 107). -/
def State.gpioStart (out : Nat) (s : State) : State :=
  let s := { s with rst := { s.rst with configured := true }, gpio := { s.gpio with out := out, held := false } }
  { s with gpio := { s.gpio with raw := s.gpioBalls, level := s.gpioBalls, due := List.replicate 32 0 } }

/-- R55: the selected outputs change together. -/
def State.gpioSet (value mask : Nat) (s : State) : State :=
  { s with gpio := { s.gpio with out := maskWrite s.gpio.out value mask } }.gpioSense

/-- GPIO_EDGE (R54, R56, R511): the circuits outside give the balls the levels `new`, or still give them when GPIO_FILTER has passed. -/
def State.gpioEdge (new : Nat) (s : State) : State :=
  let old := s.gpio.ext
  let s := { s with gpio := { s.gpio with ext := new } }
  (if s.wakeable && s.gpioWakes old new then s.latchWake 5 else s).gpioSense

/-- GPIO_EDGE (R56). -/
def execGpioEdge (level : BitVec 32) (s : State) : Step := .next (s.gpioEdge level.toNat)

/-- GPIO_WRITE (R55). -/
def gpioWrite : CmdSpec :=
  { opcode := 0x4810, role := 1, shape := oneItem 0x4810 8
    absent := fun s l => match l with | i :: _ => !onlyBits s.gpioBonded (fieldAt 4 4 i.value) | [] => false
    body := fun c s => match s.gpioRefusal (c.u 4 4) with
      | some st => refuse st s
      | none => done (s.gpioSet (c.u 0 4) (c.u 4 4)) }

/-- GPIO_WRITE (R55). -/
def execGpioWrite (s : State) : Step := .next (gpioWrite.run s)

/-- GPIO_READ (R55). -/
def gpioRead : CmdSpec :=
  { opcode := 0x4811, role := 1, shape := noItems, body := fun _ s => reply 0x4811 s.gpioItem s }

/-- GPIO_READ (R55). -/
def execGpioRead (s : State) : Step := .next (gpioRead.run s)

end Sys2Proof.Machine
end

