-- ==== Sys2Proof/Machine/Calendar.lean ====
section
/-! DEFINITION. The Gregorian calendar of the RTC (R461). -/
namespace Sys2Proof.Machine

/-- A local date and time. -/
structure Calendar where
  year : Nat
  month : Nat
  day : Nat
  hour : Nat
  minute : Nat
  second : Nat
  weekday : Nat
deriving DecidableEq, Repr

/-- R461: 400 Gregorian years, 20,871 weeks. -/
def calendarSpan : Nat := 146097 * 86400

/-- Days from 2000-01-01 to a date, counting years from 1 March. -/
def daysFrom (y m d : Nat) : Nat :=
  let yy := if m ≤ 2 then y - 1 else y
  let mp := if m ≤ 2 then m + 9 else m - 3
  yy / 400 * 146097 + (yy % 400) * 365 + (yy % 400) / 4 - (yy % 400) / 100 + (153 * mp + 2) / 5 + (d - 1) - 730425

/-- The date of a day count from 2000-01-01: year, month, day. -/
def dateOf (days : Nat) : Nat × Nat × Nat :=
  let z := days + 730425
  let e := z % 146097
  let yoe := (e - e / 1460 + e / 36524 - e / 146096) / 365
  let doy := e - (365 * yoe + yoe / 4 - yoe / 100)
  let mp := (5 * doy + 2) / 153
  let m := if mp < 10 then mp + 3 else mp - 9
  (z / 146097 * 400 + yoe + (if m ≤ 2 then 1 else 0), m, doy - (153 * mp + 2) / 5 + 1)

/-- The calendar of a count of local seconds (R461): weekday 0 is Sunday, and 2000-01-01 is a Saturday. -/
def calendarOf (t : Nat) : Calendar :=
  let days := t / 86400
  let d := dateOf days
  { year := d.1, month := d.2.1, day := d.2.2, hour := t % 86400 / 3600, minute := t % 3600 / 60, second := t % 60
    weekday := (days + 6) % 7 }

/-- Local seconds of a date and time. -/
def secondsOf (y mo d h mi s : Nat) : Nat := daysFrom y mo d * 86400 + h * 3600 + mi * 60 + s

/-- R461: leap years. -/
def leapYear (y : Nat) : Bool := (y % 4 == 0 && y % 100 != 0) || y % 400 == 0

/-- Days of a month. -/
def monthDays (y m : Nat) : Nat :=
  if m = 2 then (if leapYear y then 29 else 28) else if m = 4 ∨ m = 6 ∨ m = 9 ∨ m = 11 then 30 else 31

/-- The most days a month ever has (R468). -/
def monthDaysMax (m : Nat) : Nat := if m = 2 then 29 else if m = 4 ∨ m = 6 ∨ m = 9 ∨ m = 11 then 30 else 31

/-- R473: a local date and time in an event's DETAIL. -/
def calendarDetail (t : Nat) : Bytes :=
  let c := calendarOf t
  le 2 c.year ++ le 1 c.month ++ le 1 c.day ++ le 1 c.hour ++ le 1 c.minute ++ le 1 c.second ++ zeros 1

end Sys2Proof.Machine
end

