-- ==== Sys2Proof/Machine/Rtc.lean ====
section
/-! DEFINITION. The real-time clock: its supply, its seconds, its alarms, its discipline and its commands. -/
namespace Sys2Proof.Machine

/-! Supply (R458–R460) -/

/-- R458: the RTC domain's source for supply levels in mV. -/
def rtcOnVbat (was : Bool) (vdd vbat : Nat) : Bool :=
  if was then !(decide (vbat + 100 < vdd) && decide (2800 < vdd))
  else !(decide (vbat + 50 < vdd) && decide (2700 < vdd))

/-- RTC_SUPPLY_SWITCH (R458, R473): the levels compared are the row's. -/
def State.rtcSupplySwitch (vdd vbat : Nat) (s : State) : State :=
  let on := rtcOnVbat s.rtc.onVbat vdd vbat
  let s1 := { s with rtc := { s.rtc with onVbat := on } }
  if on && !s.rtc.onVbat && decide (s.power.mode ≠ .backup) then s1.bump 0x51 6 else s1

/-- RTC_SUPPLY_SWITCH (R458). -/
def execRtcSupplySwitch (vddMv vbatMv : Nat) (s : State) : Step := .next (s.rtcSupplySwitch vddMv vbatMv)

/-- BROWN_OUT (R459): the domain's supply has fallen to `lowest` mV; between 1.50 V and 1.60 V the
latch's outcome is free. -/
def State.brownOut (lowest : Nat) (s : State) : State :=
  if lowest ≤ 1500 then { s with rtc := { s.rtc with brownOut := true } }
  else if lowest < 1600 then
    { s.draw with rtc := { s.rtc with brownOut := s.rtc.brownOut || Config.freeBit s.freeTick } }
  else s

/-- BROWN_OUT (R459). -/
def execBrownOut (lowestMv : Nat) (s : State) : Step := .next (s.brownOut lowestMv)

/-- LAST_RAISED of both alarms returns to "never" (R467). -/
def resetRaised (l : List Alarm) : List Alarm := l.map (fun a => { a with lastRaised := none })

/-- R460: Primer's check of the latch; the log record of its item 5 is of kind 0x09 (R486). -/
def State.brownOutCheck (s : State) : State :=
  if s.rtc.brownOut then
    ({ s with rtc := { s.rtc with
        localSec := 0, valid := false, borSeen := true, pendingZone := none, hold := false
        zoneMin := s.nv.config.zoneMin, dst := s.nv.config.dst, alarms := s.nv.config.alarms } }).logFree 0x51 0x09
  else { s with rtc := { s.rtc with borSeen := false } }

/-! Alarms (R467–R469) -/

/-- R467: every field MATCH selects equals the local calendar. -/
def Alarm.matches (t : Nat) (a : Alarm) : Bool :=
  let c := calendarOf t
  (!bit 0 a.mask || a.second == c.second) && (!bit 1 a.mask || a.minute == c.minute) &&
  (!bit 2 a.mask || a.hour == c.hour) && (!bit 3 a.mask || a.day == c.day) &&
  (!bit 4 a.mask || a.month == c.month) && (!bit 5 a.mask || a.weekday == c.weekday)

/-- R467: a match that is raised. -/
def Alarm.raises (t : Nat) (a : Alarm) : Bool :=
  a.enabled && a.matches t && (match a.lastRaised with | none => true | some l => decide (l < t))

/-- Alarm `k`. -/
def State.alarm (k : Nat) (s : State) : Alarm := s.rtc.alarms.getD k {}

/-- Replace alarm `k` by a function of it. -/
def State.modAlarm (k : Nat) (f : Alarm → Alarm) (s : State) : State :=
  { s with rtc := { s.rtc with alarms := modAt k f s.rtc.alarms } }

/-- R469: an alarm that is raised at local time `t`, by the mode in force. -/
def State.raiseAlarm (k t : Nat) (s : State) : State :=
  let wakes := (s.alarm k).wake && s.wakeable
  let s := s.modAlarm k (fun a => { a with lastRaised := some t })
  let s := if wakes then s.latchWake (1 + k) else s
  if s.power.ready && s.power.mode.serves then (s.bump 0x51 k).occur (112 + k) 0 (calendarDetail t)
  else s.modAlarm k (fun a => { a with latched := a.latched + 1, latchedTime := t })

/-- R466 step 4: one alarm is evaluated at local time `t`. -/
def State.evalAlarm (t k : Nat) (s : State) : State := if (s.alarm k).raises t then s.raiseAlarm k t else s

/-- R466 step 4: both alarms are evaluated. -/
def State.evalAlarms (t : Nat) (s : State) : State := (s.evalAlarm t 0).evalAlarm t 1

/-- R469: latched matches become one occurrence per alarm once HOST_RDY has risen. -/
def State.reportAlarm (k : Nat) (s : State) : State :=
  let a := s.alarm k
  if a.latched = 0 then s
  else ((s.modAlarm k (fun a => { a with latched := 0 })).bump 0x51 k).occur (112 + k) (min a.latched 255)
    (calendarDetail a.latchedTime)

/-- R469, for both alarms. -/
def State.reportAlarms (s : State) : State := (s.reportAlarm 0).reportAlarm 1

/-! The second boundary (R461, R464, R466) -/

/-- VALID clears (R460, R467). -/
def State.clearValid (s : State) : State := { s with rtc := { s.rtc with valid := false, alarms := resetRaised s.rtc.alarms } }

/-- R461: the calendar advances one second, or holds for an inserted leap second (R463). -/
def State.rtcAdvance (s : State) : State :=
  if s.rtc.hold then { s with rtc := { s.rtc with hold := false } }
  else if s.rtc.localSec + 1 < calendarSpan then { s with rtc := { s.rtc with localSec := s.rtc.localSec + 1 } }
  else ({ s with rtc := { s.rtc with localSec := 0 } }).clearValid

/-- R464: local time under another offset, within the calendar's range. -/
def shiftLocal (t : Nat) (d : Int) : Nat := (((t : Int) + d) % (calendarSpan : Int)).toNat

/-- R464: ZONE_MIN and DST take new values and local time moves by the difference. -/
def State.setZone (zone : Int) (dst : Nat) (s : State) : State :=
  let d := (zone - s.rtc.zoneMin) * 60 + 3600 * ((dst : Int) - (s.rtc.dst : Int))
  { s with rtc := { s.rtc with zoneMin := zone, dst := dst, localSec := shiftLocal s.rtc.localSec d } }

/-- R466 step 2: a pending zone, DST or SUMMER_TIME change is applied. -/
def State.applyZone (s : State) : State :=
  match s.rtc.pendingZone with
  | none => s
  | some (z, d, summer) =>
    let s := { s.setZone z d with rtc := { (s.setZone z d).rtc with pendingZone := none } }
    if summer then s.bump 0x51 5 else s

/-- RTC_SECOND (R466). -/
def State.rtcSecond (s : State) : State :=
  let s := s.rtcAdvance.applyZone
  s.evalAlarms s.rtc.localSec

/-- RTC_SECOND (R466). -/
def execRtcSecond (s : State) : Step := .next s.rtcSecond

/-! Discipline (R185, R463, R470) -/

/-- R470: DISCIPLINED. -/
def State.disciplined (s : State) : Bool := s.plumb.state == 2 || s.plumb.state == 3

/-- Alarms of the `n` seconds after `t`, in order. -/
def State.evalSpan : Nat → Nat → State → State
  | 0, _, s => s
  | n + 1, t, s => State.evalSpan n (t + 1) (s.evalAlarms (t + 1))

/-- R185: the local time of UTC second `utc`. -/
def State.localOf (utc : Int) (s : State) : Int := utc + s.rtc.zoneMin * 60 + 3600 * (s.rtc.dst : Int)

/-- R185: a correction to local second `target`, of 1 s or less or outright; `leap` allows the two seconds of a deletion. `sub` is
the RTC's phase in cycles of 1/32,768 s. -/
def State.correct (target sub : Nat) (leap : Bool) (s : State) : State :=
  let old := s.rtc.localSec
  let near := decide (target ≤ old + (if leap then 2 else 1)) && decide (old * 32768 + sub ≤ (target + 1) * 32768)
  let s1 := { s with rtc := { s.rtc with localSec := target, hold := false } }
  if s.rtc.valid && near then
    if target = old ∧ sub = 0 then s1
    else (s1.bump 0x51 3).evalSpan (target - old) old
  else
    let s2 := { s1 with rtc := { s1.rtc with valid := true, brownOut := false, alarms := resetRaised s1.rtc.alarms } }
    (s2.bump 0x51 4).evalAlarms target

/-- R185, R463: the discipline at the tick of QT second `k`. The inserted leap second is the QT second
that ends at LEAP_AT: at its begin the calendar holds. A boundary of the RTC that the tick reaches
first passes here, with its pending change (R466). -/
def State.discipline (k sub : Nat) (s : State) : State :=
  if !s.disciplined then s
  else
    let inLeap := decide (s.plumb.leap = 1) && decide (k + 1 = s.plumb.leapAt)
    let utc := (k : Int) - s.plumb.utcOffset - (if inLeap then 1 else 0)
    let behind := decide ((s.rtc.localSec : Int) < s.localOf utc)
    let s := if behind && s.rtc.pendingZone.isSome then s.rtcAdvance.applyZone else s
    let target := s.localOf utc
    let s := s.correct (target % (calendarSpan : Int)).toNat sub (decide (s.plumb.leap = 2) && decide (k = s.plumb.leapAt))
    { s with rtc := { s.rtc with hold := decide (s.plumb.leap = 1) && decide (k + 2 = s.plumb.leapAt) } }

/-! Commands -/

/-- R471: FLAGS of an RTC_SET. -/
def rtcFlags (l : List Item) : Nat := match l with | [i] => fieldAt 7 1 i.value | _ => 1

/-- R471: RTC_SET with SET_ZONE alone is the other row. -/
def zoneOnly (l : List Item) : Bool := oneItem 0x5110 12 l && rtcFlags l == 2

/-- R471: what the fields in use are refused for, in layout order (R566). -/
def rtcSetTests (c : Cmd) : List (Bool × Status) :=
  let f := c.u 7 1
  let time := bit 0 f
  let zone := bit 1 f
  let y := c.u 0 2
  let mo := c.u 2 1
  [ (time && !within 2000 2399 y, .outOfRange), (time && !within 1 12 mo, .outOfRange),
    (time && !within 1 31 (c.u 3 1), .outOfRange), (time && decide (monthDays y mo < c.u 3 1), .invalidDate),
    (time && decide (23 < c.u 4 1), .outOfRange), (time && decide (59 < c.u 5 1), .outOfRange),
    (time && decide (59 < c.u 6 1), .outOfRange), (!onlyBits 3 f || f == 0, .badParam),
    (zone && !(decide (-720 ≤ c.i 8 2) && decide (c.i 8 2 ≤ 840) && decide (c.i 8 2 % 15 = 0)), .outOfRange),
    (zone && decide (1 < c.u 10 1), .badParam), (c.u 11 1 != 0, .badParam) ]

/-- R471: the zone that commits, in the journal's net effect (R460). -/
def State.journalZone (z : Int) (d : Nat) (s : State) : State :=
  { s with nv := { s.nv with config := { s.nv.config with zoneMin := z, dst := d } } }

/-- R471: a SET_TIME that has committed. -/
def State.setTime (c : Cmd) (s : State) : State :=
  let s := if bit 1 (c.u 7 1) then
      let s1 := s.journalZone (c.i 8 2) (c.u 10 1)
      { s1 with rtc := { s1.rtc with zoneMin := c.i 8 2, dst := c.u 10 1, pendingZone := none } }
    else s
  let t := secondsOf (c.u 0 2) (c.u 2 1) (c.u 3 1) (c.u 4 1) (c.u 5 1) (c.u 6 1)
  ({ s with rtc := { s.rtc with
      localSec := t, valid := true, brownOut := false, hold := false, alarms := resetRaised s.rtc.alarms } }).bump 0x51 2

/-- RTC_SET with SET_TIME, and every RTC_SET that is refused before its FLAGS say which (R470, R471). -/
def rtcSetTime (ok : Bool) : CmdSpec :=
  { opcode := 0x5110, role := 2, shape := oneItem 0x5110 12, selects := fun l => !zoneOnly l, journals := true
    body := fun c s =>
      guarded ((bit 0 (c.u 7 1) && s.disciplined, .busy) :: rtcSetTests c) s
        (c.journalThen ok 0 s (fun s => done (s.setTime c))) }

/-- RTC_SET_TIME (R471). -/
def execRtcSetTime (nvOk : Bool) (s : State) : Step := .next ((rtcSetTime nvOk).run s)

/-- RTC_SET with SET_ZONE alone (R464, R471). -/
def rtcSetZone (ok : Bool) : CmdSpec :=
  { opcode := 0x5110, role := 2, shape := oneItem 0x5110 12, selects := zoneOnly, journals := true
    body := fun c s =>
      guarded (rtcSetTests c) s (c.journalThen ok 0 s (fun s =>
        let s1 := s.journalZone (c.i 8 2) (c.u 10 1)
        done (({ s1 with rtc := { s1.rtc with pendingZone := some (c.i 8 2, c.u 10 1, false) } }).bump 0x51 2))) }

/-- RTC_SET_ZONE (R471). -/
def execRtcSetZone (nvOk : Bool) (s : State) : Step := .next ((rtcSetZone nvOk).run s)

/-- R472: FLAGS of RTC_GET. -/
def State.rtcFlagByte (s : State) : Nat :=
  b01 s.rtc.valid + 2 * s.rtc.dst + 4 * b01 s.rtc.onVbat + 8 * b01 s.disciplined + 16 * b01 s.rtc.borSeen +
  32 * b01 s.rtc.pendingZone.isSome

/-- R472: the RTC_GET item at a sub-second count of the crystal. -/
def State.rtcItem (subsec : Nat) (s : State) : Bytes :=
  let c := calendarOf s.rtc.localSec
  le 2 c.year ++ le 1 c.month ++ le 1 c.day ++ le 1 c.hour ++ le 1 c.minute ++ le 1 c.second ++ le 1 c.weekday ++
  le 2 subsec ++ leInt 2 s.rtc.zoneMin ++ le 1 s.rtcFlagByte ++ zeros 3 ++ leInt 4 s.utcNow

/-- RTC_GET (R472). -/
def rtcGet (subsec : Nat) : CmdSpec :=
  { opcode := 0x5111, role := 1, shape := noItems, body := fun _ s => reply 0x5111 (s.rtcItem subsec) s }

/-- RTC_GET (R472). -/
def execRtcGet (subsec : Fin 32768) (s : State) : Step := .next ((rtcGet subsec.val).run s)

/-- R468: what an alarm's selected fields are refused for, in layout order. -/
def alarmTests (c : Cmd) : List (Bool × Status) :=
  let m := c.u 2 1
  [ (!onlyBits 3 (c.u 1 1), .badParam), (!onlyBits 63 m, .badParam),
    (bit 0 m && decide (59 < c.u 3 1), .outOfRange), (bit 1 m && decide (59 < c.u 4 1), .outOfRange),
    (bit 2 m && decide (23 < c.u 5 1), .outOfRange), (bit 3 m && !within 1 31 (c.u 6 1), .outOfRange),
    (bit 3 m && bit 4 m && within 1 12 (c.u 7 1) && decide (monthDaysMax (c.u 7 1) < c.u 6 1), .invalidDate),
    (bit 4 m && !within 1 12 (c.u 7 1), .outOfRange), (bit 5 m && decide (6 < c.u 8 1), .outOfRange),
    (c.u 9 3 != 0, .badParam) ]

/-- R468: an alarm's configuration. -/
def alarmOf (c : Cmd) (a : Alarm) : Alarm :=
  { a with
    enabled := bit 0 (c.u 1 1), wake := bit 1 (c.u 1 1), mask := c.u 2 1, second := c.u 3 1, minute := c.u 4 1
    hour := c.u 5 1, day := c.u 6 1, month := c.u 7 1, weekday := c.u 8 1, lastRaised := none }

/-- ALARM_SET (R468). -/
def alarmSet (ok : Bool) : CmdSpec :=
  { opcode := 0x5112, role := 1, shape := oneItem 0x5112 12, journals := true
    naming := fun _ c => if 1 < c.u 0 1 then some .outOfRange else none
    body := fun c s =>
      guarded (alarmTests c) s (c.journalThen ok 1 s (fun s =>
        let cf := { s.nv.config with alarms := modAt (c.u 0 1) (fun _ => alarmOf c {}) s.nv.config.alarms }
        done ({ s with nv := { s.nv with config := cf } }.modAlarm (c.u 0 1) (alarmOf c)))) }

/-- ALARM_SET (R468). -/
def execAlarmSet (nvOk : Bool) (s : State) : Step := .next ((alarmSet nvOk).run s)

/-- SUMMER_TIME (R465). -/
def summerTime (ok : Bool) : CmdSpec :=
  { opcode := 0x5113, role := 1, shape := oneItem 0x5113 1, journals := true
    body := fun c s =>
      let fwd := decide (c.u 0 1 = 1)
      guarded [ (s.rtc.pendingZone.isSome, .busy), (!within 1 2 (c.u 0 1), .badParam),
          (fwd && s.rtc.dst == 1, .badParam), (!fwd && s.rtc.dst == 0, .badParam),
          (fwd && decide (calendarSpan ≤ s.rtc.localSec + 3600), .outOfRange),
          (!fwd && decide (s.rtc.localSec < 3600), .outOfRange) ] s
        (c.journalThen ok 0 s (fun s =>
          let d := if fwd then 1 else 0
          let s1 := s.journalZone s.nv.config.zoneMin d
          done { s1 with rtc := { s1.rtc with pendingZone := some (s1.rtc.zoneMin, d, true) } })) }

/-- SUMMER_TIME (R465). -/
def execSummerTime (nvOk : Bool) (s : State) : Step := .next ((summerTime nvOk).run s)

end Sys2Proof.Machine
end

