-- ==== Sys2Proof/Machine/Plumb.lean ====
section
/-! DEFINITION. Plumb: the local scale, time states, steps, holdover, pulses, marks and their commands. -/
namespace Sys2Proof.Machine

/-! The local scale (R24, R170) -/

/-- R170, R172, R180: the correction of the scale's increment, 10⁻¹²: −REF_FREQ and the slew. -/
def State.scaleRate (s : State) : Int :=
  (if s.plumb.state = 0 ∨ s.plumb.state = 7 then 0 else -s.plumb.refFreq) + s.plumb.slewNow

/-- R170: the span of fabric clocks in which the scale moves by `d`. -/
def State.fabricSpan (d : Nat) (s : State) : Nat := ((d : Int) * 1000000000000 / (1000000000000 + s.scaleRate)).toNat

/-- Time passes up to an instant of the local scale; an instant already passed changes nothing. -/
def State.advance (t : Nat) (s : State) : State :=
  { s with qt := max s.qt t, up := s.up + s.fabricSpan (t - s.qt) }

/-- MEAS_PERIOD in QT units (R25). -/
def State.mtPeriod (s : State) : Nat := s.param 0x1200 * qtMs

/-- QT units of a frame (R24). -/
def qtFrame : Nat := 10 * qtMs

/-- The scale is set to a new reading: tick instants up to it are not raised, later ones are (R181). Airtime bins keep their
place (log entry 28). -/
def State.rescale (t : Nat) (s : State) : State :=
  { s with
    qt := t
    plumb := { s.plumb with
      codeIdx := t / qtMs, mtIdx := t / s.mtPeriod, frameIdx := t / qtFrame, secIdx := t / qtSec
      pulses := s.plumb.pulses.map (fun p => { p with last := t }) }
    radio := { s.radio with lastB := none, minute := t / (60 * qtSec) } }

/-- The instant a pending step applies at, if it has one. -/
def State.stepInstant (s : State) : Option Nat := s.plumb.step.bind (fun p => p.applyAt.map (· * qtSec))

/-- R32: the modes with frame ticks. -/
def Mode.frames : Mode → Bool
  | .runWorker | .runManager | .maintenance => true
  | _ => false

/-- The frame whose tick comes next. -/
def State.nextFrameTick (s : State) : Nat := max (s.plumb.frameIdx + 1) ((s.qt + qtFrame - 1) / qtFrame)

/-- R26: ticks of one instant come in the order second (0), frame (1), measurement (2), code (3): a tick of an earlier kind
at `t` is still to come. -/
def State.tickBefore (kind t : Nat) (s : State) : Bool :=
  (decide (0 < kind) && decide (t = (s.plumb.secIdx + 1) * qtSec)) ||
  (decide (1 < kind) && s.power.mode.frames && decide (t = s.nextFrameTick * qtFrame)) ||
  (decide (2 < kind) && decide (t = (s.plumb.mtIdx + 1) * s.mtPeriod))

/-- A tick of Plumb of a kind at instant `t` comes about (R24, R26, R32): the mode has it, no step applies at it (R181), and
those of the instant that come before it have been raised. -/
def State.tickRuns (kind t : Nat) (s : State) : Bool :=
  s.power.mode.serves && !decide (s.stepInstant = some t) && !s.tickBefore kind t

/-! Time states (R172, R173) -/

/-- R197: DETAIL of EV060. -/
def timeStateDetail (old source : Nat) (b : Option Nat) : Bytes :=
  le 1 old ++ le 1 source ++ le 4 (min (b.getD 0xFFFFFFFF) 0xFFFFFFFF)

/-- TIME_STATE (R173, R197): Plumb changes state. -/
def State.setTimeState (n : Nat) (s : State) : State :=
  let old := s.plumb.state
  if n = old then s
  else
    let s := { s with plumb := { s.plumb with
      state := n
      recoverFrom := if n = 4 then old else s.plumb.recoverFrom
      slewAll := if n = 4 then s.plumb.slewAll else false
      slewing := if n = 4 then s.plumb.slewing else false
      slewNow := if within 2 4 n then s.plumb.slewNow else 0 } }
    s.occur 60 n (timeStateDetail old s.plumb.source s.plumb.errBound)

/-- |x| as a natural number. -/
def absNat (x : Int) : Nat := x.natAbs

/-- R173: |OFFSET| is above LOCK_THRESH. -/
def State.offsetHigh (o : Int) (s : State) : Bool := decide (s.param 0x1306 * 65536 < absNat o * 10)

/-- R180: |OFFSET| is above STEP_LIMIT. -/
def State.beyondStep (o : Int) (s : State) : Bool := decide (s.param 0x1303 * 65536 < absNat o)

/-- R173: LOCKED or LOCKED_CELL, as the source goes. -/
def lockedState (source : Nat) : Nat := if source = 1 then 2 else 3

/-! Steps (R174, R180) -/

/-- R197: DETAIL of EV061. -/
def stepDetail (o : Int) (at_ policy : Nat) : Bytes := leInt 8 o ++ le 4 at_ ++ le 1 policy

/-- The first QT second boundary at least 50 ms from now (R180). -/
def State.stepBoundary (s : State) : Nat := (s.qt + 50 * qtMs + qtSec - 1) / qtSec

/-- R180: a step is decided under STEP_POLICY; policy 2 slews. -/
def State.decideStep (o : Int) (s : State) : State :=
  let policy := s.param 0x1302
  if policy = 2 then { s with plumb := { s.plumb with slewing := true } }
  else
    let id := (s.plumb.stepIds + 1) % 65536
    let apply := if policy = 0 then some s.stepBoundary else none
    let s := { s with plumb := { s.plumb with
      stepIds := s.plumb.stepIds + 1, slewing := false
      step := some { id := id, policy := policy, offset := o, applyAt := apply, deadline := s.up + s.param 0x1305 * qtSec } } }
    s.occur 61 id (stepDetail o (apply.getD 0) policy)

/-- R174: before the first output stream, a step at the next second boundary, with no STEP_PENDING. -/
def State.quietStep (o : Int) (s : State) : State :=
  let id := (s.plumb.stepIds + 1) % 65536
  { s with plumb := { s.plumb with
      stepIds := s.plumb.stepIds + 1
      step := some { id := id, policy := 3, offset := o, applyAt := some (s.qt / qtSec + 1) } } }

/-- R180: a pending step that no longer stands is withdrawn; a cell hears of it until its instant (R389). -/
def State.withdrawStep (p : PendingStep) (o : Int) (s : State) : State :=
  let gone := p.applyAt.map (fun k => (p.id, -s.plumb.offset, k))
  let s := { s with plumb := { s.plumb with step := none }, cell := { s.cell with withdrawn := gone } }
  if p.policy = 3 then s else (s.bump 0x13 2).occur 61 p.id (stepDetail o (p.applyAt.getD 0) 2)

/-- R180: the pending step against the offset found; a step the manager announced stands (R389). -/
def State.reviewStep (o : Int) (s : State) : State :=
  match s.plumb.step with
  | none => s
  | some p =>
    if p.delta.isSome then s
    else if p.policy = 3 then (if s.offsetHigh o then s else s.withdrawStep p o)
    else if !s.beyondStep o || decide (s.param 0x1303 * 65536 < absNat (o - p.offset)) then s.withdrawStep p o
    else s

/-- R389: a worker on a cell source finds an offset above STEP_LIMIT that no STEP item announced. -/
def State.unannouncedStep (o : Int) (s : State) : State :=
  let id := (s.plumb.stepIds + 1) % 65536
  let s := (s.bump 0x32 17)
  let s := { s with plumb := { s.plumb with
    stepIds := s.plumb.stepIds + 1, slewing := false
    step := some { id := id, policy := 0, offset := o, applyAt := some s.stepBoundary } } }
  s.occur 61 id (stepDetail o s.stepBoundary 0)

/-- R180, R174: what an offset above its threshold sets going where no step is pending. -/
def State.handleOffset (o : Int) (s : State) : State :=
  if s.plumb.step.isSome then { s with plumb := { s.plumb with slewing := false } }
  else if !s.plumb.streamed && s.offsetHigh o then s.quietStep o
  else if s.plumb.state ≠ 4 then s
  else if !s.beyondStep o || s.plumb.slewAll then { s with plumb := { s.plumb with slewing := true } }
  else if within 2 4 s.plumb.source then s.unannouncedStep o
  else s.decideStep o

/-- R173: LOCKED or LOCKED_CELL loses its offset or changes its source; RECOVERING that is done. -/
def State.settle (s : State) : State :=
  let p := s.plumb
  if (p.state = 2 ∨ p.state = 3) ∧ s.offsetHigh p.offset then s.setTimeState 4
  else if p.state = 4 ∧ !s.offsetHigh p.offset ∧ p.step.isNone then s.setTimeState (lockedState p.source)
  else s

/-! Solutions (R171, R173, R178) -/

/-- R175: POS_MODE as the solver works in it; a survey solves in mode 0. -/
def State.posMode (s : State) : Nat := if s.plumb.survey.isSome then 0 else s.param 0x1301

/-- R173: a usable solution. -/
def State.usable (v : Solution) (s : State) : Bool :=
  decide (v.source ≠ 1) || decide (4 ≤ v.svs) || (s.posMode == 1 && decide (1 ≤ v.svs))

/-- R385: the source and the result of a Q18 entry; one flagged GEOMETRY_FAIL is not used (R382). -/
def resultOf (b : Bytes) : Option (Nat × Int × Nat) :=
  if bit 0 (fieldAt 10 1 b) then none
  else some (match fieldAt 8 1 b with | 1 | 2 => 3 | 3 => 2 | _ => 4, signedAt 12 8 b, fieldAt 20 4 b)

/-- R171: Plumb takes the results that Q18 holds. -/
def State.takeResults (s : State) : State :=
  let l := (s.queue 18).entries.filterMap (fun e => resultOf e.data)
  { s with plumb := { s.plumb with
      results := l.foldl (fun t r => Table.insert r.1 r.2 t) s.plumb.results
      cellAt := if l.isEmpty then s.plumb.cellAt else some s.up
      viewAt := if l.any (fun r => r.1 == 2) then some s.up else s.plumb.viewAt } }

/-- R171, R392: a cell result is valid: the manager is not lost and the last result is no older than HOLDOVER_DELAY (DESIGN CHOICE, log entry 110). -/
def State.cellValid (s : State) : Bool := !s.cell.lost && s.plumb.cellAt.any (fun t => decide (s.up ≤ t + s.param 0x1308 * qtMs))

/-- R171: the worker has common view: its last result is as young as `cellValid` asks. -/
def State.viewValid (s : State) : Bool := s.plumb.viewAt.any (fun t => decide (s.up ≤ t + s.param 0x1308 * qtMs))

/-- R171, R198, R393: a cell source that this worker can have: common view, and otherwise the two-way transfer of its link. -/
def State.cellSource (n : Nat) (s : State) : Bool :=
  !s.cell.lost && (n == 2 || (!s.viewValid && (if s.cell.cfg.link = 1 ∨ !s.part.radio then n == 4 else n == 3)))

/-- R13, R171: a source that this part may take time from. -/
def State.sourceAllowed (n : Nat) (s : State) : Bool :=
  if s.power.mode = .runWorker then
    match s.param 0x1300 with
    | 1 => decide (n = 1)
    | 2 => s.cellSource n
    | _ => if n = 1 then !s.cellValid else s.cellSource n
  else decide (n = 1)

/-- R171, R175: the solution as Plumb takes it: CABLE_DELAY (0.01 ns) is taken from an own one; a cell's OFFSET is the result of Q18,
and its bound the manager's and the transfer's own. -/
def State.reading (v : Solution) (s : State) : Solution :=
  if v.source = 1 then { v with offset := v.offset - signed 32 (s.param 0x130D) * 65536 / 100 }
  else
    let r := Table.get (0, 0) v.source s.plumb.results
    { v with offset := r.1, errBound := s.cell.mgrBound + r.2 }

/-- R178: the sequence number of the last set latched. -/
def State.latchedSeq (s : State) : Nat := wrap32 (s.track.setSeq + b01 s.track.latch.isSome)

/-- R178: the solution is of a set that has been published, newer than the last one solved, and not late. -/
def State.inTime (v : Solution) (s : State) : Bool :=
  let age := wrap32 (s.latchedSeq + 2 ^ 32 - v.setSeq)
  decide (b01 s.track.latch.isSome ≤ age) && decide (age < 2) && decide (v.setSeq ≠ s.plumb.solSeq)

/-- R173: the solution qualifies. -/
def State.qualifies (v : Solution) (s : State) : Bool := s.usable v && decide (v.errBound ≤ s.param 0x1306)

/-- The time figures a usable solution brings (R170, R173). -/
def State.takeFigures (v : Solution) (s : State) : State :=
  let n := if s.qualifies v then s.plumb.qualified + 1 else 0
  let same := decide ((s.plumb.qualSource = 1) = (v.source = 1)) && (v.source != 1 || v.setSeq == wrap32 (s.plumb.solSeq + 1))
  { s with plumb := { s.plumb with
      offset := v.offset, usableAt := s.up, qualified := if same then n else min n 1, qualSource := v.source } }

/-- R175, R190: what the solver takes from an own solution, whatever the time source: position and velocity in mode 0, and the systems'
offsets. -/
def State.takePlace (v : Solution) (s : State) : State :=
  let solved := s.posMode ≠ 1 ∧ 4 ≤ v.svs
  if v.source ≠ 1 ∨ !s.usable v then s
  else { s with plumb := { s.plumb with
      sysOffset := v.sysOffset
      position := if solved then some v.pos else s.plumb.position
      velocity := if solved then v.vel else s.plumb.velocity
      sigma := if solved then v.sigma else s.plumb.sigma } }

/-- R196: the frequency term of the loop of DISC_TC: the first qualified solution's own frequency, then towards each solution's with the
time constant (log entry 111). It is frozen in HOLDOVER and HOLDOVER_EXPIRED until the source has qualified (R176). -/
def State.takeFrequency (v : Solution) (s : State) : State :=
  let p := s.plumb
  let tc : Nat := s.param 0x130A * qtSec
  let term : Int := match p.freqAt with
    | some t => p.freqTerm + (v.refFreq * 2 ^ 32 - p.freqTerm) * ((min tc (s.up - t) : Nat) : Int) / ((tc : Nat) : Int)
    | none => v.refFreq * 2 ^ 32
  if p.freqAt.isNone ∧ !s.qualifies v then s
  else { s with plumb := { p with freqTerm := term, freqAt := some s.up, refFreq := (term + 2 ^ 31) / 2 ^ 32 } }

/-- R176: ERR_BOUND is a solution's; b₀ and t restart from a qualified one. -/
def State.takeBound (v : Solution) (s : State) : State :=
  let s := { s with plumb := { s.plumb with errBound := some v.errBound } }
  if s.qualifies v then { s with plumb := { s.plumb with bound0 := v.errBound, qualifiedAt := s.up } } else s

/-- The survey takes an epoch of at least 4 SVs (R175). -/
def State.surveyEpoch (v : Solution) (s : State) : State :=
  match s.plumb.survey with
  | some y =>
    if v.source = 1 ∧ 4 ≤ v.svs then
      { s with plumb := { s.plumb with survey := some { y with
          epochs := y.epochs + 1
          sum := { x := y.sum.x + v.pos.x, y := y.sum.y + v.pos.y, z := y.sum.z + v.pos.z } } } }
    else s
  | none => s

/-- R173: the state a usable solution leads to. -/
def State.solutionState (v : Solution) (s : State) : State :=
  let src := fun (s : State) => { s with plumb := { s.plumb with source := v.source } }
  match s.plumb.state with
  | 1 =>
    let s := if s.qualifies v then ((src s).takeBound v).takeFrequency v else src s
    if 3 ≤ s.plumb.qualified then s.setTimeState (lockedState v.source) else s
  | 2 | 3 =>
    if s.plumb.source = v.source then ((s.takeBound v).takeFrequency v).settle
    else
      let s := ((if s.qualifies v then (src s).takeBound v else src s).takeFrequency v)
      s.setTimeState 4
  | 4 => if s.qualifies v then ((src s).takeBound v).takeFrequency v else (src s).takeFrequency v
  | 5 | 6 =>
    if 3 ≤ s.plumb.qualified then
      let s := ((src s).takeBound v).takeFrequency v
      s.setTimeState (if s.offsetHigh v.offset then 4 else lockedState v.source)
    else s
  | _ => s

/-- R178, R173, R180: the published solution, up to what the geometry takes from it. -/
def State.takeSolution (v : Solution) (s : State) : State :=
  let v := s.reading v
  let figures := fun (s : State) => { s with plumb := { s.plumb with
    solSeq := if v.source = 1 then v.setSeq else s.plumb.solSeq, svsUsed := v.svs, results := s.plumb.results.filter (fun (r : Nat × (Int × Nat)) => r.1 != v.source) } }
  if !s.usable v then figures { s with plumb := { s.plumb with qualified := 0 } }
  else
    let s := figures ((((s.takeFigures v).takePlace v).surveyEpoch v).solutionState v)
    let s := if within 2 4 s.plumb.state then { s with plumb := { s.plumb with estimated := true } } else s
    if within 1 4 s.plumb.state then (((s.reviewStep v.offset).handleOffset v.offset).settle) else s

/-- A solution can be published (R171, R173, R178): a mode with ticks, the solver enabled, a first estimate held or HOLDOVER_EXPIRED
entered without one, and a source this part may use: of an own one the set is in time, of a cell's the result is in Q18. -/
def State.solves (v : Solution) (s : State) : Bool :=
  s.power.mode.serves && (s.plumb.estimated || s.plumb.state == 6) && decide (s.plumb.state ≠ 7) && s.sourceAllowed v.source &&
  (if v.source = 1 then s.inTime v else s.plumb.results.any (fun (r : Nat × (Int × Nat)) => r.1 == v.source))

/-- R175: an own solution on a worker whose time comes from its cell: position, velocity and the survey's epoch, and no time. -/
def State.solvesPlace (v : Solution) (s : State) : Bool :=
  s.power.mode.serves && (s.plumb.estimated || s.plumb.state == 6) && decide (s.plumb.state ≠ 7) && decide (v.source = 1) &&
  !s.sourceAllowed 1 && s.inTime v

/-- R175, R178: such a solution is published. -/
def State.takeEpoch (v : Solution) (s : State) : State :=
  let s := (s.takePlace v).surveyEpoch v
  { s with plumb := { s.plumb with solSeq := v.setSeq } }

/-! Holdover (R173, R176) -/

/-- R176: ERR_BOUND in 0.1 ns, `ms` milliseconds after the last qualified solution; rounded up. -/
def boundAfter (b0 sigma ageing ms : Nat) : Nat :=
  (b0 * 200000000000000 + 2000000000 * sigma * ms + ageing * ms * ms + 199999999999999) / 200000000000000

/-- R176: ERR_BOUND grows outside LOCKED and LOCKED_CELL. -/
def State.growBound (s : State) : State :=
  if s.plumb.state = 2 ∨ s.plumb.state = 3 ∨ s.plumb.errBound.isNone then s
  else
    let ms := (s.up - s.plumb.qualifiedAt) / qtMs
    { s with plumb := { s.plumb with errBound := some (boundAfter s.plumb.bound0 (s.param 0x130B) (s.param 0x130C) ms) } }

/-- HOLDOVER_EXPIRED (R173). -/
def State.expire (s : State) : State :=
  if s.plumb.state = 5 ∧ s.param 0x1307 < s.plumb.errBound.getD 0xFFFFFFFF then s.setTimeState 6 else s

/-- R177: the steering limit, 10⁻¹². -/
def clampSteer (x : Int) : Int := max (-5000000) (min 5000000 x)

/-- HOLDOVER_ENTRY (R173, R176): no usable source for HOLDOVER_DELAY. -/
def State.holdoverEntry (s : State) : State :=
  if within 2 4 s.plumb.state ∧ s.plumb.usableAt + s.param 0x1308 * qtMs ≤ s.up then
    let s := { s with plumb := { s.plumb with
      source := 0, qualified := 0, slewing := false, audioSteer := clampSteer (-s.plumb.refFreq) } }
    ((s.growBound.bump 0x13 3).setTimeState 5).expire
  else s

/-- HOLDOVER_ENTRY (R173). -/
def execHoldoverEntry (s : State) : Step := .next s.holdoverEntry

/-! The measurement tick (R177, R180, R184) -/

/-- R177: the slew rate in use, 10⁻¹². -/
def State.slewRate (s : State) : Nat := min (s.param 0x1304 * 1000) (5000000 - absNat s.plumb.refFreq)

/-- What a rate (10⁻¹²) moves the scale by in one MT period, 2⁻¹⁶ ns. -/
def State.perMt (r : Nat) (s : State) : Nat := s.param 0x1200 * r * 65536 / 1000000

/-- R180: the slew of the MT period that ends has moved OFFSET, never past zero. -/
def State.slewOffset (s : State) : State :=
  let d := min (absNat s.plumb.offset) (s.perMt (absNat s.plumb.slewNow))
  { s with plumb := { s.plumb with offset := if 0 ≤ s.plumb.offset then s.plumb.offset - d else s.plumb.offset + d } }

/-- R180, R196: the slew of the MT period that begins, 10⁻¹², no faster than R177 and no more than the offset that remains: at the full
rate in RECOVERING, with the time constant DISC_TC in LOCKED and LOCKED_CELL (log entry 111). -/
def State.slewTerm (s : State) : Int :=
  let o := absNat s.plumb.offset
  let full := min s.slewRate (o * 1000000 / (65536 * s.param 0x1200))
  let r := match s.plumb.state with
    | 4 => if s.plumb.slewing then full else 0
    | 2 | 3 => min full (o * 1000 / (65536 * s.param 0x130A))
    | _ => 0
  if 0 ≤ s.plumb.offset then -(r : Int) else r

/-- R172, R177, R184: AUDIO_STEER at an MT, by the measured error of the sample tick, of which `jitter` is what the MT adds. -/
def State.steerAudio (jitter : Int) (s : State) : State :=
  let p := s.plumb
  let err := p.tickErr + jitter
  let steers := within 1 4 p.state
  let loop := if steers then Config.audioLoop (s.param 0x130E) err p.loop else 0
  let want := -p.refFreq + loop + p.slewNow
  let v := match p.state with
    | 0 | 7 => 0
    | 5 | 6 => p.audioSteer
    | _ => clampSteer want
  let moved := (v - s.scaleRate) * (s.param 0x1200 * 65536 : Nat) / 1000000
  let past := steers && decide (5000000 < absNat want)
  let s := { s with plumb := { p with audioSteer := v, loop := loop, tickErr := err - moved } }
  if past then s.bump 0x50 12 else s

/-- R173, R176: SOLVER_ENABLE as in force at this MT. -/
def State.solverEnable (s : State) : State :=
  if s.param 0x130F = 0 then s.setTimeState 7
  else if s.plumb.state = 7 then
    ({ s with plumb := { s.plumb with
      errBound := none, qualified := 0, source := 0, audioSteer := clampSteer (-s.plumb.refFreq) } }).setTimeState 6
  else s

/-- R190: FLAGS of TIME_GET. -/
def State.timeFlags (s : State) : Nat :=
  b01 (decide (4500000 < absNat s.plumb.refFreq)) + 2 * b01 s.plumb.slewing + 4 * b01 s.plumb.survey.isSome

/-- ERR_BOUND as reported. -/
def Plumb.bound (p : Plumb) : Nat := min (p.errBound.getD 0xFFFFFFFF) 0xFFFFFFFF

/-- R190: the 76 bytes of TIME_GET. -/
def State.timeItem (s : State) : Bytes :=
  let p := s.plumb
  qtBytes s.qt ++ le 1 p.state ++ le 1 p.source ++ le 4 p.bound ++ leInt 2 p.utcOffset ++ le 1 p.leap ++ le 1 p.svsUsed ++
  le 4 p.leapAt ++ leInt 8 p.offset ++ leInt 4 p.refFreq ++ leInt 4 p.audioSteer ++
  le 2 ((p.step.map (·.id)).getD 0) ++ le 1 s.timeFlags ++ zeros 1 ++ p.sysOffset.flatMap (leInt 8)

/-- R190: result slot 1. -/
def State.timeSlot (s : State) : Bytes :=
  let p := s.plumb
  let x := p.position.getD {}
  s.timeItem ++ le 4 p.solSeq ++ leInt 8 x.x ++ leInt 8 x.y ++ leInt 8 x.z ++ le 4 p.sigma ++ leInt 4 p.velocity.x ++
  leInt 4 p.velocity.y ++ leInt 4 p.velocity.z ++ leInt 2 p.qerr ++ le 1 (s.param 0x1301) ++ zeros 1

/-! Steps take effect (R181, R182) -/

/-- R187, R188: the instant of an output's next active edge, strictly after `last`. -/
def Pulse.next_ (utcOffset : Int) (p : Pulse) : Int :=
  let base := p.cfg.offset * 2048 + (if bit 1 p.cfg.flags then 0 else utcOffset * (qtSec : Int))
  let per : Int := ((p.cfg.period * 65536 : Nat) : Int)
  base + (((p.last : Int) - base) / per + 1) * per

/-- R188: an output's configuration pulses at all. -/
def Pulse.enabled (p : Pulse) : Bool := bit 0 p.cfg.flags

/-- R187: QERR of the next PPS0 edge: the vernier's placement, which the spec leaves to the instant; 0 while PPS0 is disabled. -/
def State.qerrNext (s : State) : Int :=
  let p := s.plumb.pulses.getD 0 {}
  if p.enabled then ((Config.vernier (p.next_ s.plumb.utcOffset) % 2049 : Nat) : Int) - 1024 else 0

/-- R175, R191: the position of POSITION_SET or a survey at the MT: in fixed mode it is Plumb's. -/
def State.takePosition (s : State) : State :=
  let s := { s with plumb := { s.plumb with stored := s.nv.config.position } }
  match s.plumb.stored with
  | some p => if s.posMode = 1 then { s with plumb := { s.plumb with position := some p.1, sigma := p.2, velocity := {} } } else s
  | none => s

/-- What Plumb does at an MT, once the parameters of this MT are in force (R173, R176, R177, R184, R187, R190). -/
def State.plumbTick (jitter : Int) (s : State) : State :=
  let s := ((s.takePosition.solverEnable.growBound.expire).slewOffset).settle
  let s := if within 1 4 s.plumb.state then s.handleOffset s.plumb.offset else s
  let s := { s with plumb := { s.plumb with slewNow := s.slewTerm } }.steerAudio jitter
  let s := { s with plumb := { s.plumb with qerr := s.qerrNext } }
  s.publish 1 s.timeSlot

/-- R181: edges due at the step instant `t`. -/
def State.edgesAt (t : Nat) (s : State) : Nat :=
  (s.plumb.pulses.filter (fun p => p.enabled && p.next_ s.plumb.utcOffset == (t : Int))).length

/-- R173, R181: the step that applies now; the DELTA of a manager's step holds for its workers (R389). Frames passed
over or repeated follow the scale (R367). -/
def State.applyStep (p : PendingStep) (k : Nat) (s : State) : State :=
  let t := k * qtSec
  let d := p.delta.getD (-s.plumb.offset)
  let s := (s.advance t).bumpBy 0x13 6 (s.edgesAt t)
  let s := s.rescale ((t : Int) + d).toNat
  let s := { s with plumb := { s.plumb with
    offset := s.plumb.offset + d, step := none
    reanchor := if s.plumb.streamed then some { delta := d, at_ := t } else none } }
  (s.bump 0x13 0).occur 62 p.id (leInt 8 d)

/-- STEP_APPLY (R174, R180, R181): the boundary of the pending step. -/
def State.stepApply (s : State) : State :=
  match s.plumb.step with
  | some p => match p.applyAt with
    | some k => s.applyStep p k
    | none => s
  | none => s

/-- STEP_APPLY (R181). -/
def execStepApply (s : State) : Step := .next s.stepApply

/-- An ask step that waits for its answer (R193). -/
def State.askStep (s : State) : Option PendingStep :=
  s.plumb.step.bind (fun p => if p.policy = 1 ∧ p.applyAt.isNone then some p else none)

/-- R180, R197: a rejected step; the whole offset is slewed. -/
def State.rejectStep (s : State) : State :=
  ({ s with plumb := { s.plumb with step := none, slewAll := true, slewing := decide (s.plumb.state = 4) } }).bump 0x13 1

/-- STEP_ASK_TIMEOUT (R180): the time to answer is over. -/
def State.stepAskTimeout (s : State) : State :=
  match s.askStep with
  | some p => if p.deadline ≤ s.up then s.rejectStep else s
  | none => s

/-- STEP_ASK_TIMEOUT (R180). -/
def execStepAskTimeout (s : State) : Step := .next s.stepAskTimeout

/-! The first estimate (R15, R174) -/

/-- R198, R534: what a start takes as its warm-start bundle: the Steward's record after a low-power mode, else the bundle in NV. -/
def State.warmBundle (s : State) : Bundle := s.steward.record.getD s.nv.bundle

/-- R174: the saved bound and the elapsed RTC time at 50 ppm, 0.1 ns. -/
def State.bundleBound (s : State) : Nat :=
  (s.warmBundle.time.getD 2 0xFFFFFFFF).toNat + (s.utcSec - s.warmBundle.rtcUtc) * 500000

/-- R174, R534: the bundle qualifies as a first estimate. -/
def State.bundleQualifies (s : State) : Bool :=
  s.warmBundle.valid && s.rtc.valid && decide (s.warmBundle.time.getD 0 0 ≠ 0) && decide (s.bundleBound ≤ s.param 0x1309)

/-- R171, R174: the sources a first estimate can come from. -/
def State.estimateSource (source : Nat) (s : State) : Bool :=
  match source with
  | 1 => s.sourceAllowed 1
  | 5 => decide (s.power.mode = .runWorker)
  | 6 => s.bundleQualifies
  | _ => false

/-- R174: the instant of a first estimate; a bundle's is its save plus the elapsed RTC time. -/
def State.estimateInstant (source t : Nat) (s : State) : Nat :=
  if source = 6 then s.warmBundle.savedAt + (s.utcSec - s.warmBundle.rtcUtc) * qtSec else t

/-- R174: the bound of a first estimate; a beacon's is 10 µs. -/
def State.estimateBound (source b : Nat) (s : State) : Nat :=
  if source = 6 then s.bundleBound else if source = 5 then 100000 else b

/-- FIRST_TIME_ESTIMATE (R173, R174): the estimate is applied to the scale and Plumb is COARSE. -/
def State.firstEstimate (source t b : Nat) (s : State) : State :=
  let b := s.estimateBound source b
  let s := s.rescale (s.estimateInstant source t)
  let s := { s with plumb := { s.plumb with
    estimated := true, source := source, errBound := some b, bound0 := b, qualifiedAt := s.up, usableAt := s.up } }
  s.setTimeState 1

/-- A first estimate is due: Plumb is in NO_TIME in a mode that runs it. -/
def State.wantsEstimate (source : Nat) (s : State) : Bool :=
  s.power.mode.serves && s.power.ready && !s.plumb.estimated && decide (s.plumb.state = 0) && s.estimateSource source

/-! Time pulses (R187, R188) -/

/-- R188, R172: the active edges that fall in the present state are suppressed. -/
def State.squelched (p : Pulse) (s : State) : Bool :=
  match (if s.plumb.state = 4 then s.plumb.recoverFrom else s.plumb.state) with
  | 1 => bit 4 p.cfg.flags
  | 5 => bit 5 p.cfg.flags
  | 6 => bit 6 p.cfg.flags
  | 7 => bit 7 p.cfg.flags
  | _ => false

/-- Output `n`. -/
def State.pulse (n : Nat) (s : State) : Pulse := s.plumb.pulses.getD n {}

/-- Replace output `n` by a function of it. -/
def State.modPulse (n : Nat) (f : Pulse → Pulse) (s : State) : State :=
  { s with plumb := { s.plumb with pulses := modAt n f s.plumb.pulses } }

/-- A pulse that began at an edge is in progress. -/
def pulseRuns (now : Nat) (e : Option (Nat × Nat × Bool)) : Bool := e.any (fun x => decide (now < x.1 + x.2.1 * 65536))

/-- The last pulse of an output is in progress. -/
def Pulse.inPulse (now : Nat) (p : Pulse) : Bool := pulseRuns now p.edge

/-- TIME_PULSE_EDGE (R181, R187, R188): the next edge instant of output `n`; an edge at the instant of
a pending step is left to that step. -/
def State.timePulseEdge (n : Nat) (s : State) : State :=
  let p := s.pulse n
  let e := p.next_ s.plumb.utcOffset
  if !p.enabled ∨ s.plumb.state = 0 ∨ !s.power.mode.serves ∨ e < 0 ∨ s.stepInstant = some e.toNat then s
  else
    let s := s.advance e.toNat
    if s.squelched p then (s.modPulse n (fun p => { p with last := e.toNat })).bump 0x13 6
    else s.modPulse n (fun p => { p with
      last := e.toNat, edge := some (s.up, p.cfg.width, bit 2 p.cfg.flags), edgeOld := if p.inPulse s.up then p.edge else none })

/-- TIME_PULSE_EDGE (R187). -/
def execTimePulseEdge (output : Fin 6) (s : State) : Step := .next (s.timePulseEdge output.val)

/-- R188: the level at an output's ball: a pulse in progress completes its width and polarity, also where a new configuration's edge falls
into it. -/
def State.pulseLevel (n : Nat) (s : State) : Bool :=
  let p := s.pulse n
  let e := if pulseRuns s.up p.edgeOld then p.edgeOld else p.edge
  match e with
  | some (_, _, low) => if pulseRuns s.up e then !low else bit 2 p.cfg.flags
  | none => bit 2 p.cfg.flags

/-- R188: new pulse configurations come into force at a second boundary, whose own edges they govern. -/
def Pulse.load (now : Nat) (p : Pulse) : Pulse :=
  match p.next with
  | some c => { p with cfg := c, next := none, last := max p.last (now - 1) }
  | none => p

/-! Time marks (R189) -/

/-- Input `n`. -/
def State.mark (n : Nat) (s : State) : Mark := s.plumb.marks.getD n {}

/-- Replace input `n` by a function of it. -/
def State.modMark (n : Nat) (f : Mark → Mark) (s : State) : State :=
  { s with plumb := { s.plumb with marks := modAt n f s.plumb.marks } }

/-- R105: a Q04 entry. -/
def State.markEntry (n edge seq stamp : Nat) (s : State) : Bytes :=
  le 1 n ++ le 1 edge ++ zeros 2 ++ le 4 seq ++ qtBytes stamp ++ le 1 s.plumb.state ++ zeros 1 ++ le 4 s.plumb.bound ++ zeros 8

/-- R189: a stamped edge. -/
def State.stampMark (n edge stamp time : Nat) (s : State) : State :=
  let m := s.mark n
  let seq := wrap32 (m.seq + 1)
  let s := s.modMark n (fun m => { m with seq := seq, last := some time })
  let s := ((s.bump 0x13 (7 + 2 * n)).offer 4 { data := s.markEntry n edge seq stamp })
  s.occur (64 + n) (seq % 65536) (qtBytes stamp ++ le 1 edge)

/-- TIME_MARK (R189): an edge of TM`n` at an instant given in 31.25 ps units of the scale in force;
whether an edge of a level shorter than R546's minimum is stamped is free. -/
def State.timeMark (n : Nat) (falling : Bool) (at_ : Nat) (short : Bool) (s : State) : State :=
  let m := s.mark n
  let t := s.freeTick
  if !s.power.mode.serves ∨ !bit (b01 falling) m.flags then s
  else
    let s := s.advance (at_ * 2048)
    let time := s.up - (s.qt - at_ * 2048)
    let s := if short then s.draw else s
    if short && !Config.freeBit t then s
    else if (match m.last with | some l => decide (time < l + m.deadtime * 65536000) | none => false) then s.bump 0x13 (8 + 2 * n)
    else s.stampMark n (b01 falling) (((at_ : Int) - m.delay) * 2048).toNat time

/-- TIME_MARK (R189). -/
def execTimeMark (input : Fin 4) (falling : Bool) (instant : Nat) (short : Bool) (s : State) : Step :=
  .next (s.timeMark input.val falling instant short)

/-! Commands (R190–R195) -/

/-- TIME_GET (R190). -/
def timeGet : CmdSpec :=
  { opcode := 0x1310, role := 1, shape := noItems, body := fun _ s => reply 0x1310 s.timeItem s }

/-- TIME_GET (R190). -/
def execTimeGet (s : State) : Step := .next (timeGet.run s)

/-- R191: the distance from the Earth's centre, in 0.1 mm, lies within 6,340–6,400 km. -/
def onEarth (v : Vec3) : Bool :=
  let r2 := v.x * v.x + v.y * v.y + v.z * v.z
  decide (63400000000 * 63400000000 ≤ r2) && decide (r2 ≤ 64000000000 * 64000000000)

/-- A position as the command's X, Y, Z fields. -/
def Cmd.position (c : Cmd) : Vec3 := { x := c.i 0 8, y := c.i 8 8, z := c.i 16 8 }

/-- POSITION_SET (R191): position and POS_MODE under one record. -/
def positionSet (ok : Bool) : CmdSpec :=
  { opcode := 0x1311, role := 2, shape := oneItem 0x1311 32, journals := true
    body := fun c s =>
      guarded [ (s.plumb.survey.isSome, .busy), (!onEarth c.position, .outOfRange),
          (!within 1 100000 (c.u 24 4), .outOfRange), (decide (1 < c.u 28 1), .badParam), (c.u 29 3 != 0, .badParam) ] s
        (c.journalThen ok 0 s (fun s =>
          let s := { s with nv := { s.nv with config := { s.nv.config with position := some (c.position, c.u 24 4) } } }
          done (s.setParam 0x1301 (c.u 28 1)))) }

/-- POSITION_SET (R191). -/
def execPositionSet (nvOk : Bool) (s : State) : Step := .next ((positionSet nvOk).run s)

/-- SURVEY_START (R192). -/
def surveyStart : CmdSpec :=
  { opcode := 0x1312, role := 2, shape := oneItem 0x1312 8
    body := fun c s =>
      let d := c.u 0 4
      let t := c.u 4 4
      guarded [ (s.plumb.survey.isSome, .busy), (d == 0 && t == 0, .badParam), (d != 0 && !within 60 604800 d, .outOfRange),
          (decide (10000 < t), .outOfRange) ] s
        (let y : Survey := { ticket := c.ticket s, startAt := s.up, duration := d, target := t, role := c.role, keyId := c.keyId }
         { status := .accepted, state := { s with plumb := { s.plumb with survey := some y } } }) }

/-- SURVEY_START (R192). -/
def execSurveyStart (s : State) : Step := .next (surveyStart.run s)

/-- The mean of a survey's epochs (R175). -/
def Survey.mean (y : Survey) : Vec3 :=
  { x := y.sum.x / y.epochs, y := y.sum.y / y.epochs, z := y.sum.z / y.epochs }

/-- R192: the result item of a survey. -/
def Survey.item (sigma : Nat) (y : Survey) : Item :=
  { id := 0x1312, value := leInt 8 y.mean.x ++ leInt 8 y.mean.y ++ leInt 8 y.mean.z ++ le 4 sigma ++ le 4 y.epochs }

/-- The end of a survey: EV068 and the completion (R192, R197). -/
def State.endSurvey (y : Survey) (sigma : Nat) (st : Status) (s : State) : State :=
  let s := { s with plumb := { s.plumb with survey := none } }
  let code := match st with | .ok => 0 | _ => 1
  (s.occur 68 code (le 4 sigma ++ le 4 y.epochs)).complete 0x1312 y.ticket st [y.item sigma]

/-- R175: a survey that ends at TARGET_MM stores its position and POS_MODE 1 under one record of the
session that started it. -/
def State.storeSurvey (y : Survey) (sigma : Nat) (ok : Bool) (s : State) : State :=
  let m := y.mean
  let new := leInt 8 m.x ++ leInt 8 m.y ++ leInt 8 m.z ++ le 4 sigma ++ le 1 1 ++ zeros 3
  match s.journalAppend ok 1 y.role y.keyId 0x1311 (oldItem 0x1311 [] s.nv.journal.records) new with
  | (.ok, s) =>
    let s := { s with nv := { s.nv with config := { s.nv.config with position := some (m, sigma) } } }
    (s.setParam 0x1301 1).endSurvey y sigma .ok
  | (st, s) => s.endSurvey y sigma st

/-- SURVEY_DONE (R175, R192): the sigma has reached the target, or the duration has elapsed. -/
def State.surveyDone (sigma : Nat) (ok : Bool) (s : State) : State :=
  match s.plumb.survey with
  | none => s
  | some y =>
    if y.target ≠ 0 ∧ sigma ≤ y.target ∧ 0 < y.epochs then s.storeSurvey y sigma ok
    else if y.duration ≠ 0 ∧ y.startAt + y.duration * qtSec ≤ s.up then s.endSurvey y sigma .outOfRange
    else s

/-- SURVEY_DONE (R175). -/
def execSurveyDone (sigma : Nat) (nvOk : Bool) (s : State) : Step := .next (s.surveyDone sigma nvOk)

/-- STEP_APPROVE (R180, R193). -/
def stepApprove : CmdSpec :=
  { opcode := 0x1313, role := 2, shape := oneItem 0x1313 4
    body := fun c s =>
      guarded [ (s.askStep.isNone, .notReady), (decide (1 < c.u 2 1), .badParam), (c.u 3 1 != 0, .badParam),
          ((s.askStep.map (·.id)).getD 0 != c.u 0 2, .seqError) ] s
        (if c.u 2 1 = 0 then done s.rejectStep
         else done { s with plumb := { s.plumb with
           step := s.plumb.step.map (fun p => { p with applyAt := some s.stepBoundary }) } }) }

/-- STEP_APPROVE (R193). -/
def execStepApprove (s : State) : Step := .next (stepApprove.run s)

/-- R187: a legal period of an output. -/
def pulsePeriod (out p : Nat) : Bool :=
  (decide (0 < p) && decide (1000000000 % p = 0) && decide ((if out < 2 then 1000000 else 100) ≤ p)) ||
  (decide (p % 1000000000 = 0) && within 1 3600 (p / 1000000000))

/-- R194: what one item is refused for. -/
def pulseTests (v : Bytes) : List (Bool × Status) :=
  let p := fieldAt 4 8 v
  let o := signedAt 16 4 v
  [ (bit 3 (fieldAt 1 1 v), .badParam), (fieldAt 2 2 v != 0, .badParam), (!pulsePeriod (fieldAt 0 1 v) p, .outOfRange),
    (!(decide (10 ≤ fieldAt 12 4 v) && decide (fieldAt 12 4 v + 10 ≤ p)), .outOfRange),
    (!(decide (-2147200000 ≤ o) && decide (o ≤ 2147200000)), .outOfRange), (fieldAt 20 4 v != 0, .badParam) ]

/-- R194: the configuration of one item. -/
def pulseOf (v : Bytes) : PulseCfg :=
  { flags := fieldAt 1 1 v, period := fieldAt 4 8 v, width := fieldAt 12 4 v, offset := signedAt 16 4 v }

/-- R188, R194: one item has committed. -/
def State.setPulse (v : Bytes) (s : State) : State :=
  let n := fieldAt 0 1 v
  let s := { s with nv := { s.nv with config := { s.nv.config with pulses := modAt n (fun _ => pulseOf v) s.nv.config.pulses } } }
  s.modPulse n (fun p => { p with next := some (pulseOf v) })

/-- PULSE_CONFIG (R194). -/
def pulseConfig (ok : Bool) : CmdSpec :=
  { opcode := 0x1314, role := 2, shape := someItems 0x1314 24, journals := true
    naming := fun _ c => failItem (fun v => [(decide (5 < fieldAt 0 1 v), .outOfRange)]) c.items
    body := fun c s => c.guardItems pulseTests s (c.journalThen ok 1 s (fun s =>
      done (c.items.foldl (fun s i => s.setPulse i.value) s))) }

/-- PULSE_CONFIG (R194). -/
def execPulseConfig (nvOk : Bool) (s : State) : Step := .next ((pulseConfig nvOk).run s)

/-- R195: what one item is refused for. -/
def markTests (v : Bytes) : List (Bool × Status) :=
  [(!onlyBits 3 (fieldAt 1 1 v), .badParam), (fieldAt 2 2 v == 0, .outOfRange)]

/-- R195: one item has committed; MARK_SEQ goes on. -/
def State.setMark (v : Bytes) (s : State) : State :=
  let f := fun (m : Mark) => { m with flags := fieldAt 1 1 v, deadtime := fieldAt 2 2 v, delay := signedAt 4 4 v }
  let n := fieldAt 0 1 v
  ({ s with nv := { s.nv with config := { s.nv.config with marks := modAt n f s.nv.config.marks } } }).modMark n f

/-- MARK_CONFIG (R195). -/
def markConfig (ok : Bool) : CmdSpec :=
  { opcode := 0x1315, role := 1, shape := someItems 0x1315 8, journals := true
    naming := fun _ c => failItem (fun v => [(decide (3 < fieldAt 0 1 v), .outOfRange)]) c.items
    body := fun c s => c.guardItems markTests s (c.journalThen ok 1 s (fun s =>
      done (c.items.foldl (fun s i => s.setMark i.value) s))) }

/-- MARK_CONFIG (R195). -/
def execMarkConfig (nvOk : Bool) (s : State) : Step := .next ((markConfig nvOk).run s)

end Sys2Proof.Machine
end

