-- ==== Sys2Proof/Machine/Clocks.lean ====
section
/-! DEFINITION. Clock synthesis: the reference monitor, the PLLs, their lock, and their status. -/
namespace Sys2Proof.Machine

/-- PLL `k`. -/
def State.pll (k : Nat) (s : State) : Pll := s.clocks.plls.getD k {}

/-- Replace PLL `k` by a function of it. -/
def State.modPll (k : Nat) (f : Pll → Pll) (s : State) : State :=
  { s with clocks := { s.clocks with plls := modAt k f s.clocks.plls } }

/-- R449: the VCO of the audio PLL for a SCREED_FS code: 128 × the family base. -/
def audioVco (code : Nat) : Nat := if code % 2 = 1 then 3145728000 else 2890137600

/-- R443, R447: PLL `k` of PLLs 0–2 as start-up locks it, unsteered (R457). -/
def State.startPll (k : Nat) (s : State) : State :=
  let vco := match k with | 0 => 3200000000 | 1 => audioVco (s.param 0x2000) | _ => 7856640000
  s.modPll k (fun _ => { state := 2, refMode := bits (2 * k + 1) (2 * k) (s.committed 0x5001), vco := vco })

/-- R312, R443: f_VCO of the radio PLL on a plan's channel, Hz: twice the carrier in sub-band 0. -/
def radioVco (p : ChannelPlan) : Nat :=
  match p.subband with | 0 => 2 * (2402 + 2 * p.channel) * 1000000 | 1 => (5152 + 2 * p.channel) * 1000000 | _ => (5726 + 2 * p.channel) * 1000000

/-- R448: the distance from f_VCO to the nearest multiple of f_PFD, in half hertz. -/
def pfdRest (ref vco code : Nat) : Nat :=
  let f2 := pfdTwice ref code
  let r := 2 * vco % f2
  min r (f2 - r)

/-- R444, R448: of ×2, ×1 and ÷2, as far as f_PFD and N allow them, the one whose nearest multiple lies farthest from f_VCO; ties go to
the larger f_PFD. -/
def radioPfd (ref vco : Nat) : Nat :=
  ([1, 0, 2].filter (fun c => pllFits ref c vco vco)).foldl (fun b c => match b with
    | some x => if pfdRest ref vco x < pfdRest ref vco c then some c else some x
    | none => some c) (none : Option Nat) |>.getD 1

/-- R443, R457: every PLL of the part locks; PLL 3 of a radio-N part stays off. -/
def State.startPlls (s : State) : State :=
  let s := ((s.startPll 0).startPll 1).startPll 2
  if s.part.radio then s.modPll 3 (fun p => { p with state := 2, steer := 0, vco := radioVco s.radio.plan }) else s

/-- R442: a PLL freezes its tuning. -/
def Pll.freeze (p : Pll) : Pll := if p.state = 0 ∨ p.state = 5 then p else { p with state := 5, thawed := p.state }

/-- R442: a loop resumes. -/
def Pll.thaw (p : Pll) : Pll := if p.state = 5 then { p with state := p.thawed } else p

/-- REF_GLITCH (R442). -/
def State.refGlitch (s : State) : State :=
  if s.clocks.glitch then s
  else ({ s with clocks := { s.clocks with glitch := true, plls := s.clocks.plls.map Pll.freeze } }).bump 0x50 15

/-- REF_GLITCH (R442). -/
def execRefGlitch (s : State) : Step := .next s.refGlitch

/-- REF_EDGES_RETURN (R442): within 100 µs; no unlock is declared. -/
def State.refEdgesReturn (s : State) : State :=
  if s.clocks.glitch then { s with clocks := { s.clocks with glitch := false, plls := s.clocks.plls.map Pll.thaw } } else s

/-- REF_EDGES_RETURN (R442). -/
def execRefEdgesReturn (s : State) : Step := .next s.refEdgesReturn

/-- REF_LOST (R442): a log record, then a device reset with cause REF_LOST. -/
def State.refLost (s : State) : State :=
  if s.clocks.glitch then (s.logFree 0x50 0x08).stewardReset 0x07 else s

/-- REF_LOST (R442). -/
def execRefLost (s : State) : Step := .next s.refLost

/-- R454: STATE of PLL `k`; the radio PLL retunes until the synthesiser has settled (R314). -/
def State.pllState (k : Nat) (s : State) : Nat :=
  if k = 3 ∧ (s.pll k).state = 2 ∧ s.radio.state = 3 ∧ s.up < s.radio.readyAt then 4 else (s.pll k).state

/-- PLL_UNLOCK (R452, R453): a locked PLL whose detector is not masked loses lock. -/
def State.pllUnlock (k : Nat) (s : State) : State :=
  if s.pllState k = 2 then
    let s := (((s.modPll k (fun p => { p with state := 3 })).bump 0x50 (3 * k)).occurFree 110)
    if k = 0 then s.stewardReset 0x08 else s
  else s

/-- PLL_UNLOCK (R452). -/
def execPllUnlock (pll : Fin 4) (s : State) : Step := .next (s.pllUnlock pll.val)

/-- PLL_LOCK (R452): lock is regained after a loss. -/
def State.pllLock (k : Nat) (s : State) : State :=
  if (s.pll k).state = 3 then ((s.modPll k (fun p => { p with state := 2 })).bump 0x50 (3 * k + 1)).occurFree 111 else s

/-- PLL_LOCK (R452). -/
def execPllLock (pll : Fin 4) (s : State) : Step := .next (s.pllLock pll.val)

/-- PLL_UNLOCK_TIMEOUT (R453): not relocked within 10 ms. -/
def State.pllUnlockTimeout (k : Nat) (s : State) : State :=
  if (s.pll k).state = 3 then s.stewardReset (0x08 + k) else s

/-- PLL_UNLOCK_TIMEOUT (R453). -/
def execPllUnlockTimeout (pll : Fin 4) (s : State) : Step := .next (s.pllUnlockTimeout pll.val)

/-- R444: the ratio f_VCO / f_PFD in units of 2⁻⁴⁰, with its steering, to the nearest unit. -/
def pllRatio (vco pfd2 : Nat) (steer : Int) : Nat :=
  let r := ((1000000000000 : Int) + steer).toNat
  (4 * vco * 2 ^ 40 * r + pfd2 * 1000000000000) / (2 * pfd2 * 1000000000000)

/-- R454: the record of PLL `k`. -/
def State.pllRecord (k : Nat) (s : State) : Bytes :=
  let p := s.pll k
  let pfd2 := pfdTwice s.clocks.refHz p.refMode
  let r := pllRatio p.vco pfd2 p.steer
  le 1 k ++ le 1 (s.pllState k) ++ le 1 p.refMode ++ zeros 1 ++ le 4 (pfd2 / 2) ++ le 2 (r / 2 ^ 40) ++ zeros 2 ++
  le 8 (r % 2 ^ 40) ++ leInt 4 (if k = 1 ∨ k = 3 then p.steer else 0)

/-- R454: the item of PLL_STATUS_GET; REF_MEAS is measured. -/
def State.pllItem (refMeas : Nat) (s : State) : Bytes :=
  le 1 (b01 s.clocks.refMismatch + 2 * b01 s.clocks.glitch) ++ zeros 3 ++ le 4 refMeas ++
  (List.range 4).flatMap (fun k => s.pllRecord k)

/-- PLL_STATUS_GET (R454). -/
def pllStatusGet (refMeas : Nat) : CmdSpec :=
  { opcode := 0x5010, role := 1, shape := noItems, body := fun _ s => reply 0x5010 (s.pllItem refMeas) s }

/-- PLL_STATUS_GET (R454). -/
def execPllStatusGet (refMeas : BitVec 32) (s : State) : Step := .next ((pllStatusGet refMeas.toNat).run s)

/-- R184, R445: the strobe of a sample tick loads the audio PLL's shadow ratio; an unlocked or retuning audio PLL keeps its last
value (R453). -/
def State.loadAudio (s : State) : State :=
  match s.clocks.shadow with
  | some v =>
    let s := { s with clocks := { s.clocks with shadow := none } }
    if (s.pll 1).state = 2 then s.modPll 1 (fun p => { p with steer := v }) else s
  | none => s

/-- R184, R445, R451: at an MT the shadow ratio of the audio PLL and the 10 MHz divider take Plumb's terms. -/
def State.steerClocks (s : State) : State :=
  let s := { s with clocks := { s.clocks with shadow := some s.plumb.audioSteer } }
  let v : Int := if s.plumb.state = 0 ∨ s.plumb.state = 7 then 0 else -s.plumb.refFreq
  let c := max (-20000000) (min 20000000 v)
  let s := { s with clocks := { s.clocks with steer10M := c } }
  if c = v then s else s.bump 0x50 14

/-- R172, R184, R445: at a frame boundary and at a channel change the radio PLL takes the frequency terms. -/
def State.steerRadio (s : State) : State :=
  if (s.pll 3).state ≠ 2 then s
  else
    let v : Int := s.scaleRate
    let c := max (-20000000) (min 20000000 v)
    let s := s.modPll 3 (fun p => { p with steer := c })
    if c = v then s else s.bump 0x50 13

/-- R48, R451: REF10M_OUT runs; in Reset, Sleep and Watch its ball is L. -/
def State.ref10mOn (s : State) : Bool :=
  s.rst.configured && s.power.mode != .sleep && s.power.mode != .watch && s.power.save.began == 0 &&
  match s.param 0x5002 with
  | 1 => true
  | 2 => s.plumb.state == 2 || s.plumb.state == 3 || s.plumb.state == 5
  | _ => false

end Sys2Proof.Machine
end

