-- ==== Sys2Proof/Machine/Fixed.lean ====
section
/-! DEFINITION. Integer square roots, the sines of the ramps and of the geometry, and the angles of the tracking loops in fixed point. -/
namespace Sys2Proof.Machine

/-- One bit of an integer square root, from bit `k` down. -/
def isqrtN : Nat → Nat → Nat → Nat
  | 0, _, r => r
  | k + 1, n, r =>
    let c := r + 2 ^ k
    isqrtN k n (if c * c ≤ n then c else r)

/-- ⌊√n⌋. -/
def isqrt (n : Nat) : Nat := isqrtN (n.log2 / 2 + 1) n 0

/-- ⌊√i⌋ of an integer, 0 below 0. -/
def isqrtInt (i : Int) : Int := isqrt i.toNat

/-- Bits of the fixed-point scale of the ramp gains. -/
def gainBits : Nat := 128

/-- π in units of 2⁻¹²⁸, to the nearest. -/
def piFixed : Int := 1069028584064966747859680373161870783301

/-- Terms of the cosine series from term `k` on: the last term times −x² / ((2k + 1)(2k + 2)). -/
def cosTerms : Nat → Nat → Int → Int → Int → Int
  | 0, _, _, _, acc => acc
  | n + 1, k, x2, term, acc =>
    let t := -(term * x2 / ((2 ^ gainBits : Nat) : Int)) / (((2 * k + 1) * (2 * k + 2) : Nat) : Int)
    cosTerms n (k + 1) x2 t (acc + t)

/-- cos x for x in units of 2⁻¹²⁸, 0 ≤ x ≤ π. -/
def cosFixed (x : Int) : Int :=
  let one : Int := ((2 ^ gainBits : Nat) : Int)
  cosTerms 40 0 (x * x / one) one one

/-- A value within 2⁻⁸⁰ of a multiple of 2⁻⁴⁰ is that multiple: the rational gains come out exact. -/
def snapGain (g : Int) : Int :=
  let u : Int := ((2 ^ (gainBits - 40) : Nat) : Int)
  let r := (g + u / 2) / u * u
  if (g - r).natAbs ≤ 2 ^ (gainBits - 80) then r else g

/-- 1000 · log₁₀ (a / b), rounded down; 0 below 1 and 16383 at most. -/
def log1000 (a b : Nat) : Nat :=
  (List.range 14).foldl (fun k j => if 10 ^ (k + 2 ^ (13 - j)) * b ^ 1000 ≤ a ^ 1000 then k + 2 ^ (13 - j) else k) 0

/-- Terms of Euler's series of the arctangent, from term `k` on: the last term times `r` · 2k / (2k + 1), in units of 2⁻⁶⁴. -/
def atanTerms : Nat → Nat → Nat → Nat → Nat → Nat
  | 0, _, _, _, acc => acc
  | n + 1, k, r, term, acc =>
    let t := term * r / 2 ^ 64 * (2 * k) / (2 * k + 1)
    atanTerms n (k + 1) r t (acc + t)

/-- atan (a / b), for a ≤ b and 0 < b, in units of 2⁻⁶⁴. -/
def atanFixed (a b : Nat) : Nat :=
  let d := a * a + b * b
  let t := a * b * 2 ^ 64 / d
  atanTerms 64 1 (a * a * 2 ^ 64 / d) t t

/-- The angle of (x, y) in the first quadrant, to the nearest 2⁻³² of a cycle; not both are 0. -/
def angleOf (x y : Nat) : Int :=
  let cycles := fun (a b : Nat) => (((atanFixed a b * 2 ^ 96 + piFixed.toNat) / (2 * piFixed.toNat) : Nat) : Int)
  if y ≤ x then cycles y x else 2 ^ 30 - cycles x y

/-- atan2 (y, x) in 2⁻³² of a cycle, −2³¹ excluded; at the origin there is no angle: a free value. -/
def atan2 (y x : Int) : Int :=
  if x = 0 ∧ y = 0 then Config.zeroAngle
  else
    let a := angleOf x.natAbs y.natAbs
    let h := if x < 0 then 2 ^ 31 - a else a
    if y < 0 then -h else h

end Sys2Proof.Machine
end

