-- ==== Sys2Proof/Machine/Operands.lean ====
section
/-! DEFINITION. The Screed instruction word, its operand forms, and narrowing (R200–R239). -/
namespace Sys2Proof.Machine

/-! The instruction word (R229, R230) -/

/-- The fields of one instruction word (R229). -/
structure SIns where
  op : Nat
  d : Nat
  a : Nat
  b : Nat
  m : Nat
deriving DecidableEq, Repr

/-- Decode a 64-bit word (R229). -/
def sIns (w : Nat) : SIns :=
  { op := bits 63 56 w, d := bits 55 40 w, a := bits 39 24 w, b := bits 23 8 w, m := bits 7 0 w }

/-- MODE of an operand specifier (R232). -/
def sMode (x : Nat) : Nat := bits 15 12 x
/-- FIELD of an operand specifier (R232). -/
def sField (x : Nat) : Nat := bits 11 0 x

/-- Store shift k (R230). -/
def SIns.shift (i : SIns) : Int := signed 3 (bits 7 5 i.m)
/-- FLOOR (R230). -/
def SIns.floor (i : SIns) : Bool := bit 4 i.m
/-- WRAP (R230). -/
def SIns.wrap (i : SIns) : Bool := bit 3 i.m
/-- CF (R230). -/
def SIns.cf (i : SIns) : Bool := bit 2 i.m
/-- LANES (R230). -/
def SIns.lanes (i : SIns) : Nat := bits 1 0 i.m

/-! Narrowing (R202) -/

/-- ⌊v / 2^d⌋, or with rounding half up (R202). -/
def roundShift (floor : Bool) (d : Nat) (v : Int) : Int :=
  if floor || d = 0 then v / ((2 ^ d : Nat) : Int) else (v + ((2 ^ (d - 1) : Nat) : Int)) / ((2 ^ d : Nat) : Int)

/-- A value brought into `n` signed bits: the value, and whether it was clamped (R202, R203). -/
def fit (wrap : Bool) (n : Nat) (v : Int) : Int × Bool :=
  let lo : Int := -((2 ^ (n - 1) : Nat) : Int)
  let hi : Int := ((2 ^ (n - 1) : Nat) : Int) - 1
  if lo ≤ v ∧ v ≤ hi then (v, false)
  else if wrap then (signed n (unsigned n v), false)
  else (if v < lo then lo else hi, true)

/-- R202: narrow to 32 bits with d. -/
def narrow (floor wrap : Bool) (d : Nat) (v : Int) : Int × Bool := fit wrap 32 (roundShift floor d v)

/-- R202: d = 31 − k. -/
def SIns.depth (i : SIns) : Nat := (31 - i.shift).toNat

/-- R200: a product in units of 2⁻⁶². -/
def alignProduct (cf : Bool) (p : Int) : Int := if cf then p * 8 else p

/-! Contexts and lanes -/

/-- R2: lanes of the part. -/
def State.laneCount (s : State) : Nat := if s.part.tier = .c then 4 else 16

/-- The lanes of the part. -/
def State.laneList (s : State) : List Nat := List.range s.laneCount

/-- The registers that program `who` uses: 0 foreground, 1 customer background, 2 solver (R206). -/
def State.sctx (who : Nat) (s : State) : ScreedCtx := if who = 0 then s.screed.f else s.screed.b

/-- Replace those registers. -/
def State.modSctx (who : Nat) (f : ScreedCtx → ScreedCtx) (s : State) : State :=
  if who = 0 then { s with screed := { s.screed with f := f s.screed.f } }
  else { s with screed := { s.screed with b := f s.screed.b } }

/-- Condition register `n` of a lane. -/
def ScreedCtx.cond (lane n : Nat) (c : ScreedCtx) : Bool := Table.get 0 (lane * 8 + n) c.c != 0

/-- R199, R230: the lanes that take part. -/
def State.sLanes (who : Nat) (i : SIns) (s : State) : List Nat :=
  let c := s.sctx who
  match i.lanes with
  | 0 => s.laneList
  | 1 => s.laneList.filter (fun l => c.cond l 0)
  | 2 => s.laneList.filter (fun l => c.cond l 1)
  | _ => s.laneList.filter (fun l => !c.cond l 0)

/-! Addresses (R232, R234) -/

/-- Address register `n`. -/
def ScreedCtx.areg (n : Nat) (c : ScreedCtx) : Nat := c.a.getD n 0

/-- The data word address of modes 1–3 and 10: the low 15 bits of the sum. -/
def ScreedCtx.wordAddr (x : Nat) (c : ScreedCtx) : Nat :=
  let f := sField x
  let an : Int := c.areg (bits 11 8 f)
  match sMode x with
  | 1 => c.dpage * 4096 + f
  | 2 => unsigned 15 (an + signed 8 (bits 7 0 f))
  | 3 => unsigned 15 (an + signed 4 (bits 7 4 f))
  | _ => unsigned 15 an

/-- The slice offset of modes 5 and 6: the low 12 bits of the sum. -/
def ScreedCtx.sliceAddr (x : Nat) (c : ScreedCtx) : Nat :=
  let f := sField x
  if sMode x = 5 then f else unsigned 12 ((c.areg (bits 11 8 f) : Int) + signed 6 (bits 5 0 f))

/-- The post-step of an operand: register and step (R232). -/
def postStep (x : Nat) : Option (Nat × Int) :=
  let f := sField x
  match sMode x with
  | 3 => some (bits 11 8 f, signed 4 (bits 3 0 f))
  | 6 => match bits 7 6 f with
    | 1 => some (bits 11 8 f, 1)
    | 2 => some (bits 11 8 f, -1)
    | _ => none
  | _ => none

/-- Add to an address register, modulo 2¹⁸ (R204). -/
def ScreedCtx.step (n : Nat) (k : Int) (c : ScreedCtx) : ScreedCtx :=
  { c with a := modAt n (fun v => unsigned 18 ((v : Int) + k)) c.a }

/-- The post-steps of the operands an instruction has (R234). -/
def ScreedCtx.postSteps (xs : List Nat) (c : ScreedCtx) : ScreedCtx :=
  xs.foldl (fun c x => match postStep x with | some (n, k) => c.step n k | none => c) c

/-! Data memory and delay lines (R215, R218–R220) -/

/-- Key of a data word. -/
def dataKey (lane w : Nat) : Nat := lane * 32768 + w

/-- R215, R237: a reserved word of a lane bank. -/
def reservedWord (w : Nat) : Bool := within 0x7F00 0x7FEF w || decide (0x7FF8 ≤ w)

/-- A data word as an instruction reads it. -/
def State.dataWord (lane w : Nat) (s : State) : Nat := if reservedWord w then 0 else Table.get 0 (dataKey lane w) s.screed.data

/-- Store a word of a lane bank. -/
def State.setData (lane w v : Nat) (s : State) : State :=
  { s with screed := { s.screed with data := Table.set 0 (dataKey lane w) (v % 2 ^ 32) s.screed.data } }

/-- A word written by an instruction: input slots and reserved words discard it (R215, R237). -/
def State.storeWord (lane w v : Nat) (s : State) : State :=
  if reservedWord w || within 0x7FF0 0x7FF3 w then s else s.setData lane w v

/-- Descriptor `d`. -/
def State.desc (d : Nat) (s : State) : Descriptor := s.screed.descs.getD d {}

/-- R218 FLAGS. -/
def Descriptor.on (x : Descriptor) : Bool := bit 0 x.flags
/-- R218: the line lies in DRAM. -/
def Descriptor.inDram (x : Descriptor) : Bool := bit 1 x.flags
/-- R218: tap `t` is fractional. -/
def Descriptor.frac (t : Nat) (x : Descriptor) : Bool := bit (2 + t) x.flags

/-- Key of a tap of a lane in `tapNow`. -/
def tapKey (lane d t : Nat) : Nat := (4 * d + t) * 16 + lane

/-- R238: the tap word in use. -/
def State.tapWord (lane d t : Nat) (s : State) : Nat := Table.get 0 (tapKey lane d t) s.screed.tapNow

/-- The position of the sample written `k` ticks before position `pos` (R219). -/
def Descriptor.back (pos k : Nat) (x : Descriptor) : Nat := (pos % x.length + x.length - k % x.length) % x.length

/-- The sample of a data-memory line written `k` ticks earlier (R219). -/
def State.lineSample (lane d k : Nat) (s : State) : Nat :=
  let x := s.desc d
  Table.get 0 (dataKey lane (x.base + x.back x.pos k)) s.screed.data

/-- R223: key of a DRAM sample. -/
def dramKey (lane n : Nat) : Nat := lane * 4194304 + n

/-- R219: a DRAM sample reads left-justified, with 8 zero bits below. -/
def State.dramSample (lane d pos k : Nat) (s : State) : Nat :=
  let x := s.desc d
  Table.get 0 (dramKey lane (x.base + x.back pos k)) s.screed.dram * 256

/-- The window in use of a tap in a lane: the tap word it was fetched for, and its samples (R220). -/
def State.window (lane d t : Nat) (s : State) : Nat × List Nat :=
  match s.screed.winNow.find? (fun w => w.1 == tapKey lane d t) with
  | some w => w.2
  | none => (0, [])

/-- R238: a mode 4 read clamps at LENGTH − 1. -/
def State.tapClamped (lane x : Nat) (s : State) : Bool :=
  let f := sField x
  let d := bits 11 6 f
  let y := s.desc d
  y.on && decide (y.length - 1 < s.tapWord lane d (bits 5 4 f) / 1024 + bits 3 0 f)

/-- A tap read by mode 4 (R238). -/
def State.readTap (lane x : Nat) (s : State) : Nat :=
  let f := sField x
  let d := bits 11 6 f
  let y := s.desc d
  if y.on then s.lineSample lane d (min (s.tapWord lane d (bits 5 4 f) / 1024 + bits 3 0 f) (y.length - 1)) else 0

/-- A window read by mode 11 (R238): sample m. A tap at or above TAPS has no window, and what it reads is free (log entry 21). -/
def State.readWindow (lane x : Nat) (s : State) : Nat :=
  let f := sField x
  let d := bits 11 6 f
  let t := bits 5 4 f
  let y := s.desc d
  if !y.on then 0
  else if y.taps ≤ t then (Config.unfetched (tapKey lane d t) s.screed.index).toNat
  else (s.window lane d t).2.getD (if y.frac t then 17 else 1) 0

/-! Sources (R233, R235) -/

/-- A source operand as the signed number it holds: 32 bits of S32 modes, 64 of P, 72 of an
accumulator, 0 or 1 of a C register. -/
def State.source (who lane x : Nat) (s : State) : Int :=
  let c := s.sctx who
  let f := sField x
  match sMode x with
  | 0 => signed 32 (Table.get 0 (lane * 32 + bits 4 0 f) c.v)
  | 1 | 2 | 3 => signed 32 (s.dataWord lane (c.wordAddr x))
  | 4 => signed 32 (s.readTap lane x)
  | 5 | 6 => signed 32 (Table.get 0 (lane * 4096 + c.sliceAddr x) s.screed.coefActive)
  | 7 => signed 64 (Table.get 0 (lane * 4 + bits 1 0 f) c.p)
  | 8 => signed 72 (Table.get 0 (lane * 8 + bits 2 0 f) c.acc)
  | 9 => signed 12 f * 1048576
  | 10 => signed 32 (s.dataWord ((lane + bits 7 4 f) % s.laneCount) (c.wordAddr x))
  | 11 => signed 32 (s.readWindow lane x)
  | _ => b01 (c.cond lane (bits 2 0 f))

/-- R242: a source on the scale of 2⁻⁶². -/
def State.sourceWide (who lane x : Nat) (s : State) : Int :=
  if sMode x = 7 ∨ sMode x = 8 then s.source who lane x else s.source who lane x * 2147483648

/-- R236: the operand of a scalar instruction, from lane 0 alone; an immediate is an integer (R235). -/
def State.scalar (who x : Nat) (s : State) : Int :=
  if sMode x = 9 then sField x else s.source who 0 x

/-! Destinations -/

/-- One clamp (R203). -/
def State.satHit (lane : Nat) (s : State) : State :=
  { s.bump 0x20 (6 + 2 * lane) with screed := { s.screed with satMask := Nat.lor s.screed.satMask (2 ^ lane) } }

/-- Count a clamp if there was one. -/
def State.satIf (lane : Nat) (hit : Bool) (s : State) : State := if hit then s.satHit lane else s

/-- Write a V register. -/
def State.putV (who lane n : Nat) (v : Int) (s : State) : State :=
  s.modSctx who (fun c => { c with v := Table.set 0 (lane * 32 + n % 32) (unsigned 32 v) c.v })

/-- Write a P register. -/
def State.putP (who lane n : Nat) (v : Int) (s : State) : State :=
  s.modSctx who (fun c => { c with p := Table.set 0 (lane * 4 + n % 4) (unsigned 64 v) c.p })

/-- Write a C register. -/
def State.putC (who lane n : Nat) (v : Bool) (s : State) : State :=
  s.modSctx who (fun c => { c with c := Table.set 0 (lane * 8 + n % 8) (b01 v) c.c })

/-- Write an accumulator: it wraps modulo 2⁷², and a wrap counts in GUARD_OVF (R201). -/
def State.putAcc (who lane n : Nat) (v : Int) (s : State) : State :=
  let s := s.modSctx who (fun c => { c with acc := Table.set 0 (lane * 8 + n % 8) (unsigned 72 v) c.acc })
  if signed 72 (unsigned 72 v) = v then s else s.bump 0x20 (7 + 2 * lane)

/-- R239: a sample written to a delay line; a DRAM line narrows it to 24 bits (R219). -/
def State.putLine (lane d : Nat) (v : Int) (s : State) : State :=
  let x := s.desc d
  if !x.on then s
  else if x.inDram then
    let r := fit false 24 (roundShift false 8 v)
    let back := Table.insert (dramKey lane (x.base + x.pos)) (unsigned 24 r.1) s.screed.back
    ({ s with screed := { s.screed with back := back } }).satIf lane r.2
  else s.setData lane (x.base + x.pos) (unsigned 32 v)

/-- Write a D32 or C destination of one lane; `c` is the context as the instruction issued (R234). -/
def State.putDest (who lane x : Nat) (c : ScreedCtx) (v : Int) (s : State) : State :=
  let f := sField x
  match sMode x with
  | 0 => s.putV who lane (bits 4 0 f) v
  | 1 | 2 | 3 => s.storeWord lane (c.wordAddr x) (unsigned 32 v)
  | 4 => s.putLine lane (bits 11 6 f) v
  | 7 => s.putP who lane (bits 1 0 f) v
  | 8 => s.putAcc who lane (bits 2 0 f) v
  | 12 => s.putC who lane (bits 2 0 f) (v != 0)
  | _ => s

/-- Clamps of mode 4 reads in the lanes that take part (R238); a scalar instruction reads lane 0 alone. -/
def State.countClamps (ls : List Nat) (xs : List Nat) (s : State) : State :=
  s.bumpBy 0x21 1 ((xs.filter (fun x => sMode x == 4)).foldl (fun n x => n + (ls.filter (fun l => s.tapClamped l x)).length) 0)

/-! Faults of operands (R251 positions 0–2) -/

/-- The operand is an illegal one at run time. -/
def State.badOperand (who pos x : Nat) (s : State) : Bool :=
  let f := sField x
  let y := s.desc (bits 11 6 f)
  match sMode x with
  | 1 | 2 | 3 | 10 => who != 2 && within 0x6E00 0x7DFF ((s.sctx who).wordAddr x)
  | 4 => pos != 0 && y.on && y.inDram
  | 11 => y.on && !y.inDram
  | _ => false

/-- The operands an opcode has, with their positions (R240). -/
def SIns.operands (i : SIns) : List (Nat × Nat) :=
  let u := i.op
  if u = 0x00 ∨ u = 0x52 ∨ u = 0x53 ∨ u = 0x54 then []
  else if u = 0x02 then [(0, i.d)]
  else if u = 0x01 ∨ u = 0x12 ∨ u = 0x13 ∨ u = 0x36 ∨ u = 0x40 then [(0, i.d), (1, i.a)]
  else if 0x50 ≤ u ∧ u ≤ 0x5B then [(1, i.a)]
  else [(0, i.d), (1, i.a), (2, i.b)]

/-- The first position that faults. -/
def State.badPosition (who : Nat) (i : SIns) (s : State) : Option Nat :=
  (i.operands.find? (fun p => s.badOperand who p.1 p.2)).map (·.1)

end Sys2Proof.Machine
end

