-- ==== Sys2Proof/Machine/Screed.lean ====
section
/-! DEFINITION. Screed instructions: fetch, issue, products in flight, loops and every opcode (R199–R253). -/
namespace Sys2Proof.Machine

/-! Programs and fetch (R206, R213) -/

/-- Program `who`: 0 foreground, 1 customer background, 2 solver. -/
def State.sprog (who : Nat) (s : State) : ScreedProg :=
  match who with | 0 => s.screed.fg | 1 => s.screed.cust | _ => s.screed.solver

/-- Replace program `who`. -/
def State.modSprog (who : Nat) (f : ScreedProg → ScreedProg) (s : State) : State :=
  match who with
  | 0 => { s with screed := { s.screed with fg := f s.screed.fg } }
  | 1 => { s with screed := { s.screed with cust := f s.screed.cust } }
  | _ => { s with screed := { s.screed with solver := f s.screed.solver } }

/-- The active foreground bank. -/
def Screed.active (x : Screed) : ScreedBank := if x.activeB then x.bankB else x.bankA
/-- The idle foreground bank. -/
def Screed.idle (x : Screed) : ScreedBank := if x.activeB then x.bankA else x.bankB
/-- First word address of the active foreground bank. -/
def Screed.fgBase (x : Screed) : Nat := if x.activeB then 0x3000 else 0

/-- FGEND, the fill of a foreground bank (R250). -/
def fgendWord : Nat := 0x52 * 2 ^ 56
/-- JMP, the fill of the customer words (R250); its target is the program's first word. -/
def fillJump : SIns := { op := 0x54, d := 0x9000, a := 0, b := 0, m := 0 }

/-- The instruction at a program's PC; none where the fetch is a fault (R213, R251). -/
def State.fetchIns (who : Nat) (s : State) : Option SIns :=
  let pc := (s.sprog who).pc
  let x := s.screed
  match who with
  | 0 => if x.fgBase ≤ pc ∧ pc < x.fgBase + 12288 then some (sIns (x.active.words.getD (pc - x.fgBase) fgendWord)) else none
  | 1 =>
    if 0x7400 ≤ pc ∧ pc < 0x8000 then
      (if pc - 0x7400 < x.custBank.words.length then some (sIns (x.custBank.words.getD (pc - 0x7400) 0)) else some fillJump)
    else none
  | _ => if 0x6000 ≤ pc ∧ pc < 0x7400 then some (sIns (x.solverWords.getD (pc - 0x6000) 0)) else none

/-- R206, R224: the solver has its place in the background. -/
def State.solverOn (s : State) : Bool := decide (s.plumb.state ≠ 7)

/-- Screed runs: in the modes that serve, and from when it leaves reset in a start-up (R14, R228). -/
def State.screedRuns (s : State) : Bool := s.power.mode.serves || s.rst.inReset

/-- The program that issues the next slot (R199, R206, R207), if one does. -/
def State.issuer (s : State) : Option Nat :=
  let x := s.screed
  if !s.screedRuns then none
  else if x.passOpen then some 0
  else if x.cust.on && x.cust.rep != 0 then some 1
  else if x.solver.on && s.solverOn && x.solver.wait.isNone then some 2
  else if x.cust.on && x.cust.wait.isNone then some 1
  else none

/-! Products (R205, R243, R244) -/

/-- The result of one product in one lane lands. -/
def State.landLane (who : Nat) (p : Product) (lv : Nat × Int) (s : State) : State :=
  let i : SIns := { op := p.op, d := 0, a := 0, b := 0, m := p.mod }
  let v := alignProduct i.cf lv.2
  let acc := signed 72 (Table.get 0 (lv.1 * 8 + p.reg % 8) (s.sctx who).acc)
  match p.op with
  | 0x20 => s.putP who lv.1 p.reg lv.2
  | 0x21 => s.putAcc who lv.1 p.reg (acc + v)
  | 0x22 => s.putAcc who lv.1 p.reg (acc - v)
  | 0x23 => s.putAcc who lv.1 p.reg v
  | _ =>
    let r := narrow i.floor i.wrap i.depth v
    (s.putV who lv.1 p.reg r.1).satIf lv.1 r.2

/-- One product lands in every lane that took part. -/
def State.landProduct (who : Nat) (s : State) (p : Product) : State := p.lanes.foldl (fun s lv => s.landLane who p lv) s

/-- The products due by a slot land, in the order of their issue. -/
def State.landDue (who slot : Nat) (s : State) : State :=
  let l := (s.sctx who).flight
  let s := s.modSctx who (fun c => { c with flight := l.filter (fun p => decide (slot < p.due)) })
  (l.filter (fun p => decide (p.due ≤ slot))).foldl (fun s p => s.landProduct who p) s

/-- Every product of a context lands (R205 FGEND). -/
def State.landAll (who : Nat) (s : State) : State :=
  let l := (s.sctx who).flight
  l.foldl (fun s p => s.landProduct who p) (s.modSctx who (fun c => { c with flight := [] }))

/-- PRODUCT_LANDS (R243): the oldest product of context F or B whose slot n + 3 has come. -/
def State.productLands (background : Bool) (s : State) : State :=
  let who := b01 background
  match (s.sctx who).flight with
  | p :: r =>
    if p.due ≤ (s.sctx who).slot then State.landProduct who (s.modSctx who (fun c => { c with flight := r })) p else s
  | [] => s

/-- PRODUCT_LANDS (R243). -/
def execProductLands (background : Bool) (s : State) : Step := .next (s.productLands background)

/-! Faults (R251, R252) -/

/-- R252: one occurrence of ILLEGAL_OPERAND. -/
def State.screedFault (who pos : Nat) (s : State) : State :=
  s.occur 75 who (le 2 (s.sprog who).pc ++ le 1 pos ++ zeros 1 ++ le 8 s.screed.index)

/-- R178: the epoch in hand counts as late. -/
def State.epochLate (s : State) : State := (s.bump 0x13 5).occur 69 0 (le 4 s.track.setSeq)

/-- R217: the solver reinitialises from its last published solution; its epoch counts as late. -/
def State.solverReinit (s : State) : State :=
  (s.modSprog 2 (fun p => { p with pc := 0x6000, rep := 0, wait := none })).epochLate

/-- Position 3 in the background (R251). -/
def State.checkFetch (who : Nat) (s : State) : State :=
  if who = 0 ∨ (s.fetchIns who).isSome then s
  else if who = 1 then (s.screedFault 1 3).modSprog 1 (fun p => { p with on := false, rep := 0, wait := none })
  else (s.screedFault 2 3).solverReinit

/-! Sequencing (R245, R246) -/

/-- The loop level that returns from words `first` to `pc`: LE there, LC above 1, the innermost first (R245). -/
def loopReturn (first pc : Nat) (l : List ScreedLoop) : Option (Nat × Nat) :=
  (l.zipIdx).foldl (fun best x =>
    if within first pc x.1.le ∧ 1 < x.1.lc then
      match best with
      | some (ls, _) => if ls < x.1.ls then some (x.1.ls, x.2) else best
      | none => some (x.1.ls, x.2)
    else best) none

/-- The instruction at PC completes without a branch: the next word, or LS (R245). After a REP, `rep`, a loop may end at
REP or at what it repeats (R246). -/
def State.stepPast (who : Nat) (rep : Bool) (s : State) : State :=
  let pc := (s.sprog who).pc
  match loopReturn (pc - b01 rep) pc (s.sctx who).loops with
  | some (ls, k) =>
    (s.modSctx who (fun c => { c with loops := modAt k (fun x => { x with lc := x.lc - 1 }) c.loops })).modSprog who
      (fun p => { p with pc := ls })
  | none => s.modSprog who (fun p => { p with pc := (pc + 1) % 32768 })

/-- PC after an instruction: a taken branch, a repetition, or the next word. -/
def State.sequence (who : Nat) (target : Option Nat) (s : State) : State :=
  match target with
  | some t => (s.modSprog who (fun p => { p with pc := t % 32768, rep := 0 })).checkFetch who
  | none =>
    if 1 < (s.sprog who).rep then s.modSprog who (fun p => { p with rep := p.rep - 1 })
    else ((s.modSprog who (fun p => { p with rep := 0 })).stepPast who ((s.sprog who).rep != 0)).checkFetch who

/-- `n` slots have been issued (R205, R211). -/
def State.countSlots (who n : Nat) (s : State) : State :=
  let s := s.modSctx who (fun c => { c with slot := c.slot + n })
  if who = 0 then { s with screed := { s.screed with fgSlots := s.screed.fgSlots + n } } else s

/-- The effect of an opcode: its writes, and where control goes instead of the next word. -/
abbrev SFx := Nat → SIns → State → State × Option Nat

/-- One instruction issues (R199, R234, R237, R243, R251): due products land, a bad operand does nothing but
its fault, else the effect and then the post-steps. -/
def State.issueIns (who : Nat) (i : SIns) (slots : Nat) (f : SFx) (s : State) : State :=
  let s := s.landDue who (s.sctx who).slot
  match s.badPosition who i with
  | some pos => ((s.screedFault who pos).countSlots who slots).sequence who none
  | none =>
    let ls := if 0x50 ≤ i.op then [0] else s.sLanes who i
    let s := s.countClamps ls ((i.operands.filter (fun p => p.1 != 0)).map (·.2))
    let r := f who i s
    let s := r.1.modSctx who (fun c => c.postSteps (i.operands.map (·.2)))
    (s.countSlots who slots).sequence who r.2

/-- An effect that never branches. -/
def flow (f : Nat → SIns → State → State) : SFx := fun who i s => (f who i s, none)

/-! Effects by opcode -/

/-- The value of each lane is computed from the state as issued, then written (R237); `g` gives a value and whether
it was clamped. -/
def State.perLane (who : Nat) (i : SIns) (g : Nat → Int × Bool) (s : State) : State :=
  let c := s.sctx who
  ((s.sLanes who i).map (fun l => (l, g l))).foldl (fun s v => (s.putDest who v.1 i.d c v.2.1).satIf v.1 v.2.2) s

/-- NOP (R240). -/
def fxNop : SFx := fun _ _ s => (s, none)

/-- MOV (R241). -/
def fxMov : SFx := flow fun who i s =>
  let wide := sMode i.a == 7 || sMode i.a == 8
  s.perLane who i (fun l =>
    if sMode i.d = 8 then (s.sourceWide who l i.a, false)
    else if wide then narrow i.floor i.wrap i.depth (s.source who l i.a)
    else (s.source who l i.a, false))

/-- CLR (R240). -/
def fxClr : SFx := flow fun who i s => s.perLane who i (fun _ => (0, false))

/-- The 33-bit operations (R241): d = 0 under WRAP. -/
def fxArith (g : Int → Int → Int) : SFx := flow fun who i s =>
  s.perLane who i (fun l => fit i.wrap 32 (g (s.source who l i.a) (s.source who l i.b)))

/-- MIN and MAX (R240). -/
def fxPick (g : Int → Int → Int) : SFx := flow fun who i s =>
  s.perLane who i (fun l => (g (s.source who l i.a) (s.source who l i.b), false))

/-- AND, OR and XOR (R240). -/
def fxBits (g : Nat → Nat → Nat) : SFx := flow fun who i s =>
  s.perLane who i (fun l => (signed 32 (g (unsigned 32 (s.source who l i.a)) (unsigned 32 (s.source who l i.b))), false))

/-- ASH's count: an integer clamped to ±31; an immediate is a count, so an integer (R235, R240). -/
def State.ashCount (who l x : Nat) (s : State) : Int :=
  max (-31) (min 31 (if sMode x = 9 then signed 12 (sField x) else s.source who l x))

/-- ASH (R241). -/
def fxAsh : SFx := flow fun who i s =>
  s.perLane who i (fun l =>
    let a := s.source who l i.a
    let b := s.ashCount who l i.b
    if 0 ≤ b then fit i.wrap 32 (a * ((2 ^ b.toNat : Nat) : Int)) else narrow i.floor i.wrap (-b).toNat a)

/-- ADDA and SUBA (R240): wrapping 72-bit sums. -/
def fxAcc (g : Int → Int → Int) : SFx := flow fun who i s =>
  s.perLane who i (fun l => (g (s.source who l i.a) (s.source who l i.b), false))

/-- MUL, MAC, MSU, MULA and MULS (R200, R243): the exact product lands in slot n + 3. -/
def fxMul : SFx := flow fun who i s =>
  let p : Product :=
    { due := (s.sctx who).slot + 3, op := i.op, reg := sField i.d, mod := i.m
      lanes := (s.sLanes who i).map (fun l => (l, s.source who l i.a * s.source who l i.b)) }
  s.modSctx who (fun c => { c with flight := c.flight ++ [p] })

/-- The compare instructions (R242). -/
def fxCmp (g : Int → Int → Bool) : SFx := flow fun who i s =>
  s.perLane who i (fun l => (b01 (g (s.sourceWide who l i.a) (s.sourceWide who l i.b)), false))

/-- CAND, COR and CNOT (R240). -/
def fxCond (g : Bool → Bool → Bool) : SFx := flow fun who i s =>
  s.perLane who i (fun l => (b01 (g (s.source who l i.a != 0) (s.source who l i.b != 0)), false))

/-- R249: the sum of one lane in units of 2⁻⁶²; the ROM's phase sets are not given (log entry 20). -/
def interpolate (cf : Bool) (phi : Nat) (x : Nat → Int) : Int :=
  (List.range 32).foldl (fun a i => a + Config.phase cf phi i * x i) 0

/-- FTAP's tap in one lane (R249). -/
def State.ftapLane (cf : Bool) (l x : Nat) (s : State) : Int :=
  let f := sField x
  let d := bits 11 6 f
  let t := bits 5 4 f
  let y := s.desc d
  if !y.on then 0
  else
    let w := s.window l d t
    let word := if y.inDram then w.1 else s.tapWord l d t
    let m := word / 1024
    if word % 1024 = 0 ∨ !y.frac t then
      signed 32 (if y.inDram then s.readWindow l x else s.lineSample l d (min m (y.length - 1))) * 2147483648
    else interpolate cf (word % 1024) (fun i =>
      signed 32 (if y.inDram then w.2.getD (i + 1) 0 else s.lineSample l d (m + i - 16)))

/-- FTAP (R249): products issued before it land first. -/
def fxFtap : SFx := flow fun who i s =>
  let c := s.sctx who
  let vs := (s.sLanes who i).map (fun l =>
    let y := s.ftapLane i.cf l i.a
    (l, if sMode i.d = 8 then (y, false) else narrow i.floor i.wrap i.depth y))
  vs.foldl (fun s v => (s.putDest who v.1 i.d c v.2.1).satIf v.1 v.2.2) (s.landAll who)

/-- R246, R247: a count from data, cut to its declared maximum; a cut is a fault of position 4. -/
def State.dataCount (who x most : Nat) (s : State) : Nat × Bool :=
  let n := unsigned 16 (s.source who 0 x)
  if most < n then (most, true) else (n, false)

/-- The fault of position 4, if there was one (R251): the instruction executes. -/
def State.countFault (who : Nat) (hit : Bool) (s : State) : State := if hit then s.screedFault who 4 else s

/-- LOOP (R245). -/
def fxLoop : SFx := fun who i s =>
  let pc := (s.sprog who).pc
  let d := sField i.d
  let n := if sMode i.a = 9 then (sField i.a, false) else s.dataCount who i.a (sField i.b)
  let le := pc + bits 9 0 d
  let s := (s.countFault who n.2).modSctx who (fun c =>
    { c with loops := modAt (bits 11 10 d) (fun _ => { ls := (pc + 1) % 32768, le := le % 32768, lc := n.1 }) c.loops })
  (s, if n.1 = 0 then some (le + 1) else some (pc + 1))

/-- REP's count: 1–4,096, or 0 from data; in the background no more than MAXREP (R246, R247). -/
def State.repCount (who : Nat) (i : SIns) (s : State) : Nat × Bool :=
  let full := fun n => if n = 0 then 4096 else n
  let n := if sMode i.a = 9 then (full (sField i.a), false) else s.dataCount who i.a (full (sField i.b))
  if who ≠ 0 ∧ s.screed.maxrep < n.1 then (s.screed.maxrep, n.2 || decide (sMode i.a ≠ 9)) else n

/-- The word after PC executes `n` times next. -/
def State.startRep (who n : Nat) (s : State) : State :=
  s.modSprog who (fun p => { p with pc := (p.pc + 1) % 32768, rep := n })

/-- REP (R246): the next instruction `n` times; with 0 it is skipped, as if it had completed. -/
def State.issueRep (who : Nat) (i : SIns) (s : State) : State :=
  let s := s.landDue who (s.sctx who).slot
  match s.badPosition who i with
  | some pos => ((s.screedFault who pos).countSlots who 1).sequence who none
  | none =>
    let s := s.countClamps [0] [i.a]
    let n := s.repCount who i
    let s := ((s.countFault who n.2).modSctx who (fun c => c.postSteps [i.a])).countSlots who 1
    if n.1 = 0 then (((s.startRep who 0).checkFetch who).stepPast who true).checkFetch who
    else (s.startRep who n.1).checkFetch who

/-- The end of the foreground pass (R205, R207): products complete, output words are staged, and the
background resumes. -/
def State.endPass (s : State) : State :=
  let s := s.landAll 0
  let words := s.laneList.flatMap (fun l => (List.range 4).map (fun k => (16 * k + l, s.dataWord l (0x7FF4 + k))))
  let st := words.foldl (fun t w => Table.set 0 w.1 w.2 t) []
  { s with screed := { s.screed with staged := st, passOpen := false, fg := { s.screed.fg with rep := 0 } } }

/-- FGEND (R207, R251): also a foreground fetch outside its bank. -/
def State.issueFgend (s : State) : State :=
  let s := if (s.fetchIns 0).isSome then s else s.screedFault 0 3
  ((s.landDue 0 s.screed.f.slot).countSlots 0 1).endPass

/-- The source an EVWAIT names. -/
def SIns.source (i : SIns) : Nat := sField i.a % 128

/-- R111, R248: the wait on source `n` is met: STAT and the TO_SCREED route. -/
def State.waitMet (n : Nat) (s : State) : Bool := (s.event n).stat && (s.event n).toScreed

/-- EVWAIT (R248). -/
def State.issueEvwait (who : Nat) (i : SIns) (s : State) : State :=
  let s := (s.landDue who (s.sctx who).slot).countSlots who 1
  if s.waitMet i.source then (s.clearStat i.source).sequence who none
  else s.modSprog who (fun p => { p with wait := some i.source })

/-- EVWAIT_SATISFIED (R206, R248): the waited source has set STAT; it clears and issue passes on. -/
def State.evwaitSatisfied (solver : Bool) (s : State) : State :=
  let who := if solver then 2 else 1
  match (s.sprog who).wait with
  | some n =>
    if s.waitMet n then ((s.clearStat n).modSprog who (fun p => { p with wait := none })).sequence who none else s
  | none => s

/-- EVWAIT_SATISFIED (R206). -/
def execEvwaitSatisfied (solver : Bool) (s : State) : Step := .next (s.evwaitSatisfied solver)

/-- A branch's target (R248): a signed offset from the branch; the fill's JMP goes to the first word (R250). -/
def State.branchTarget (who : Nat) (i : SIns) (s : State) : Nat :=
  let pc := (s.sprog who).pc
  if who = 1 ∧ 0x7400 + s.screed.custBank.words.length ≤ pc then 0x7400
  else unsigned 15 ((pc : Int) + signed 12 (sField i.d))

/-- JMP (R248). -/
def fxJmp : SFx := fun who i s => (s, some (s.branchTarget who i))

/-- BRANY and BRALL (R248): over every fused lane. -/
def fxBranch (every : Bool) : SFx := fun who i s =>
  let l := s.laneList.map (fun l => (s.sctx who).cond l (bits 2 0 (sField i.a)))
  (s, if (if every then l.all id else l.any id) then some (s.branchTarget who i) else none)

/-- Replace address register `n`. -/
def ScreedCtx.setA (n : Nat) (v : Int) (c : ScreedCtx) : ScreedCtx := { c with a := modAt n (fun _ => unsigned 18 v) c.a }

/-- LDAR (R240). -/
def fxLdar : SFx := flow fun who i s =>
  let v := s.scalar who i.a
  s.modSctx who (fun c => c.setA (sField i.d % 16) v)

/-- ADAR (R240): an immediate is signed. -/
def fxAdar : SFx := flow fun who i s =>
  let v := if sMode i.a = 9 then signed 12 (sField i.a) else s.scalar who i.a
  s.modSctx who (fun c => c.step (sField i.d % 16) v)

/-- SETDP (R240). -/
def fxSetdp : SFx := flow fun who i s =>
  let v := unsigned 3 (s.scalar who i.a)
  s.modSctx who (fun c => { c with dpage := v })

/-- SETMR (R204, R240): 0 stores 1, above 64 stores 64; the word is taken without a sign (DESIGN CHOICE, log entry 137). -/
def fxSetmr : SFx := flow fun who i s =>
  let v := unsigned 32 (s.scalar who i.a)
  { s with screed := { s.screed with maxrep := if v = 0 then 1 else min v 64 } }

/-- The effect and the slots of an opcode that issues through `issueIns` (R240). -/
def screedFx (op : Nat) : Option (Nat × SFx) :=
  match op with
  | 0x00 => some (1, fxNop)
  | 0x01 => some (1, fxMov)
  | 0x02 => some (1, fxClr)
  | 0x10 => some (1, fxArith (· + ·))
  | 0x11 => some (1, fxArith (· - ·))
  | 0x12 => some (1, fxArith (fun a _ => -a))
  | 0x13 => some (1, fxArith (fun a _ => a.natAbs))
  | 0x14 => some (1, fxPick min)
  | 0x15 => some (1, fxPick max)
  | 0x16 => some (1, fxAsh)
  | 0x17 => some (1, fxBits Nat.land)
  | 0x18 => some (1, fxBits Nat.lor)
  | 0x19 => some (1, fxBits Nat.xor)
  | 0x1A => some (1, fxAcc (· + ·))
  | 0x1B => some (1, fxAcc (· - ·))
  | 0x20 | 0x21 | 0x22 | 0x23 | 0x24 => some (1, fxMul)
  | 0x30 => some (1, fxCmp (fun a b => decide (a = b)))
  | 0x31 => some (1, fxCmp (fun a b => decide (a ≠ b)))
  | 0x32 => some (1, fxCmp (fun a b => decide (a < b)))
  | 0x33 => some (1, fxCmp (fun a b => decide (a ≤ b)))
  | 0x34 => some (1, fxCond (· && ·))
  | 0x35 => some (1, fxCond (· || ·))
  | 0x36 => some (1, fxCond (fun a _ => !a))
  | 0x40 => some (16, fxFtap)
  | 0x50 => some (1, fxLoop)
  | 0x54 => some (2, fxJmp)
  | 0x55 => some (2, fxBranch false)
  | 0x56 => some (2, fxBranch true)
  | 0x58 => some (1, fxLdar)
  | 0x59 => some (1, fxAdar)
  | 0x5A => some (1, fxSetdp)
  | 0x5B => some (1, fxSetmr)
  | _ => none

/-- One instruction of program `who` issues, whichever it is: what a drain repeats (R207, R212). -/
def State.issueAny (who : Nat) (i : SIns) (s : State) : State :=
  match screedFx i.op with
  | some (n, f) => s.issueIns who i n f
  | none =>
    match i.op with
    | 0x51 => s.issueRep who i
    | 0x52 => if who = 0 then s.issueFgend else s
    | 0x53 => if who = 0 then s else s.issueEvwait who i
    | _ => s

/-- A row of the instruction table: it issues when the program whose turn it is stands at that opcode; otherwise it is not
the part's next step (log entry 1). -/
def State.screedRow (op slots : Nat) (f : SFx) (s : State) : State :=
  match s.issuer with
  | none => s
  | some who => match s.fetchIns who with
    | some i => if i.op = op then s.issueIns who i slots f else s
    | none => s

/-- REP (R246). -/
def State.repRow (s : State) : State :=
  match s.issuer with
  | none => s
  | some who => match s.fetchIns who with
    | some i => if i.op = 0x51 then s.issueRep who i else s
    | none => s

/-- FGEND (R207). -/
def State.fgendRow (s : State) : State :=
  if s.issuer = some 0 then
    match s.fetchIns 0 with
    | some i => if i.op = 0x52 then s.issueFgend else s
    | none => s.issueFgend
  else s

/-- EVWAIT (R248). -/
def State.evwaitRow (s : State) : State :=
  match s.issuer with
  | none => s
  | some who => match s.fetchIns who with
    | some i => if who ≠ 0 ∧ i.op = 0x53 then s.issueEvwait who i else s
    | none => s

/-! The rows -/

/-- SCREED_NOP (R240). -/
def execScreedNop (s : State) : Step := .next (s.screedRow 0x00 1 fxNop)
/-- MOV (R241). -/
def execMov (s : State) : Step := .next (s.screedRow 0x01 1 fxMov)
/-- CLR (R240). -/
def execClr (s : State) : Step := .next (s.screedRow 0x02 1 fxClr)
/-- SCREED_ADD (R240, R241). -/
def execScreedAdd (s : State) : Step := .next (s.screedRow 0x10 1 (fxArith (· + ·)))
/-- SCREED_SUB (R240, R241). -/
def execScreedSub (s : State) : Step := .next (s.screedRow 0x11 1 (fxArith (· - ·)))
/-- SCREED_NEG (R240, R241). -/
def execScreedNeg (s : State) : Step := .next (s.screedRow 0x12 1 (fxArith (fun a _ => -a)))
/-- ABS (R240, R241). -/
def execAbs (s : State) : Step := .next (s.screedRow 0x13 1 (fxArith (fun a _ => a.natAbs)))
/-- MIN (R240). -/
def execMin (s : State) : Step := .next (s.screedRow 0x14 1 (fxPick min))
/-- MAX (R240). -/
def execMax (s : State) : Step := .next (s.screedRow 0x15 1 (fxPick max))
/-- ASH (R241). -/
def execAsh (s : State) : Step := .next (s.screedRow 0x16 1 fxAsh)
/-- SCREED_AND (R240). -/
def execScreedAnd (s : State) : Step := .next (s.screedRow 0x17 1 (fxBits Nat.land))
/-- SCREED_OR (R240). -/
def execScreedOr (s : State) : Step := .next (s.screedRow 0x18 1 (fxBits Nat.lor))
/-- SCREED_XOR (R240). -/
def execScreedXor (s : State) : Step := .next (s.screedRow 0x19 1 (fxBits Nat.xor))
/-- ADDA (R201, R240). -/
def execAdda (s : State) : Step := .next (s.screedRow 0x1A 1 (fxAcc (· + ·)))
/-- SUBA (R201, R240). -/
def execSuba (s : State) : Step := .next (s.screedRow 0x1B 1 (fxAcc (· - ·)))
/-- MUL (R200, R240). -/
def execMul (s : State) : Step := .next (s.screedRow 0x20 1 fxMul)
/-- MAC (R244). -/
def execMac (s : State) : Step := .next (s.screedRow 0x21 1 fxMul)
/-- MSU (R244). -/
def execMsu (s : State) : Step := .next (s.screedRow 0x22 1 fxMul)
/-- MULA (R240). -/
def execMula (s : State) : Step := .next (s.screedRow 0x23 1 fxMul)
/-- MULS (R241). -/
def execMuls (s : State) : Step := .next (s.screedRow 0x24 1 fxMul)
/-- CMPEQ (R242). -/
def execCmpeq (s : State) : Step := .next (s.screedRow 0x30 1 (fxCmp (fun a b => decide (a = b))))
/-- CMPNE (R242). -/
def execCmpne (s : State) : Step := .next (s.screedRow 0x31 1 (fxCmp (fun a b => decide (a ≠ b))))
/-- CMPLT (R242). -/
def execCmplt (s : State) : Step := .next (s.screedRow 0x32 1 (fxCmp (fun a b => decide (a < b))))
/-- CMPLE (R242). -/
def execCmple (s : State) : Step := .next (s.screedRow 0x33 1 (fxCmp (fun a b => decide (a ≤ b))))
/-- CAND (R240). -/
def execCand (s : State) : Step := .next (s.screedRow 0x34 1 (fxCond (· && ·)))
/-- COR (R240). -/
def execCor (s : State) : Step := .next (s.screedRow 0x35 1 (fxCond (· || ·)))
/-- CNOT (R240). -/
def execCnot (s : State) : Step := .next (s.screedRow 0x36 1 (fxCond (fun a _ => !a)))
/-- FTAP (R249). -/
def execFtap (s : State) : Step := .next (s.screedRow 0x40 16 fxFtap)
/-- SCREED_LOOP (R245). -/
def execScreedLoop (s : State) : Step := .next (s.screedRow 0x50 1 fxLoop)
/-- REP (R246). -/
def execRep (s : State) : Step := .next s.repRow
/-- FGEND (R207). -/
def execFgend (s : State) : Step := .next s.fgendRow
/-- EVWAIT (R248). -/
def execEvwait (s : State) : Step := .next s.evwaitRow
/-- SCREED_JMP (R248). -/
def execScreedJmp (s : State) : Step := .next (s.screedRow 0x54 2 fxJmp)
/-- BRANY (R248). -/
def execBrany (s : State) : Step := .next (s.screedRow 0x55 2 (fxBranch false))
/-- BRALL (R248). -/
def execBrall (s : State) : Step := .next (s.screedRow 0x56 2 (fxBranch true))
/-- LDAR (R240). -/
def execLdar (s : State) : Step := .next (s.screedRow 0x58 1 fxLdar)
/-- ADAR (R240). -/
def execAdar (s : State) : Step := .next (s.screedRow 0x59 1 fxAdar)
/-- SETDP (R240). -/
def execSetdp (s : State) : Step := .next (s.screedRow 0x5A 1 fxSetdp)
/-- SETMR (R240). -/
def execSetmr (s : State) : Step := .next (s.screedRow 0x5B 1 fxSetmr)

end Sys2Proof.Machine
end

