-- ==== Sys2Proof/Machine/ScreedTick.lean ====
section
/-! DEFINITION. What the switch cycle of a sample tick does inside Screed: drains, overrun, swaps, glides and the
streamer (R203, R207–R223, R261–R273). -/
namespace Sys2Proof.Machine

/-! Before the switch cycle -/

/-- R207, R212: a REP in progress completes its remaining repetitions. -/
def drainRep (who : Nat) : Nat → State → State
  | 0, s => s
  | n + 1, s =>
    if (s.sprog who).rep = 0 then s
    else match s.fetchIns who with
    | some i => drainRep who n (s.issueAny who i)
    | none => s.modSprog who (fun p => { p with rep := 0 })

/-- R207 event 2: background REPs complete. -/
def State.drainBackground (s : State) : State := drainRep 2 64 (drainRep 1 64 s)

/-- R203: SATURATION at the end of a tick. -/
def State.endSaturation (s : State) : State :=
  if s.screed.satMask = 0 then s
  else { s.occur 79 s.screed.satMask (le 8 s.screed.index) with screed := { s.screed with satMask := 0 } }

/-- R211: the slots of the tick that ends; the background slots received are measured. -/
def State.noteSlots (received : Nat) (s : State) : State :=
  { s with screed := { s.screed with
    fgMax := max s.screed.fgMax (s.screed.fgSlots % 65536), bgMin := min s.screed.bgMin (received % 65536), fgSlots := 0 } }

/-- R212: an overrun. The pass is abandoned; its staged words are the ones passed before. -/
def State.overrun (s : State) : State :=
  if !s.screed.passOpen then s
  else
    let s := drainRep 0 4096 s
    let pc := s.screed.fg.pc
    let s := (s.bump 0x20 1).occur 72 0 (le 2 pc ++ le 8 s.screed.index)
    { s with screed := { s.screed with passOpen := false, fg := { s.screed.fg with rep := 0 } } }

/-! Glides (R268–R271) -/

/-- Replace glide unit `n` by a function of it. -/
def State.modGlide (n : Nat) (f : Glide → Glide) (s : State) : State :=
  { s with screed := { s.screed with glides := modAt n f s.screed.glides } }

/-- Glide unit `n`. -/
def State.glide (n : Nat) (s : State) : Glide := s.screed.glides.getD n {}

/-- Lanes of a mask. -/
def maskLanes (m : Nat) : List Nat := (List.range 16).filter (fun l => bit l m)

/-- A glide owns its word once its first step has been made (R270). -/
def Glide.owns (g : Glide) : Bool := g.on && g.step != 0

/-- Trowel-H asks the Steward, through Q30, to journal a record of the device's own (R164, R265, R271): a journal request of session 0
(R475), which the Steward knows by its SEQ (DESIGN CHOICE, log entry 22). -/
def State.askJournal (kind id : Nat) (new : Bytes) (s : State) : State :=
  let q := s.steward.ownSeq
  let s : State := { s with steward := { s.steward with
    ownSeq := (q + 1) % 65536, own := s.steward.own ++ [{ kind := kind, id := id, new := new, seq := some q }] } }
  s.post 30 1 q (zeros 2 ++ le 2 id ++ le 2 0 ++ le 2 new.length ++ new)

/-- The words a glide leaves, as its GLIDE_END record holds them: generation, W, LANES, then a word per lane (log entry 22). -/
def State.glideRecord (g : Glide) (s : State) : Bytes :=
  le 4 s.screed.generation ++ le 2 g.w ++ le 2 g.lanes ++
  (maskLanes g.lanes).flatMap (fun l => le 4 (Table.get 0 (l * 4096 + g.w) s.screed.coefActive))

/-- The end of a glide (R270, R271, R278). -/
def State.endGlide (n reason : Nat) (s : State) : State :=
  let g := s.glide n
  let s := (s.modGlide n (fun g => { g with on := false })).bump 0x20 (if reason = 0 then 40 else 41)
  let s := s.occur 77 n (le 1 reason ++ zeros 1 ++ le 2 g.lanes ++ le 8 s.screed.index)
  if g.owns then s.askJournal 3 0x2013 (s.glideRecord g) else s

/-- R268: v_k, rounded half up. -/
def glideValue (v0 t n k : Nat) : Int :=
  let a := signed 32 v0
  let x := 2 * (signed 32 t - a) * (k : Int) + (n : Int)
  a + x / ((2 * n : Nat) : Int)

/-- A glide writes a word of the active bank (R268), which the next swap carries over (R271). -/
def State.setCoef (lane w v : Nat) (s : State) : State :=
  { s with screed := { s.screed with
    coefActive := Table.set 0 (lane * 4096 + w) (v % 2 ^ 32) s.screed.coefActive
    glided := Table.set false (lane * 4096 + w) true s.screed.glided } }

/-- One step of a running glide (R268). -/
def State.glideStep (n : Nat) (s : State) : State :=
  let g := s.glide n
  let k := g.step + 1
  let s := (maskLanes g.lanes).foldl (fun s l =>
    s.setCoef l g.w (unsigned 32 (glideValue (Table.get 0 l g.v0) g.target g.samples k))) s
  let s := s.modGlide n (fun g => { g with step := k })
  if k = g.samples then s.endGlide n 0 else s

/-- R268, R270: a glide starts: older owners of a word of its lanes end, and v₀ is read. -/
def State.glideBegin (n : Nat) (s : State) : State :=
  let g := s.glide n
  let s := (List.range 64).foldl (fun s m =>
    let h := s.glide m
    if m ≠ n ∧ h.owns ∧ h.w = g.w ∧ Nat.land h.lanes g.lanes ≠ 0 then s.endGlide m 2 else s) s
  let v0 := (maskLanes g.lanes).foldl (fun t l => Table.set 0 l (Table.get 0 (l * 4096 + g.w) s.screed.coefActive) t) []
  s.modGlide n (fun g => { g with v0 := v0 })

/-- Step 4 of the switch cycle (R208): every glide that has started, or starts at this index, steps. -/
def State.glideTick (s : State) : State :=
  (List.range 64).foldl (fun s n =>
    let g := s.glide n
    if !g.on then s
    else if g.step = 0 ∧ s.screed.index < g.start then s
    else if g.step = 0 then (s.glideBegin n).glideStep n
    else s.glideStep n) s

/-! Swaps (R261, R264, R278) -/

/-- EV076 for one commit (R278), with its counter. -/
def State.commitDone (c : ScreedCommit) (result : Nat) (s : State) : State :=
  let st := if !c.cell then s.cell.commitState else if result = 0 then 2 else if result = 4 then 5 else 4
  let s := { s with cell := { s.cell with commitState := st } }
  (s.bump 0x20 (if result = 0 then 38 else 39)).occur 76 c.what
    (le 1 result ++ le 1 (b01 c.cell) ++ le 8 (if result = 0 then s.screed.index else c.index))

/-- The idle bank can be swapped in (R262, R264). -/
def ScreedBank.ready (b : ScreedBank) : Bool := b.loaded && !b.invalid

/-- R270: a glide whose word is dirty in the committed bank ends before the swap. -/
def State.dropDirtyGlides (s : State) : State :=
  (List.range 64).foldl (fun s n =>
    let g := s.glide n
    if g.owns ∧ (maskLanes g.lanes).any (fun l => Table.get false (l * 4096 + g.w) s.screed.dirty) then s.endGlide n 3 else s) s

/-- R261: the copy of the active bank into the pending bank. -/
def State.finishCopy (s : State) : State :=
  if s.screed.copying then { s with screed := { s.screed with copying := false, coefPending := s.screed.coefActive } } else s

/-- R270, R271: the clean words that glides have written reach the pending bank. -/
def Screed.carryGlides (x : Screed) : Screed :=
  let ks := (x.glided.map (·.1)).filter (fun k => !Table.get false k x.dirty)
  { x with coefPending := ks.foldl (fun t k => Table.set 0 k (Table.get 0 k x.coefActive) t) x.coefPending, glided := [] }

/-- R261: the coefficient banks exchange their roles; what glides have left goes along (R270, R271). -/
def State.swapCoef (s : State) : State :=
  let s := s.finishCopy.dropDirtyGlides
  let x := s.screed.carryGlides
  { s with screed := { x with
    coefActive := x.coefPending, coefPending := x.coefActive, dirty := [], copying := true
    generation := x.generation + 1 } }

/-- R264: the foreground banks exchange their roles; a halted bank that goes idle before its reload is invalid (R217). -/
def State.swapProgram (s : State) : State :=
  let f := fun (b : ScreedBank) => { b with invalid := b.invalid || s.screed.halted }
  { s with screed := { s.screed with
      activeB := !s.screed.activeB, halted := false
      bankA := if s.screed.activeB then s.screed.bankA else f s.screed.bankA
      bankB := if s.screed.activeB then f s.screed.bankB else s.screed.bankB } }

/-- A due commit takes place, or its bank is invalid (R264, R265). The ACTIVATE record holds the kinds, the generation, the
library entry and the index (log entry 22). -/
def State.takeCommit (c : ScreedCommit) (s : State) : State :=
  if bit 1 c.what && !s.screed.idle.ready then s.commitDone c 4
  else
    let s := s.commitDone c 0
    let s := if bit 0 c.what then s.swapCoef else s
    let s := if bit 1 c.what then s.swapProgram else s
    s.askJournal 2 0x2011 (le 1 c.what ++ le 4 s.screed.generation ++ le 2 s.screed.active.entry ++ le 8 s.screed.index)

/-- Step 3 of the switch cycle (R208, R183). -/
def State.takeCommits (s : State) : State :=
  let due := s.screed.commits.filter (fun c => decide (c.index ≤ s.screed.index))
  let s := { s with screed := { s.screed with commits := s.screed.commits.filter (fun c => decide (s.screed.index < c.index)) } }
  due.foldl (fun s c => s.takeCommit c) s

/-! The streamer (R218–R222, R273) -/

/-- R219: the words of a line in data memory, or its samples in DRAM, are emptied in every lane. -/
def State.emptyLine (d : Nat) (s : State) : State :=
  let x := s.desc d
  if x.inDram then
    let hit := fun (k : Nat) => within x.base (x.base + x.length - 1) (k % 4194304)
    { s with screed := { s.screed with
        dram := s.screed.dram.filter (fun p => !hit p.1), back := s.screed.back.filter (fun p => !hit p.1)
        winNow := s.screed.winNow.filter (fun w => w.1 / 64 != d), winNext := s.screed.winNext.filter (fun w => w.1 / 64 != d)
        fetching := s.screed.fetching.filter (fun k => k / 4 != d) } }
  else
    let hit := fun (k : Nat) => within x.base (x.base + x.length - 1) (k % 32768)
    { s with screed := { s.screed with data := s.screed.data.filter (fun p => !hit p.1) } }

/-- R215: word address of a tap in the tap table. -/
def tapTableWord (d t : Nat) : Nat := 0x7E00 + 4 * d + t

/-- R218: a committed descriptor takes effect: a change of line empties it, and the initial tap delays enter the tap table of
every lane. -/
def State.applyDesc (d : Nat) (y : Descriptor) (s : State) : State :=
  let x := s.desc d
  let same := x.base == y.base && x.length == y.length && x.inDram == y.inDram
  let s := { s with screed := { s.screed with descs := modAt d (fun _ => { y with pos := if same then x.pos else 0 }) s.screed.descs } }
  let s := if same then s else s.emptyLine d
  s.laneList.foldl (fun s l => (List.range 4).foldl (fun s t => s.setData l (tapTableWord d t) (y.delays.getD t 0)) s) s

/-- The descriptors whose commit came before this tick (R218). -/
def State.applyDescs (s : State) : State :=
  let l := s.screed.descNext
  l.foldl (fun s p => s.applyDesc p.1 p.2) { s with screed := { s.screed with descNext := [] } }

/-- R219: every write position advances. -/
def State.movePositions (s : State) : State :=
  { s with screed := { s.screed with descs := s.screed.descs.map (fun x => { x with pos := (x.pos + 1) % x.length }) } }

/-- R221: the samples written to DRAM lines in the last tick are written back. -/
def State.writeBack (s : State) : State :=
  { s with screed := { s.screed with
    dram := s.screed.back.foldl (fun t p => Table.set 0 p.1 p.2 t) s.screed.dram, back := [] } }

/-- R220: lowest and highest whole delay of a tap. -/
def Descriptor.limits (t : Nat) (x : Descriptor) : Nat × Nat :=
  if x.frac t then (if x.inDram then 18 else 16, x.length - 18) else (if x.inDram then 2 else 0, x.length - 1)

/-- R220: a tap delay clamped as it is latched; a clamped one has no fraction. -/
def Descriptor.clampTap (t w : Nat) (x : Descriptor) : Nat × Bool :=
  let l := x.limits t
  if w / 1024 < l.1 then (l.1 * 1024, true)
  else if l.2 < w / 1024 then (l.2 * 1024, true)
  else (w, false)

/-- The geometry output bound to a tap of a lane (R276), if one is. -/
def State.boundOutput (lane d t : Nat) (s : State) : Option Nat :=
  (List.range 64).find? (fun o =>
    let g := s.nv.config.geoOutputs.getD o {}
    g.on && o % 16 == lane && g.desc == d && g.tap == t)

/-- R273, R274: one switch cycle of a bound tap: a target two ticks old comes into use, and the delay moves one unit; the first
target is taken at once, through the JUMP ramp where the output's stream runs. -/
def GeoTap.slew (running : Bool) (word : Nat) (g : GeoTap) : GeoTap :=
  let g := match g.next with
    | some (v, 0) =>
      if g.target.isSome then { g with target := some v, next := none }
      else if running then { g with target := some v, next := none, jump := 2 }
      else { g with target := some v, next := none, current := some v }
    | some (v, n + 1) => { g with next := some (v, n) }
    | none => g
  let c := g.current.getD word
  match g.target with
  | none => { g with current := some c }
  | some v =>
    if g.jump = 2 then { g with current := some c }
    else { g with current := some (if c < v then c + 1 else if v < c then c - 1 else c) }

/-- An output's stream plays output slot `o`. -/
def State.slotRuns (o : Nat) (s : State) : Bool := s.audio.outs.any (fun x => x.src == 0x1100 + o && x.on)

/-- One tap of one lane is latched (R220, R221, R273). -/
def State.latchTap (lane d t : Nat) (s : State) : State :=
  let x := s.desc d
  let w := Table.get 0 (dataKey lane (tapTableWord d t)) s.screed.data
  let latch := fun (s : State) (w : Nat) =>
    let r := x.clampTap t w
    let s := { s with screed := { s.screed with tapNext := Table.set 0 (tapKey lane d t) r.1 s.screed.tapNext } }
    (if r.2 then s.bump 0x21 1 else s, r.1)
  match s.boundOutput lane d t with
  | none => (latch s w).1
  | some o =>
    let g := (s.screed.geo.getD o {}).slew (s.slotRuns o) w
    let s := { s with screed := { s.screed with geo := modAt o (fun _ => g) s.screed.geo } }
    let r := latch s (g.current.getD 0).toNat
    r.1.setData lane (tapTableWord d t) r.2

/-- R221: the whole tap table of the enabled descriptors is latched for the next tick; words of taps at or above TAPS are latched, clamped and
counted as the others (DESIGN CHOICE, log entry 137). -/
def State.latchTaps (s : State) : State :=
  let ds := (List.range 64).filter (fun d => (s.desc d).on)
  let s := { s with screed := { s.screed with tapNow := s.screed.tapNext } }
  ds.foldl (fun s d => s.laneList.foldl (fun s l => (List.range 4).foldl (fun s t => s.latchTap l d t) s) s) s

/-- Every window of the enabled DRAM descriptors, as 4 × descriptor + tap (R221). -/
def State.windowList (s : State) : List Nat :=
  (List.range 64).flatMap (fun d =>
    let x := s.desc d
    if x.on && x.inDram then (List.range x.taps).map (fun t => 4 * d + t) else [])

/-- Lane 0's key stands for the window in every lane. -/
def Screed.fetched (x : Screed) (k : Nat) : Bool := x.winNext.any (fun w => w.1 / 16 == k)

/-- The line of descriptor `d` goes on through this tick: no committed change disables it (R218). -/
def State.lineKept (d : Nat) (s : State) : Bool := (s.desc d).on && s.screed.descNext.all (fun p => p.1 != d || p.2.on)

/-- R222: a window that is not complete is late: its taps repeat what they returned. -/
def State.lateWindows (s : State) : State :=
  (s.screed.fetching.filter (fun k => s.lineKept (k / 4) && !s.screed.fetched k)).foldl
    (fun s k => (s.bump 0x21 0).occur 78 (k / 4) (le 8 s.screed.index)) s

/-- Step 5 of the switch cycle: this tick's windows become visible (R208). -/
def State.showWindows (s : State) : State :=
  let s := s.lateWindows
  { s with screed := { s.screed with
    winNow := s.screed.winNow.filter (fun w => !s.screed.fetched (w.1 / 16)) ++ s.screed.winNext, winNext := [] } }

/-- Step 5 of the switch cycle (R208, R218–R222). -/
def State.streamerTick (s : State) : State :=
  let s := s.movePositions.writeBack.showWindows.applyDescs.latchTaps
  { s with screed := { s.screed with fetching := s.windowList } }

/-- The window of one lane for the next tick (R220): one sample more on each side than needed. -/
def State.fetchLane (d t lane : Nat) (s : State) : Nat × Nat × List Nat :=
  let x := s.desc d
  let w := Table.get 0 (tapKey lane d t) s.screed.tapNext
  let m := w / 1024
  let ks := if x.frac t then (List.range 34).map (fun i => m + i - 17) else (List.range 3).map (fun i => m + i - 1)
  (tapKey lane d t, w, ks.map (fun k => s.dramSample lane d (x.pos + 1) k))

/-- EV073 or EV074 with its counter (R217, R225). -/
def State.secded (bad : Bool) (memory lane addr : Nat) (s : State) : State :=
  (s.bump 0x20 (if bad then 3 else 2)).occur (if bad then 74 else 73) memory (le 1 lane ++ zeros 1 ++ le 4 addr)

/-- R217: 64-bit word `a` of a lane's DRAM area is rewritten as 0: its bytes in each 24-bit sample, which lies at three times its
offset, low byte first (log entry 103). -/
def State.zeroDram (lane a : Nat) (s : State) : State :=
  let clear := fun (t : Table Nat) (n : Nat) =>
    let k := dramKey lane n
    let v := (le 3 (Table.get 0 k t)).mapIdx (fun j b => if (3 * n + j) / 8 = a then 0 else b)
    Table.set 0 k (ofLE v) t
  { s with screed := { s.screed with dram := ((List.range 4).map (fun j => 8 * a / 3 + j)).foldl clear s.screed.dram } }

/-- WINDOW_FETCH_DONE (R217, R221, R222): a window being fetched is complete, unless it met an uncorrectable error. -/
def State.windowFetchDone (d t : Nat) (err : Option (Bool × Nat × Nat)) (s : State) : State :=
  if !s.screed.fetching.contains (4 * d + t) || s.screed.fetched (4 * d + t) then s
  else
    let s := match err with | some (bad, lane, a) => s.secded bad 3 lane a | none => s
    if (err.map (·.1)).getD false then
      match err with | some (_, lane, a) => s.zeroDram lane a | none => s
    else
      let w := s.laneList.map (fun l => s.fetchLane d t l)
      ({ s with screed := { s.screed with winNext := s.screed.winNext ++ w } }).bump 0x21 2

/-- WINDOW_FETCH_DONE (R221). -/
def execWindowFetchDone (desc : Fin 64) (tap : Fin 4) (err : Option (Bool × Fin 16 × BitVec 32)) (s : State) : Step :=
  .next (s.windowFetchDone desc.val tap.val (err.map (fun e => (e.1, e.2.1.val, e.2.2.toNat))))

/-- COEF_COPY_DONE (R261). -/
def execCoefCopyDone (s : State) : Step := .next s.finishCopy

/-! The foreground begins -/

/-- Step 6 of the switch cycle, and R209 where no program is loaded. -/
def State.startPass (s : State) : State :=
  if s.screed.active.loaded && !s.screed.halted then
    { s with screed := { s.screed with passOpen := true, fg := { on := true, pc := s.screed.fgBase } } }
  else { s with screed := { s.screed with passOpen := false, staged := [] } }

end Sys2Proof.Machine
end

