-- ==== Sys2Proof/Machine/Router.lean ====
section
/-! DEFINITION. The stream router: channels, presentation of input samples, output ramps, emission and counts
(R298–R307, R37). -/
namespace Sys2Proof.Machine

/-! What the part has (R2, R58 and chapter 11's variants) -/

/-- AES3 pairs of the part. -/
def State.aesCount (s : State) : Nat :=
  match s.part.tier with
  | .a => if s.part.package = .h then 4 else 8
  | .b => 4
  | .c => 2

/-- TDM ports of the part. -/
def State.tdmCount (s : State) : Nat :=
  match s.part.tier with
  | .a => if s.part.package = .h then 2 else 4
  | .b => 2
  | .c => 1

/-- Converters of the part. -/
def State.asrcCount (s : State) : Nat := match s.part.tier with | .a => 8 | .b => 4 | .c => 2

/-- Routed channels in and out (R299). -/
def State.channelLimit (s : State) : Nat := match s.part.tier with | .a => 64 | .b => 32 | .c => 8

/-- Class and channel of a router word (R298). -/
def chClass (x : Nat) : Nat := x / 256
/-- Channel within its class. -/
def chNo (x : Nat) : Nat := x % 256

/-- R298: a word that names a channel of some part. -/
def chNamed (x : Nat) : Bool := [0x01, 0x02, 0x03, 0x04, 0x05, 0x10, 0x11, 0x21, 0x22, 0x24, 0x25].contains (chClass x)

/-- The channel is present on this part. -/
def State.chPresent (x : Nat) (s : State) : Bool :=
  let n := chNo x
  match chClass x with
  | 0x01 | 0x21 => decide (n / 2 < s.aesCount)
  | 0x02 | 0x22 => decide (n / 16 < s.tdmCount)
  | 0x03 => decide (n / 2 < s.asrcCount)
  | 0x04 => decide (n < 16)
  | 0x24 => decide (n < 16) && decide (s.part.tier = .a)
  | 0x05 | 0x25 => decide (n < 64)
  | _ => decide (n < 64) && decide (n % 16 < s.laneCount)

/-- A source class of an input slot (R299). -/
def isInputClass (x : Nat) : Bool := within 1 5 (chClass x)
/-- An output class (R298). -/
def isOutputClass (x : Nat) : Bool := [0x21, 0x22, 0x24, 0x25].contains (chClass x)

/-- The input stream of a source channel (R304). -/
def streamOf (x : Nat) : Nat :=
  let n := chNo x
  match chClass x with
  | 0x01 => n / 2
  | 0x02 => 0x10 + n / 16
  | 0x03 => 0x20 + n / 2
  | 0x04 => 0x30
  | _ => 0x40 + n / 8

/-- Sources of an index-presented stream (R283). -/
def isPresented (x : Nat) : Bool := within 3 5 (chClass x)

/-! Phases (R302) -/

/-- Reduce a phase's fraction. -/
def Phase.reduce (p : Phase) : Phase :=
  let g := Nat.gcd p.num p.den
  if g = 0 then p else { p with num := p.num / g, den := p.den / g }

/-- A new target, length and shape; q stands (R302, R308). -/
def Phase.aim (up : Bool) (n : Nat) (cosine : Bool) (p : Phase) : Phase :=
  let p := p.reduce
  { num := p.num * max n 1, den := p.den * max n 1, up := up, n := max n 1, cosine := cosine }

/-- One tick towards the target. -/
def Phase.step (p : Phase) : Phase :=
  let d := p.den / p.n
  { p with num := if p.up then min p.den (p.num + d) else p.num - d }

/-- A phase that stands at 1, or at 0. -/
def Phase.full : Phase := { num := 1, den := 1, up := true, n := 1 }

/-- Gain of a phase as a fraction (R302): linear q, or (1 − cos πq) / 2. -/
def Phase.gain (p : Phase) : Int × Int :=
  if p.num = 0 then (0, 1)
  else if p.num = p.den then (1, 1)
  else if !p.cosine then ((p.num : Int), (p.den : Int))
  else
    let one : Int := ((2 ^ gainBits : Nat) : Int)
    (snapGain ((one - cosFixed (piFixed * (p.num : Int) / (p.den : Int))) / 2), one)

/-- R302: a word scaled by two gains, rounded half up and saturated. -/
def scaleWord (w : Nat) (a b : Int × Int) : Nat :=
  let n := a.1 * b.1
  let d := a.2 * b.2
  let n := if d = ((2 ^ (2 * gainBits) : Nat) : Int) then snapGain (n / ((2 ^ gainBits : Nat) : Int)) else n
  let d := if d = ((2 ^ (2 * gainBits) : Nat) : Int) then ((2 ^ gainBits : Nat) : Int) else d
  unsigned 32 (fit false 32 ((2 * signed 32 w * n + d) / (2 * d))).1

/-- Ticks of a ramp of `ms` milliseconds, rounded half up (R302). -/
def State.rampTicks (ms : Nat) (s : State) : Nat := (2 * ms * fsOf (s.param 0x2000) + 1000) / 2000

/-- The ramp parameters of an output: length in ms and shape (R302, R308). -/
def State.rampOf (dst : Nat) (s : State) : Nat × Bool :=
  match chClass dst with
  | 0x21 => let v := s.param (0x2300 + chNo dst / 2); (bits 23 16 v, bit 24 v)
  | 0x22 => let v := s.param (0x2400 + chNo dst / 16); (bits 23 16 v, bit 24 v)
  | _ => let v := s.param 0x2500; (bits 7 0 v, bit 8 v)

/-- Replace every output by a function of it. -/
def State.mapOuts (f : AudioOut → AudioOut) (s : State) : State :=
  { s with audio := { s.audio with outs := s.audio.outs.map f } }

/-- R302: an output's system phase on its way, over `ms` milliseconds or over its own ramp (0), in the output's shape. -/
def State.aimSys (up : Bool) (ms : Nat) (o : AudioOut) (s : State) : Phase :=
  let r := s.rampOf o.dst
  o.sys.aim up (s.rampTicks (if ms = 0 then r.1 else ms)) r.2

/-- Send the system phase of the outputs that satisfy `p` up or down over `ms` ms, or over their own ramp (0). -/
def State.rampSys (p : AudioOut → Bool) (up : Bool) (ms : Nat) (s : State) : State :=
  s.mapOuts (fun o => if p o && o.sys.up != up then { o with sys := s.aimSys up ms o } else o)

/-! Input streams (R304–R306) -/

/-- Stream `id`. -/
def State.inStream (id : Nat) (s : State) : InStream := (s.audio.ins.find? (fun x => x.id == id)).getD { id := id }

/-- Replace stream `id`. -/
def State.setInStream (x : InStream) (s : State) : State :=
  let l := s.audio.ins
  let l := if l.any (fun y => y.id == x.id) then l.map (fun y => if y.id == x.id then x else y) else l ++ [x]
  { s with audio := { s.audio with ins := l } }

/-- The group of a stream: group 0 unless one names it (R304). -/
def State.groupOf (id : Nat) (s : State) : AudioGroup :=
  (s.audio.groups.find? (fun g => g.streams.contains id)).getD (s.audio.groups.headD {})

/-- R309: DETAIL of EV086. -/
def underrunDetail (begins : Bool) (index run : Nat) : Bytes := le 1 (b01 begins) ++ le 8 index ++ le 4 run

/-- R305: index `i` of a stream is missing. -/
def State.streamMissing (id i : Nat) (s : State) : State :=
  let x := s.inStream id
  let s := s.setInStream { x with run := x.run + 1, underruns := wrap64 (x.underruns + 1), fade := x.fade.map (fun f => (f.1 + 1, f.2)) }
  if x.run = 0 then s.occur 86 id (underrunDetail true i 1) else s

/-- R305: index `i` of a stream is there. -/
def State.streamThere (id i : Nat) (s : State) : State :=
  let x := s.inStream id
  let s := if x.lateRun then s.setInStream { x with lateRun := false } else s
  if x.run = 0 then s
  else (s.setInStream { x with run := 0, fade := none, lateRun := false }).occur 86 id (underrunDetail false i x.run)

/-- R306: `n` samples of a stream were too late; one event per run of consecutive late samples, which a sample on time ends. -/
def State.streamLate (id first n : Nat) (s : State) : State :=
  if n = 0 then s
  else
    let x := s.inStream id
    let s := s.setInStream { x with late := wrap64 (x.late + n), lateRun := true }
    if x.lateRun then s else s.occur 87 id (le 8 first ++ le 4 n)

/-- R304, R305: the fill of a channel of a stream. -/
def State.fillWord (id ch : Nat) (s : State) : Nat :=
  if (s.groupOf id).fill = 0 then 0
  else
    let x := s.inStream id
    let w := Table.get 0 ch x.last
    match x.fade with
    | none => w
    | some (k, n) => scaleWord w (((n - min k n : Nat) : Int), ((max n 1 : Nat) : Int)) (1, 1)

/-- The sample a channel presents is remembered for a hold (R305). -/
def State.rememberWord (id ch w : Nat) (s : State) : State :=
  let x := s.inStream id
  s.setInStream { x with last := Table.set 0 ch w x.last }

/-- The routed source channels of one stream. -/
def State.routedOf (id : Nat) (s : State) : List Nat :=
  ((s.audio.routes.map (·.1)).filter (fun c => isInputClass c && streamOf c == id)).eraseDups

/-- The routed input streams. -/
def State.routedStreams (presented : Bool) (s : State) : List Nat :=
  (((s.audio.routes.map (·.1)).filter (fun c => isInputClass c && isPresented c == presented)).map streamOf).eraseDups

/-- One frame of a stream is presented: a word for each routed channel (R301, R305). -/
def State.presentFrame (id : Nat) (word : Nat → Nat) (t : Table (Nat × Bool)) (s : State) : Table (Nat × Bool) × State :=
  (s.routedOf id).foldl (fun (t, s) c =>
    (Table.set (0, false) c (word c, false) t, s.rememberWord id c (word c))) (t, s)

/-- A missing index of a stream is filled in every routed channel (R305). -/
def State.presentFill (id : Nat) (t : Table (Nat × Bool)) (s : State) : Table (Nat × Bool) :=
  (s.routedOf id).foldl (fun t c => Table.set (0, false) c (s.fillWord id c, true) t) t

/-- The frames of the head entries of Q(8 + k) that lie before index `i` are late; an entry is consumed with its last frame
(R306). Gives the first late index, the count, and the state. -/
def dropLate : Nat → Nat → Nat → Nat → Nat → State → Nat × Nat × State
  | 0, _, _, first, n, s => (first, n, s)
  | fuel + 1, k, i, first, n, s =>
    match (s.queue (8 + k)).entries with
    | [] => (first, n, s)
    | e :: _ =>
      let x := s.inStream (0x40 + k)
      let start := fieldAt 0 8 e.data
      let frames := fieldAt 8 2 e.data
      if start + x.pos < i then
        let d := min (i - (start + x.pos)) (frames - x.pos)
        let first := if n = 0 then start + x.pos else first
        if x.pos + d = frames then
          dropLate fuel k i first (n + d) ((s.setInStream { x with pos := 0 }).consume (8 + k))
        else (first, n + d, s.setInStream { x with pos := x.pos + d })
      else (first, n, s)

/-- Take index `i` from host queue Q(8 + k) (R283, R301, R306). -/
def State.takeHost (k i : Nat) (t : Table (Nat × Bool)) (s : State) : Table (Nat × Bool) × State :=
  let id := 0x40 + k
  let r := dropLate 17 k i 0 0 s
  let s := r.2.2.streamLate id r.1 r.2.1
  match (s.queue (8 + k)).entries with
  | e :: _ =>
    let x := s.inStream id
    let start := fieldAt 0 8 e.data
    let frames := fieldAt 8 2 e.data
    let chans := fieldAt 10 1 e.data
    if start + x.pos = i then
      let word := fun c => if chNo c % 8 < chans then fieldAt (16 + 4 * (x.pos * chans + chNo c % 8)) 4 e.data else 0
      let s := s.streamThere id i
      let r := s.presentFrame id word t
      let x := r.2.inStream id
      let s := r.2.setInStream { x with pos := if x.pos + 1 = frames then 0 else x.pos + 1 }
      (r.1, if x.pos + 1 = frames then s.consume (8 + k) else s)
    else
      let s := s.streamMissing id i
      (s.presentFill id t, s)
  | [] =>
    let s := s.streamMissing id i
    (s.presentFill id t, s)

/-- R296: a locked converter has a sample for every index; its value is the resampler's, which is free (log entry 23). -/
def State.takeConverter (k i : Nat) (t : Table (Nat × Bool)) (s : State) : Table (Nat × Bool) × State :=
  let id := 0x20 + k
  if (s.audio.asrc.getD k {}).locked then
    let n := s.freeTick
    let s := { s.streamThere id i with freeTick := n + 2 }
    s.presentFrame id (fun c => Config.freeNat (n + chNo c % 2) % 16777216 * 256) t
  else
    let s := s.streamMissing id i
    (s.presentFill id t, s)

/-- R306: the stored indices of a stream that a re-anchor skipped, or that came after their instant, are late. -/
def State.lateIndices (id : Nat) (l : List Nat) (s : State) : State :=
  let l := l.eraseDups
  s.streamLate id (l.foldl min (l.headD 0)) l.length

/-- R377, R379, R388: a worker whose SCREED_FS differs from the CONFIG item. -/
def State.fsMismatch (s : State) : Bool := s.cell.config.any (fun c => c.getD 0 0 != s.param 0x2000)

/-- Take index `i` of the Omba downlink (R19, R283): in Run-Worker only, and nothing with an FS that differs from the CONFIG item's
(R377); a channel without a sample is filled (R375, R378). -/
def State.takeDownlink (i : Nat) (t : Table (Nat × Bool)) (s : State) : Table (Nat × Bool) × State :=
  let l := s.audio.downlink.filter (fun x => x.1 == i)
  let s := s.lateIndices 0x30 ((s.audio.downlink.filter (fun (x : Nat × Nat × Nat) => decide (x.1 < i))).map (·.1))
  let s : State := { s with audio := { s.audio with downlink := s.audio.downlink.filter (fun x => decide (i < x.1)) } }
  if l.isEmpty ∨ s.power.mode ≠ .runWorker ∨ s.fsMismatch then
    let s := s.streamMissing 0x30 i
    (s.presentFill 0x30 t, s)
  else
    let s := s.streamThere 0x30 i
    (s.routedOf 0x30).foldl (fun (t, s) c =>
      match l.find? (fun x => x.2.1 == chNo c) with
      | some x => (Table.set (0, false) c (x.2.2, false) t, s.rememberWord 0x30 c x.2.2)
      | none => (Table.set (0, false) c (s.fillWord 0x30 c, true) t, s)) (t, s)

/-- R300: the map in force at index `i`, which a map that waits replaces from its boundary on. -/
def State.mapAt (i : Nat) (s : State) : List (Nat × Nat) :=
  (((s.audio.routeNext.filter (fun p => decide (p.2 * fsOf (s.param 0x2000) ≤ i))).getLast?).map (·.1)).getD s.audio.routes

/-- R283, R300: the router takes index `i` from every index-presented source of the map that it is presented to. -/
def State.takeIndex (i : Nat) (s : State) : State :=
  let routes := s.audio.routes
  let s := { s with audio := { s.audio with routes := s.mapAt i } }
  let r := (s.routedStreams true).foldl (fun (t, s) id =>
    if id / 16 = 2 then State.takeConverter (id % 16) i t s
    else if id / 16 = 3 then State.takeDownlink i t s
    else State.takeHost (id % 16) i t s) ([], s)
  { r.2 with audio := { r.2.audio with routes := routes, taken := (i, r.1) } }

/-- R282, R306: a direct stream at its index: the stored frame, or a fill. -/
def State.takeDirect (id i : Nat) (t : Table (Nat × Bool)) (s : State) : Table (Nat × Bool) × State :=
  let s := s.lateIndices id ((s.audio.frames.filter (fun (f : Nat × Nat × List Nat) => f.1 == id && decide (f.2.1 < i))).map (·.2.1))
  match s.audio.frames.find? (fun f => f.1 == id && f.2.1 == i) with
  | some f => (s.streamThere id i).presentFrame id (fun c => f.2.2.getD (chNo c % (if id < 16 then 2 else 16)) 0) t
  | none =>
    let s := s.streamMissing id i
    (s.presentFill id t, s)

/-- The input samples of index `i` are presented: index-presented ones as taken in the tick before, direct ones now (R282,
R283); in a repeated tick the index-presented streams are silent (R306). -/
def State.presentInputs (i : Nat) (s : State) : State :=
  let rep := decide (0 < s.screed.repeats)
  let s := if !rep && s.audio.taken.1 != i then s.takeIndex i else s
  let t : Table (Nat × Bool) := if rep then [] else s.audio.taken.2
  let r := (s.routedStreams false).foldl (fun (t, s) id => State.takeDirect id i t s) (t, s)
  let s := r.2
  let s := { s with audio := { s.audio with
    now := r.1, frames := s.audio.frames.filter (fun f => decide (i < f.2.1)) } }
  s.audio.routes.foldl (fun s p =>
    if chClass p.2 = 0x10 then
      let n := chNo p.2
      s.setData (n % 16) (0x7FF0 + n / 16) (Table.get (0, false) p.1 s.audio.now).1
    else s) s

/-! Output streams (R37, R302, R307) -/

/-- The router's word for an output at the index it emits, which for a direct route is the sample presented in that index's tick
(R299), and whether it was held or filled. -/
def State.outWord (o : AudioOut) (s : State) : Nat × Bool × Bool :=
  if chClass o.src = 0x11 ∧ s.audio.outHeld then (o.word, true, false)
  else if o.laneMute then (o.word, false, true)
  else if chClass o.src = 0x11 then (Table.get 0 (chNo o.src) s.screed.staged, false, false)
  else
    let v := Table.get (0, false) o.src s.audio.now
    (v.1, false, v.2)

/-- R303: a mute or unmute whose index has come sends the operator phase on its way; an unmute releases a lane mute. -/
def AudioOut.muteNow (n : Nat) (cosine : Bool) (o : AudioOut) (m : Bool) : AudioOut :=
  let o := { o with op := o.op.aim (!m) n cosine }
  if !m && o.laneMute then { o with laneMute := false, sys := o.sys.aim true n cosine } else o

/-- The scheduled mutes of an output at index `i`, in their order (R303). -/
def AudioOut.muteTick (i n : Nat) (cosine : Bool) (o : AudioOut) : AudioOut :=
  let due := o.muteAt.filter (fun p => decide (p.1 ≤ i))
  due.foldl (fun o p => o.muteNow n cosine p.2) { o with muteAt := o.muteAt.filter (fun p => decide (i < p.1)) }

/-- R37: one sample of an output that runs is emitted and counted, by the first class that fits; once its stream has begun, at every
tick, whatever index a re-anchor gives it. -/
def State.emitOut (o : AudioOut) (s : State) : AudioOut :=
  let i := s.audio.outIndex
  let r := s.rampOf o.dst
  let o := o.muteTick i (s.rampTicks r.1) r.2
  let o := if (match o.stopAt with | some k => decide (k ≤ i) | none => false) then { o with on := false, stopAt := none } else o
  if !o.on ∨ (i < o.s0 ∧ !o.begun) then o
  else
    let v := s.outWord o
    let o := { o with word := v.1, op := o.op.step, sys := o.sys.step, flagged := v.2.1 || v.2.2, begun := true
                      out := scaleWord v.1 o.op.gain o.sys.gain }
    if v.2.1 then { o with held := wrap64 (o.held + 1) }
    else if v.2.2 then { o with filled := wrap64 (o.filled + 1) }
    else if s.audio.outRepeat then { o with repeated := wrap64 (o.repeated + 1) }
    else { o with computed := wrap64 (o.computed + 1) }

/-- The sample an output emitted at a channel, 0 where it has none. -/
def State.outAt (dst : Nat) (s : State) : Nat := ((s.audio.outs.find? (fun o => o.dst == dst && o.on)).map (·.out)).getD 0

/-- R301: one index of a host output queue joins its block; 48 make an entry. -/
def State.hostBlock (k : Nat) (s : State) : State :=
  let b := (s.audio.blocks.find? (fun b => b.1 == k)).getD (k, s.audio.outIndex, [])
  let words := b.2.2 ++ (List.range 8).map (fun c => s.outAt (0x2500 + 8 * k + c))
  let rest := s.audio.blocks.filter (fun b => b.1 != k)
  if 384 ≤ words.length then
    ({ s with audio := { s.audio with blocks := rest } }).offer (8 + k)
      { data := le 8 b.2.1 ++ le 2 48 ++ le 1 8 ++ zeros 5 ++ words.flatMap (le 4) }
  else { s with audio := { s.audio with blocks := rest ++ [(k, b.2.1, words)] } }

/-- AES3 port `n`. -/
def State.aesPort (n : Nat) (s : State) : AesPort := s.audio.aes.getD n {}

/-- Replace AES3 port `n` by a function of it. -/
def State.modAes (n : Nat) (f : AesPort → AesPort) (s : State) : State :=
  { s with audio := { s.audio with aes := modAt n f s.audio.aes } }

/-- Index of a counter of AES3 port `n`. -/
def aesCounter (n k : Nat) : Nat := 6 * n + k

/-- The bit that stands at the head of a transmit buffer, 0 when it is empty (R290). -/
def userHead (l : List Bool) : Bool := l.headD false

/-- R290: one user bit leaves; an empty buffer sends 0 and counts, with USER_BUF at the first of a run. -/
def State.userBitOut (n : Nat) (s : State) : State :=
  let p := s.aesPort n
  match p.userTx with
  | _ :: r => s.modAes n (fun p => { p with userTx := r, unfRun := false })
  | [] =>
    let s := (s.bump 0x23 (aesCounter n 4)).modAes n (fun p => { p with unfRun := true })
    if p.unfRun then s else s.occur 85 n (le 1 1)

/-- R286, R308: the sampling-frequency fields of a SCREED_FS code: professional byte 0 [7:6] and byte 4 [6:3], consumer byte 3
[3:0]. The codes are those of the AES3 and IEC 60958 standards (log entry 25). -/
def csRate (code : Nat) : Nat × Nat × Nat :=
  match code with
  | 0 => (1, 0, 0) | 1 => (2, 0, 2) | 2 => (0, 10, 8) | 3 => (0, 2, 10) | 4 => (0, 11, 12) | _ => (0, 3, 14)

/-- R286: the CRCC of AES3 over bytes 0–22 (log entry 25). -/
def csCrc (b : Bytes) : Nat := (b.take 23).foldl (crcByte 0xB8) 0xFF

/-- Byte `i` of channel status with its bits `[hi:lo]` set to `v`. -/
def csField (i hi lo v : Nat) (b : Bytes) : Bytes :=
  modAt i (fun x => BitVec.ofNat 8 (x.toNat - bits hi lo x.toNat * 2 ^ lo + v * 2 ^ lo)) b

/-- Bytes of channel status replaced by a value, low byte first. -/
def csBytes (i n v : Nat) (b : Bytes) : Bytes := b.take i ++ le n v ++ b.drop (i + n)

/-- R286: the channel status sent with the block that begins at index `i`. -/
def State.channelStatus (n i : Nat) (t : Bytes) (s : State) : Bytes :=
  let r := csRate (s.param 0x2000)
  let t := padTo 24 t
  if bit 3 (s.param (0x2300 + n)) then
    csField 4 3 0 11 (csField 3 3 0 r.2.2 (csField 0 0 0 0 t))
  else
    let fs := fsOf (s.param 0x2000)
    let day := ((i : Int) - s.plumb.utcOffset * (fs : Int)) % ((86400 * fs : Nat) : Int)
    let t := csField 2 5 3 5 (csField 4 6 3 r.2.1 (csField 0 7 6 r.1 (csField 0 0 0 1 t)))
    let t := csField 22 7 4 0 (csBytes 18 4 day.toNat (csBytes 14 4 i t))
    t.take 23 ++ le 1 (csCrc t)

/-- R281, R308: LATENCY of AES3 transmitter `n`, and of TDM output `n`. -/
def State.aesLatency (n : Nat) (s : State) : Nat := bits 15 8 (s.param (0x2300 + n))
/-- LATENCY of TDM output `n` (R281). -/
def State.tdmLatency (n : Nat) (s : State) : Nat := bits 15 8 (s.param (0x2400 + n))

/-- R281: the instant at which index `i` leaves the ball of a port of latency `l`, in units of QT. -/
def State.leavesAt (l i : Nat) (s : State) : Nat := (i + l) * qtSec / fsOf (s.param 0x2000)

/-- R281: a frame joins a port's pipe in the switch cycle after its own, and is at the ball `l` − 1 ticks later: what leaves, and
what stays. A stopped port goes on until its pipe is empty. -/
def delayLine {α : Type} (on : Bool) (l : Nat) (wire : Option α) (pipe : List α) : Option α × List α :=
  let k := if on then pipe.length - (l - 1) else 1
  (if on && k == 0 then wire else (pipe.take k).getLast?, pipe.drop k)

/-- R280: the audio field of a word. -/
def audioField (w : Nat) : Nat := w / 256 % 2 ^ 24

/-- R286: bit `k` of a block's channel status: bit 0 of byte 0 first. -/
def statusBit (k : Nat) (b : Bytes) : Bool := bit (k % 8) (fieldAt (k / 8) 1 b)

/-- The output stream that runs at a channel. -/
def State.outOn (dst : Nat) (s : State) : Option AudioOut := s.audio.outs.find? (fun o => o.dst == dst && o.on)

/-- R280, R286, R289, R290: one subframe of the frame of index `i`, channel `dst`. V is sent as 1 for a sample that counted HELD or
FILLED, where VALIDITY_TX_MARK is set. -/
def State.subframe (dst i : Nat) (mark u : Bool) (status : Bytes) (s : State) : SubframeOut :=
  { audio := audioField (s.outAt dst), aux := 0, v := mark && ((s.outOn dst).map (·.flagged)).getD false, u := u
    c := statusBit (i % 192) status }

/-- A frame of an AES3 transmitter (R280, R281, R285, R286, R288–R290): templates and channel status at a block boundary, then two
user bits; the frame joins the pipe. -/
def State.aesTransmit (n : Nat) (s : State) : State :=
  let i := s.audio.outIndex
  let s := if i % 192 = 0 then
      s.modAes n (fun p =>
        let a := p.nextA.getD p.templA
        let b := p.nextB.getD p.templB
        { p with templA := a, templB := b, nextA := none, nextB := none
                 sentA := s.channelStatus n i a, sentB := s.channelStatus n i b })
    else s
  let mark := bit 6 (s.param (0x2300 + n))
  let ua := userHead (s.aesPort n).userTx
  let s := s.userBitOut n
  let ub := userHead (s.aesPort n).userTx
  let s := s.userBitOut n
  let f : FrameOut :=
    { index := i, block := decide (i % 192 = 0), a := s.subframe (0x2100 + 2 * n) i mark ua (s.aesPort n).sentA
      b := s.subframe (0x2101 + 2 * n) i mark ub (s.aesPort n).sentB }
  s.modAes n (fun p =>
    let r := delayLine true (s.aesLatency n) p.wire (p.pipe ++ [f])
    { p with wire := r.1, pipe := r.2 })

/-- TX_ENABLE of transmitter `n` (R308). -/
def State.aesSends (n : Nat) (s : State) : Bool := bit 0 (s.param (0x2300 + n)) && decide (n < s.aesCount)

/-- A transmitter that is off sends nothing (R308). -/
def State.aesSilent (n : Nat) (s : State) : State := s.modAes n (fun p => { p with pipe := [], wire := none })

/-! TDM frames (R280, R292, R293) -/

/-- R292: slots of a frame for a FORMAT and a SCREED_FS code. -/
def tdmSlotCount (format fsCode : Nat) : Nat := if format = 2 then 2 else 16 / 2 ^ (fsCode / 2)

/-- R280, R292: the word of a slot. -/
def slotWord (word32 : Bool) (w : Nat) : Nat := if word32 then w else w / 256 * 256

/-- Slots of a frame of TDM port `n` as it runs. -/
def State.tdmSlots (n : Nat) (s : State) : Nat := tdmSlotCount (bits 2 1 (s.param (0x2400 + n))) (s.param 0x2000)

/-- R292: the slot words of a frame: slots not enabled in TDM_SLOTS are driven as 0 on DOUT. -/
def State.tdmWords (n : Nat) (s : State) : List Nat :=
  (List.range (s.tdmSlots n)).map (fun k =>
    if bit (16 + k) (s.param (0x2404 + n)) then slotWord (bit 5 (s.param (0x2400 + n))) (s.outAt (0x2200 + 16 * n + k)) else 0)

/-- Replace TDM port `n` by a function of it. -/
def State.modTdm (n : Nat) (f : TdmPort → TdmPort) (s : State) : State :=
  { s with audio := { s.audio with tdm := modAt n f s.audio.tdm } }

/-- R293: what a slave port still has to send at the tick after index `i`: an index whose interval has ended without a frame is not
sent and counts in TX_SLIPS; after a stop, DOUT is driven L behind the last one (R295). -/
def State.slaveQueue (n i : Nat) (on : Bool) (pipe : List (Nat × List Nat)) (s : State) : State :=
  let keep := pipe.filter (fun f => decide (i < f.1 + s.tdmLatency n))
  (s.bumpBy 0x24 (2 * n) (pipe.length - keep.length)).modTdm n (fun p =>
    { p with pipe := keep, wire := if keep.isEmpty && !on then none else p.wire })

/-- R281, R293: a frame of TDM port `n` joins the pipe while its output runs; a master's frames leave by themselves, a slave's with
the external frame sync. An index emitted again takes the place of its earlier frame (R182). -/
def State.tdmTransmit (n : Nat) (s : State) : State :=
  let i := s.audio.outIndex
  let p := s.audio.tdm.getD n {}
  let on := p.tx.on && (decide (p.tx.s0 ≤ i) || !p.pipe.isEmpty || p.wire.isSome)
  if bit 0 (s.param (0x2400 + n)) then
    let r := delayLine on (s.tdmLatency n) p.wire (if on then p.pipe ++ [(i, s.tdmWords n)] else p.pipe)
    s.modTdm n (fun p => { p with wire := r.1, pipe := r.2 })
  else s.slaveQueue n i on (if on then p.pipe.filter (fun f => f.1 != i) ++ [(i, s.tdmWords n)] else p.pipe)

/-- R292: DELAY1 in force, which I²S forces to 1. -/
def tdmDelay (cfg : Nat) : Nat := if bits 2 1 cfg = 2 then 1 else b01 (bit 4 cfg)

/-- R292: FS in cycle `c` of BCLK of a frame of `n` slots. -/
def fsLevel (format n c : Nat) : Bool :=
  match format with
  | 0 => decide (c = 0)
  | 1 => decide (c < 16 * n)
  | _ => decide (32 ≤ c)

/-- R292: DOUT in cycle `c` of BCLK: most significant bit first; with DELAY1 the first cycle still carries the last bit of the frame
before. -/
def doutLevel (delay : Nat) (last words : List Nat) (c : Nat) : Bool :=
  if c < delay then bit 0 (last.getLastD 0)
  else bit (31 - (c - delay) % 32) (words.getD ((c - delay) / 32) 0)

/-- R292: the edge of BCLK on which the part drives: falling unless BCLK_INV is set; it samples on the other. -/
def drivesFalling (cfg : Nat) : Bool := !bit 3 cfg

/-- R292: frequency of BCLK in Hz: 32 cycles a slot. -/
def State.bclkHz (n : Nat) (s : State) : Nat := 32 * s.tdmSlots n * fsOf (s.param 0x2000)

/-- R294: frequency of MCLK output `n` in Hz, 0 while it is off; a re-anchor stretches one cycle of it by `Audio.stretch`. -/
def State.mclkHz (n : Nat) (s : State) : Nat :=
  let v := s.param (0x2408 + n)
  if v = 0 then 0 else 64 * 2 ^ v * fsOf (s.param 0x2000)

/-- R295: a direction keeps a master's clocks running: from 1 ms before its first frame to 1 ms after its last, each index's frame
`lat` samples after the index's instant (R281, R282). -/
def TdmDir.clocked (i fs : Nat) (lat : Int) (d : TdmDir) : Bool :=
  d.on || (match d.startAt with | some k => decide (((k : Int) + lat) * 1000 ≤ (i * 1000 + fs : Nat)) | none => false) ||
  (match d.endAt with | some k => decide (((i * 1000 : Nat) : Int) ≤ ((k : Int) + lat) * 1000 + fs) | none => false)

/-- R295: master port `n` drives BCLK and FS; otherwise they are low. -/
def State.tdmClocks (n : Nat) (s : State) : Bool :=
  let p := s.audio.tdm.getD n {}
  let fs := fsOf (s.param 0x2000)
  bit 0 (s.param (0x2400 + n)) && (p.rx.clocked s.screed.index fs (-2) || p.tx.clocked s.screed.index fs (s.tdmLatency n))

/-- R292, R295: DOUT of port `n` in cycle `c` of the frame at the ball; L while no frame is sent. -/
def State.tdmDout (n c : Nat) (last : List Nat) (s : State) : Bool :=
  match (s.audio.tdm.getD n {}).wire with
  | some f => doutLevel (tdmDelay (s.param (0x2400 + n))) last f.2 c
  | none => false

/-- What leaves with the emitted index: host output blocks, transmitters, and the downlink's words. -/
def State.emitPorts (s : State) : State :=
  let running := s.audio.outs.filter (fun o => o.on && o.begun)
  let qs := ((running.filter (fun o => chClass o.dst == 0x25)).map (fun o => chNo o.dst / 8)).eraseDups
  let s := qs.foldl (fun s k => s.hostBlock k) s
  let s := (List.range 8).foldl (fun s n => if s.aesSends n then s.aesTransmit n else s.aesSilent n) s
  let s := (List.range s.tdmCount).foldl (fun s n => s.tdmTransmit n) s
  let w := (running.filter (fun o => chClass o.dst == 0x24)).map (fun o => (chNo o.dst, s.audio.outIndex, o.out))
  { s with audio := { s.audio with omba := s.audio.omba ++ w } }

/-- An output of lane `l` that a lane mute holds. -/
def AudioOut.mutedIn (l : Nat) (o : AudioOut) : Bool := chClass o.src == 0x11 && chNo o.src % 16 == l && o.laneMute

/-- R226, R303: a lane that an unmute has released, and none of whose outputs is still muted, is muted no more. -/
def stillMuted (before after : List AudioOut) (m : Nat) : Nat :=
  (List.range 16).foldl (fun m l =>
    if before.any (·.mutedIn l) && !after.any (·.mutedIn l) && bit l m then m - 2 ^ l else m) m

/-- Step 1 of the switch cycle: the words of the tick before leave (R207, R208). -/
def State.emitTick (s : State) : State :=
  if !s.audio.outValid then s
  else
    let outs := s.audio.outs.map (fun o => s.emitOut o)
    let muted := stillMuted s.audio.outs outs s.screed.muted
    let s := { s with audio := { s.audio with outs := outs }, screed := { s.screed with muted := muted } }
    s.emitPorts

/-- The tick of index `i` is the one whose words leave next. -/
def State.noteOut (i : Nat) (held rep : Bool) (s : State) : State :=
  { s with audio := { s.audio with outIndex := i, outHeld := held, outRepeat := rep, outValid := true } }

/-- R217, R224: the outputs fed by the lanes of a mask ramp down from the last sample they emitted, and stay muted. -/
def State.muteLanes (m : Nat) (s : State) : State :=
  let hit := fun (o : AudioOut) => chClass o.src == 0x11 && bit (chNo o.src % 16) m
  let s := { s with screed := { s.screed with muted := Nat.lor s.screed.muted m } }
  s.mapOuts (fun o => if hit o && !o.laneMute then { o with laneMute := true, sys := s.aimSys false 0 o } else o)

/-- R274: the JUMP of output slot `n`: its outputs ramp down, the delay is set, they ramp up. -/
def State.jumpTick (n : Nat) (s : State) : State :=
  let g := s.screed.geo.getD n {}
  if g.jump ≠ 2 then s
  else
    let fed := fun (o : AudioOut) => o.src == 0x1100 + n && o.on
    if s.audio.outs.any (fun o => fed o && o.sys.num != 0) then s.rampSys fed false 10
    else
      let s := { s with screed := { s.screed with geo := modAt n (fun g => { g with current := g.target, jump := 0 }) s.screed.geo } }
      s.rampSys (fun o => fed o && !o.laneMute) true 10

/-- Every JUMP under way. -/
def State.jumpTicks (s : State) : State := (List.range 64).foldl (fun s n => s.jumpTick n) s

/-- UNDERRUN_HOLD_EXPIRY (R304): after HOLD_MS of continuous underrun the held value ramps to 0 over 10 ms. -/
def State.underrunHoldExpiry (id : Nat) (s : State) : State :=
  let x := s.inStream id
  let g := s.groupOf id
  if x.run ≠ 0 ∧ g.fill = 1 ∧ g.holdMs ≠ 0 ∧ x.fade.isNone ∧ s.rampTicks g.holdMs ≤ x.run then
    s.setInStream { x with fade := some (0, s.rampTicks 10) }
  else s

/-- UNDERRUN_HOLD_EXPIRY (R304). -/
def execUnderrunHoldExpiry (stream : BitVec 8) (s : State) : Step := .next (s.underrunHoldExpiry stream.toNat)

/-! Streams start and end (R15 step 7, R295, R300, R307) -/

/-- A phase that stands at 0. -/
def Phase.zero : Phase := { num := 0, den := 1, up := false }

/-- R217: the lane of an output's source is muted. -/
def State.laneMuted (src : Nat) (s : State) : Bool := chClass src == 0x11 && bit (chNo src % 16) s.screed.muted

/-- An output joins the map: a stream at index `i`, counters at zero (R307), which ramps up over `ms` ms, or over its own ramp (0),
unless its lane is muted (R217). -/
def State.newOut (src dst i : Nat) (on : Bool) (ms : Nat) (s : State) : AudioOut :=
  let muted := s.nv.config.mutes.contains dst
  let mute := s.laneMuted src
  let o : AudioOut := { dst := dst, src := src, on := on, s0 := i, op := if muted then Phase.zero else Phase.full, laneMute := mute }
  { o with sys := if mute then Phase.zero else s.aimSys true ms o }

/-- An output class whose port can run: AES3 transmitters by TX_ENABLE, TDM outputs as started, the downlink in Run-Manager,
host queues in the output direction (R37, R298, R308). -/
def State.outEnabled (dst : Nat) (s : State) : Bool :=
  match chClass dst with
  | 0x21 => bit 0 (s.param (0x2300 + chNo dst / 2))
  | 0x22 => (s.audio.tdm.getD (chNo dst / 16) {}).tx.on
  | 0x24 => decide (s.power.mode = .runManager)
  | _ => s.hostqOutput (8 + chNo dst / 8)

/-- Start the stream of an output at index `i`: counts from zero, ramp up over `ms` ms, or over its own ramp (R302, R307). A lane mute
stands until a MUTE_SET (R217). -/
def State.startOut (i ms : Nat) (o : AudioOut) (s : State) : AudioOut :=
  let x := s.newOut o.src o.dst i true ms
  { x with op := o.op, muteAt := o.muteAt, laneMute := o.laneMute, sys := if o.laneMute then Phase.zero else s.aimSys true ms { x with sys := {} } }

/-- Start-up step 7 (R15, R295, R303, R311): every AUTOSTART port and every enabled output starts at index `i`; unmuted outputs
ramp up from 0. -/
def State.startStreams (i : Nat) (s : State) : State :=
  let tdm := (s.audio.tdm.zipIdx).map (fun p =>
    if bit 6 (s.param (0x2400 + p.2)) && decide (p.2 < s.tdmCount) then
      { p.1 with rx := { on := true, s0 := i }, tx := { on := true, s0 := i }, pipe := [], wire := none } else p.1)
  let s := { s with audio := { s.audio with tdm := tdm, started := true }, plumb := { s.plumb with streamed := true } }
  s.mapOuts (fun o => if s.outEnabled o.dst then s.startOut i 0 o else { o with on := false })

/-- Outputs whose enable has changed start or end at index `i` (R307, R308). -/
def State.syncOuts (i : Nat) (s : State) : State :=
  if !s.audio.started then s
  else s.mapOuts (fun o => if s.outEnabled o.dst && !o.on then s.startOut i 0 o else if !s.outEnabled o.dst && o.on then { o with on := false } else o)

end Sys2Proof.Machine
end

