-- ==== Sys2Proof/Machine/SampleTick.lean ====
section
/-! DEFINITION. The sample tick: its index, the re-anchor, and the switch cycle in R208's order. -/
namespace Sys2Proof.Machine

/-- Samples per second in force (R22). -/
def State.fs (s : State) : Nat := fsOf (s.param 0x2000)

/-- ⌈a / b⌉. -/
def ceilDiv (a b : Nat) : Nat := (a + b - 1) / b

/-- The first index whose instant lies after now (R22). -/
def State.indexAfter (s : State) : Nat := s.qt * s.fs / qtSec + 1

/-- The instant of index `i` on the local scale, in units of QT (R22). -/
def State.indexInstant (i : Nat) (s : State) : Nat := i * qtSec / s.fs

/-- R182: the index of the first tick after a step. -/
def State.anchorIndex (r : Reanchor) (s : State) : Nat := ceilDiv (((r.at_ : Int) + r.delta).toNat * s.fs) qtSec + 1

/-- The index the next sample tick carries (R22, R182, R450). -/
def State.nextIndex (s : State) : Nat :=
  match s.plumb.reanchor with
  | some r => if s.screed.ticked then s.anchorIndex r else s.indexAfter
  | none => match s.screed.forced with
    | some i => i
    | none => if s.screed.ticked then s.screed.index + 1 else s.indexAfter

/-- R24, R32, R450: the mode has sample ticks, or its outputs still ramp down after a run mode (R505), and the tick divider runs. -/
def State.sampleTicks (s : State) : Bool :=
  (s.power.mode.run || (s.power.mode.serves && s.audio.outs.any (·.on))) && !s.clocks.held

/-- The first index at or after an instant (R22). -/
def State.indexFrom (t : Nat) (s : State) : Nat := ceilDiv (t * s.fs) qtSec

/-- A ramp of `ms` milliseconds that is to end before instant `t` has begun by this tick (R182, R300, R302). -/
def State.rampOpen (ms t : Nat) (s : State) : Bool :=
  decide (s.qt ≤ t) && decide (s.indexFrom t ≤ s.screed.index + s.rampTicks ms)

/-- The next QT second boundary. -/
def State.nextSecond (s : State) : Nat := (s.plumb.secIdx + 1) * qtSec

/-- A committed value of parameter `id` comes into force at the next second boundary (R224, R308). -/
def State.changeAhead (id : Nat) (s : State) : Bool :=
  s.waiting.any (fun w => w.1 == id && decide (w.2.2 + 100 * qtMs ≤ s.up + (s.nextSecond - s.qt)))

/-- The source that a map gives an output. -/
def sourceIn (m : List (Nat × Nat)) (dst : Nat) : Option Nat := (m.find? (fun p => p.2 == dst)).map (·.1)

/-- R300: the new map changes or removes an output. -/
def State.routeChanges (o : AudioOut) (s : State) : Bool :=
  s.audio.routeNext.any (fun p => s.rampOpen 10 (p.2 * qtSec) && sourceIn p.1 o.dst != some o.src)

/-- R302, R308: the port of an output changes its parameters, or stops, at the next second boundary. -/
def State.portChanges (o : AudioOut) (s : State) : Bool :=
  (chClass o.dst == 0x21 && s.changeAhead (0x2300 + chNo o.dst / 2)) ||
  (chClass o.dst == 0x22 && (s.changeAhead (0x2400 + chNo o.dst / 16) || s.changeAhead (0x2404 + chNo o.dst / 16))) ||
  (chClass o.dst == 0x25 && s.changeAhead 0x2501 && !bit (chNo o.dst / 8) (s.committed 0x2501))

/-- R182, R224, R297, R300: an output ramps down over 10 ms before what happens at an instant ahead. -/
def State.rampDue (o : AudioOut) (s : State) : Bool :=
  (match s.stepInstant with | some t => s.rampOpen 10 t | none => false) ||
  (s.rampOpen 10 s.nextSecond && s.changeAhead 0x2000) ||
  (chClass o.src == 0x03 && s.audio.asrcNext.any (fun b => b.1 == chNo o.src / 2 && s.rampOpen 10 (b.2.2.2 * qtSec))) ||
  s.routeChanges o

/-- Ramps down ahead of boundaries (R302): 10 ms, or MUTE_RAMP_MS for a port. -/
def State.rampsAhead (s : State) : State :=
  let s := s.rampSys (fun o => o.on && !o.laneMute && s.rampDue o) false 10
  s.rampSys (fun o => o.on && !o.laneMute && s.portChanges o && s.rampOpen (s.rampOf o.dst).1 s.nextSecond) false 0

/-- R449: cycles of AUDIO_CLK in a sample tick. -/
def tickDiv (code : Nat) : Nat := match code / 2 with | 0 => 4096 | 1 => 2048 | _ => 1024

/-- R182: what the first tick after a step waits beyond the normal period, in units of QT times fs. -/
def State.anchorRest (r : Reanchor) (s : State) : Nat :=
  let x : Nat := ((r.at_ : Int) + r.delta).toNat * s.fs
  ceilDiv x qtSec * qtSec - x

/-- R182, R294: that delay to the nearest cycle of AUDIO_CLK, by which MCLK and the TDM clocks stretch too. -/
def State.anchorCycles (r : Reanchor) (s : State) : Nat :=
  (2 * s.anchorRest r * tickDiv (s.param 0x2000) + qtSec) / (2 * qtSec)

/-- R182, R449: what the delay of the first tick after a step exceeds its nominal value by, once it is rounded to a cycle of AUDIO_CLK;
2⁻¹⁶ ns. -/
def State.anchorResidual (r : Reanchor) (s : State) : Int :=
  let div := tickDiv (s.param 0x2000)
  (((s.anchorCycles r * qtSec : Nat) : Int) - (s.anchorRest r * div : Nat)) / (s.fs * div : Nat)

/-- A re-anchor at the first tick after a step (R182, R197): the delay, skips and repeats, the ramp up, and EV063. -/
def State.takeAnchor (n : Nat) (s : State) : State :=
  match s.plumb.reanchor with
  | none => s
  | some r =>
    let s := { s with
      plumb := { s.plumb with
        reanchor := none, tickErr := if s.screed.ticked then s.plumb.tickErr + s.anchorResidual r else s.plumb.tickErr }
      audio := { s.audio with stretch := if s.screed.ticked then s.anchorCycles r else s.audio.stretch } }
    if !s.screed.ticked then s
    else
      let j : Int := (n : Int) - ((s.screed.index : Int) + 1)
      let s := s.mapOuts (fun o => if o.on ∧ 0 < j then { o with skipped := wrap64 (o.skipped + j.toNat) } else o)
      let s := { s with screed := { s.screed with repeats := (-j).toNat } }
      let s := s.rampSys (fun o => o.on && !o.laneMute) true 10
      s.occur 63 (s.fs / 100) (leInt 4 j ++ le 8 n)

/-- R295: the directions of a TDM port start and stop at their indices; a stop at or before the start's index leaves nothing to emit. -/
def TdmDir.tick (i : Nat) (d : TdmDir) : TdmDir :=
  let d := match d.startAt with
    | some k => if k ≤ i then { d with on := true, s0 := k, startAt := none } else d
    | none => d
  match d.stopAt with
  | some k => if k ≤ i then { d with on := false, startAt := none, stopAt := none, endAt := if d.on then some k else d.endAt } else d
  | none => d

/-- R295: both directions of a port at index `i`. -/
def TdmPort.tick (i : Nat) (p : TdmPort) : TdmPort := { p with rx := p.rx.tick i, tx := p.tx.tick i }

/-- R295: an output of a TDM port that is to stop ramps down so that its last sample is at INDEX − 1. -/
def State.tdmStops (s : State) : State :=
  s.mapOuts (fun o =>
    if chClass o.dst = 0x22 ∧ o.on ∧ o.sys.up then
      match (s.audio.tdm.getD (chNo o.dst / 16) {}).tx.stopAt with
      | some k =>
        if k ≤ s.screed.index + s.rampTicks (s.rampOf o.dst).1 then { o with sys := s.aimSys false 0 o, stopAt := some k } else o
      | none => o
    else o)

/-- R295, R304: what changes in the router at this tick. -/
def State.audioTick (s : State) : State :=
  let i := s.screed.index
  let tdm := s.audio.tdm.map (TdmPort.tick i)
  let s := { s with audio := { s.audio with tdm := tdm, groups := s.audio.groupNext.getD s.audio.groups, groupNext := none } }
  (s.tdmStops).syncOuts i

/-- The switch cycle of the tick of index `n` (R208). -/
def State.switchCycle (n : Nat) (s : State) : State :=
  let s := s.emitTick
  let s := { s with screed := { s.screed with index := n, ticked := true, forced := none } }
  let s := (s.bump64 0x20 0 1).audioTick.presentInputs n
  let s := s.takeCommits.glideTick.streamerTick.jumpTicks
  s.startPass

/-- What follows the switch cycle: the repeated ticks run down, the next index is taken, unless it was before a backward re-anchor
(R283, R306), the tick's words are noted, and ramps ahead begin. -/
def State.afterSwitch (n : Nat) (s : State) : State :=
  let rep := decide (0 < s.screed.repeats)
  let s := { s with screed := { s.screed with repeats := s.screed.repeats - 1 } }
  let s := if s.screed.repeats = 0 ∧ s.audio.taken.1 ≠ n + 1 then s.takeIndex (n + 1) else s
  (s.noteOut n false rep).rampsAhead

/-- SAMPLE_TICK (R203, R207–R212, R30, R31): the tick edge, with the background slots received in the tick that ends. -/
def State.sampleTick (received : Nat) (s : State) : State :=
  if !s.sampleTicks then s
  else
    let n := s.nextIndex
    let past := s.screed.passOpen
    let s := (if past then s else s.drainBackground)
    let s := s.overrun.endSaturation.noteSlots (if past then 0 else received)
    let s := ((s.advance (s.indexInstant n)).release .sampleTick).loadAudio
    let s := { s with audio := { s.audio with outHeld := past } }
    let s := s.takeAnchor n
    (s.switchCycle n).afterSwitch n

end Sys2Proof.Machine
end

