-- ==== Sys2Proof/Machine/Audio.lean ====
section
/-! DEFINITION. AES3 and TDM ports, rate converters, the route map, mutes and groups (R280–R311). -/
namespace Sys2Proof.Machine

/-! Bindings -/

/-- R300, R297: the first QT second boundary at least 100 ms from now, in QT seconds. -/
def State.boundaryAfter (s : State) : Nat := ceilDiv (s.qt + 100 * qtMs) qtSec

/-- A converter is bound to AES3 receiver `n` (R297). -/
def State.aesBound (n : Nat) (s : State) : Bool := s.audio.asrc.any (fun c => c.source == 0x10 + n)

/-- A converter is bound to a slot pair of TDM port `p` (R297). -/
def State.tdmBound (p : Nat) (s : State) : Bool := s.audio.asrc.any (fun c => c.source == 0x20 + p)

/-- A channel that the committed bindings take from the map (R297). -/
def boundAway (b : List (Nat × Nat)) (x : Nat) : Bool :=
  (chClass x == 0x01 && b.any (fun c => c.1 == 0x10 + chNo x / 2)) ||
  (chClass x == 0x02 && b.any (fun c => c.1 == 0x20 + chNo x / 16))

/-- R284: the detected rate is not SCREED_FS within 500 ppm, in direct mode. -/
def State.aesMismatch (n : Nat) (s : State) : Bool :=
  let r := (s.aesPort n).rate
  !s.aesBound n && decide (s.fs < 2000 * (if r < s.fs then s.fs - r else r - s.fs))

/-! AES3 commands -/

/-- Check 7 of a command whose first byte is a port below `max` (R8). -/
def portAbsent (max : Nat) (count : State → Nat) (s : State) (l : List Item) : Bool :=
  match l with
  | i :: _ => decide (fieldAt 0 1 i.value < max) && decide (count s ≤ fieldAt 0 1 i.value)
  | [] => false

/-- R566 stage 1 of a command whose first byte is a port below `max`. -/
def portNaming (max : Nat) (_ : State) (c : Cmd) : Option Status := if max ≤ c.u 0 1 then some .outOfRange else none

/-- AES_CS_SET (R288): the template waits for the next block boundary. -/
def aesCsSet (ok : Bool) : CmdSpec :=
  { opcode := 0x2310, role := 2, shape := oneItem 0x2310 28, journals := true
    absent := portAbsent 8 State.aesCount, naming := portNaming 8
    body := fun c s => guarded [(!onlyBits 3 (c.u 1 1), .badParam), (c.u 1 1 == 0, .badParam), (c.u 2 2 != 0, .badParam)] s
      (c.journalThen ok 2 s (fun s =>
        let n := c.u 0 1
        let t := slice 4 24 c.value
        let f := fun (p : Bytes × Bytes) => (if bit 0 (c.u 1 1) then t else p.1, if bit 1 (c.u 1 1) then t else p.2)
        let cf := { s.nv.config with aesTemplates := modAt n f s.nv.config.aesTemplates }
        done ({ s with nv := { s.nv with config := cf } }.modAes n (fun p => { p with
          nextA := if bit 0 (c.u 1 1) then some t else p.nextA
          nextB := if bit 1 (c.u 1 1) then some t else p.nextB })))) }

/-- AES_CS_SET (R288). -/
def execAesCsSet (nvOk : Bool) (s : State) : Step := .next ((aesCsSet nvOk).run s)

/-- R288: STATE of a receiver. -/
def State.aesState (n : Nat) (s : State) : Nat :=
  let p := s.aesPort n
  b01 p.locked + 2 * b01 p.crcGood + 4 * b01 p.consumer + 8 * b01 (p.locked && s.aesMismatch n) + 16 * b01 (s.aesBound n)

/-- R288: the reply item of AES_CS_GET. -/
def State.aesCsItem (n : Nat) (s : State) : Bytes :=
  let p := s.aesPort n
  le 1 n ++ le 1 (s.aesState n) ++ zeros 2 ++ le 4 p.rate ++ le 4 p.blockSeq ++ padTo 24 p.csA ++ padTo 24 p.csB

/-- AES_CS_GET (R288). -/
def aesCsGet : CmdSpec :=
  { opcode := 0x2311, role := 1, shape := oneItem 0x2311 1, absent := portAbsent 8 State.aesCount, naming := portNaming 8
    body := fun c s => reply 0x2311 (s.aesCsItem (c.u 0 1)) s }

/-- AES_CS_GET (R288). -/
def execAesCsGet (s : State) : Step := .next (aesCsGet.run s)

/-- The value of a bit string, first bit lowest (R290). -/
def bitsValue : List Bool → Nat
  | [] => 0
  | b :: r => b01 b + 2 * bitsValue r

/-- `n` bits of a value, lowest first (R290). -/
def bitList : Nat → Nat → List Bool
  | 0, _ => []
  | n + 1, v => (v % 2 == 1) :: bitList n (v / 2)

/-- AES_USER_READ (R291): whole bytes leave the receive buffer, in arrival order. -/
def aesUserRead : CmdSpec :=
  { opcode := 0x2312, role := 1, shape := oneItem 0x2312 3, absent := portAbsent 8 State.aesCount, naming := portNaming 8
    body := fun c s => guarded [(!within 1 480 (c.u 1 2), .outOfRange)] s (
      let n := c.u 0 1
      let k := min (c.u 1 2) ((s.aesPort n).userRx.length / 8)
      reply 0x2312 (le 1 n ++ zeros 1 ++ le 2 k ++ le k (bitsValue ((s.aesPort n).userRx.take (8 * k))))
        (s.modAes n (fun p => { p with userRx := p.userRx.drop (8 * k) }))) }

/-- AES_USER_READ (R291). -/
def execAesUserRead (s : State) : Step := .next (aesUserRead.run s)

/-- Check 3 of AES_USER_WRITE: DATA is BYTES long (R291). -/
def userWriteShape (l : List Item) : Bool :=
  match l with
  | [i] => i.id == 0x2313 && decide (4 ≤ i.value.length) && i.value.length == 4 + fieldAt 2 2 i.value
  | _ => false

/-- AES_USER_WRITE (R291): all the bytes, or BUSY and none. -/
def aesUserWrite : CmdSpec :=
  { opcode := 0x2313, role := 1, shape := userWriteShape, absent := portAbsent 8 State.aesCount, naming := portNaming 8
    body := fun c s =>
      let n := c.u 0 1
      guarded [(c.u 1 1 != 0, .badParam), (!within 1 480 (c.u 2 2), .outOfRange),
               (decide (4096 < (s.aesPort n).userTx.length + 8 * c.u 2 2), .busy)] s
        (done (s.modAes n (fun p => { p with userTx := p.userTx ++ bitList (8 * c.u 2 2) (ofLE (c.value.drop 4)) }))) }

/-- AES_USER_WRITE (R291). -/
def execAesUserWrite (s : State) : Step := .next (aesUserWrite.run s)

/-! TDM commands -/

/-- TDM port `n`. -/
def State.tdmPort (n : Nat) (s : State) : TdmPort := s.audio.tdm.getD n {}

/-- A direction runs, or is to start (R295). -/
def TdmDir.running (d : TdmDir) : Bool := d.on || d.startAt.isSome

/-- R566 stage 1 of TDM_START and TDM_STOP: the port and its directions. -/
def tdmNaming (s : State) (c : Cmd) : Option Status :=
  match portNaming 4 s c with
  | some st => some st
  | none => if !onlyBits 3 (c.u 1 1) || c.u 1 1 == 0 then some .badParam else none

/-- R295: the limits of INDEX against the earliest permitted index. -/
def State.indexTests (i earliest : Nat) (s : State) : List (Bool × Status) :=
  [(i != 0 && decide (s.screed.index + 3600 * s.fs < i), .outOfRange), (i != 0 && decide (i < earliest), .tooLate)]

/-- R295: the first index at least 2 ms after now. -/
def State.earliestStart (s : State) : Nat := ceilDiv ((s.qt + 2 * qtMs) * s.fs) qtSec

/-- TDM_START (R295). -/
def tdmStart : CmdSpec :=
  { opcode := 0x2410, role := 1, shape := oneItem 0x2410 12, absent := portAbsent 4 State.tdmCount, naming := tdmNaming
    body := fun c s =>
      let p := s.tdmPort (c.u 0 1)
      let f := c.u 1 1
      let i := c.u 4 8
      guarded ([((bit 0 f && p.rx.running) || (bit 1 f && p.tx.running), .busy), (c.u 2 2 != 0, .badParam)] ++
          s.indexTests i s.earliestStart) s (
        let i := if i = 0 then s.earliestStart else i
        let go := fun (on : Bool) (d : TdmDir) => if on then { d with startAt := some i, stopAt := none } else d
        done (s.modTdm (c.u 0 1) (fun p => { p with rx := go (bit 0 f) p.rx, tx := go (bit 1 f) p.tx }))) }

/-- TDM_START (R295). -/
def execTdmStart (s : State) : Step := .next (tdmStart.run s)

/-- R295: c + 2 + N. -/
def State.earliestStop (n : Nat) (s : State) : Nat := s.screed.index + 2 + s.rampTicks (s.rampOf (0x2200 + 16 * n)).1

/-- TDM_STOP (R295): a direction that does not run is left as it is. -/
def tdmStop : CmdSpec :=
  { opcode := 0x2411, role := 1, shape := oneItem 0x2411 12, absent := portAbsent 4 State.tdmCount, naming := tdmNaming
    body := fun c s =>
      let n := c.u 0 1
      let p := s.tdmPort n
      let f := c.u 1 1
      let rx := bit 0 f && p.rx.running
      let tx := bit 1 f && p.tx.running
      guarded ([(c.u 2 2 != 0, .badParam)] ++ (if rx || tx then s.indexTests (c.u 4 8) (s.earliestStop n) else [])) s (
        let i := if c.u 4 8 = 0 then s.earliestStop n else c.u 4 8
        let halt := fun (on : Bool) (d : TdmDir) => if on then { d with stopAt := some i } else d
        done (s.modTdm n (fun p => { p with rx := halt rx p.rx, tx := halt tx p.tx }))) }

/-- TDM_STOP (R295). -/
def execTdmStop (s : State) : Step := .next (tdmStop.run s)

/-! Converters -/

/-- Check 7 of ASRC_ASSIGN (R297). -/
def asrcAbsent (s : State) (l : List Item) : Bool :=
  match l with
  | i :: _ =>
    let src := fieldAt 1 1 i.value
    portAbsent 8 State.asrcCount s l || (within 0x10 0x17 src && decide (s.aesCount ≤ src - 0x10)) ||
      (within 0x20 0x23 src && decide (s.tdmCount ≤ src - 0x20))
  | [] => false

/-- R297: the tests of one binding, fields first. -/
def State.asrcTests (c : Cmd) (s : State) : List (Bool × Status) :=
  let k := c.u 0 1
  let src := c.u 1 1
  let slot := c.u 2 1
  let tdm := within 0x20 0x23 src
  let others := (s.nv.config.asrc.zipIdx.filter (fun p => p.2 != k)).map (·.1)
  [(!(src == 0 || within 0x10 0x17 src || tdm), .badParam),
   (if tdm then slot % 2 == 1 else slot != 0, .badParam), (tdm && decide (15 < slot), .outOfRange),
   (c.u 3 1 != 0, .badParam),
   (tdm && bit 0 (s.committed (0x2400 + (src - 0x20))), .badParam),
   (src != 0 && others.any (fun b => b == (src, slot)), .badParam),
   (s.nv.config.routes.any (fun r => boundAway [(src, slot)] r.1), .badParam)]

/-- ASRC_ASSIGN (R297). -/
def asrcAssign (ok : Bool) : CmdSpec :=
  { opcode := 0x2210, role := 2, shape := oneItem 0x2210 4, journals := true, absent := asrcAbsent, naming := portNaming 8
    body := fun c s => guarded (s.asrcTests c) s (c.journalThen ok 1 s (fun s =>
      let k := c.u 0 1
      let cf := { s.nv.config with asrc := modAt k (fun _ => (c.u 1 1, c.u 2 1)) s.nv.config.asrc }
      let next := s.audio.asrcNext ++ [(k, c.u 1 1, c.u 2 1, s.boundaryAfter)]
      done { s with nv := { s.nv with config := cf }, audio := { s.audio with asrcNext := next } })) }

/-- ASRC_ASSIGN (R297). -/
def execAsrcAssign (nvOk : Bool) (s : State) : Step := .next ((asrcAssign nvOk).run s)

/-- R296: a ratio within fs/8 to 8 × fs. -/
def ratioLegal (r : Nat) : Bool := within (2 ^ 21) (2 ^ 27) r

/-- Set the lock of converter `k`. -/
def State.setConverter (k : Nat) (on : Bool) (ratio : Nat) (s : State) : State :=
  { s with audio := { s.audio with asrc := modAt k (fun c => { c with locked := on, ratio := ratio }) s.audio.asrc } }

/-- R284, R295, R296: the input that a converter is bound to is there: a receiver locked to 32–192 kHz, or a TDM input that runs. -/
def State.inputThere (c : Asrc) (s : State) : Bool :=
  if within 0x10 0x17 c.source then
    (s.aesPort (c.source - 0x10)).locked && within 32000 192000 (s.aesPort (c.source - 0x10)).rate
  else within 0x20 0x23 c.source && (s.tdmPort (c.source - 0x20)).rx.on

/-- ASRC_LOCK (R296): a bound converter locks to its input. -/
def State.asrcLock (k ratio : Nat) (s : State) : State :=
  let c := s.audio.asrc.getD k {}
  if !s.power.mode.serves ∨ s.asrcCount ≤ k ∨ !s.inputThere c ∨ c.locked ∨ !ratioLegal ratio then s
  else ((s.setConverter k true ratio).bump 0x22 (2 * k)).occur 80 k (le 4 ratio)

/-- ASRC_LOCK (R296). -/
def execAsrcLock (conv : Fin 8) (ratio : BitVec 32) (s : State) : Step := .next (s.asrcLock conv.val ratio.toNat)

/-- ASRC_UNLOCK (R296). -/
def State.asrcUnlock (k : Nat) (s : State) : State :=
  let c := s.audio.asrc.getD k {}
  if !s.power.mode.serves ∨ !c.locked then s
  else ((s.setConverter k false c.ratio).bump 0x22 (2 * k + 1)).occur 81 k (le 4 c.ratio)

/-- ASRC_UNLOCK (R296). -/
def execAsrcUnlock (conv : Fin 8) (s : State) : Step := .next (s.asrcUnlock conv.val)

/-! The route map -/

/-- The pairs of a ROUTE_SET item: (source, destination). -/
def routePairs (v : Bytes) : List (Nat × Nat) :=
  (List.range (fieldAt 0 2 v)).map (fun k => (fieldAt (4 + 4 * k) 2 v, fieldAt (6 + 4 * k) 2 v))

/-- Check 3 of ROUTE_SET (R300). -/
def routeShape (l : List Item) : Bool :=
  match l with
  | [i] => i.id == 0x2510 && decide (4 ≤ i.value.length) && i.value.length == 4 + 4 * fieldAt 0 2 i.value
  | _ => false

/-- Check 7 of ROUTE_SET (R300). -/
def routeAbsent (s : State) (l : List Item) : Bool :=
  match l with
  | i :: _ => (routePairs i.value).any (fun p => (chNamed p.1 && !s.chPresent p.1) || (chNamed p.2 && !s.chPresent p.2))
  | [] => false

/-- R299: a pair of classes the router joins. -/
def pairAllowed (p : Nat × Nat) : Bool :=
  if chClass p.2 = 0x10 then isInputClass p.1
  else isOutputClass p.2 && (chClass p.1 == 0x11 || isInputClass p.1)

/-- R300: a host queue used against its direction. -/
def State.wrongDirection (p : Nat × Nat) (s : State) : Bool :=
  let out := fun x => bit (chNo x / 8) (s.committed 0x2501)
  (chClass p.1 == 0x05 && out p.1) || (chClass p.2 == 0x25 && !out p.2)

/-- R299: routes that use an input channel of the tier. -/
def inputRoutes (m : List (Nat × Nat)) : Nat := (m.filter (fun p => chClass p.2 == 0x10 || isInputClass p.1)).length

/-- R299: outputs of a map. -/
def outputRoutes (m : List (Nat × Nat)) : Nat := (m.filter (fun p => isOutputClass p.2)).length

/-- A list names something twice. -/
def repeated : List Nat → Bool
  | [] => false
  | a :: r => r.contains a || repeated r

/-- R300: the tests of a route map. -/
def State.routeTests (c : Cmd) (s : State) : List (Bool × Status) :=
  let m := routePairs c.value
  [(decide (128 < c.u 0 2), .outOfRange), (c.u 2 2 != 0, .badParam), (m.any (fun p => !pairAllowed p), .badParam),
   (repeated (m.map (·.2)), .badParam), (m.any (fun p => s.wrongDirection p || boundAway s.nv.config.asrc p.1), .badParam),
   (decide (s.channelLimit < inputRoutes m) || decide (s.channelLimit < outputRoutes m), .outOfRange)]

/-- ROUTE_SET (R300): the map waits for its boundary. -/
def routeSet (ok : Bool) : CmdSpec :=
  { opcode := 0x2510, role := 2, shape := routeShape, journals := true, absent := routeAbsent
    body := fun c s => guarded (s.routeTests c) s (c.journalThen ok 0 s (fun s =>
      let m := routePairs c.value
      let cf := { s.nv.config with routes := m }
      let next := s.audio.routeNext ++ [(m, s.boundaryAfter)]
      done { s with nv := { s.nv with config := cf }, audio := { s.audio with routeNext := next } })) }

/-- ROUTE_SET (R300). -/
def execRouteSet (nvOk : Bool) (s : State) : Step := .next ((routeSet nvOk).run s)

/-- R300: the outputs of a map that replaces another at index `i`. -/
def State.outsOf (m : List (Nat × Nat)) (i : Nat) (s : State) : List AudioOut :=
  (m.filter (fun p => isOutputClass p.2)).map (fun p =>
    match s.audio.outs.find? (fun o => o.dst == p.2) with
    | some o => if o.src = p.1 then o else { o with src := p.1, sys := s.aimSys true 10 o }
    | none => s.newOut p.1 p.2 i (s.audio.started && s.outEnabled p.2) 10)

/-- ROUTE_MAP_CHANGE (R300): a map comes into force at the second `t`. -/
def State.routeMapChange (m : List (Nat × Nat)) (t : Nat) (s : State) : State :=
  { s with audio := { s.audio with outs := s.outsOf m (t * s.fs), routes := m } }

/-- A binding comes into force (R297): its outputs ramp up again. -/
def State.bindConverter (b : Nat × Nat × Nat × Nat) (s : State) : State :=
  let s := { s with audio := { s.audio with asrc := modAt b.1 (fun c => { c with source := b.2.1, slot := b.2.2.1 }) s.audio.asrc } }
  s.rampSys (fun o => chClass o.src == 0x03 && chNo o.src / 2 == b.1 && o.on && !o.laneMute) true 10

/-- A queue of Q08–Q15 changes its direction (R308, R102): it is flushed; a queue that becomes an input has a credit for each
cell, one that becomes an output has its credits reclaimed. -/
def State.turnQueue (n : Nat) (toOutput : Bool) (s : State) : State :=
  let s := s.rewindStream n
  if toOutput then
    let c := (s.queue n).outstanding
    let k := (s.queue n).entries.length
    ((s.modQueue n (fun q => (q.dropAll (queueDepth n)).reclaimAll)).occurDrops n k).reclaimEvent n c 1 0xFF
  else
    let k := (s.queue n).entries.length
    (s.modQueue n (fun q => (q.dropAll (queueDepth n)).issue (queueDepth n))).occurDrops n k

/-- The queues whose direction differs between two values of HOSTQ_DIR. -/
def State.turnQueues (old new : Nat) (s : State) : State :=
  ((List.range 8).filter (fun k => bit k old != bit k new)).foldl (fun s k => s.turnQueue (8 + k) (bit k new)) s

/-- A committed value of parameter `id` has come into force between two states (R308). -/
def released (id : Nat) (old new : State) : Bool :=
  (old.waiting.filter (fun w => w.1 == id)).length != (new.waiting.filter (fun w => w.1 == id)).length

/-- The audio units at the QT second boundary `t`, the port parameters already in force (R294, R297, R300, R308): `old` is the
state before the boundary. -/
def State.audioBoundary (t : Nat) (old s : State) : State :=
  let s := s.turnQueues (old.param 0x2501) (s.param 0x2501)
  let due := s.audio.asrcNext.filter (fun b => decide (b.2.2.2 ≤ t))
  let s := due.foldl (fun s b => s.bindConverter b)
    { s with audio := { s.audio with asrcNext := s.audio.asrcNext.filter (fun b => decide (t < b.2.2.2)) } }
  let maps := s.audio.routeNext.filter (fun p => decide (p.2 ≤ t))
  let s := maps.foldl (fun s p => s.routeMapChange p.1 t)
    { s with audio := { s.audio with routeNext := s.audio.routeNext.filter (fun p => decide (t < p.2)) } }
  let changed := fun (o : AudioOut) =>
    (chClass o.dst == 0x21 && released (0x2300 + chNo o.dst / 2) old s) ||
    (chClass o.dst == 0x22 && (released (0x2400 + chNo o.dst / 16) old s || released (0x2404 + chNo o.dst / 16) old s))
  let s := s.rampSys (fun o => changed o && o.on && !o.laneMute) true 0
  s.syncOuts (t * s.fs)

/-! Mutes and groups -/

/-- Check 7 of MUTE_SET. -/
def muteAbsent (s : State) (l : List Item) : Bool :=
  l.any (fun i => isOutputClass (fieldAt 0 2 i.value) && !s.chPresent (fieldAt 0 2 i.value))

/-- The fields of one MUTE_SET item (R303). -/
def State.muteTests (v : Bytes) (s : State) : List (Bool × Status) :=
  [(!(fieldAt 0 2 v == 0xFFFF || isOutputClass (fieldAt 0 2 v)), .badParam), (decide (1 < fieldAt 2 1 v), .badParam),
   (fieldAt 3 1 v != 0, .badParam), (fieldAt 4 8 v != 0 && decide (fieldAt 4 8 v < s.screed.index + 2), .tooLate)]

/-- The outputs an item of MUTE_SET names: for 0xFFFF those of the map in force and of the committed one. -/
def State.muteTargets (v : Bytes) (s : State) : List Nat :=
  if fieldAt 0 2 v = 0xFFFF then
    (s.audio.outs.map (·.dst) ++ (s.nv.config.routes.map (·.2)).filter isOutputClass).eraseDups
  else [fieldAt 0 2 v]

/-- One item of MUTE_SET takes effect (R303). -/
def State.muteItem (v : Bytes) (s : State) : State :=
  let m := fieldAt 2 1 v == 1
  let i := if fieldAt 4 8 v = 0 then s.screed.index + 2 else fieldAt 4 8 v
  let t := s.muteTargets v
  let mutes := if m then (s.nv.config.mutes ++ t).eraseDups else s.nv.config.mutes.filter (fun x => !t.contains x)
  { s with nv := { s.nv with config := { s.nv.config with mutes := mutes } } }.mapOuts (fun o =>
    if t.contains o.dst then { o with muteAt := o.muteAt ++ [(i, m)] } else o)

/-- MUTE_SET (R303). -/
def muteSet (ok : Bool) : CmdSpec :=
  { opcode := 0x2511, role := 1, shape := fun l => someItems 0x2511 12 l && decide (l.length ≤ 64), journals := true
    absent := muteAbsent
    body := fun c s => c.guardItems (fun v => s.muteTests v) s (c.journalThen ok 2 s (fun s =>
      done (c.items.foldl (fun s i => s.muteItem i.value) s))) }

/-- MUTE_SET (R303). -/
def execMuteSet (nvOk : Bool) (s : State) : Step := .next ((muteSet nvOk).run s)

/-- Streams of a GROUP_SET item. -/
def groupStreams (v : Bytes) : List Nat := (slice 5 (fieldAt 4 1 v) v).map BitVec.toNat

/-- R304: streams of a kind that some part has. -/
def streamLimit (kind : Nat) : Nat :=
  match kind with
  | 0 | 8 | 2 | 4 | 11 => 8
  | 1 | 9 => 4
  | 3 | 10 => 1
  | _ => 0

/-- R304: streams of a kind on this part. -/
def State.streamCount (kind : Nat) (s : State) : Nat :=
  match kind with
  | 0 | 8 => s.aesCount
  | 1 | 9 => s.tdmCount
  | 2 => s.asrcCount
  | 10 => b01 (decide (s.part.tier = .a))
  | k => streamLimit k

/-- Check 3 of GROUP_SET. -/
def groupShape (l : List Item) : Bool :=
  !l.isEmpty && l.all (fun i => i.id == 0x2512 && decide (5 ≤ i.value.length) && i.value.length == 5 + fieldAt 4 1 i.value)

/-- Check 7 of GROUP_SET. -/
def groupAbsent (s : State) (l : List Item) : Bool :=
  l.any (fun i => (groupStreams i.value).any (fun x =>
    decide (x % 16 < streamLimit (x / 16)) && decide (s.streamCount (x / 16) ≤ x % 16)))

/-- The fields of one GROUP_SET item (R304). -/
def groupTests (v : Bytes) : List (Bool × Status) :=
  [(decide (1 < fieldAt 1 1 v), .badParam), (decide (1000 < fieldAt 2 2 v), .outOfRange), (decide (29 < fieldAt 4 1 v), .outOfRange),
   ((groupStreams v).any (fun x => decide (streamLimit (x / 16) ≤ x % 16)), .badParam)]

/-- R304: one item sets its group; a stream named in it leaves every other group. -/
def setGroup (g : List AudioGroup) (v : Bytes) : List AudioGroup :=
  let t := groupStreams v
  let g := g.map (fun x => { x with streams := x.streams.filter (fun y => !t.contains y) })
  modAt (fieldAt 0 1 v) (fun _ => { fill := fieldAt 1 1 v, holdMs := fieldAt 2 2 v, streams := t.eraseDups }) g

/-- GROUP_SET (R304): in force at the next tick. -/
def groupSet (ok : Bool) : CmdSpec :=
  { opcode := 0x2512, role := 2, shape := groupShape, journals := true, absent := groupAbsent
    naming := fun _ c => failItem (fun v => [(decide (7 < fieldAt 0 1 v), .outOfRange)]) c.items
    body := fun c s => c.guardItems groupTests s (c.journalThen ok 1 s (fun s =>
      let g := c.items.foldl (fun g i => setGroup g i.value) s.nv.config.groups
      let cf := { s.nv.config with groups := g }
      done { s with nv := { s.nv with config := cf }, audio := { s.audio with groupNext := some g } })) }

/-- GROUP_SET (R304). -/
def execGroupSet (nvOk : Bool) (s : State) : Step := .next ((groupSet nvOk).run s)

/-! Received frames -/

/-- R282: the index of a frame whose reference instant is `t`, with the port's d. -/
def State.frameIndex (t d : Nat) (s : State) : Nat := t * s.fs / qtSec + d

/-- R282, R306: a frame joins its stream at its index; after that index's instant it is late, and the earlier of two frames of one
index is. -/
def State.storeFrame (id i : Nat) (words : List Nat) (s : State) : State :=
  if s.screed.ticked ∧ i ≤ s.screed.index then s.streamLate id i 1
  else
    let double := s.audio.frames.any (fun f => f.1 == id && f.2.1 == i)
    let rest := s.audio.frames.filter (fun f => !(f.1 == id && f.2.1 == i))
    let s := { s with audio := { s.audio with frames := rest ++ [(id, i, words)] } }
    if double then s.streamLate id i 1 else s

/-- R289: a received sample: what it becomes, and the last good one. -/
def validSample (mode w good : Nat) (bad : Bool) : Nat × Nat :=
  if !bad then (w, w)
  else (match mode with | 0 => w | 1 => 0 | _ => good, good)

/-- R290: one received user bit. -/
def State.userBitIn (n : Nat) (b : Bool) (s : State) : State :=
  let p := s.aesPort n
  if p.userRx.length < 4096 then s.modAes n (fun p => { p with userRx := p.userRx ++ [b], ovfRun := false })
  else
    let s := (s.bump 0x23 (aesCounter n 3)).modAes n (fun p => { p with ovfRun := true })
    if p.ovfRun then s else s.occur 85 n (le 1 0)

/-- R308: the receiver of port `n` is on. -/
def State.aesReceives (n : Nat) (s : State) : Bool :=
  s.power.mode.serves && decide (n < s.aesCount) && bit 1 (s.param (0x2300 + n))

/-- AES3_FRAME_RX (R282, R284, R289, R290): the frame whose preamble came at `t`. -/
def State.aesFrame (n t : Nat) (f : AesFrame) (s : State) : State :=
  if !s.aesReceives n ∨ !(s.aesPort n).locked then s
  else
    let s := s.advance t
    let mode := bits 5 4 (s.param (0x2300 + n))
    let p := s.aesPort n
    let badA := f.validityA || f.parityA
    let badB := f.validityB || f.parityB
    let a := validSample mode (f.wordA.toNat * 256) p.goodA badA
    let b := validSample mode (f.wordB.toNat * 256) p.goodB badB
    let s := s.modAes n (fun p => { p with goodA := a.2, goodB := b.2 })
    let s := s.bumpBy 0x23 (aesCounter n 0) (b01 f.parityA + b01 f.parityB)
    let s := s.bumpBy 0x23 (aesCounter n 2) (b01 badA + b01 badB)
    let s := (s.userBitIn n f.userA).userBitIn n f.userB
    if s.aesBound n || s.aesMismatch n then s else s.storeFrame n (s.frameIndex t 3) [a.1, b.1]

/-- AES3_FRAME_RX (R282). -/
def execAes3FrameRx (port : Fin 8) (instant : Nat) (frame : AesFrame) (s : State) : Step :=
  .next (s.aesFrame port.val instant frame)

/-- R287: an accepted status differs in a byte other than 14–21 and 23. -/
def csDiffers (a b : Bytes) : Bool := a.take 14 != b.take 14 || slice 22 1 a != slice 22 1 b

/-- R287: a block's status passes: consumer format, or a good CRCC. -/
def csPasses (b : Bytes) : Bool := !bit 0 (fieldAt 0 1 b) || csCrc b == fieldAt 23 1 b

/-- R287: one channel of a block, `seq` the BLOCK_SEQ of the moment. -/
def State.channelBlock (n ch seq : Nat) (b : Bytes) (s : State) : State :=
  let p := s.aesPort n
  if !csPasses b then (s.bump 0x23 (aesCounter n 1)).occur 84 n (le 1 ch ++ le 4 seq)
  else
    let had := if ch = 0 then p.gotA else p.gotB
    let old := if ch = 0 then p.csA else p.csB
    let s := s.modAes n (fun p => if ch = 0 then { p with csA := b, gotA := true } else { p with csB := b, gotB := true })
    if had && csDiffers old b then s.occur 83 n (le 1 ch ++ le 4 seq) else s

/-- AES3_BLOCK_RX (R287): a block with a channel whose status is accepted counts in BLOCK_SEQ. -/
def State.aesBlock (n : Nat) (a b : Bytes) (s : State) : State :=
  if !s.aesReceives n ∨ !(s.aesPort n).locked then s
  else
    let a := padTo 24 a
    let b := padTo 24 b
    let seq := wrap32 ((s.aesPort n).blockSeq + b01 (csPasses a || csPasses b))
    let s := s.modAes n (fun p => { p with blockSeq := seq, crcGood := csPasses a && csPasses b, consumer := !bit 0 (fieldAt 0 1 a) })
    (s.channelBlock n 0 seq a).channelBlock n 1 seq b

/-- AES3_BLOCK_RX (R287). -/
def execAes3BlockRx (port : Fin 8) (csA csB : Bytes) (s : State) : Step := .next (s.aesBlock port.val csA csB)

/-- R309: DETAIL of EV082. -/
def aesLockDetail (state rate : Nat) : Bytes := le 1 state ++ le 4 rate

/-- AES_RX_LOCK (R284): biphase of a rate from 32 to 192 kHz is found. -/
def State.aesLock (n rate : Nat) (s : State) : State :=
  if !s.aesReceives n ∨ (s.aesPort n).locked ∨ !within 32000 192000 rate then s
  else
    let s := s.modAes n (fun p => { p with locked := true, rate := rate, blockSeq := 0 })
    s.occur 82 n (aesLockDetail (if s.aesMismatch n then 2 else 1) rate)

/-- AES_RX_LOCK (R284). -/
def execAesRxLock (port : Fin 8) (rate : BitVec 32) (s : State) : Step := .next (s.aesLock port.val rate.toNat)

/-- AES_RX_LOCK_LOSS (R284). -/
def State.aesLockLoss (n : Nat) (s : State) : State :=
  if !s.power.mode.serves ∨ !(s.aesPort n).locked then s
  else
    let s := (s.modAes n (fun p => { p with locked := false })).bump 0x23 (aesCounter n 5)
    s.occur 82 n (aesLockDetail 0 (s.aesPort n).rate)

/-- AES_RX_LOCK_LOSS (R284). -/
def execAesRxLockLoss (port : Fin 8) (s : State) : Step := .next (s.aesLockLoss port.val)

/-- R293: a slave port's output frame whose instant lies in the interval of index `i`: it carries that index, and the older ones are
not sent; a frame with no index in its interval repeats the last sample sent. Both count in TX_SLIPS. -/
def State.slaveFrame (n i : Nat) (s : State) : State :=
  let p := s.tdmPort n
  match p.pipe.find? (fun f => f.1 == i) with
  | some f =>
    (s.bumpBy 0x24 (2 * n) (p.pipe.filter (fun f => decide (f.1 < i))).length).modTdm n (fun p =>
      { p with wire := some f, pipe := p.pipe.filter (fun f => decide (i < f.1)) })
  | none => if p.wire.isSome then s.bump 0x24 (2 * n) else s

/-- TDM_FRAME_RX (R282, R293): the frame whose reference instant is `t`, with its FS period in BCLK. -/
def State.tdmFrame (n t period : Nat) (slots : List (BitVec 32)) (s : State) : State :=
  let cfg := s.param (0x2400 + n)
  let count := tdmSlotCount (bits 2 1 cfg) (s.param 0x2000)
  if !s.power.mode.serves ∨ s.tdmCount ≤ n ∨ !((s.tdmPort n).rx.on || (s.tdmPort n).tx.on || !(s.tdmPort n).pipe.isEmpty) then s
  else
    let s := (s.advance t).modTdm n (fun p => { p with period := period })
    let s := if bit 0 cfg then s else s.slaveFrame n (t * s.fs / qtSec - bits 15 8 cfg)
    if !bit 0 cfg ∧ period ≠ 32 * count then s.bump 0x24 (2 * n + 1)
    else
      let i := s.frameIndex t 2
      let p := s.tdmPort n
      if !p.rx.on ∨ i < p.rx.s0 ∨ s.tdmBound n then s
      else
        let mask := bits 15 0 (s.param (0x2404 + n))
        s.storeFrame (0x10 + n) i ((List.range 16).map (fun k =>
          if k < count ∧ bit k mask then slotWord (bit 5 cfg) (slots.getD k 0).toNat else 0))

/-- TDM_FRAME_RX (R293). -/
def execTdmFrameRx (port : Fin 4) (instant period : Nat) (slots : List (BitVec 32)) (s : State) : Step :=
  .next (s.tdmFrame port.val instant period slots)

end Sys2Proof.Machine
end

