-- ==== Sys2Proof/Machine/Signals.lean ====
section
/-! DEFINITION. The signals of the satellite bands: systems, SV numbers, codes and carriers (R122, R123). -/
namespace Sys2Proof.Machine

/-- R123: the SIGNAL codes that are not reserved. -/
def signalNamed (g : Nat) : Bool := within 1 7 g || within 0x81 0x86 g

/-- R123: bit 7 is the band: 0 L1, 1 L5. -/
def signalL5 (g : Nat) : Bool := bit 7 g

/-- The systems of R123: GPS 0, Galileo 1, BeiDou 2, QZSS 3, SBAS 4, NavIC 5. -/
def signalSystem (g : Nat) : Nat :=
  match g with
  | 0x01 | 0x02 | 0x81 => 0 | 0x03 | 0x82 => 1 | 0x04 | 0x83 => 2 | 0x05 | 0x06 | 0x84 => 3 | 0x07 | 0x86 => 4 | _ => 5

/-- R123: the SV numbers of a signal. -/
def svRange (g : Nat) : Nat × Nat :=
  match g with
  | 0x01 => (1, 37) | 0x02 | 0x81 | 0x04 | 0x83 => (1, 63) | 0x03 | 0x82 => (1, 50) | 0x05 | 0x06 | 0x84 => (193, 202)
  | 0x07 | 0x86 => (120, 158) | _ => (1, 14)

/-- An SV number of a signal. -/
def svLegal (g sv : Nat) : Bool := within (svRange g).1 (svRange g).2 sv

/-- R123: chips per second. -/
def chipRate (g : Nat) : Nat := if signalL5 g && g != 0x85 then 10230000 else 1023000

/-- R123: chips of the primary code. -/
def codeLength (g : Nat) : Nat :=
  match g with
  | 0x01 | 0x05 | 0x07 | 0x85 => 1023
  | 0x03 => 4092
  | _ => 10230

/-- R123: segments per code. -/
def codeSegments (g : Nat) : Nat :=
  match g with
  | 0x01 | 0x05 | 0x07 | 0x85 => 1
  | 0x03 => 8
  | 0x02 | 0x04 | 0x06 => 20
  | _ => 10

/-- R123: Lath and tracking use the pilot. -/
def signalPilot (g : Nat) : Bool := [0x02, 0x03, 0x04, 0x06, 0x81, 0x82, 0x83, 0x84].contains g

/-- R122: carrier frequency, Hz. -/
def carrierHz (g : Nat) : Nat := if signalL5 g then 1176450000 else 1575420000

end Sys2Proof.Machine
end

