-- ==== Sys2Proof/Machine/Modulation.lean ====
section
/-! DEFINITION. Symbols, burst lengths, scrambling, the two codes, the burst as symbols and as samples, and
what a decoder reads back (R338–R346, R352–R360). -/
namespace Sys2Proof.Machine

/-- Rs in Msym/s (R338). -/
def rateMsym (r : Nat) : Nat := 4 * 2 ^ r

/-- Bits per symbol of an MCS (R340). -/
def mcsBits (m : Nat) : Nat := if m ≤ 1 then 1 else if m ≤ 3 then 2 else if m ≤ 5 then 4 else 6

/-- Code rate of an LDPC MCS: 0 1/2, 1 2/3, 2 3/4, 3 5/6 (R340). -/
def mcsCode (m : Nat) : Nat := match m with | 3 | 5 | 7 => 2 | 6 => 1 | 8 => 3 | _ => 0

/-- m_b of a code (R354). -/
def ldpcRows (c : Nat) : Nat := match c with | 0 => 12 | 1 => 8 | 2 => 6 | _ => 4
/-- k_b (R354). -/
def ldpcCols (c : Nat) : Nat := 24 - ldpcRows c
/-- K (R354). -/
def ldpcK (c : Nat) : Nat := 96 * ldpcCols c
/-- DEG, STEP, P and Q (R354). -/
def ldpcShape (c : Nat) : Nat × Nat × Nat × Nat :=
  match c with | 0 => (4, 3, 13, 5) | 1 => (3, 3, 17, 11) | 2 => (3, 2, 19, 7) | _ => (3, 1, 23, 29)

/-- SNR_REQ, 0.1 dB (R340). -/
def snrReq (m : Nat) : Int :=
  match m with | 0 => 40 | 1 => 20 | 2 => 50 | 3 => 80 | 4 => 105 | 5 => 140 | 6 => 180 | 7 => 195 | _ => 215

/-- N_CW (R345); 0 for MCS 0. -/
def codewordCount (m len : Nat) : Nat := if m = 0 then 0 else (8 * len + ldpcK (mcsCode m) - 1) / ldpcK (mcsCode m)

/-- Coded bits of a payload (R345). -/
def codedBits (m len : Nat) : Nat :=
  if m = 0 then 2 * (8 * len + 6) else 8 * len + codewordCount m len * (2304 - ldpcK (mcsCode m))

/-- N_PRE (R341). -/
def preambleSymbols (r : Nat) : Nat := 16 * rateMsym r

/-- Symbols of a burst (R346). -/
def burstSymbols (r m len : Nat) : Nat :=
  let n := (codedBits m len + mcsBits m - 1) / mcsBits m
  preambleSymbols r + 64 + 76 + n + 16 * ((n - 1) / 1024)

/-- Airtime with both ramps, whole µs rounded up (R328). -/
def burstAirtime (r m len ramp : Nat) : Nat := (burstSymbols r m len + rateMsym r - 1) / rateMsym r + 2 * ramp

/-- One bit of the search for the largest payload. -/
def maxPayloadN (r m us : Nat) : Nat → Nat → Nat
  | 0, l => l
  | k + 1, l => maxPayloadN r m us k (if burstSymbols r m (l + 2 ^ k) ≤ us * rateMsym r then l + 2 ^ k else l)

/-- The largest payload whose burst lasts at most `us` µs (R378, R379). -/
def maxPayload (r m us : Nat) : Nat := maxPayloadN r m us 16 0

/-- One bit into the header's CRC-8 (R343). -/
def crc8Bit (c : Nat) (b : Bool) : Nat :=
  let f := xor (Nat.testBit c 7) b
  let s := c * 2 % 256
  if f then Nat.xor s 0x07 else s

/-- `n` bits of a value, lowest first. -/
def bitsOf : Nat → Nat → List Bool
  | 0, _ => []
  | n + 1, v => (v % 2 == 1) :: bitsOf n (v / 2)

/-- HCRC over bits [23:0] of a header (R343). -/
def headerCrc (h : Nat) : Nat := (bitsOf 24 h).foldl crc8Bit 0

/-- The header of a burst (R343). -/
def headerWord (m seed len : Nat) : Nat :=
  let h := m % 16 + seed % 16 * 16 + len % 65536 * 256
  h + headerCrc h * 2 ^ 24

/-- A header that passes its checks (R343): good HCRC, an MCS that is not reserved, LENGTH not 0. -/
def headerOk (h : Nat) : Bool := headerCrc h == bits 31 24 h && decide (bits 3 0 h ≤ 8) && bits 23 8 h != 0

/-- R344: the scrambler over a bit string. -/
def scramble : Nat → List Bool → List Bool
  | _, [] => []
  | r, b :: l =>
    let o := xor (Nat.testBit r 6) (Nat.testBit r 3)
    xor b o :: scramble ((r * 2 + b01 o) % 128) l

/-- Parity of the low 7 bits. -/
def parity7 (v : Nat) : Bool := (bitsOf 7 v).foldl xor false

/-- R356: the convolutional code; the register holds the last 6 bits, the latest highest. -/
def convEncode : Nat → List Bool → List Bool
  | _, [] => []
  | r, b :: l =>
    let w := b01 b * 64 + r
    parity7 (Nat.land w 0x79) :: parity7 (Nat.land w 0x5B) :: convEncode (w / 2) l

/-- A block of 96 bits read from position `s` on, cyclically (R352). -/
def rotate (s : Nat) (l : List Bool) : List Bool := l.drop s ++ l.take s

/-- Two blocks bit by bit. -/
def xorBits (a b : List Bool) : List Bool := List.zipWith xor a b

/-- A zero block. -/
def zeroBlock : List Bool := List.replicate 96 false

/-- R353: information column `j` is present at row `i`. -/
def ldpcHas (c i j : Nat) : Bool :=
  let p := ldpcShape c
  (List.range p.1).any (fun t => (j + t * p.2.1) % ldpcRows c == i)

/-- R353: its shift there. -/
def ldpcShift (c i j : Nat) : Nat :=
  let p := ldpcShape c
  (p.2.2.1 * (i + 1) * (2 * j + 1) + p.2.2.2 * j) % 96

/-- A bit string in blocks of 96. -/
def blocksOf : Nat → List Bool → List (List Bool)
  | 0, _ => []
  | n + 1, l => (l.take 96 ++ List.replicate (96 - (l.take 96).length) false) :: blocksOf n (l.drop 96)

/-- What the information columns add to row `i`. -/
def ldpcRow (c i : Nat) (info : List (List Bool)) : List Bool :=
  (info.zipIdx.filter (fun p => ldpcHas c i p.2)).foldl (fun a p => xorBits a (rotate (ldpcShift c i p.2) p.1)) zeroBlock

/-- The parity blocks after the first, row by row (R353). -/
def ldpcChain (h : Nat) (p0 : List Bool) : Nat → List (List Bool) → List Bool → List (List Bool)
  | _, [], _ => []
  | i, row :: r, prev =>
    let p := xorBits (xorBits row prev) (if i = 0 then rotate 1 p0 else if i = h then p0 else zeroBlock)
    p :: ldpcChain h p0 (i + 1) r p

/-- The parity bits of a codeword (R352, R353). -/
def ldpcParity (c : Nat) (info : List Bool) : List Bool :=
  let b := blocksOf (ldpcCols c) info
  let rows := (List.range (ldpcRows c)).map (fun i => ldpcRow c i b)
  let p0 := rows.foldl xorBits zeroBlock
  p0 ++ (ldpcChain (ldpcRows c / 2) p0 0 (rows.dropLast) zeroBlock).flatten

/-- R345: the codewords of a payload, shortened bits not sent. -/
def ldpcEncode (c : Nat) : Nat → List Bool → List Bool
  | 0, _ => []
  | n + 1, l => l.take (ldpcK c) ++ ldpcParity c (l.take (ldpcK c)) ++ ldpcEncode c n (l.drop (ldpcK c))

/-- Coded bits of a payload (R344, R345). -/
def encodePayload (m seed : Nat) (payload : Bytes) : List Bool :=
  let s := scramble (seed % 16 * 8 + 7) (payload.flatMap (fun b => bitsOf 8 b.toNat))
  if m = 0 then convEncode 0 (s ++ List.replicate 6 false) else ldpcEncode (mcsCode m) (codewordCount m payload.length) s

/-- R339: the level of the bits of one axis, first bit leftmost, before the constellation's scale. -/
def axisLevel : List Bool → Int
  | [] => 0
  | [a] => if a then -1 else 1
  | [a, b] => (if a then -1 else 1) * (if b then 1 else 3)
  | a :: b :: c :: _ => (if a then -1 else 1) * (match b, c with | false, false => 7 | false, true => 5 | true, true => 3 | true, false => 1)

/-- R339: the mean power of a constellation of `n` bits per symbol at its bare levels. -/
def meanPower (n : Nat) : Nat := match n with | 1 => 1 | 2 => 2 | 4 => 10 | _ => 42

/-- R339: a level at unit mean power, 2⁻¹⁶, to the nearest. -/
def unitLevel (n : Nat) (x : Int) : Int :=
  let v : Int := (((isqrt (4 * x.natAbs * x.natAbs * 2 ^ 32 / meanPower n) + 1) / 2 : Nat) : Int)
  if x < 0 then -v else v

/-- R339: symbols of a bit string at unit mean power, the last padded with zeros. -/
def mapSymbols (n : Nat) : Nat → List Bool → List (Int × Int)
  | 0, _ => []
  | k + 1, l =>
    let b := l.take n ++ List.replicate (n - (l.take n).length) false
    (if n = 1 then (unitLevel n (axisLevel b), 0) else (unitLevel n (axisLevel (b.take (n / 2))), unitLevel n (axisLevel (b.drop (n / 2))))) ::
      mapSymbols n k (l.drop n)

/-- R342: TS. -/
def trainingWord : Nat := 0xE2D41B79

/-- BPSK symbols of a word, bit 0 first. -/
def wordSymbols (n v : Nat) : List (Int × Int) := mapSymbols 1 n (bitsOf n v)

/-- R345: a pilot block after every 1,024 payload symbols but the last. -/
def insertPilots : Nat → List (Int × Int) → List (Int × Int)
  | 0, l => l
  | k + 1, l => if l.length ≤ 1024 then l else l.take 1024 ++ wordSymbols 16 trainingWord ++ insertPilots k (l.drop 1024)

/-- R341: the symbols of a burst. -/
def modulate (r m seed sync : Nat) (payload : Bytes) : List (Int × Int) :=
  let pre := (List.replicate (preambleSymbols r / 32) (wordSymbols 32 trainingWord)).flatten
  let head := convEncode 0 (bitsOf 32 (headerWord m seed payload.length) ++ List.replicate 6 false)
  let coded := encodePayload m seed payload
  let n := (coded.length + mcsBits m - 1) / mcsBits m
  pre ++ wordSymbols 64 sync ++ mapSymbols 1 76 head ++ insertPilots 512 (mapSymbols (mcsBits m) n coded)

/-! The samples (R338, R358, R359) -/

/-- Two sample strings added, the longer one's end kept. -/
def addSamples : List (Int × Int) → List (Int × Int) → List (Int × Int)
  | [], b => b
  | a, [] => a
  | a :: r, b :: q => (a.1 + b.1, a.2 + b.2) :: addSamples r q

/-- A FIR filter over a sample string. -/
def fir (h : List Int) : List (Int × Int) → List (Int × Int)
  | [] => []
  | x :: r => addSamples (h.map (fun c => (c * x.1, c * x.2))) ((0, 0) :: fir h r)

/-- R359: the 63 coefficients of a MASK_FIR, h[62 − k] = h[k]. -/
def maskTaps (v : Nat) : List Int := (List.range 63).map (fun k => signed 16 (lane 16 (min k (62 - k)) v))

/-- cos (m π / 16), 2⁻¹²⁸. -/
def cos16 (m : Int) : Int :=
  let k := m % 32
  cosFixed (piFixed * (if k ≤ 16 then k else 32 - k) / 16)

/-- R338: the root-raised-cosine pulse of roll-off 0.25 at `m` quarters of a symbol from its centre, 2⁻²⁰, to the nearest:
(sin πt(1 − β) + 4βt cos πt(1 + β)) / (πt (1 − (4βt)²)), with its limits at 0 and at one symbol. -/
def rrcTap (m : Int) : Int :=
  let one : Int := ((2 ^ gainBits : Nat) : Int)
  let near := fun (n d : Int) => (2 * n + d) / (2 * d)
  let x : Int := m.natAbs
  if x = 0 then near ((3 * piFixed + 4 * one) * 2 ^ 20) (4 * piFixed)
  else if x = 4 then near (-(cos16 4 * (piFixed - 2 * one) * 2 ^ 20)) (4 * piFixed * one)
  else
    let n := (4 * cos16 (3 * x - 8) + x * cos16 (5 * x)) * 16 * 2 ^ 20
    let d := piFixed * x * (16 - x * x)
    if 0 < d then near n d else near (-n) (-d)

/-- R338: its 65 taps over ±8 symbols, from the first on (`test_rrc` holds them to `rrcTap`). -/
def rrcTaps : List Int :=
  [-5298, -2735, 3056, 7224, 5619, -1245, -7952, -8458, -1589, 7150, 9748, 2918, -7867,
   -11986, -3076, 13425, 22251, 10410, -19185, -44767, -39335, 6314, 68468, 98674, 55629, -57667,
   -178570, -208370, -67358, 249416, 652002, 988981, 1120204, 988981, 652002, 249416, -67358, -208370, -178570,
   -57667, 55629, 98674, 68468, 6314, -39335, -44767, -19185, 10410, 22251, 13425, -3076, -11986,
   -7867, 2918, 9748, 7150, -1589, -8458, -7952, -1245, 5619, 7224, 3056, -2735, -5298]

/-- R338, R359: symbols at 4 samples each through the root-raised-cosine filter of ±8 symbols, then the filter of the sub-band. -/
def transmitSamples (mask : Nat) (symbols : List (Int × Int)) : List (Int × Int) :=
  fir (maskTaps mask) (fir rrcTaps (symbols.flatMap (fun x => [x, (0, 0), (0, 0), (0, 0)])))

/-- R358: amplitude of the PA rise at `k` of `n` equal steps, as a fraction. -/
def rampAmplitude (shape table k n : Nat) : Int × Int :=
  if n ≤ k then (1, 1)
  else match shape with
    | 0 =>
      let one : Int := ((2 ^ gainBits : Nat) : Int)
      ((one - cosFixed (piFixed * (k : Int) / (n : Int))) / 2, one)
    | 1 => ((k : Int), (n : Int))
    | _ => ((lane 8 (16 * k / n) table : Int), 255)

/-- R358: the rise over RAMP_US, sample by sample. -/
def rampRise (rate us shape table : Nat) : List (Int × Int) :=
  let n := 4 * rateMsym rate * us
  (List.range n).map (fun k => rampAmplitude shape table k n)

/-- R338, R359: samples by which the filters delay a symbol's centre. -/
def filterDelay : Nat := 63

/-- R358: the PA's envelope over the samples of a burst of `n` symbols: the rise before its first symbol, and after its last symbol period
the fall, which is the rise reversed in time. -/
def envelope (rise : List (Int × Int)) (n : Nat) (samples : List (Int × Int)) : List (Int × Int) :=
  let up := List.replicate filterDelay (0, 1) ++ rise
  let gain := up.drop rise.length ++ List.replicate (4 * n) (1, 1) ++ rise.reverse
  samples.zipIdx.map (fun (x : (Int × Int) × Nat) =>
    let g := gain[x.2]?.getD (0, 1)
    (x.1.1 * g.1 / g.2, x.1.2 * g.1 / g.2))

/-! What the receiver reads back (R344, R349, R352, R355, R356, R360) -/

/-- R349: bits in which 64 hard decisions differ from the sync word, or from its complement where those are fewer. -/
def syncErrors (hard word : Nat) : Nat :=
  let n := ones 64 (Nat.xor hard word)
  min n (64 - n)

/-- R349: the decisions are nearer to the complement of the word. -/
def syncTurned (hard word : Nat) : Bool := decide (32 < ones 64 (Nat.xor hard word))

/-- How far a 4-bit soft value (0 the surest 0, 15 the surest 1) is from a coded bit (log entry 134). -/
def softCost (c : Bool) (v : Nat) : Nat := if c then 15 - v else v

/-- The cost of a coded bit string. -/
def pathCost : List Bool → List Nat → Nat
  | c :: r, v :: q => softCost c v + pathCost r q
  | _, _ => 0

/-- The smaller of two costs; none is no path. -/
def lesser : Option Nat → Option Nat → Option Nat
  | some a, some b => some (min a b)
  | some a, none => some a
  | none, b => b

/-- R356: what the step from register `r` with input `b` adds. -/
def branchCost (b r v w : Nat) : Nat :=
  let x := b * 64 + r
  softCost (parity7 (Nat.land x 0x79)) v + softCost (parity7 (Nat.land x 0x5B)) w

/-- R356: one step of the trellis: the least cost of each of the 64 registers. -/
def viterbiStep (m : List (Option Nat)) (v w : Nat) : List (Option Nat) :=
  (List.range 64).map (fun q =>
    let r := q % 32 * 2
    lesser ((m[r]?.getD none).map (· + branchCost (q / 32) r v w)) ((m[r + 1]?.getD none).map (· + branchCost (q / 32) (r + 1) v w)))

/-- R356: the trellis over soft values, two to a step. -/
def viterbi (m : List (Option Nat)) : List Nat → List (Option Nat)
  | v :: w :: l => viterbi (viterbiStep m v w) l
  | _ => m

/-- R356: bits that lie on a path of the terminated block that no other path betters: what a maximum-likelihood decoder answers. -/
def mostLikely (l : List Bool) (v : List Nat) : Bool :=
  v.length == 2 * (l.length + 6) && v.all (· < 16) &&
    (viterbi (some 0 :: List.replicate 63 none) v)[0]?.getD none == some (pathCost (convEncode 0 (l ++ List.replicate 6 false)) v)

/-- R355: hard decisions whose syndrome is not zero; the first `n` are the information bits that were sent. -/
def syndromeFails (c n : Nat) (hard : List Bool) : Bool := hard.drop n != ldpcParity c (hard.take n)

/-- Bits as bytes, bit 0 of each first (R342). -/
def packBits : Nat → List Bool → Bytes
  | 0, _ => []
  | n + 1, l => BitVec.ofNat 8 ((l.take 8).foldr (fun b v => b01 b + 2 * v) 0) :: packBits n (l.drop 8)

/-- R360: an EVM in 0.1 dB within one step of 100 · log10(err / ref); where a sum is 0 the spec states none. -/
def evmFits (e : Int) (err ref : Nat) : Bool :=
  decide (err = 0) || decide (ref = 0) ||
    (decide (err ^ 100 * 10 ^ (-(e + 1)).toNat < ref ^ 100 * 10 ^ (e + 1).toNat) &&
     decide (ref ^ 100 * 10 ^ (e - 1).toNat < err ^ 100 * 10 ^ (1 - e).toNat))

end Sys2Proof.Machine
end

