-- ==== Sys2Proof/Machine/ScreedLoad.lean ====
section
/-! DEFINITION. SCREED_LOAD: the load checks of R250, the longest path of R210, and the program library (R257–R259). -/
namespace Sys2Proof.Machine

/-! Classes (R233, R240) -/

/-- S32 (R233). -/
def clsS32 : List Nat := [0, 1, 2, 3, 4, 5, 6, 9, 10, 11]
/-- S (R233). -/
def clsS : List Nat := clsS32 ++ [7, 8]
/-- D32 (R233). -/
def clsD32 : List Nat := [0, 1, 2, 3, 4]

/-- The modes that D, A and B of an opcode accept; an empty list is an unused field (R240). None: reserved opcode. -/
def insClasses (op : Nat) : Option (List Nat × List Nat × List Nat) :=
  match op with
  | 0x00 | 0x52 => some ([], [], [])
  | 0x01 => some (clsD32 ++ [8], clsS, [])
  | 0x02 => some (clsD32 ++ [8, 7, 12], [], [])
  | 0x10 | 0x11 | 0x14 | 0x15 | 0x16 | 0x17 | 0x18 | 0x19 => some (clsD32, clsS32, clsS32)
  | 0x12 | 0x13 => some (clsD32, clsS32, [])
  | 0x1A | 0x1B => some ([8], [8], [8])
  | 0x20 => some ([7], clsS32, clsS32)
  | 0x21 | 0x22 | 0x23 => some ([8], clsS32, clsS32)
  | 0x24 => some ([0], clsS32, clsS32)
  | 0x30 | 0x31 | 0x32 | 0x33 => some ([12], clsS, clsS)
  | 0x34 | 0x35 => some ([12], [12], [12])
  | 0x36 => some ([12], [12], [])
  | 0x40 => some ([0, 8], [4, 11], [])
  | 0x50 => some ([9], clsS32, [9])
  | 0x51 => some ([], clsS32, [9])
  | 0x53 => some ([], [9], [])
  | 0x54 => some ([9], [], [])
  | 0x55 | 0x56 => some ([9], [12], [])
  | 0x58 | 0x59 => some ([9], clsS32, [])
  | 0x5A | 0x5B => some ([], clsS32, [])
  | _ => none

/-- R232: the FIELD bits a mode does not name. -/
def reservedField (mode : Nat) : Nat :=
  match mode with
  | 0 => 0xFE0 | 7 => 0xFFC | 8 | 12 => 0xFF8 | 10 | 11 => 0x00F | _ => 0

/-- R206: an operand that names a register of the solver. -/
def namesSolver (x : Nat) : Bool :=
  let f := sField x
  match sMode x with
  | 0 => decide (24 ≤ f)
  | 8 | 12 => decide (6 ≤ f)
  | 7 => decide (f = 3)
  | 2 | 3 | 6 | 10 => decide (12 ≤ bits 11 8 f)
  | _ => false

/-- One operand specifier against its class (R231–R233). -/
def operandOk (cls : List Nat) (x : Nat) : Bool :=
  if cls.isEmpty then x == 0
  else cls.contains (sMode x) && Nat.land (sField x) (reservedField (sMode x)) == 0 &&
    !(sMode x == 6 && bits 7 6 (sField x) == 3)

/-- The MOD bits an instruction uses (R230, R231, R241). -/
def usedMod (i : SIns) : Nat :=
  let lanes := if 0x50 ≤ i.op then 0 else if i.op = 0 then 0x03 else 0x03
  let cf := if within 0x20 0x24 i.op || i.op == 0x40 then 0x04 else 0
  let toD32 := i.op == 0x01 && sMode i.d != 8 && (sMode i.a == 7 || sMode i.a == 8)
  let nar := if toD32 || i.op == 0x24 || (i.op == 0x40 && sMode i.d == 0) then 0xF8
    else if within 0x10 0x13 i.op then 0x08 else if i.op = 0x16 then 0x18 else 0
  lanes + cf + nar

/-- R246: the instructions that REP excludes. -/
def repeatable (i : SIns) : Bool := !(within 0x50 0x56 i.op || i.op == 0x40)

/-- The jumps and branches. -/
def isBranch (op : Nat) : Bool := within 0x54 0x56 op

/-- R245–R247: a count from data needs its maximum in B; with an immediate count B may be empty. -/
def countOk (i : SIns) : Bool :=
  if sMode i.a = 9 then i.b == 0 || operandOk [9] i.b
  else operandOk [9] i.b && (i.op == 0x51 || sField i.b != 0)

/-- One word of a program of one target (R250): 0 foreground, 1 customer background. -/
def wordOk (target size pc : Nat) (words : List Nat) : Bool :=
  let i := sIns (words.getD pc 0)
  let bank : Bool := target == 1
  let t := (pc : Int) + signed 12 (sField i.d)
  match insClasses i.op with
  | none => false
  | some (d, a, b) =>
    let counted := i.op == 0x50 || i.op == 0x51
    operandOk d i.d && operandOk a i.a && (if counted then countOk i else operandOk b i.b) &&
    Nat.land i.m (255 - usedMod i) == 0 &&
    !(sMode i.d == 4 && !d.isEmpty && bits 5 0 (sField i.d) != 0) &&
    !(i.op == 0x40 && sMode i.a == 4 && bits 3 0 (sField i.a) != 0) &&
    !(bank && i.op == 0x52) && !(!bank && (i.op == 0x53 || i.op == 0x5B)) &&
    !(i.op == 0x53 && decide (127 < sField i.a)) &&
    !((i.op == 0x58 || i.op == 0x59) && decide (15 < sField i.d)) &&
    !(isBranch i.op && (decide (t < 0) || decide ((size : Int) ≤ t) || (!bank && decide (signed 12 (sField i.d) ≤ 0)))) &&
    !(i.op == 0x50 && (bits 9 0 (sField i.d) == 0 || decide (size ≤ pc + bits 9 0 (sField i.d)))) &&
    !(bank && i.op == 0x51 && sMode i.a == 9 && !within 1 64 (sField i.a)) &&
    !(i.op == 0x51 && !(decide (pc + 1 < words.length) && repeatable (sIns (words.getD (pc + 1) 0)))) &&
    !(bank && (i.operands.any (fun p => namesSolver p.2) || (i.op == 0x50 && bits 11 10 (sField i.d) == 3) ||
      ((i.op == 0x58 || i.op == 0x59) && decide (12 ≤ sField i.d))))

/-- The loops of a program: first word, level, last word. -/
def loopSpans (words : List Nat) : List (Nat × Nat × Nat) :=
  (words.zipIdx).filterMap (fun w =>
    let i := sIns w.1
    if i.op = 0x50 then some (w.2, bits 11 10 (sField i.d), w.2 + bits 9 0 (sField i.d)) else none)

/-- R245: a loop inside another has another level and ends no later. -/
def nestingOk (l : List (Nat × Nat × Nat)) : Bool :=
  l.all (fun o => l.all (fun i => !(decide (o.1 < i.1) && decide (i.1 ≤ o.2.2)) || (o.2.1 != i.2.1 && decide (i.2.2 ≤ o.2.2))))

/-- R245, R250: a LOOP whose count may be 0 passes control to the word after LE. -/
def skipsLoop (i : SIns) : Bool := i.op == 0x50 && (sMode i.a != 9 || sField i.a == 0)

/-- R250: the words the instruction at `pc` may pass control to, besides those that R245 returns to LS. -/
def nextWords (pc : Nat) (i : SIns) : List Nat :=
  if i.op = 0x52 then []
  else if isBranch i.op then (if i.op = 0x54 then [] else [pc + 1])
  else if i.op = 0x51 then [pc + 2]
  else if skipsLoop i then [pc + 1, pc + bits 9 0 (sField i.d) + 1]
  else [pc + 1]

/-- R250: no fetch path leaves the bank. Words beyond the program hold the fill, which never goes on past the bank. -/
def pathsInside (size : Nat) (words : List Nat) : Bool :=
  (words.zipIdx).all (fun w => (nextWords w.2 (sIns w.1)).all (fun t => decide (t < size)))

/-- R250: every check of a load. -/
def programOk (target : Nat) (words : List Nat) : Bool :=
  let size := if target = 0 then 12288 else 3072
  (List.range words.length).all (fun pc => wordOk target size pc words) && nestingOk (loopSpans words) &&
  pathsInside size words

/-! The longest path (R210, R248) -/

/-- Key of the exit by FGEND. -/
def pathEnd : Nat := 65536

/-- Key of the exit by completing the instruction at the last word of a region, from which a loop returns (R245). -/
def pathBack : Nat := 65537

/-- Where control goes once the instruction at `pc` of a region that ends at `hi` has completed; a REP completes with what it repeats, and
a loop may end at either (R246). -/
def pathNext (words : List Nat) (hi pc : Nat) : Nat :=
  let last := pc + b01 ((sIns (words.getD pc fgendWord)).op == 0x51)
  if within pc last hi then pathBack else last + 1

/-- The slots of one instruction (R240). -/
def insSlots (op : Nat) : Nat := if op = 0x40 then 16 else if isBranch op then 2 else 1

/-- Keep the longer way to one exit. -/
def mergeExit (e : Nat × Nat) : List (Nat × Nat) → List (Nat × Nat)
  | [] => [e]
  | x :: r => if x.1 = e.1 then (x.1, max x.2 e.2) :: r else x :: mergeExit e r

/-- The longest slots to one exit. -/
def exitCost (k : Nat) (l : List (Nat × Nat)) : Option Nat := (l.find? (fun e => e.1 == k)).map (·.2)

/-- An exit inside the region goes on from there. -/
def goOn (table : List (Nat × List (Nat × Nat))) (l : List (Nat × Nat)) : List (Nat × Nat) :=
  l.foldl (fun r e => match table.find? (fun t => t.1 == e.1) with
    | some t => t.2.foldl (fun r x => mergeExit (x.1, x.2 + e.2) r) r
    | none => mergeExit e r) []

/-- The declared count of a LOOP (R245, R247). -/
def loopMost (i : SIns) : Nat := if sMode i.a = 9 then sField i.a else sField i.b

/-- The declared count of a REP (R246, R247). -/
def repMost (i : SIns) : Nat :=
  let n := if sMode i.a = 9 then sField i.a else sField i.b
  if n = 0 then 4096 else n

/-- The ways out of words `lo` to `hi`, each with its most slots; loops inside count their body once per pass, and a path that
leaves a body by a branch does so in the last pass. `fuel` bounds the nesting, which R245 keeps to four levels. -/
def pathsOut : Nat → List Nat → Nat → Nat → List (Nat × Nat)
  | 0, _, _, _ => []
  | fuel + 1, words, lo, hi =>
    let table := ((List.range (hi + 1 - lo)).reverse).foldl (fun table k =>
      let pc := lo + k
      let i := sIns (words.getD pc fgendWord)
      let next := pathNext words hi pc
      let out :=
        if i.op = 0x52 then [(pathEnd, 1)]
        else if i.op = 0x54 then [((pc + (signed 12 (sField i.d)).toNat), 2)]
        else if isBranch i.op then mergeExit (pc + (signed 12 (sField i.d)).toNat, 2) [(next, 2)]
        else if i.op = 0x51 then [(next, 1 + repMost i * insSlots (sIns (words.getD (pc + 1) fgendWord)).op)]
        else if i.op = 0x50 then
          let le := pc + bits 9 0 (sField i.d)
          let n := loopMost i
          if n = 0 then [(le + 1, 1)]
          else
            let body := pathsOut fuel words (pc + 1) le
            let pass := (exitCost pathBack body).getD 0
            body.foldl (fun r e => mergeExit (if e.1 = pathBack then pathNext words hi le else e.1, 1 + (n - 1) * pass + e.2) r)
              (if sMode i.a = 9 then [] else [(le + 1, 1)])
        else [(next, insSlots i.op)]
      (pc, goOn table out) :: table) []
    match table with
    | (_, out) :: _ => out
    | [] => []

/-- F of a foreground program (R28, R210), FGEND included. -/
def longestPath (words : List Nat) : Nat :=
  (pathsOut 5 words 0 (words.length - 1)).foldl (fun m e => max m (if e.1 = pathEnd then e.2 else e.2 + 1)) 0

/-- R28: F + B + 64 within the cycles of a tick. -/
def fitsTick (fsCode reserve path : Nat) : Bool := decide (path + reserve + 64 ≤ cyclesPerTick fsCode)

/-! The library (R257, R258) -/

/-- Entry `n` of the library. -/
def State.libEntry (n : Nat) (s : State) : Option LibEntry := s.nv.library.find? (fun e => e.entry == n)

/-- Bytes of the library in use. -/
def State.libUsed (s : State) : Nat := s.nv.library.foldl (fun n e => n + 8 * e.words.length) 0

/-- A program commit is pending. -/
def State.programPending (s : State) : Bool := s.screed.commits.any (fun c => bit 1 c.what)

/-- R258: the idle bank is the committed one, so a foreground program may not be loaded. -/
def State.destinationHeld (target : Nat) (s : State) : Bool := target == 0 && s.programPending

/-- R257 DELETE: the entry is active, or stands in the idle bank with a commit pending. -/
def State.entryInUse (n : Nat) (s : State) : Bool :=
  (s.screed.active.loaded && s.screed.active.entry == n) || (s.screed.idle.loaded && s.screed.idle.entry == n && s.programPending) ||
  (s.screed.cust.on && s.screed.custBank.entry == n)

/-- The part of a SCREED_LOAD item. -/
def loadPart (l : List Item) : Nat := match l with | i :: _ => fieldAt 0 1 i.value | [] => 0

/-- Check 3 of SCREED_LOAD. -/
def loadShape (l : List Item) : Bool :=
  match l with
  | [i] => i.id == 0x2010 && i.value.length == (if fieldAt 0 1 i.value = 1 then 8 + 8 * fieldAt 6 2 i.value else 8)
  | _ => false

/-- The 64-bit words of a byte string. -/
def wordsOf (n : Nat) (b : Bytes) : List Nat := (List.range n).map (fun k => fieldAt (8 * k) 8 b)

/-- One part of SCREED_LOAD (R257): `tests` are what refuses it; it then waits for its work. -/
def loadCommand (part : Nat) (tests : Cmd → State → List (Bool × Status)) : CmdSpec :=
  { opcode := 0x2010, role := 2, shape := loadShape, journals := part == 2 || part == 4
    selects := fun l => if part = 0 then !within 1 4 (loadPart l) else loadPart l == part
    naming := fun _ c => firstFail [(decide (4 < c.u 0 1), .badParam), (decide (1 < c.u 1 1), .badParam),
      (!within 1 255 (c.u 2 2), .outOfRange)]
    body := fun c s =>
      guarded (tests c s) s
        (let w : LoadWork := { part := part, target := c.u 1 1, entry := c.u 2 2, offset := c.u 4 2, role := c.role, keyId := c.keyId
                               words := if part = 1 then wordsOf (c.u 6 2) (c.value.drop 8) else List.replicate (c.u 6 2) 0
                               ticket := c.ticket s }
         { status := .accepted, state := { s with screed := { s.screed with loads := s.screed.loads ++ [w] } } }) }

/-- The parts that give no words must leave their fields 0 (R10). -/
def noWords (c : Cmd) : List (Bool × Status) := [(c.u 4 2 != 0, .badParam), (c.u 6 2 != 0, .badParam)]

/-- BEGIN and END name one staging: entry and target (R257). -/
def State.stagingOf (target entry : Nat) (s : State) : Option Staging :=
  s.screed.staging.filter (fun g => g.target == target && g.entry == entry)

/-- SCREED_LOAD BEGIN (R257). -/
def screedLoadBegin : CmdSpec := loadCommand 0 (fun c _ =>
  [(c.u 4 2 != 0, .badParam), (!within 1 (if c.u 1 1 = 0 then 12288 else 3072) (c.u 6 2), .outOfRange)])

/-- SCREED_LOAD_BEGIN (R257). -/
def execScreedLoadBegin (s : State) : Step := .next (screedLoadBegin.run s)

/-- SCREED_LOAD DATA (R257): within the BEGIN total. -/
def screedLoadData : CmdSpec := loadCommand 1 (fun c s =>
  [((s.stagingOf (c.u 1 1) (c.u 2 2)).isNone, .notReady), (!within 1 500 (c.u 6 2), .outOfRange),
   (decide (((s.stagingOf (c.u 1 1) (c.u 2 2)).map (·.total)).getD 0 < c.u 4 2 + c.u 6 2), .outOfRange)])

/-- SCREED_LOAD_DATA (R257). -/
def execScreedLoadData (s : State) : Step := .next (screedLoadData.run s)

/-- SCREED_LOAD END (R257, R258). -/
def screedLoadEnd : CmdSpec := loadCommand 2 (fun c s =>
  [((s.stagingOf (c.u 1 1) (c.u 2 2)).isNone, .notReady), (s.destinationHeld (c.u 1 1), .busy)] ++ noWords c)

/-- SCREED_LOAD_END (R257). -/
def execScreedLoadEnd (s : State) : Step := .next (screedLoadEnd.run s)

/-- SCREED_LOAD LOAD (R257, R258). -/
def screedLoadLoad : CmdSpec := loadCommand 3 (fun c s =>
  [((s.libEntry (c.u 2 2)).all (fun e => e.target != c.u 1 1), .notReady), (s.destinationHeld (c.u 1 1), .busy)] ++ noWords c)

/-- SCREED_LOAD_LOAD (R258). -/
def execScreedLoadLoad (s : State) : Step := .next (screedLoadLoad.run s)

/-- SCREED_LOAD DELETE (R257). -/
def screedLoadDelete : CmdSpec := loadCommand 4 (fun c s =>
  [((s.libEntry (c.u 2 2)).isNone, .notReady), (s.entryInUse (c.u 2 2), .busy)] ++ noWords c)

/-- SCREED_LOAD_DELETE (R257). -/
def execScreedLoadDelete (s : State) : Step := .next (screedLoadDelete.run s)

/-- R258: what a library entry's checks come to (R250, R29), before anything of the destination is written. -/
def State.loadCheck (target : Nat) (words : List Nat) (s : State) : Status :=
  if !programOk target words then .badParam
  else if target = 0 && !fitsTick (s.param 0x2000) s.reserve (longestPath words) then .outOfRange
  else .ok

/-- The idle bank takes an entry (R257). -/
def State.fillIdle (b : ScreedBank) (s : State) : State :=
  if s.screed.activeB then { s with screed := { s.screed with bankA := b } } else { s with screed := { s.screed with bankB := b } }

/-- R258: the customer program stops, its words are written, and it restarts at its first word. -/
def State.startCustomer (entry : Nat) (words : List Nat) (s : State) : State :=
  let s := drainRep 1 64 s
  { s with
    screed := { s.screed with
      custBank := { words := words, entry := entry, loaded := true }, cust := { on := true, pc := 0x7400 } }
    nv := { s.nv with config := { s.nv.config with custEntry := entry } } }

/-- R257: the items of a LOAD's completion. -/
def loadItems (bank path n : Nat) : List Item := [{ id := 0x2010, value := le 1 bank ++ le 2 path ++ le 2 n }]

/-- LOAD of a checked entry (R257, R258). -/
def State.loadEntry (target entry : Nat) (words : List Nat) (s : State) : List Item × State :=
  if target = 0 then
    let f := longestPath words
    let bank := if s.screed.activeB then 0 else 1
    (loadItems bank f words.length, s.fillIdle { words := words, entry := entry, loaded := true, path := f })
  else (loadItems 2 0 words.length, s.startCustomer entry words)

/-- The work of END (R257). -/
def State.endStaging (w : LoadWork) (g : Staging) (ok : Bool) (s : State) : Status × List Item × State :=
  let words := (List.range g.total).map (fun k => Table.get 0 k g.words)
  let whole := (List.range g.total).all (fun k => Table.get false k g.written)
  let st := if whole then s.loadCheck g.target words else .badParam
  if st ≠ .ok then (st, [], s)
  else
    let new := le 1 2 ++ le 1 g.target ++ le 2 g.entry
    match s.journalAppend ok 1 w.role w.keyId 0x2010 [] new with
    | (.ok, s) =>
      let lib := (s.nv.library.filter (fun e => e.entry != g.entry)) ++ [{ entry := g.entry, target := g.target, words := words }]
      let s := { s with nv := { s.nv with library := lib }, screed := { s.screed with staging := none } }
      let r := s.loadEntry g.target g.entry words
      (.ok, r)
    | (st, s) => (st, [], s)

/-- What the work of an accepted part comes to (R257). -/
def State.loadWork (w : LoadWork) (ok : Bool) (s : State) : Status × List Item × State :=
  match w.part with
  | 0 =>
    if 1048576 < s.libUsed + 8 * w.words.length then (.nvFull, [], { s with screed := { s.screed with staging := none } })
    else (.ok, [], { s with screed := { s.screed with
      staging := some { target := w.target, entry := w.entry, total := w.words.length } } })
  | 1 =>
    if !ok then (.nvFault, [], s.nvFault)
    else (.ok, [], { s with screed := { s.screed with staging := s.screed.staging.map (fun g => { g with
      words := Table.setList 0 w.offset w.words g.words
      written := Table.setList false w.offset (w.words.map (fun _ => true)) g.written }) } })
  | 2 => match s.stagingOf w.target w.entry with
    | some g => if s.destinationHeld w.target then (.busy, [], s) else s.endStaging w g ok
    | none => (.notReady, [], s)
  | 3 => match s.libEntry w.entry with
    | some e =>
      let st := if s.destinationHeld e.target then .busy else s.loadCheck e.target e.words
      if st ≠ .ok then (st, [], s) else (.ok, s.loadEntry e.target e.entry e.words)
    | none => (.notReady, [], s)
  | _ =>
    if s.entryInUse w.entry then (.busy, [], s)
    else match s.journalAppend ok 1 w.role w.keyId 0x2010 [] (le 1 4 ++ le 1 w.target ++ le 2 w.entry) with
    | (.ok, s) => (.ok, [], { s with nv := { s.nv with library := s.nv.library.filter (fun e => e.entry != w.entry) } })
    | (st, s) => (st, [], s)

/-- SCREED_LOAD_DONE (R257): the oldest accepted part completes. -/
def State.screedLoadDone (ok : Bool) (s : State) : State :=
  match s.screed.loads with
  | [] => s
  | w :: r =>
    let x := { s with screed := { s.screed with loads := r } }.loadWork w ok
    x.2.2.complete 0x2010 w.ticket x.1 x.2.1

/-- SCREED_LOAD_DONE (R257). -/
def execScreedLoadDone (nvOk : Bool) (s : State) : Step := .next (s.screedLoadDone nvOk)

end Sys2Proof.Machine
end

