-- ==== Sys2Proof/Machine/ScreedCmd.lean ====
section
/-! DEFINITION. Screed's commands besides SCREED_LOAD: commits, coefficients, glides, geometry, delay descriptors; the
scrubber and reloads; a change of rate (R217, R218, R224, R260–R278). -/
namespace Sys2Proof.Machine

/-- Index of the tick in progress (R262). -/
def State.currentIndex (s : State) : Nat := if s.screed.ticked then s.screed.index else s.qt * s.fs / qtSec

/-- R262, R269, R295: an index named by a command: 0 stands for the earliest one. -/
def namedIndex (earliest i : Nat) : Nat := if i = 0 then earliest else i

/-- The lanes of the part as a mask. -/
def State.laneMask (s : State) : Nat := 2 ^ s.laneCount - 1

/-! Commits (R262–R267) -/

/-- A pending commit shares a kind with `what`. -/
def ScreedCommit.shares (what : Nat) (c : ScreedCommit) : Bool := Nat.land (Nat.land c.what what) 3 != 0

/-- F of the idle bank breaks R28 at the rate and reservation in force. -/
def State.idleBreaks (s : State) : Bool := !fitsTick (s.param 0x2000) s.reserve s.screed.idle.path

/-- R262: WHAT, which names the kinds (R566 stage 1). -/
def commitNaming (what : Nat) : List (Bool × Status) := [(!onlyBits 0x83 what, .badParam), (Nat.land what 3 == 0, .badParam)]

/-- R262: check 10 of a commit. A cell's commit is kept off by a pending cell commit alone (R267). -/
def State.commitReady (what : Nat) (cell : Bool) (s : State) : List (Bool × Status) :=
  [ (decide (s.plumb.state = 0), .notReady), (bit 1 what && !s.screed.idle.ready, .notReady),
    (s.screed.commits.any (fun p => p.shares what && (!cell || p.cell)), .busy) ]

/-- R262: an index against the tick in progress, and F against what is in force (R566 stage 4). -/
def State.commitAgainst (what index : Nat) (s : State) : List (Bool × Status) :=
  let c := s.currentIndex
  [ (decide (index ≠ 0) && decide (index < c + 2), .tooLate), (decide (c + 3600 * s.fs < index), .outOfRange),
    (bit 1 what && s.idleBreaks, .outOfRange) ]

/-- R262: what refuses a commit, in the stages of R566. -/
def State.commitTests (what index : Nat) (cell : Bool) (s : State) : List (Bool × Status) :=
  commitNaming what ++ s.commitReady what cell ++ s.commitAgainst what index

/-- A commit is scheduled; a cell's withdraws local ones of its kinds (R267). -/
def State.addCommit (what index : Nat) (cell : Bool) (s : State) : State :=
  let i := namedIndex (s.currentIndex + 2) index
  let gone := if cell then s.screed.commits.filter (fun p => p.shares what) else []
  let s := { s with screed := { s.screed with commits := s.screed.commits.filter (fun p => !(cell && p.shares what)) } }
  let s := gone.foldl (fun s p => s.commitDone p 2) s
  { s with screed := { s.screed with commits := s.screed.commits ++ [{ what := Nat.land what 3, index := i, cell := cell }] } }

/-- SCREED_COMMIT and its cancel share an opcode; bit 7 of WHAT tells them apart. -/
def isCancel (l : List Item) : Bool := match l with | i :: _ => bit 7 (fieldAt 0 1 i.value) | [] => false

/-- SCREED_COMMIT (R262). -/
def screedCommit : CmdSpec :=
  { opcode := 0x2011, role := 1, shape := oneItem 0x2011 12, selects := fun l => !isCancel l
    naming := fun _ c => firstFail (commitNaming (c.u 0 1))
    body := fun c s =>
      let what := c.u 0 1
      guarded (s.commitReady what false ++ [(c.u 1 3 != 0, .badParam)] ++ s.commitAgainst what (c.u 4 8)) s
        (reply 0x2011 (le 8 (namedIndex (s.currentIndex + 2) (c.u 4 8))) (s.addCommit what (c.u 4 8) false)) }

/-- SCREED_COMMIT (R262). -/
def execScreedCommit (s : State) : Step := .next (screedCommit.run s)

/-- SCREED_COMMIT with CANCEL (R263): local commits of the named kinds are withdrawn. -/
def screedCommitCancel : CmdSpec :=
  { opcode := 0x2011, role := 1, shape := oneItem 0x2011 12, selects := isCancel
    naming := fun _ c => firstFail (commitNaming (c.u 0 1))
    body := fun c s =>
      let what := c.u 0 1
      let gone := s.screed.commits.filter (fun p => !p.cell && p.shares what)
      guarded [(gone.isEmpty, .notReady), (c.u 1 3 != 0, .badParam),
          (gone.any (fun p => decide (p.index < s.currentIndex + 2)), .tooLate)] s
        (let s := { s with screed := { s.screed with commits := s.screed.commits.filter (fun p => p.cell || !p.shares what) } }
         done (gone.foldl (fun s p => s.commitDone p 1) s)) }

/-- SCREED_COMMIT_CANCEL (R263). -/
def execScreedCommitCancel (s : State) : Step := .next (screedCommitCancel.run s)

/-! Coefficients (R260, R261) -/

/-- The words a COEF_WRITE writes, as (lane × 4096 + w, value). -/
def coefWords (first lanes count : Nat) (values : Bytes) : List (Nat × Nat) :=
  (maskLanes lanes).flatMap (fun l => (List.range count).map (fun k => (l * 4096 + first + k, fieldAt (4 * k) 4 values)))

/-- COEF_WRITE (R260): the pending bank, marked dirty; a copy in progress finishes first (R261). The record holds the item and
then the number of the pending generation (log entry 22). -/
def coefWrite (ok : Bool) : CmdSpec :=
  { opcode := 0x2012, role := 1, journals := true
    shape := fun l => match l with
      | [i] => i.id == 0x2012 && i.value.length == 8 + 4 * fieldAt 4 2 i.value
      | _ => false
    absent := fun s l => match l with | i :: _ => !onlyBits s.laneMask (fieldAt 2 2 i.value) | [] => false
    body := fun c s =>
      guarded [ (s.screed.commits.any (fun p => p.shares 1), .busy), (decide (4095 < c.u 0 2), .outOfRange), (c.u 2 2 == 0, .badParam),
          (!within 1 1000 (c.u 4 2), .outOfRange), (c.u 6 2 != 0, .badParam), (decide (4096 < c.u 0 2 + c.u 4 2), .outOfRange) ] s
        (c.journalValueThen ok 4 (c.value ++ le 4 (s.screed.generation + 1)) s (fun s =>
          let s := s.finishCopy
          let w := coefWords (c.u 0 2) (c.u 2 2) (c.u 4 2) (c.value.drop 8)
          let r : CoefRecord := { generation := s.screed.generation + 1, values := w }
          done { s with
            nv := { s.nv with config := { s.nv.config with coefs := s.nv.config.coefs ++ [r] } }
            screed := { s.screed with
              coefPending := w.foldl (fun t p => Table.set 0 p.1 p.2 t) s.screed.coefPending
              dirty := w.foldl (fun t p => Table.set false p.1 true t) s.screed.dirty } })) }

/-- COEF_WRITE (R260). -/
def execCoefWrite (nvOk : Bool) (s : State) : Step := .next ((coefWrite nvOk).run s)

/-! Glides (R269, R270) -/

/-- FLAGS bit 0 of a glide item: ABORT. -/
def glideAborts (v : Bytes) : Bool := bit 0 (fieldAt 1 1 v)

/-- The unit a glide item names, the lowest free one for 0xFF (R269). -/
def State.glideUnit (v : Bytes) (s : State) : Option Nat :=
  if fieldAt 0 1 v = 0xFF then (List.range 64).find? (fun n => !(s.glide n).on) else some (fieldAt 0 1 v)

/-- R269: UNIT, which names the unit; an ABORT names one by its number. -/
def glideNaming (v : Bytes) : List (Bool × Status) :=
  let n := fieldAt 0 1 v
  [(glideAborts v && n == 0xFF, .badParam), (decide (63 < n) && n != 0xFF, .outOfRange)]

/-- R269: the fields of one item, in the order of its layout (R566 stage 3). -/
def glideFields (v : Bytes) : List (Bool × Status) :=
  [ (!onlyBits 1 (fieldAt 1 1 v), .badParam), (decide (4095 < fieldAt 2 2 v), .outOfRange), (fieldAt 4 2 v == 0, .badParam),
    (fieldAt 6 2 v != 0, .badParam), (fieldAt 12 2 v == 0, .outOfRange), (fieldAt 14 2 v != 0, .badParam) ]

/-- R269: START against the tick in progress (R566 stage 4). -/
def State.glideAgainst (s : State) (v : Bytes) : List (Bool × Status) :=
  let c := s.currentIndex
  let start := fieldAt 16 8 v
  [(decide (start ≠ 0) && decide (start < c + 2), .tooLate), (decide (c + 3600 * s.fs < start), .outOfRange)]

/-- One accepted glide item: the reply item, if it starts a glide, and the state. -/
def State.glideItem (v : Bytes) (s : State) : List Item × State :=
  let n := (s.glideUnit v).getD 0
  if glideAborts v then ([], if (s.glide n).on then s.endGlide n 1 else s)
  else
    let start := namedIndex (s.currentIndex + 2) (fieldAt 16 8 v)
    ([{ id := 0x2013, value := le 1 n ++ le 8 start }],
     s.modGlide n (fun _ => { on := true, w := fieldAt 2 2 v, lanes := fieldAt 4 2 v, target := fieldAt 8 4 v
                              samples := fieldAt 12 2 v, start := start }))

/-- The items of a command in turn, each on the state its forerunners leave: the reply items, and the state. -/
def glideAll : List Item → State → List Item × State
  | [], s => ([], s)
  | i :: r, s =>
    let x := s.glideItem i.value
    let y := glideAll r x.2
    (x.1 ++ y.1, y.2)

/-- R269: an item finds no free unit, or its unit running, on the state its forerunners leave. -/
def glideBusy : List Item → State → Bool
  | [], _ => false
  | i :: r, s =>
    (!glideAborts i.value && (match s.glideUnit i.value with | some k => (s.glide k).on | none => true)) ||
    glideBusy r (s.glideItem i.value).2

/-- GLIDE_START's rows: `aborts` is the row whose items all abort (R269, R270). The items are checked as one command: the
earliest check that any item fails (R88). -/
def glideCommand (aborts : Bool) : CmdSpec :=
  { opcode := 0x2013, role := 1, shape := fun l => someItems 0x2013 24 l && decide (l.length ≤ 64)
    selects := fun l => (!l.isEmpty && l.all (fun i => glideAborts i.value)) == aborts
    absent := fun s l => l.any (fun i => !onlyBits s.laneMask (fieldAt 4 2 i.value))
    naming := fun _ c => failItem glideNaming c.items
    body := fun c s =>
      if glideBusy c.items s then refuse .busy s
      else c.guardItems glideFields s (c.guardItems s.glideAgainst s
        (let x := glideAll c.items s
         { status := .ok, items := x.1, state := x.2 })) }

/-- GLIDE_START (R269). -/
def execGlideStart (s : State) : Step := .next ((glideCommand false).run s)

/-- GLIDE_ABORT (R270). -/
def execGlideAbort (s : State) : Step := .next ((glideCommand true).run s)

/-! Geometry (R272–R276) -/

/-- One item of GEOMETRY_SET as the configuration takes it; disabling a source unbinds its outputs. -/
def Configuration.geometry (v : Bytes) (g : Configuration) : Configuration :=
  let n := fieldAt 1 1 v
  let on := bit 0 (fieldAt 2 1 v)
  if fieldAt 0 1 v = 0 then
    let x : GeoSource := { on := on, pos := { x := signedAt 4 8 v, y := signedAt 12 8 v, z := signedAt 20 8 v }, ref := fieldAt 28 4 v }
    { g with
      geoSources := modAt n (fun _ => x) g.geoSources
      geoOutputs := if on then g.geoOutputs else g.geoOutputs.map (fun o => if o.source = n then { o with on := false } else o) }
  else
    let x : GeoOutput := { on := on, source := fieldAt 3 1 v, desc := fieldAt 4 1 v, tap := fieldAt 5 1 v
                           arm := { x := signedAt 8 4 v, y := signedAt 12 4 v, z := signedAt 16 4 v }, offset := signedAt 20 4 v }
    { g with geoOutputs := modAt n (fun _ => x) g.geoOutputs }

/-- A committed descriptor. -/
def Configuration.descOf (n : Nat) (g : Configuration) : Descriptor := ((g.descs.find? (fun d => d.1 == n)).map (·.2)).getD {}

/-- R276: a lever arm within ±1,000 m. -/
def armLegal (v : Bytes) : Bool := [8, 12, 16].all (fun o => decide ((signedAt o 4 v).natAbs ≤ 1000000))

/-- R276: what refuses one item by its own fields. -/
def geometryTests (v : Bytes) : List (Bool × Status) :=
  if fieldAt 0 1 v = 0 then
    [ (!onlyBits 1 (fieldAt 2 1 v), .badParam), (fieldAt 3 1 v != 0, .badParam),
      (!onEarth { x := signedAt 4 8 v, y := signedAt 12 8 v, z := signedAt 20 8 v }, .outOfRange),
      (decide (4000000000 < fieldAt 28 4 v), .outOfRange) ]
  else
    [ (!onlyBits 3 (fieldAt 2 1 v), .badParam), (decide (15 < fieldAt 3 1 v), .outOfRange),
      (decide (63 < fieldAt 4 1 v), .outOfRange), (decide (3 < fieldAt 5 1 v), .outOfRange), (fieldAt 6 2 v != 0, .badParam),
      (!armLegal v, .outOfRange) ]

/-- R276: a bound output's source and descriptor are enabled, and its tap is one of the descriptor's. -/
def Configuration.bindingOk (g : Configuration) (o : GeoOutput) : Bool :=
  let d := g.descOf o.desc
  !o.on || ((g.geoSources.getD o.source {}).on && d.on && decide (o.tap < d.taps))

/-- R276: no two bound outputs of a lane name one tap. -/
def Configuration.tapsDistinct (g : Configuration) : Bool :=
  let l := (g.geoOutputs.zipIdx).filter (fun p => p.1.on)
  l.all (fun a => l.all (fun b => a.2 == b.2 || a.2 % 16 != b.2 % 16 || a.1.desc != b.1.desc || a.1.tap != b.1.tap))

/-- The geometry state of the outputs whose binding has changed starts afresh; JUMP asks for its ramp (R274). -/
def State.rebind (old : Configuration) (items : List Item) (s : State) : State :=
  let jump := fun (o : Nat) => items.any (fun i => fieldAt 0 1 i.value == 1 && fieldAt 1 1 i.value == o && bit 1 (fieldAt 2 1 i.value))
  let geo := (s.screed.geo.zipIdx).map (fun p =>
    let a := old.geoOutputs.getD p.2 {}
    let b := s.nv.config.geoOutputs.getD p.2 {}
    let g : GeoTap := if b.on && a.on && a.desc == b.desc && a.tap == b.tap then p.1 else {}
    if b.on && jump p.2 then { g with jump := 1 } else g)
  { s with screed := { s.screed with geo := geo } }

/-- R276: the length of an item follows its KIND. -/
def geometryShape (i : Item) : Bool :=
  i.id == 0x2014 && (match fieldAt 0 1 i.value with
    | 0 => i.value.length == 32
    | 1 => i.value.length == 24
    | _ => i.value.length == 32 || i.value.length == 24)

/-- R276: KIND is an encoding, and SOURCE or OUTPUT names an object. -/
def geometryNaming (v : Bytes) : List (Bool × Status) :=
  [(decide (1 < fieldAt 0 1 v), .badParam), (decide ((if fieldAt 0 1 v = 0 then 15 else 63) < fieldAt 1 1 v), .outOfRange)]

/-- GEOMETRY_SET (R276): one record, all or nothing. -/
def geometrySet (ok : Bool) : CmdSpec :=
  { opcode := 0x2014, role := 2, journals := true
    shape := fun l => !l.isEmpty && l.all geometryShape
    absent := fun s l => l.any (fun i => fieldAt 0 1 i.value == 1 && decide (fieldAt 1 1 i.value ≤ 63) && decide (s.laneCount ≤ fieldAt 1 1 i.value % 16))
    naming := fun _ c => failItem geometryNaming c.items
    body := fun c s =>
      let g := c.items.foldl (fun g i => g.geometry i.value) s.nv.config
      c.guardItems geometryTests s
        (guarded [(!g.geoOutputs.all (fun o => g.bindingOk o), .badParam), (!g.tapsDistinct, .badParam)] s
          (c.journalThen ok 2 s (fun s =>
            let old := s.nv.config
            done (({ s with nv := { s.nv with config := g } }).rebind old c.items)))) }

/-- GEOMETRY_SET (R276). -/
def execGeometrySet (nvOk : Bool) (s : State) : Step := .next ((geometrySet nvOk).run s)

/-- Bits of the fixed-point scale of the geometry. -/
def geoBits : Nat := 40

/-- WGS 84's first eccentricity squared as a fraction: f = 1 / 298.257223563 (R272). -/
def e2Num : Int := 1000000000 * (2 * 298257223563 - 1000000000)
/-- Its denominator. -/
def e2Den : Int := 298257223563 * 298257223563

/-- The geodetic normal's height term A, with tan φ = A / ρ, iterated (R272; log entry 24); lengths in 0.1 mm × 2⁴⁰. -/
def geodetic : Nat → Int → Int → Int → Int
  | 0, _, _, a => a
  | n + 1, z, rho, a =>
    let d := isqrtInt (a * a - a * a * e2Num / e2Den + rho * rho)
    geodetic n z rho (if d = 0 then z else z + e2Num * 63781370000 * ((2 ^ geoBits : Nat) : Int) / e2Den * a / d)

/-- R272: |S − L| in 0.1 mm × 2⁴⁰, from the position P, the arm (E, N, U) in mm and the source. -/
def leverDistance (p arm src : Vec3) : Int :=
  let k : Int := ((2 ^ geoBits : Nat) : Int)
  let x := p.x * k
  let y := p.y * k
  let z := p.z * k
  let rho := isqrtInt (x * x + y * y)
  let a := geodetic 12 z rho z
  let h := isqrtInt (a * a + rho * rho)
  let sl := if rho = 0 then 0 else y * k / rho
  let cl := if rho = 0 then k else x * k / rho
  let sf := if h = 0 then 0 else a * k / h
  let cf := if h = 0 then k else rho * k / h
  let e := arm.x * 10
  let n := arm.y * 10
  let u := arm.z * 10
  let dx := -sl * e + (-(sf * cl) * n + cf * cl * u) / k
  let dy := cl * e + (-(sf * sl) * n + cf * sl * u) / k
  let dz := cf * n + sf * u
  let qx := src.x * k - (x + dx)
  let qy := src.y * k - (y + dy)
  let qz := src.z * k - (z + dz)
  isqrtInt (qx * qx + qy * qy + qz * qz)

/-- R272: the target D of an output, in 1/1,024 sample, rounded half up; `t` is the temperature in 0.01 °C. -/
def geoTarget (fs : Nat) (t : Int) (p : Vec3) (o : GeoOutput) (src : GeoSource) : Int :=
  let k : Int := ((2 ^ geoBits : Nat) : Int)
  let d := leverDistance p o.arm src.pos - src.ref * 10 * k
  let c := (33130000 + 606 * t) * k
  (2 * d * 10 * fs * 1024 + c) / (2 * c) + o.offset

/-- R274: the position is usable for the geometry. -/
def State.geoPosition (s : State) : Option Vec3 :=
  if s.plumb.state = 0 ∨ s.param 0x2006 < s.plumb.sigma then none else s.plumb.position

/-- The temperature in use (R274, R275). -/
def State.airTempNow (s : State) : Int := s.screed.airNow.getD (signed 16 (s.param 0x2004))

/-- R272, R273: the solver writes the target of every bound output; without a usable position the targets hold. -/
def State.geometryTargets (s : State) : State :=
  match s.geoPosition with
  | none => { s with screed := { s.screed with posValid := false } }
  | some p =>
    let geo := (s.screed.geo.zipIdx).map (fun g =>
      let o := s.nv.config.geoOutputs.getD g.2 {}
      if o.on then { g.1 with next := some (geoTarget s.fs s.airTempNow p o (s.nv.config.geoSources.getD o.source {}), 1) } else g.1)
    { s with screed := { s.screed with posValid := true, geo := geo } }

/-- R275: the last temperature of the source in force. -/
def State.airTempOf (s : State) : Option (Int × Nat) := (s.screed.airTemp.find? (fun x => x.1 == s.param 0x2003)).map (·.2)

/-- A temperature of a source is received (R275). -/
def State.airTempFrom (source : Nat) (v : Int) (s : State) : State :=
  { s with screed := { s.screed with airTemp := Table.insert source (v, s.up) s.screed.airTemp } }

/-- A temperature older than AIR_TEMP_TIMEOUT (R275). -/
def State.airTempOld (s : State) : Bool :=
  match s.airTempOf with | some (_, t) => decide (t + s.param 0x2005 * qtSec < s.up) | none => true

/-- At an MT POS_VALID is judged, the last temperature of AIR_TEMP_SOURCE comes into use, or the default, and a JUMP asked for begins (R274,
R275). -/
def State.geometryMt (s : State) : State :=
  let old := s.airTempOld
  { s with screed := { s.screed with
    posValid := s.geoPosition.isSome
    airNow := if old then none else s.airTempOf.map (·.1), staleTemp := old
    geo := s.screed.geo.map (fun g => if g.jump = 1 then { g with jump := 2 } else g) } }

/-- AIR_TEMP_SET (R275). -/
def airTempSet : CmdSpec :=
  { opcode := 0x2015, role := 1, shape := oneItem 0x2015 2
    body := fun c s =>
      guarded [(!(decide (-5000 ≤ c.i 0 2) && decide (c.i 0 2 ≤ 6000)), .outOfRange)] s
        (done (s.airTempFrom 0 (c.i 0 2))) }

/-- AIR_TEMP_SET (R275). -/
def execAirTempSet (s : State) : Step := .next (airTempSet.run s)

/-- The value of an ASCII digit. -/
def digitOf (b : Byte) : Option Nat := if within 0x30 0x39 b.toNat then some (b.toNat - 0x30) else none

/-- R275: the number of a sensor line: T, a sign, one or two digits, a point, two digits, CR, LF; in 0.01 °C. -/
def parseTemp (l : Bytes) : Option Int :=
  let num := fun (sign : Byte) (t : Nat) (a b : Byte) =>
    match digitOf a, digitOf b with
    | some x, some y =>
      let v : Int := ((100 * t + 10 * x + y : Nat) : Int)
      if sign = 0x2B then some v else if sign = 0x2D then some (-v) else none
    | _, _ => none
  match l with
  | [0x54, sg, d, 0x2E, a, b, 0x0D, 0x0A] => (digitOf d).bind (fun t => num sg t a b)
  | [0x54, sg, d, e, 0x2E, a, b, 0x0D, 0x0A] => (digitOf d).bind (fun t => (digitOf e).bind (fun u => num sg (10 * t + u) a b))
  | _ => none

/-- AIR_TEMP_LINE (R275): a line from the sensor UART, of the source in force or of the one that waits for its MT. -/
def State.airTempLine (uart : Nat) (line : Bytes) (s : State) : State :=
  if s.param 0x2003 ≠ uart + 1 ∧ s.committed 0x2003 ≠ uart + 1 then s
  else match parseTemp line with
  | some v => s.airTempFrom (uart + 1) v
  | none => s.bump 0x20 42

/-- AIR_TEMP_LINE (R275). -/
def execAirTempLine (uart : Fin 4) (line : Bytes) (s : State) : Step := .next (s.airTempLine uart.val line)

/-- AIR_TEMP_STALE (R275): the default takes the place of a temperature that is too old. -/
def State.airTempStale (s : State) : State :=
  if s.airTempOld then { s with screed := { s.screed with airNow := none, staleTemp := true } } else s

/-- AIR_TEMP_STALE (R275). -/
def execAirTempStale (s : State) : Step := .next s.airTempStale

/-- R277: GEO_STATUS. -/
def State.geoStatus (s : State) : Nat :=
  let bound := (s.nv.config.geoOutputs.filter (·.on)).length
  let slewing := ((s.screed.geo.zipIdx).filter (fun g => (s.nv.config.geoOutputs.getD g.2 {}).on && g.1.target.isSome && g.1.current != g.1.target)).length
  bound * 2 ^ 24 + slewing * 2 ^ 16 + 2 * b01 s.screed.staleTemp + b01 s.screed.posValid

/-! Delay descriptors (R218, R221) -/

/-- R221: STREAM_BYTES per tick. -/
def streamBytes (code : Nat) : Nat := [145124, 133333, 72562, 66666, 36281, 33333].getD code 33333

/-- R221: what one descriptor costs the streamer. -/
def Descriptor.cost (x : Descriptor) : Nat :=
  if x.on && x.inDram then 64 + ((List.range x.taps).map (fun t => if x.frac t then 3072 else 2048)).foldl (· + ·) 0 else 0

/-- Two lines share words. -/
def Descriptor.overlaps (x y : Descriptor) : Bool :=
  x.inDram == y.inDram && decide (x.base < y.base + y.length) && decide (y.base < x.base + x.length)

/-- The descriptor of a DELAY_DESC_SET item. -/
def descOfItem (v : Bytes) : Descriptor :=
  { flags := fieldAt 1 1 v, taps := fieldAt 2 1 v, base := fieldAt 4 4 v, length := fieldAt 8 4 v
    delays := (List.range 4).map (fun t => fieldAt (12 + 4 * t) 4 v) }

/-- R218: what refuses a descriptor. -/
def State.descTests (n : Nat) (v : Bytes) (s : State) : List (Bool × Status) :=
  let x := descOfItem v
  let others := s.nv.config.descs.filter (fun d => d.1 != n && d.2.on)
  [ (!onlyBits 0x3F x.flags, .badParam), (!within 1 4 x.taps, .outOfRange), (fieldAt 3 1 v != 0, .badParam),
    (decide ((if x.inDram then 4194303 else 24575) < x.base), .outOfRange),
    ((List.range x.taps).any (fun t => x.frac t) && decide (x.length < 36), .badParam),
    (!(if x.inDram then within 64 4194304 x.length else within 2 24576 x.length), .outOfRange),
    (decide ((if x.inDram then 4194304 else 24576) < x.base + x.length), .outOfRange),
    (others.any (fun d => x.overlaps d.2), .badParam),
    (x.on && decide (streamBytes (s.param 0x2000) < x.cost + others.foldl (fun k d => k + d.2.cost) 0), .outOfRange) ]

/-- R276: the outputs bound to a descriptor that changes are unbound. -/
def Configuration.unbindDesc (n : Nat) (g : Configuration) : Configuration :=
  { g with geoOutputs := g.geoOutputs.map (fun o => if o.desc = n then { o with on := false } else o) }

/-- DELAY_DESC_SET (R218): the descriptor waits for the next sample tick. -/
def delayDescSet (ok : Bool) : CmdSpec :=
  { opcode := 0x2110, role := 2, shape := oneItem 0x2110 28, journals := true
    naming := fun _ c => if 63 < c.u 0 1 then some .outOfRange else none
    body := fun c s =>
      let n := c.u 0 1
      guarded (s.descTests n c.value) s (c.journalThen ok 1 s (fun s =>
        let x := descOfItem c.value
        let g := if s.nv.config.descOf n = x then s.nv.config else s.nv.config.unbindDesc n
        let g := { g with descs := (g.descs.filter (fun d => d.1 != n)) ++ [(n, x)] }
        let old := s.nv.config
        let s := ({ s with nv := { s.nv with config := g } }).rebind old []
        done { s with screed := { s.screed with descNext := s.screed.descNext ++ [(n, x)] } })) }

/-- DELAY_DESC_SET (R218). -/
def execDelayDescSet (nvOk : Bool) (s : State) : Step := .next ((delayDescSet nvOk).run s)

/-! SECDED (R217) -/

/-- The foreground is halted from the next tick: every output is muted (R217). -/
def State.haltForeground (s : State) : State :=
  ({ s with screed := { s.screed with halted := true, reloads := s.screed.activeB :: s.screed.reloads } }).muteLanes s.laneMask

/-- Word `k` of a list becomes 0. -/
def zeroWord (k : Nat) (l : List Nat) : List Nat := modAt k (fun _ => 0) l

/-- An uncorrectable word of a foreground bank (R217). -/
def State.badFgWord (inB : Bool) (k : Nat) (s : State) : State :=
  let z := fun (b : ScreedBank) => { b with words := zeroWord k b.words }
  let s := if inB then { s with screed := { s.screed with bankB := z s.screed.bankB } }
    else { s with screed := { s.screed with bankA := z s.screed.bankA } }
  if s.screed.activeB = inB then s.haltForeground
  else if inB then { s with screed := { s.screed with bankB := { s.screed.bankB with invalid := true } } }
  else { s with screed := { s.screed with bankA := { s.screed.bankA with invalid := true } } }

/-- The word is rewritten as 0, and what follows by its place (R217). -/
def State.uncorrectable (w : ScrubWord) (s : State) : State :=
  match w with
  | .data l a =>
    let s := s.setData l.val a.toNat 0
    if within 0x6E00 0x7DFF a.toNat then s.solverReinit else s.muteLanes (2 ^ l.val)
  | .coefficient pending l k =>
    let i := l.val * 4096 + k.toNat
    let s := if pending then { s with screed := { s.screed with coefPending := Table.set 0 i 0 s.screed.coefPending } }
      else { s with screed := { s.screed with coefActive := Table.set 0 i 0 s.screed.coefActive } }
    s.muteLanes (2 ^ l.val)
  | .program a =>
    let k := a.toNat
    if k < 0x3000 then s.badFgWord false k
    else if k < 0x6000 then s.badFgWord true (k - 0x3000)
    else if k < 0x7400 then
      { s with screed := { s.screed with
        solverWords := zeroWord (k - 0x6000) s.screed.solverWords, bgReload := 3
        solver := { s.screed.solver with on := false }, cust := { s.screed.cust with on := false } } }
    else
      let b := { s.screed.custBank with words := zeroWord (k - 0x7400) s.screed.custBank.words }
      { s with screed := { s.screed with
        custBank := b, bgReload := 3, solver := { s.screed.solver with on := false }, cust := { s.screed.cust with on := false } } }

/-- CODE, lane and address of a scrubbed word (R225). -/
def scrubPlace : ScrubWord → Nat × Nat × Nat
  | .data l a => (0, l.val, a.toNat)
  | .coefficient _ l k => (1, l.val, l.val * 4096 + k.toNat)
  | .program a => (2, 0, a.toNat)

/-- SCRUB (R217): the word read holds a single-bit error, or an uncorrectable one. -/
def State.scrub (w : ScrubWord) (bad : Bool) (s : State) : State :=
  let p := scrubPlace w
  if !s.power.mode.serves ∨ s.laneCount ≤ p.2.1 then s
  else
    (if bad then s.uncorrectable w else s).secded bad p.1 p.2.1 p.2.2

/-- SCRUB (R217). -/
def execScrub (word : ScrubWord) (uncorrectable : Bool) (s : State) : Step := .next (s.scrub word uncorrectable)

/-- The solver words of the running Trowel-S image (R213, R492). -/
def State.solverImage (s : State) : List Nat :=
  let b := (s.nv.images.getD (2 + s.steward.runningS) {}).bytes
  let code := ofLE (Table.getList 0 16 4 b)
  let n := ofLE (Table.getList 0 20 4 b)
  (List.range (min n 5120)).map (fun k => ofLE (Table.getList 0 (32 + code + 8 * k) 8 b))

/-- The words of a library entry, none if it is gone. -/
def State.libWords (n : Nat) (s : State) : List Nat := ((s.libEntry n).map (·.words)).getD []

/-- Load the solver and set it going (R14, R213, R228). -/
def State.startSolver (s : State) : State :=
  { s with screed := { s.screed with solverWords := s.solverImage, solver := { on := true, pc := 0x6000 } } }

/-- R217: a bank that was halted comes back from the library, wherever a swap has put it since. -/
def State.reloadBank (s : State) (inB : Bool) : State :=
  let f := fun (b : ScreedBank) => { b with words := s.libWords b.entry, invalid := false }
  { s with screed := { s.screed with
      halted := s.screed.halted && s.screed.activeB != inB
      bankA := if inB then s.screed.bankA else f s.screed.bankA, bankB := if inB then f s.screed.bankB else s.screed.bankB } }

/-- BANK_RELOAD (R217): the halted banks and the background words come back from the library and the image. -/
def State.bankReload (s : State) : State :=
  let l := s.screed.reloads
  let s := l.foldl State.reloadBank { s with screed := { s.screed with reloads := [] } }
  if s.screed.bgReload = 0 then s
  else
    let s := (s.startSolver).solverReinit
    let e := s.screed.custBank.entry
    let b := { s.screed.custBank with words := s.libWords e }
    { s with screed := { s.screed with bgReload := 0, custBank := b, cust := { on := b.loaded, pc := 0x7400 } } }

/-- BANK_RELOAD (R217). -/
def execBankReload (s : State) : Step := .next s.bankReload

/-! Withdrawal (R224, R266, R270) -/

/-- Every pending commit is withdrawn with a result. -/
def State.withdrawCommits (result : Nat) (s : State) : State :=
  let l := s.screed.commits
  l.foldl (fun s c => s.commitDone c result) { s with screed := { s.screed with commits := [] } }

/-- Every glide ends with a reason. -/
def State.endGlides (reason : Nat) (s : State) : State :=
  (List.range 64).foldl (fun s n => if (s.glide n).on then s.endGlide n reason else s) s

/-- A new rate has come into force at a boundary (R224, R266, R270, R450): commits and glides end, every line empties,
BG_RESERVE, also a value that waits, is raised to its new minimum, and the next tick carries index `first`. -/
def State.rateChanged (first : Nat) (s : State) : State :=
  let s := (s.withdrawCommits 3).endGlides 4
  let s := (s.nv.config.descs.map (·.1)).foldl (fun s d => s.emptyLine d) s
  let least := if s.plumb.state = 7 then 0 else minReserve (s.param 0x2000)
  let lift := fun (t : Table Nat) =>
    if Table.get (paramDefault 0x2001) 0x2001 t < least then Table.set (paramDefault 0x2001) 0x2001 least t else t
  let s := { s with
    inForce := lift s.inForce, nv := { s.nv with params := lift s.nv.params }
    waiting := s.waiting.map (fun (w : Nat × Nat × Nat) => if w.1 = 0x2001 then (w.1, max least w.2.1, w.2.2) else w) }
  let s := { s with screed := { s.screed with forced := some first, repeats := 0 }, audio := { s.audio with outValid := false } }
  s.mapOuts (fun o => if o.on then s.startOut first 10 o else o)

end Sys2Proof.Machine
end

