-- ==== Sys2Proof/Machine/Uart.lean ====
section
/-! DEFINITION. The four UARTs: frames, FIFOs, flags, block logic, flow control and breaks. -/
namespace Sys2Proof.Machine

/-- UART `n`. -/
def State.uart (n : Nat) (s : State) : Uart := s.uarts.getD n {}

/-- Replace UART `n` by a function of it. -/
def State.modUart (n : Nat) (f : Uart → Uart) (s : State) : State := { s with uarts := modAt n f s.uarts }

/-- Parameter `k` of UART `n` (R438): its default until the journal has been re-applied (R440). -/
def State.uartParam (n k : Nat) (s : State) : Nat :=
  let id := 0x4000 + 0x100 * n + k
  if s.rst.configured then s.param id else paramDefault id

/-- R58, R440: UARTs the package bonds. -/
def State.uartBonded (n : Nat) (s : State) : Bool := decide (s.part.package = .g) || n == 0 || n == 3

/-- R393: LINK in force; a radio-N part is always wired. -/
def State.wiredLink (c : CellCfg) (s : State) : Bool := c.link == 1 || !s.part.radio

/-- R393: UART `n` is dedicated to a wired cell. -/
def State.uartDedicated (n : Nat) (s : State) : Bool := s.wiredLink s.cell.cfg && s.cell.cfg.uart == n

/-! Fields of UART_CFG (R438) -/

/-- RX_EN -/
def cfgRxEn (v : Nat) : Bool := bit 7 v
/-- TX_EN -/
def cfgTxEn (v : Nat) : Bool := bit 8 v
/-- PARITY -/
def cfgParity (v : Nat) : Nat := bits 11 10 v
/-- number of data bits -/
def cfgDataBits (v : Nat) : Nat := 7 + bits 13 12 v
/-- MARK -/
def cfgMark (v : Nat) : Nat := bits 15 14 v
/-- ADDR_MATCH -/
def cfgAddrMatch (v : Nat) : Bool := bit 16 v
/-- QDIR -/
def cfgQdir (v : Nat) : Nat := bits 17 17 v
/-- RX_SERVE -/
def cfgRxServe (v : Nat) : Nat := bits 19 18 v
/-- TX_SERVE -/
def cfgTxServe (v : Nat) : Nat := bits 21 20 v

/-- R431–R433, R436: combinations of fields that UART_CFG refuses with BAD_PARAM. -/
def uartCfgConflict (v : Nat) : Bool :=
  (cfgMark v == 1 && bits 13 12 v != 2) || (cfgAddrMatch v && cfgMark v != 1) ||
  (cfgRxServe v == 1 && cfgQdir v == 1) || (cfgTxServe v == 1 && cfgQdir v == 0)

/-! Receiving -/

/-- R439: UART_EVENTn. -/
def State.uartEvent (n code ch : Nat) (s : State) : State :=
  s.occur (104 + n) code (le 2 ch ++ le 1 (s.uart n).rx.length)

/-- A flag of USTAT rises: from now on it belongs to what follows a status read made before (R430). -/
def Uart.raise (f : Nat) (u : Uart) : Uart :=
  { u with flags := Nat.lor u.flags f, seen := u.seen.map (fun x => Nat.xor x (Nat.land x f)) }

/-- R434: RTS_N after a change of RX_COUNT; UART_FLOW takes effect at the next character stored (R438). Between frames the receive line
stands at a character boundary, and a frame under way shows only as it ends: UART_CFG acts on RTS_N at its commit (log entry 141). -/
def State.updateRts (n : Nat) (s : State) : State :=
  let flow := (s.uart n).flow
  let cfg := s.uartParam n 0
  let c := (s.uart n).rx.length
  s.modUart n (fun u => { u with
    rtsHigh := if bit 22 cfg then
        (if bits 7 0 flow ≤ c then true else if c ≤ bits 15 8 flow then false else u.rtsHigh)
      else !cfgRxEn cfg })

/-- R433: bytes of one character in a queue entry. -/
def charBytes (cfg : Nat) : Nat := if cfgDataBits cfg = 9 then 2 else 1

/-- R433: characters a receive entry holds at most. -/
def blockChars (cfg block : Nat) : Nat :=
  if cfgDataBits cfg = 9 then min (bits 7 0 block) 128 else bits 7 0 block

/-- BLOCK_COMMIT (R433): the producer cell becomes an entry. -/
def State.blockCommit (n : Nat) (s : State) : State :=
  let cell := (s.queue (24 + n)).cell
  if cell.isEmpty then s
  else
    let s := (s.modQueue (24 + n) (fun q => { q with cell := [] })).bump (0x40 + n) 10
    s.offer (24 + n) { data := cell }

/-- R433: the block logic serves the receive direction. -/
def blockReceives (cfg : Nat) : Bool := cfgRxServe cfg == 1 && cfgQdir cfg == 0

/-- R438: UART_BLOCK takes effect at the next entry. -/
def State.latchBlock (n : Nat) (s : State) : State :=
  if (s.queue (24 + n)).cell.isEmpty then s.modUart n (fun u => { u with block := s.uartParam n 5 }) else s

/-- R433: the block logic appends a character to the producer cell. -/
def State.blockStore (n ch : Nat) (s : State) : State :=
  let cfg := (s.uart n).rxCfg
  let s := if cfgMark cfg = 1 ∧ bit 8 ch then s.blockCommit n else s
  let s := s.latchBlock n
  let s := s.modQueue (24 + n) (fun q => { q with cell := q.cell ++ le (charBytes cfg) (ch % 512) })
  if blockChars cfg (s.uart n).block * charBytes cfg ≤ (s.queue (24 + n)).cell.length then s.blockCommit n else s

/-- R433: the block logic takes what the receive FIFO holds. -/
def State.blockDrain (n : Nat) (s : State) : State :=
  (s.uart n).rx.foldl (fun s c => s.blockStore n c) (s.modUart n (fun u => { u with rx := [] }))

/-- R429, R439: a character with its flags is stored, or lost to a full FIFO. `errs` is BI, FE, PE at
USTAT [4:2]; `code` is the event's bitmap for them. -/
def State.storeChar (n ch errs code : Nat) (s : State) : State :=
  let serves := blockReceives (s.uart n).rxCfg
  let s := if serves then s.blockDrain n else s
  let u := s.uart n
  if 64 ≤ u.rx.length then
    let s := (s.modUart n (Uart.raise 2)).bump (0x40 + n) 4
    s.uartEvent n (Nat.lor code 1) ch
  else
    let s := (s.modUart n (fun u => { u.raise errs with rx := u.rx ++ [ch], flow := s.uartParam n 3 })).bump (0x40 + n) 0
    let s := if serves then s.blockDrain n else s
    let s := s.updateRts n
    if code = 0 then s else s.uartEvent n code ch

/-- R431: what ninth-bit address matching does with a character: kept, and whether muted afterwards. -/
def addressFilter (cfg addr ch : Nat) (muted : Bool) : Bool × Bool :=
  if cfgMark cfg = 1 ∧ cfgAddrMatch cfg then
    if bit 8 ch then
      let hit := decide (ch % 256 = bits 7 0 addr) || decide (ch % 256 = bits 15 8 addr)
      (hit, !hit)
    else (!muted, muted)
  else (true, muted)

/-- R423: parity over the data bits is wrong. -/
def parityWrong (mode data parity : Nat) : Bool :=
  match mode with
  | 1 => (ones 9 data + parity) % 2 == 1
  | 2 => (ones 9 data + parity) % 2 == 0
  | _ => false

/-- R425, R438: the receiver takes, for the frame whose start edge came at `t`, what was committed up to then. -/
def Uart.latch (t : Nat) (u : Uart) : Uart :=
  let old := u.versions.filter (fun (v : Nat × Nat × Nat) => decide (v.1 ≤ t))
  let new := (old.getLast?.map (·.2)).getD (u.rxCfg, u.rxDiv)
  { u with rxCfg := new.1, rxDiv := new.2, versions := u.versions.filter (fun (v : Nat × Nat × Nat) => decide (t < v.1)) }

/-- R425: the receiver's format for a frame. -/
def State.latchRx (n t : Nat) (s : State) : State := s.modUart n (Uart.latch t)

/-! The sampler (R424, R426, R436) -/

/-- What the sampler finds: a start it rejects, or the data and parity samples, first bit lowest, and the stop sample. -/
inductive UartFrame where
  | noise
  | frame (raw : Nat) (stop : Bool)
deriving DecidableEq, Repr

/-- R424: the fabric clock of sample `k`, the nearest to `k` sixteenths of a bit. -/
def sampleClock (div k : Nat) : Nat := (k * div + 8) / 16

/-- R436: the fabric clocks in which pulses of at least 200 ns begin, from clock `i` on. -/
def pulseStarts : Nat → Bool → List Bool → List Nat
  | _, _, [] => []
  | i, before, x :: r =>
    let n := ((x :: r).takeWhile (fun y => y)).length
    (if !before && decide (40 ≤ n) then [i] else []) ++ pulseStarts (i + 1) x r

/-- R436: the bit cell in which a SIR pulse begins is 0; a pulse is low with IRDA_RX_INV. -/
def sirLevels (cfg div : Nat) (levels : List Bool) : Nat → Bool :=
  let cells := (pulseStarts 0 false (levels.map (fun x => x != bit 26 cfg))).map (· / div)
  fun k => !cells.contains (k / 16)

/-- The level at sample `k` as the receiver takes it. -/
def sampleOf (cfg div : Nat) (levels : List Bool) : Nat → Bool :=
  if bit 27 cfg then sirLevels cfg div levels else fun k => levels.getD (sampleClock div k) true

/-- R423: data and parity bits of a frame. -/
def frameBits (cfg : Nat) : Nat := cfgDataBits cfg + b01 (decide (cfgParity cfg ≠ 0))

/-- R426, R428: the start is confirmed at sample 8, bit `k` is sample 8 + 16 k, and so is the first stop bit. -/
def uartFrame (cfg div : Nat) (levels : List Bool) : UartFrame :=
  let f := sampleOf cfg div levels
  if f 8 then .noise
  else .frame (((List.range (frameBits cfg)).map (fun k => b01 (f (24 + 16 * k)) * 2 ^ k)).sum) (f (24 + 16 * frameBits cfg))

/-- R423, R431: the bits of a character on the line, in the order sent: start, data, parity, stop. -/
def sentBits (cfg ch : Nat) : List Bool :=
  let db := cfgDataBits cfg
  let odd := ones db ch % 2 == 1
  [false] ++ (List.range db).map (fun k => bit k ch) ++
  (match cfgParity cfg with | 1 => [odd] | 2 => [!odd] | _ => []) ++
  List.replicate (if bit 9 cfg then 2 else 1) true

/-- R428, R431, R439: a frame ends at its stop sample. -/
def State.frameEnd (n raw : Nat) (stop : Bool) (s : State) : State :=
  let cfg := (s.uart n).rxCfg
  let db := cfgDataBits cfg
  let data := raw % 2 ^ db
  let par := if cfgParity cfg = 0 then 0 else raw / 2 ^ db % 2
  let isBreak := decide (data = 0) && decide (par = 0) && !stop
  let fe := !stop
  let pe := !isBreak && parityWrong (cfgParity cfg) data par
  let s := s.modUart n (fun u => { u with idleDone := false })
  let f := addressFilter cfg (s.uartParam n 2) data (s.uart n).muted
  let s := s.modUart n (fun u => { u with muted := f.2 })
  if !f.1 then
    if bit 8 data ∧ cfgMark cfg = 1 then
      let s := s.bump (0x40 + n) 7
      if fe || pe then s.bump (0x40 + n) 8 else s
    else if fe || pe then s.bump (0x40 + n) 8 else s
  else
    let s := if isBreak then s.bump (0x40 + n) 5 else if fe then s.bump (0x40 + n) 2 else s
    let s := if pe then s.bump (0x40 + n) 3 else s
    let matched := cfgMark cfg == 1 && cfgAddrMatch cfg && bit 8 data
    let ch := data + 512 * b01 pe + 1024 * b01 fe + 2048 * b01 isBreak
    let errs := 4 * b01 pe + 8 * b01 fe + 16 * b01 isBreak
    s.storeChar n ch errs (2 * b01 pe + 4 * b01 fe + 8 * b01 isBreak + 16 * b01 matched)

/-- One fabric clock of 5 ns, in QT units. -/
def qtClock : Nat := 5 * 65536

/-- R435: DE is high: during a run, and DE_LAG sample periods after it. -/
def State.deHigh (n : Nat) (s : State) : Bool := (s.uart n).de || (s.uart n).deFall.any (fun f => decide (s.up < f))

/-- R435, R436: RXD is ignored in a part of the frame that began at `t`: the port transmits, or did so after `t`, up to one bit time after DE
falls. -/
def Uart.echo (t : Nat) (u : Uart) : Bool :=
  bit 25 u.rxCfg &&
    (u.de || u.deFall.any (fun f => decide (t < f + u.txDiv * qtClock)) ||
     (bit 27 u.rxCfg && (u.shifter.isSome || u.brk == 2 || u.sentAt.any (fun e => decide (t < e)))))

/-- R435: the port's own transmission is not received. -/
def State.echoMuted (n t : Nat) (s : State) : Bool := (s.uart n).echo t

/-- The UART runs: bonded, in a mode that runs it, and not dedicated to a wired cell (R393, R440). -/
def State.uartRuns (n : Nat) (s : State) : Bool := s.uartBonded n && s.power.mode.serves && !s.uartDedicated n

/-- CHARACTER_RECEIVED (R426, R428). -/
def State.characterReceived (n : Nat) (x : UartLine) (s : State) : State :=
  if !s.uartRuns n then s
  else
    let s := s.latchRx n x.began
    let u := s.uart n
    if cfgRxEn u.rxCfg && !s.echoMuted n x.began then
      match uartFrame u.rxCfg u.rxDiv x.levels with
      | .noise => s.bump (0x40 + n) 6
      | .frame raw stop => s.frameEnd n raw stop
    else s

/-- CHARACTER_RECEIVED (R426, R428). -/
def execCharacterReceived (uart : Fin 4) (line : UartLine) (s : State) : Step :=
  .next (s.characterReceived uart.val line)

/-- IDLE_LINE (R432, R433): once per idle period. -/
def State.idleLine (n : Nat) (s : State) : State :=
  let cfg := s.uartParam n 0
  if !s.uartRuns n ∨ (s.uart n).idleDone ∨ cfgMark cfg ≠ 2 ∨ !cfgRxEn cfg then s
  else
    let s := (s.modUart n (fun u => { u.raise 32 with idleDone := true })).bump (0x40 + n) 9
    if blockReceives cfg then s.blockCommit n else s

/-- IDLE_LINE (R432). -/
def execIdleLine (uart : Fin 4) (s : State) : Step := .next (s.idleLine uart.val)

/-- BLOCK_FLUSH_IDLE (R433). -/
def State.blockFlushIdle (n : Nat) (s : State) : State :=
  if s.uartRuns n && blockReceives (s.uartParam n 0) && decide (bits 15 8 (s.uart n).block ≠ 0) then s.blockCommit n else s

/-- BLOCK_FLUSH_IDLE (R433). -/
def execBlockFlushIdle (uart : Fin 4) (s : State) : Step := .next (s.blockFlushIdle uart.val)

/-! Transmitting (R425, R434, R435) -/

/-- `k` sample periods of a rate, in QT units (R424). -/
def samplesQt (div k : Nat) : Nat := k * div * (qtClock / 16)

/-- R435, R438: a start edge on the line: a new run latches UART_DE, and DE leads its first start edge by DE_LEAD. -/
def State.startEdge (n cfg div : Nat) (s : State) : State :=
  let de := s.uartParam n 4
  s.modUart n (fun u =>
    if u.de then { u with edgeAt := s.up, de := bit 24 cfg }
    else { u with
      de := bit 24 cfg, deLag := samplesQt div (bits 15 8 de)
      edgeAt := s.up + if bit 24 cfg then samplesQt div (bits 7 0 de) else 0 })

/-- R435: a run ends: DE falls DE_LAG sample periods later. -/
def State.endRun (n : Nat) (s : State) : State :=
  s.modUart n (fun u => { u with de := false, deFall := if u.de then some (s.up + u.deLag) else u.deFall })

/-- CHARACTER_TRANSMIT (R434): the character in the shifter ends, and at the start-bit decision the
next one begins if the FIFO has one, CTS permits it and no break is due. -/
def State.characterTransmit (n : Nat) (cts : Bool) (s : State) : State :=
  if !s.uartRuns n ∨ (s.uart n).brk = 2 then s
  else
    let cfg := s.uartParam n 0
    let s := s.modUart n (fun u => { u with
      ctsHigh := cts, shifter := none, txMode := cfg, sentAt := if u.shifter.isSome then some s.up else u.sentAt })
    match (s.uart n).tx with
    | ch :: r =>
      if cfgTxEn cfg ∧ (s.uart n).brk = 0 ∧ !(bit 23 cfg && cts) then
        ((s.startEdge n cfg (s.uartParam n 1)).modUart n (fun u => { u with
          tx := r, shifter := some ch, txCfg := cfg, txDiv := s.uartParam n 1 })).bump (0x40 + n) 1
      else s.endRun n
    | [] => s.endRun n

/-- CHARACTER_TRANSMIT (R434). -/
def execCharacterTransmit (uart : Fin 4) (ctsHigh : Bool) (s : State) : Step :=
  .next (s.characterTransmit uart.val ctsHigh)

/-- Characters of a queue entry (R107): one byte each, or 16 bits for 9-bit frames. -/
def entryChars (width : Nat) : Nat → Bytes → List Nat
  | 0, _ => []
  | k + 1, b => if b.isEmpty then [] else ofLE (b.take width) % 512 :: entryChars width k (b.drop width)

/-- BLOCK_TX (R433): as room allows; the entry is consumed once its last character has entered the FIFO. TX_SERVE is that of the
transmitter's last character boundary (R438). -/
def State.blockTx (n : Nat) (s : State) : State :=
  let cfg := s.uartParam n 0
  if !s.uartRuns n ∨ cfgTxServe (s.uart n).txMode ≠ 1 ∨ cfgQdir cfg ≠ 1 then s
  else match (s.queue (24 + n)).entries with
  | [] => s
  | e :: _ =>
    let u := s.uart n
    let chars := (entryChars (charBytes cfg) e.data.length e.data).drop u.moved
    let take := chars.take (64 - u.tx.length)
    let s := s.modUart n (fun u => { u with tx := u.tx ++ take, moved := u.moved + take.length })
    if take.length = chars.length then (s.modUart n (fun u => { u with moved := 0 })).consume (24 + n) else s

/-- BLOCK_TX (R433). -/
def execBlockTx (uart : Fin 4) (s : State) : Step := .next (s.blockTx uart.val)

/-! USTAT and UDATA (R429, R430) -/

/-- R429: USTAT. -/
def Uart.statusWord (u : Uart) : Nat :=
  u.rx.length * 512 + 128 * b01 (u.tx.isEmpty && u.shifter.isNone) + 64 * b01 (decide (u.tx.length < 64)) + u.flags +
  b01 (!u.rx.isEmpty)

/-- A read of USTAT by the Trowel-H side (R430). -/
def State.ustatRead (n : Nat) (s : State) : State :=
  s.modUart n (fun u => { u with out := u.statusWord, seen := some u.flags })

/-- USTAT (R430). -/
def execUstat (uart : Fin 4) (s : State) : Step := .next (s.ustatRead uart.val)

/-- R430: the data read clears the flags that its status read saw. -/
def Uart.clearSeen (u : Uart) : Uart :=
  match u.seen with
  | some f => { u with flags := Nat.land u.flags (Nat.xor 62 (Nat.land f 62)), seen := none }
  | none => u

/-- A read of UDATA by the Trowel-H side (R429, R430): with RX_SERVE 2 it pops nothing and returns 0. -/
def State.udataRead (n : Nat) (s : State) : State :=
  let s := s.modUart n Uart.clearSeen
  if cfgRxServe (s.uartParam n 0) = 2 then s.modUart n (fun u => { u with out := 0 })
  else (s.modUart n (fun u => { u with out := u.rx.headD 0, rx := u.rx.tail })).updateRts n

/-- UDATA_READ (R429). -/
def execUdataRead (uart : Fin 4) (s : State) : Step := .next (s.udataRead uart.val)

/-- A write of UDATA (R429): discarded when the transmit FIFO is full. -/
def State.udataWrite (n v : Nat) (s : State) : State :=
  s.modUart n (fun u => if u.tx.length < 64 then { u with tx := u.tx ++ [v % 512] } else u)

/-- UDATA_WRITE (R429). -/
def execUdataWrite (uart : Fin 4) (value : BitVec 16) (s : State) : Step := .next (s.udataWrite uart.val value.toNat)

/-! Break (R437) -/

/-- The unit's number in an opcode 0x4n10. -/
def Cmd.unit (c : Cmd) : Nat := c.opcode / 256

/-- UART_BREAK on UART `n` (R437). -/
def uartBreak (n : Nat) : CmdSpec :=
  { opcode := 0x4010 + 0x100 * n, role := 1, shape := oneItem (0x4010 + 0x100 * n) 2
    absent := fun s _ => !s.uartBonded n
    body := fun c s =>
      guarded [ (!cfgTxEn (s.uartParam n 0), .notReady), (decide ((s.uart n).brk ≠ 0) || s.uartDedicated n, .busy),
          (c.u 0 2 == 0, .outOfRange) ] s
        (done (s.modUart n (fun u => { u with brk := 1, brkBits := c.u 0 2 }))) }

/-- UART_BREAK (R437): the packet's opcode names the UART. -/
def State.uartBreakAny (s : State) : State :=
  match (s.queue 0).entries with
  | [] => s
  | e :: _ => (uartBreak ((parsePacket e.data).opcode / 256 % 4)).run s

/-- UART_BREAK (R437). -/
def execUartBreak (s : State) : Step := .next s.uartBreakAny

/-- BREAK_BEGIN (R437): the character in the shifter has completed. -/
def State.breakBegin (n : Nat) (s : State) : State :=
  if (s.uart n).brk = 1 then
    (s.startEdge n (s.uartParam n 0) (s.uart n).txDiv).modUart n (fun u => { u with brk := 2, shifter := none, txMode := s.uartParam n 0 })
  else s

/-- BREAK_BEGIN (R437). -/
def execBreakBegin (uart : Fin 4) (s : State) : Step := .next (s.breakBegin uart.val)

/-- BREAK_END (R437). -/
def State.breakEnd (n : Nat) (s : State) : State :=
  if (s.uart n).brk = 2 then
    let s := s.modUart n (fun u => { u with brk := 0, brkBits := 0, txMode := s.uartParam n 0, sentAt := some s.up })
    if (s.uart n).tx.isEmpty then s.endRun n else s
  else s

/-- BREAK_END (R437). -/
def execBreakEnd (uart : Fin 4) (s : State) : Step := .next (s.breakEnd uart.val)

/-- R423, R436, R437: TXD at this moment: the bit of the character or break on the line, which SIR shapes into pulses for
the 0 bits; the line idles before the start edge that DE leads. -/
def State.txdHigh (n : Nat) (s : State) : Bool :=
  let u := s.uart n
  let sir := bit 27 u.txCfg
  let clocks := (s.up - u.edgeAt) / qtClock
  let k := clocks / u.txDiv
  let part := clocks % u.txDiv
  let line := if u.brk = 2 then decide (u.brkBits ≤ k)
    else match u.shifter with
    | some ch => (sentBits u.txCfg ch).getD k true
    | none => true
  let level := line || decide (s.up < u.edgeAt)
  if sir then
    !level && decide (7 * u.txDiv ≤ 16 * part) &&
      (if bit 28 u.txCfg then decide (16 * part < 7 * u.txDiv + 16 * 326) else decide (16 * part < 10 * u.txDiv))
  else level

/-! The UART of a wired cell (R393) -/

/-- R393: the fabric clocks of a bit at WIRED_BAUD: SAMP_DIV as the cell runs its UART. -/
def State.wireDiv (s : State) : Nat := 16 * 2 ^ s.cell.cfg.baud
/-- R393, R394: a bit time of the wire, QT units. -/
def State.wireBit (s : State) : Nat := qtClock * s.wireDiv

/-- R393: the format in which the cell runs its UART, as UART_CFG spells it: both directions on, 9-bit mode, no parity, 1 stop bit, address
match disabled, DE driven. -/
def wireCfg : Nat := 2 ^ 24 + 2 ^ 14 + 2 * 2 ^ 12 + 2 ^ 8 + 2 ^ 7

/-- R393: the characters of a burst: the first is the address, with the ninth bit 1. -/
def wireCharacters (b : Bytes) : List Nat := b.zipIdx.map (fun x => x.1.toNat + (if x.2 = 0 then 256 else 0))

/-- R393: the unit drives DE from one bit time before a burst's first start bit to one bit time after its last stop bit. -/
def State.wireDe (s : State) : Bool :=
  s.wiredLink s.cell.cfg &&
  s.cell.wireSent.any (fun w => decide (w.1 ≤ s.qt + s.wireBit) && decide (s.qt < w.1 + (11 * w.2.length + 1) * s.wireBit))

/-- R393: the level of the wire's TXD: the bit of the character that is on the line; high between bursts. -/
def State.wireTxd (s : State) : Bool :=
  match s.cell.wireSent.find? (fun w => decide (w.1 ≤ s.qt) && decide (s.qt < w.1 + 11 * w.2.length * s.wireBit)) with
  | none => true
  | some w =>
    ((wireCharacters w.2).flatMap (sentBits wireCfg)).getD ((s.qt - w.1) / s.wireBit) true

/-- R439: the item of STATUS_GET of a UART; of one dedicated to a wired cell, with the rates and DE it runs at (R393). -/
def State.uartItem (n : Nat) (s : State) : Bytes :=
  let u := s.uart n
  let wire := s.uartDedicated n
  le 2 u.statusWord ++ le 1 u.tx.length ++ le 1 (b01 u.rtsHigh + 2 * b01 u.ctsHigh + 4 * b01 (s.deHigh n || (wire && s.wireDe))) ++
  le 1 (b01 (decide (u.brk ≠ 0))) ++ le 4 (if wire then s.wireDiv else u.rxDiv) ++ le 4 (if wire then s.wireDiv else u.txDiv)

/-- R439: the levels of CTS_N in the clock of the reply. -/
def State.seeCts (cts : BitVec 4) (s : State) : State :=
  { s with uarts := s.uarts.mapIdx (fun n u => { u with ctsHigh := bit n cts.toNat }) }

/-- R425, R438: a committed format or rate waits for the start edges of both directions; the transmitter takes the other fields at its next
character boundary, at once where no character or break is on the line. -/
def State.noteUart (n : Nat) (s : State) : State :=
  let cfg := s.uartParam n 0
  s.modUart n (fun u => { u with
    versions := u.versions ++ [(s.up, cfg, s.uartParam n 1)]
    txMode := if u.shifter.isNone && u.brk != 2 then cfg else u.txMode })

/-- R431, R433, R434: a committed UART_CFG: a change of QDIR flushes the queue, the block logic takes over the receive FIFO, and a receiver
that RX_EN turns on starts muted. -/
def State.uartCfgChanged (n old : Nat) (s : State) : State :=
  let new := s.uartParam n 0
  let s := s.noteUart n
  let s := if cfgQdir old ≠ cfgQdir new then
      (s.modQueue (24 + n) (fun q => { q with cell := [] })).flushQueue (24 + n)
    else s
  let s := if !cfgRxEn old && cfgRxEn new then s.modUart n (fun u => { u with muted := true }) else s
  let s := if blockReceives new then s.blockDrain n else s
  s.updateRts n

/-- R440: entry to a low-power mode loses both FIFOs and the shifter. -/
def Uart.drop (u : Uart) : Uart :=
  { u with rx := [], tx := [], shifter := none, flags := 0, seen := none, brk := 0, moved := 0, de := false, deFall := none
           sentAt := none, muted := true }

end Sys2Proof.Machine
end

