-- ==== Sys2Proof/Machine/Cell.lean ====
section
/-! DEFINITION. The Omba unit's shared parts: stations, members, credits, messages and the payloads it composes
(R366–R390). -/
namespace Sys2Proof.Machine

/-! Stations and frames (R366–R369) -/

/-- R366, R397: 0 none, 1 manager, 2 worker. -/
def State.cellRole (s : State) : Nat :=
  match s.power.mode with
  | .runManager => 1
  | .runWorker => 2
  | _ => 0

/-- R366: the part's own station. -/
def State.ownStation (s : State) : Nat := if s.cellRole = 1 then 0 else s.cell.cfg.station

/-- R393: the cell runs over the wire. -/
def State.wired (s : State) : Bool := s.wiredLink s.cell.cfg

/-- R15, R399: the unit has started. -/
def State.cellRuns (s : State) : Bool := decide (s.cellRole ≠ 0) && decide (6 ≤ s.rst.startStep)

/-- R367: the frame of an instant. -/
def frameOf (t : Nat) : Nat := t / qtFrame

/-- R368: B of a burst kind within its frame, µs; `u` is the uplink burst. -/
def burstOffset (kind u : Nat) : Nat :=
  match kind with
  | 0 => 0
  | 1 => 200
  | 2 => 5216
  | 3 => 5700
  | _ => 6210 + 850 * u

/-- R368: the first-symbol instant of a burst of frame `f`. -/
def burstInstant (kind u f : Nat) : Nat := f * qtFrame + burstOffset kind u * qtUs

/-- R369: the station of uplink burst `u` of a frame; none for k above 61. -/
def uplinkStation (f u : Nat) : Option Nat :=
  let k := 4 * (f % 16) + u
  if k ≤ 61 then some (k + 1) else none

/-- R369: the TT worker of a frame; 0 for none. -/
def ttWorker (f : Nat) : Nat := if f % 64 ≤ 61 then f % 64 + 1 else 0

/-- R107: the 8-byte header of an Omba queue entry; CLASS and FLAGS, which the spec does not number, are free. -/
def State.ombaHead (station f : Nat) (s : State) : Bytes := le 1 station ++ freeBytes 2 s.freeTick ++ zeros 1 ++ le 4 (f % 8640000)

/-- Offer a message to an Omba queue (R107, R380). -/
def State.offerOmba (n station f : Nat) (credit : Bool) (msg : Bytes) (s : State) : State :=
  ({ s with freeTick := s.freeTick + 2 }).offer n { data := s.ombaHead station f ++ msg, credit := credit }

/-- A message that the unit itself takes from the queue at once (Q16, Q17). -/
def State.passOmba (n station f : Nat) (msg : Bytes) (s : State) : State :=
  if s.hasRoom n then (s.offerOmba n station f false msg).consume n else s.offerOmba n station f false msg

/-! Members (R386, R397) -/

/-- A member's record. -/
def State.member (st : Nat) (s : State) : Member := (s.cell.members.find? (fun m => m.station == st)).getD { station := st }

/-- Put a record into a list by rising station. -/
def putMember (m : Member) : List Member → List Member
  | [] => [m]
  | x :: r => if m.station < x.station then m :: x :: r else if m.station = x.station then m :: r else x :: putMember m r

/-- Replace a member's record by a function of it. -/
def State.modMember (st : Nat) (f : Member → Member) (s : State) : State :=
  { s with cell := { s.cell with members := putMember (f (s.member st)) s.cell.members } }

/-- R386: the credits granted to a peer. -/
def State.pairGrants (s : State) : Nat := if s.cellRole = 1 then s.cell.cfg.credits else 4

/-- Messages of a peer still stored in Q22 that carry a credit. -/
def State.storedFor (st : Nat) (s : State) : Nat :=
  ((s.queue 22).entries.filter (fun e => e.credit && fieldAt 0 1 e.data == st)).length

/-- R397: credits outstanding for a member. -/
def State.creditsOut (st : Nat) (s : State) : Nat :=
  let m := s.member st
  (m.limitOut + 256 - m.expect) % 256 + s.storedFor st

/-- R386: LIMIT rises as far as the grants allow; each unit is one credit issued. -/
def State.regrant (st : Nat) (s : State) : State :=
  let m := s.member st
  let d := (m.expect + (s.pairGrants - s.storedFor st) + 256 - m.limitOut) % 256
  if within 1 128 d then
    (s.modMember st (fun m => { m with limitOut := (m.limitOut + d) % 256 })).modQueue 22 (Queue.issue d)
  else s

/-- R386: the pair is restored: SEQ, ACK and LIMIT restart and credits are issued afresh. -/
def State.restorePair (st : Nat) (s : State) : State :=
  let g := s.pairGrants
  (s.modMember st (fun m => { m with
    limitIn := 0, base := 0, sent := 0, limitOut := g, expect := 0, state := 1, missed := 0 })).modQueue 22 (Queue.issue g)

/-- Remove up to `n` entries that satisfy `p` from a queue's entries, oldest first. -/
def removeFirst (p : QEntry → Bool) : Nat → List QEntry → List QEntry
  | _, [] => []
  | 0, l => l
  | n + 1, e :: r => if p e then removeFirst p n r else e :: removeFirst p (n + 1) r

/-- An entry of Q21 is for a peer. -/
def QEntry.isFor (st : Nat) (e : QEntry) : Bool := fieldAt 0 1 e.data == st

/-- Entries of Q21 for a peer, oldest first. -/
def State.controlFor (st : Nat) (s : State) : List QEntry := (s.queue 21).entries.filter (QEntry.isFor st)

/-- `n` messages that satisfy `p` leave a queue, consumed or dropped; they are counted as they leave (R38). -/
def Queue.leave (p : QEntry → Bool) (n : Nat) (dropped : Bool) (q : Queue) : Queue :=
  let left := removeFirst p n q.entries
  let k := q.entries.length - left.length
  { q with
    entries := left
    consIdx := (q.consIdx + k) % 64
    consumed := if dropped then q.consumed else wrap32 (q.consumed + k)
    drops := if dropped then wrap32 (q.drops + k) else q.drops }

/-- R386: ACK and LIMIT of a peer: the messages it covers leave Q21. -/
def State.takeAck (st ack limit : Nat) (s : State) : State :=
  let m := s.member st
  let n := (ack + 1 + 256 - m.base) % 256
  let n := if n ≤ m.sent then n else 0
  ((s.modMember st (fun m => { m with limitIn := limit, base := (m.base + n) % 256, sent := m.sent - n })).modQueue 21 (Queue.leave (QEntry.isFor st) n false)).refillN 21 (s.queue 21).waiting.length

/-- R386: what the loss of a peer does, EV014 aside. Gives the credits reclaimed and the Q21 entries dropped. -/
def State.dropPeer (st : Nat) (s : State) : Nat × Nat × State :=
  let m := s.member st
  let k := (m.limitOut + 256 - m.expect) % 256
  let n := (s.controlFor st).length
  let s := s.modMember st (fun m => { m with limitIn := 0, base := 0, sent := 0, limitOut := 0, expect := 0 })
  let s := s.modQueue 22 (fun q => { q with crReclaimed := wrap32 (q.crReclaimed + k) })
  (k, n, ((s.modQueue 21 (Queue.leave (QEntry.isFor st) n true)).occurDrops 21 n).refillN 21 (s.queue 21).waiting.length)

/-- R386: a peer is lost. Gives the credits reclaimed and the Q21 entries dropped. -/
def State.losePeer (st reason : Nat) (s : State) : Nat × Nat × State :=
  let r := s.dropPeer st
  (r.1, r.2.1, r.2.2.reclaimEvent 22 r.1 reason st)

/-- R390: the journalled entry of a station. -/
def State.admission (st : Nat) (s : State) : Option Admission := s.nv.config.admissions.find? (fun a => a.station == st)

/-- R390: a station is admitted. -/
def State.admittedStation (st : Nat) (s : State) : Bool := (s.admission st).any (·.admitted)

/-- R390: the admitted stations. -/
def State.admitted (s : State) : List Nat := (s.nv.config.admissions.filter (·.admitted)).map (·.station)

/-- R391: an absent worker: credits reclaimed, Q21 entries dropped, EV098. -/
def State.markAbsent (st : Nat) (s : State) : State :=
  if (s.member st).state ≠ 1 then s
  else
    let r := s.losePeer st 2
    ((r.2.2.modMember st (fun m => { m with state := 2 })).bump 0x32 14).occur 98 st (le 2 r.1 ++ le 2 r.2.1)

/-- R391: an assigned uplink burst is missing; the third in a row marks the worker absent. -/
def State.uplinkMissed (st : Nat) (s : State) : State :=
  let n := min 255 ((s.member st).missed + 1)
  s.ascending (fun s =>
    let s := ((s.modMember st (fun m => { m with missed := n })).bump 0x32 8).occur 102 st (le 1 n)
    if 3 ≤ n then s.markAbsent st else s)

/-! Steps a cell hears of (R389) -/

/-- R389: the steps a manager announces: STEP_ID, DELTA and AT, 0 for one withdrawn, which is announced until its AT. -/
def State.announcedSteps (f : Nat) (s : State) : List (Nat × Int × Nat) :=
  let known := s.plumb.step.bind (fun p => p.applyAt.map (fun k => (p.id, -s.plumb.offset, k)))
  let gone := (s.cell.withdrawn.filter (fun x => decide (f * qtFrame ≤ x.2.2 * qtSec))).map (fun x => (x.1, x.2.1, 0))
  gone.toList ++ known.toList

/-- R373, R389: the step that the STEP item of frame `f` carries: by turns, where two are announced (DESIGN CHOICE, log entry 144). -/
def State.announcedStep (f : Nat) (s : State) : Option (Nat × Int × Nat) :=
  let l := s.announcedSteps f
  l[f / 2 % max l.length 1]?

/-! The beacon (R372, R373) -/

/-- R387: a cell commit is pending. -/
def State.cellCommitPending (s : State) : Bool := s.screed.commits.any (·.cell)

/-- R373: ITEM_KIND of a frame. -/
def itemKind (f : Nat) (stepping : Bool) : Nat :=
  let turn := fun (n : Nat) => match n % 3 with | 0 => 0 | 1 => 2 | _ => 3
  if !stepping then turn f else if f % 2 = 1 then 1 else turn (f / 2)

/-- R373: CONFIG. -/
def State.configItem (s : State) : Bytes :=
  let c := s.cell.cfg
  le 1 (s.param 0x2000) ++ le 1 c.dlChannels ++ le 1 c.dlMcs ++ le 1 c.ulMcs ++ le 2 c.presentMs ++ le 2 (s.param 0x1200) ++
  le 1 s.radio.plan.rate ++ le 1 (b01 s.wired) ++ zeros 6

/-- R373: POSITION, to the nearest millimetre; free while the manager holds none. -/
def State.positionItem (s : State) : Bytes :=
  match s.plumb.position with
  | some v => leInt 5 ((v.x + 5) / 10) ++ leInt 5 ((v.y + 5) / 10) ++ leInt 5 ((v.z + 5) / 10) ++ zeros 1
  | none => freeBytes 15 s.freeTick ++ zeros 1

/-- R373: the ITEM of a frame. -/
def State.beaconItem (f : Nat) (s : State) : Bytes :=
  let step := s.announcedStep f
  match itemKind f step.isSome, step with
  | 1, some (id, d, k) => le 2 id ++ zeros 2 ++ leInt 8 d ++ le 4 k
  | 2, _ => leInt 2 s.plumb.utcOffset ++ le 1 s.plumb.leap ++ zeros 1 ++ le 4 s.plumb.leapAt ++ zeros 8
  | 3, _ => s.positionItem
  | _, _ => s.configItem

/-- R372: the beacon payload of a frame. -/
def State.beaconPayload (f : Nat) (s : State) : Bytes :=
  let step := s.announcedStep f
  let flags := s.plumb.state % 8 + 8 * b01 ((s.announcedSteps f).any (fun p => p.2.2 != 0)) + 16 * itemKind f step.isSome + 64 * b01 s.cellCommitPending
  let b := le 2 s.cell.cfg.cellId ++ le 1 (f % 100) ++ le 1 flags ++ le 4 (f / 100) ++ le 4 s.plumb.bound ++ s.beaconItem f
  b ++ le 4 (crc32 b)

/-! Messages (R376, R386) -/

/-- A message with its head (R376). -/
def ombaMessage (kind dest : Nat) (body : Bytes) : Bytes := le 1 kind ++ le 1 dest ++ le 2 body.length ++ body

/-- Bytes of a CTRL body before its DATA. -/
def ctrlHead : Nat := 4

/-- R386: the last in-order SEQ; 255 before the first. -/
def Member.ack (m : Member) : Nat := (m.expect + 255) % 256

/-- R386: CTRL messages to a peer at one transmit opportunity, in SEQ order, as far as credits and `room` bytes go; `i` counts the
peer's Q21 entries. -/
def State.sendControl (st : Nat) : List QEntry → Nat → Nat → State → Bytes × State
  | [], _, _, s => ([], s)
  | e :: r, i, room, s =>
    let m := s.member st
    let seq := (m.base + i) % 256
    let data := e.data.drop 8
    let msg := ombaMessage 2 st (le 1 seq ++ le 1 m.ack ++ le 1 m.limitOut ++ zeros 1 ++ data)
    if !within 1 128 ((m.limitIn + 256 - seq) % 256) || decide (room < msg.length) then ([], s)
    else
      let s := if i < m.sent then s.bump 0x32 13 else s.modMember st (fun m => { m with sent := i + 1 })
      let t := State.sendControl st r (i + 1) (room - msg.length) s
      (msg ++ t.1, t.2)

/-- R386: CTRL messages to one peer. -/
def State.controlTo (st room : Nat) (s : State) : Bytes × State := s.sendControl st (s.controlFor st) 0 room

/-- CTRL messages to every present worker, by rising station. -/
def State.controlAll : List Nat → Nat → State → Bytes × State
  | [], _, s => ([], s)
  | st :: r, room, s =>
    let t := s.controlTo st room
    let u := State.controlAll r (room - t.1.length) t.2
    (t.1 ++ u.1, u.2)

/-- MEAS messages as far as `room` bytes go (R384). -/
def measMessages : List Bytes → Nat → Bytes × List Bytes
  | [], _ => ([], [])
  | b :: r, room =>
    let m := ombaMessage 1 63 b
    if room < m.length then ([], b :: r)
    else
      let t := measMessages r (room - m.length)
      (m ++ t.1, t.2)

/-- R390: the ADMIT message of a frame. -/
def State.admitMessage (f : Nat) (s : State) : Bytes :=
  match s.admission (f % 100 + 1) with
  | some a => ombaMessage 5 63 (le 1 a.station ++ le 1 (b01 a.admitted) ++ zeros 2 ++ le 8 a.serial)
  | none => []

/-- R387: the COMMIT messages of a frame; one that a refused downlink was to carry last is still owed (R371). -/
def State.commitMessages (f : Nat) (s : State) : Bytes :=
  (s.cell.commits.filter (fun c => decide (f ≤ c.last) || c.owed)).flatMap (fun c =>
    ombaMessage 4 63 (le 1 c.id ++ le 1 (c.what + 128 * b01 c.cancel) ++ zeros 2 ++ le 8 c.index))

/-- R376, R386: the GRANT message of a frame: to one station a frame, in turn (log entry 30). -/
def State.grantMessage (f : Nat) (s : State) : Bytes × State :=
  let st := ttWorker f
  if st ≠ 0 ∧ (s.member st).state = 1 then
    let s := s.regrant st
    (ombaMessage 3 st (le 1 (s.member st).limitOut ++ le 1 (s.member st).ack ++ zeros 2), s)
  else ([], s)

/-- The GRANT messages of several frames. -/
def State.grantMessages : List Nat → State → Bytes × State
  | [], s => ([], s)
  | f :: r, s =>
    let a := s.grantMessage f
    let b := State.grantMessages r a.2
    (a.1 ++ b.1, b.2)

/-- R376, R380: an entry of Q23 that this part is to send: its DEST is another station (DESIGN CHOICE, log entry 144). -/
def State.diagToSend (s : State) (e : QEntry) : Bool :=
  let dest := fieldAt 9 1 e.data
  fieldAt 8 1 e.data == 7 && decide (fieldAt 10 2 e.data + 12 = e.data.length) && decide (e.data.length ≤ 260) &&
  (if s.cellRole = 1 then dest != 0 else dest == 0)

/-- The first of some messages, as far as `room` bytes go, and how many they are. -/
def fitting : List Bytes → Nat → Bytes × Nat
  | [], _ => ([], 0)
  | m :: r, room =>
    if room < m.length then ([], 0)
    else
      let t := fitting r (room - m.length)
      (m ++ t.1, t.2 + 1)

/-- R376, R379: DIAG messages of Q23, in order, as far as `room` bytes go. -/
def State.diagMessages (room : Nat) (s : State) : Bytes × Nat :=
  fitting (((s.queue 23).entries.filter s.diagToSend).map (fun e => e.data.drop 8)) room

/-- The messages of a downlink cell section that fit `room` bytes: COMMIT, ADMIT, GRANT, CTRL, MEAS and DIAG (log entry 30); with
them go those of the frames whose downlinks were refused (R371). -/
def State.cellSection (f room : Nat) (s : State) : Load × State :=
  let head := s.commitMessages f
  let k := min s.cell.carried.length ((room - head.length) / 24 - 1)
  let fs := s.cell.carried.take k ++ [f]
  let g := s.grantMessages fs
  let head := head ++ fs.flatMap (fun f => s.admitMessage f) ++ g.1
  let s := g.2
  let present := (s.cell.members.filter (fun m => m.state == 1 && s.admittedStation m.station)).map (·.station)
  let c := s.controlAll present (room - head.length)
  let s := c.2
  let m := measMessages s.cell.measOut (room - head.length - c.1.length)
  let d := s.diagMessages (room - head.length - c.1.length - m.1.length)
  let sent := s.cell.measOut.take (s.cell.measOut.length - m.2.length)
  ({ body := head ++ c.1 ++ m.1 ++ d.1, meas := sent, diag := d.2, carried := k }, { s with cell := { s.cell with measOut := m.2 } })

/-! Downlink capacity and audio (R375–R378, R393) -/

/-- R378: the largest downlink payload at a RATE and MCS. -/
def downlinkRoom (rate mcs : Nat) : Nat := maxPayload rate mcs 4992

/-- R393: characters of a wired downlink at a WIRED_BAUD code. -/
def wiredChars (baud : Nat) : Nat := match baud with | 0 => 5647 | 1 => 2823 | _ => 1411

/-- R393: characters of a wired uplink: its last stop bit ends 20 µs before its slot does; 11 bit times each. -/
def wiredUplinkChars (baud : Nat) : Nat := 820 * (12500000 / 2 ^ baud) / 11000000

/-- R378, R393: the largest DL_CHANNELS. -/
def maxChannels (wired : Bool) (fsCode rate mcs baud : Nat) : Nat :=
  let room := if wired then wiredChars baud - 533 else downlinkRoom rate mcs - 528
  min 16 (room / (3 * (fsOf fsCode / 100)))

/-- The channels this downlink carries (R378). -/
def State.fitChannels (s : State) : Nat :=
  let c := s.cell.cfg
  min c.dlChannels (maxChannels s.wired (s.param 0x2000) s.radio.plan.rate c.dlMcs c.baud)

/-- The payload bytes a downlink may hold. -/
def State.downlinkLimit (s : State) : Nat :=
  if s.wired then wiredChars s.cell.cfg.baud - 5 else downlinkRoom s.radio.plan.rate s.cell.cfg.dlMcs

/-- R375: bytes of a downlink's audio part. -/
def audioBytes (fs channels : Nat) : Nat := if channels = 0 then 0 else 16 + 3 * channels * (fs / 100)

/-- R377: P of PRESENT_MS. -/
def presentSamples (ms fs : Nat) : Nat := ms * fs / 1000

/-- An index lies in one of some spans (first, count). -/
def inSpans (l : List (Nat × Nat)) (i : Nat) : Bool := l.any (fun x => within x.1 (x.1 + x.2 - 1) i && x.2 != 0)

/-- R377: the audio header and samples of frame `f`; a word the router has not emitted is 0, and so is one of the indices `gone`, whose
piece a full Q17 dropped (R380; log entry 144). -/
def State.downlinkAudio (f channels : Nat) (gone : List (Nat × Nat)) (s : State) : Bytes :=
  let n := s.fs / 100
  let p := presentSamples s.cell.cfg.presentMs s.fs
  let first := (f + 1) * n
  let words := s.audio.omba
  le 8 first ++ le 2 n ++ le 1 channels ++ le 1 (s.param 0x2000) ++ zeros 4 ++
  (List.range n).flatMap (fun i => (List.range channels).flatMap (fun c =>
    if inSpans gone (first + i) then zeros 3
    else le 3 (((words.find? (fun w => w.1 == c && w.2.1 + p == first + i)).map (·.2.2)).getD 0 / 256)))

/-- R377: frames of a piece of at most 1,344 samples. -/
def pieceFrames (channels : Nat) : Nat := if channels = 0 then 1344 else 1344 / channels

/-- R377, R380: audio passes through Q17 in pieces, each with an audio header. Gives the spans of indices (first, count) whose pieces a
full queue dropped. -/
def State.passAudio (station f first channels fsCode : Nat) : Nat → Bytes → State → List (Nat × Nat) × State
  | 0, _, s => ([], s)
  | n + 1, b, s =>
    if b.isEmpty then ([], s)
    else
      let k := min (pieceFrames channels) (b.length / (3 * max channels 1))
      let v := le 8 first ++ le 2 k ++ le 1 channels ++ le 1 fsCode ++ zeros 4 ++ b.take (3 * channels * k)
      let gone := if s.hasRoom 17 then [] else [(first, k)]
      let s := s.passOmba 17 station f v
      if k = 0 then ([], s)
      else
        let r := State.passAudio station f (first + k) channels fsCode n (b.drop (3 * channels * k)) s
        (gone ++ r.1, r.2)

/-- R375: a downlink payload. AUDIO_BYTES counts the samples (log entry 30). -/
def State.downlinkPayload (f channels : Nat) (section_ : Bytes) (gone : List (Nat × Nat)) (s : State) : Bytes :=
  let audio := if channels = 0 then [] else s.downlinkAudio f channels gone
  le 2 s.cell.cfg.cellId ++ le 1 (f % 100) ++ le 1 (b01 (channels != 0)) ++ le 4 (audio.length - 16) ++ le 2 section_.length ++
  zeros 6 ++ audio ++ section_

/-- R377: words of indices that no later frame carries leave the router's buffer. -/
def State.dropSent (f : Nat) (s : State) : State :=
  let p := presentSamples s.cell.cfg.presentMs s.fs
  { s with audio := { s.audio with omba := s.audio.omba.filter (fun w => decide ((f + 2) * (s.fs / 100) ≤ w.2.1 + p)) } }

/-! Uplink and time transfer (R379, R381) -/

/-- R379: PLAN_MISMATCH: RATE differs from the CONFIG item's. -/
def State.planMismatch (s : State) : Bool := s.cell.config.any (fun c => c.getD 6 0 != s.radio.plan.rate)

/-- 2⁻¹⁶ ns to 0.1 ns, to the nearest. -/
def toTenths (x : Int) : Int := (x * 10 + 32768) / 65536

/-- R379: the REPORT body of this worker. -/
def State.reportBody (s : State) : Bytes :=
  let m := s.member 0
  le 8 Config.serial.toNat ++ le 1 s.plumb.state ++ le 1 s.plumb.source ++ le 1 (b01 s.fsMismatch + 2 * b01 s.planMismatch) ++
  le 1 s.cell.lqDl ++ leInt 4 (toTenths s.cell.lastOffset) ++ le 4 s.plumb.bound ++ le 1 m.limitOut ++ le 1 m.ack ++
  le 1 s.cell.commitId ++ le 1 s.cell.commitState ++ le 2 s.cell.commitStatus ++ zeros 2

/-- The payload bytes an uplink may hold (R379, R393). -/
def State.uplinkLimit (s : State) : Nat :=
  if s.wired then wiredUplinkChars s.cell.cfg.baud - 5 else maxPayload s.radio.plan.rate s.cell.cfg.ulMcs 760

/-- R379: an uplink payload: REPORT, then CTRL, then DIAG. -/
def State.uplinkPayload (s : State) : Load × State :=
  let s := s.regrant 0
  let r := ombaMessage 6 0 s.reportBody
  let c := s.controlTo 0 (s.uplinkLimit - r.length)
  let d := c.2.diagMessages (s.uplinkLimit - r.length - c.1.length)
  ({ body := r ++ c.1 ++ d.1, diag := d.2 }, c.2)

/-- R381: the manager's time-transfer payload of frame `f`. -/
def State.ttManagerPayload (f : Nat) (s : State) : Bytes :=
  let t4 := (s.cell.lastReply.filter (fun p => p.2.1 + 1 == f)).elim 0 (fun p => p.2.2)
  let b := le 1 0 ++ le 1 (f % 100) ++ le 1 (if f = 0 then 0 else ttWorker (f - 1)) ++ zeros 1 ++ leInt 8 t4 ++ zeros 16
  b ++ le 4 (crc32 b)

/-- R381: the worker's reply of frame `f`. -/
def State.ttReplyPayload (f : Nat) (s : State) : Bytes :=
  let t := match s.cell.ttBurst with | some (_, t) => t | none => 0
  let b := le 1 1 ++ le 1 (f % 100) ++ le 1 s.cell.cfg.station ++ zeros 1 ++ leInt 8 t ++ zeros 16
  b ++ le 4 (crc32 b)

/-- R381: this frame's manager burst has been received. -/
def State.heardManager (f : Nat) (s : State) : Bool := s.cell.ttBurst.any (fun p => p.1 == f)

/-- R390: the last ADMIT heard for its STATION names this part with ACTION 1. -/
def State.permitted (s : State) : Bool := s.cell.permits.contains s.cell.cfg.station

/-- R390, R392: a worker may transmit. -/
def State.mayTransmit (s : State) : Bool := !s.cell.lost && s.permitted && (s.member 0).state == 1

/-- R366, R369, R390: the schedule gives the part the slot of burst `kind` in frame `f`, as uplink burst `u`. -/
def State.ownsSlot (kind u f : Nat) (s : State) : Bool :=
  s.cellRuns &&
  (match kind with
   | 0 | 1 | 2 => s.cellRole == 1
   | 3 => s.cellRole == 2 && s.mayTransmit && ttWorker f == s.cell.cfg.station
   | _ => s.cellRole == 2 && s.mayTransmit && uplinkStation f u == some s.cell.cfg.station)

/-- R366, R369, R381, R390: the part sends burst `kind` in frame `f`, as uplink burst `u`. -/
def State.sends (kind u f : Nat) (s : State) : Bool := s.ownsSlot kind u f && (kind != 3 || s.heardManager f)

/-- R372, R375, R379, R381: what a burst carries. -/
def State.composeBurst (kind f : Nat) (s : State) : Load × State :=
  match kind with
  | 0 => ({ body := s.beaconPayload f }, { s with freeTick := s.freeTick + 15 })
  | 1 =>
    let n := s.fitChannels
    let s := { s with cell := { s.cell with capacity := decide (n < s.cell.cfg.dlChannels) } }
    let t := s.cellSection f (s.downlinkLimit - 16 - audioBytes s.fs n)
    ({ t.1 with audio := n }, t.2)
  | 2 => ({ body := s.ttManagerPayload f }, s)
  | 3 => ({ body := s.ttReplyPayload f }, s)
  | _ => s.uplinkPayload

/-- The whole payload as it goes out (R375, R377). -/
def State.wholePayload (kind f : Nat) (x : Load) (s : State) : Bytes × State :=
  if kind = 1 then
    let n := s.fs / 100
    let r := s.passAudio 63 f ((f + 1) * n) x.audio (s.param 0x2000) 256 (if x.audio = 0 then [] else (s.downlinkAudio f x.audio []).drop 16)
    (s.downlinkPayload f x.audio x.body r.1, r.2.dropSent f)
  else (x.body, s)

/-- R372, R376, R381, R399: what follows a burst that was sent: counters, messages that are no longer owed, and the reply remembered for
its exchange. A beacon is offered to Q16. -/
def State.burstSent (kind f : Nat) (x : Load) (payload : Bytes) (s : State) : State :=
  let s := if x.diag = 0 then s else s.modQueue 23 (Queue.leave s.diagToSend x.diag false)
  match kind with
  | 0 => (s.bump 0x32 0).passOmba 16 0 f payload
  | 1 =>
    { s.bump 0x32 5 with cell := { s.cell with
        carried := s.cell.carried.drop x.carried, commits := s.cell.commits.map (fun c => { c with owed := false }) } }
  | 3 => { s with cell := { s.cell with ttReplied := s.cell.ttBurst } }
  | _ => s

/-- R371: the downlink of frame `f` is refused: its messages go in the next frame's downlink. -/
def State.downlinkLost (f : Nat) (s : State) : State :=
  { s with cell := { s.cell with
      carried := s.cell.carried.filter (fun g => g % 100 != f % 100) ++ [f]
      commits := s.cell.commits.map (fun c => { c with owed := c.owed || decide (f ≤ c.last) }) } }

end Sys2Proof.Machine
end

