-- ==== Sys2Proof/Machine/StartUp.lean ====
section
/-! DEFINITION. Start-up steps 4 to 7 of R15, and what leaving a run mode or entering a low-power mode stops. -/
namespace Sys2Proof.Machine

/-- Step 7 of R15: streams start at an index derived from QT, the next one. -/
def State.beginStreams (s : State) : State :=
  let i := if s.sampleTicks then s.nextIndex else s.indexAfter
  { s with screed := { s.screed with forced := some i } }.startStreams i

/-- R15: the condition of the next start-up step holds. Steering is active once Plumb holds an estimate; a manager is past step 6
at once, a worker once it has received a beacon. -/
def State.stepReady (s : State) : Bool :=
  match s.rst.startStep with
  | 3 => s.plumb.estimated
  | 4 | 5 => s.power.mode.run
  | 6 => decide (s.power.mode = .runManager) || (decide (s.power.mode = .runWorker) && s.cell.beaconEst.isSome)
  | _ => false

/-- The next start-up step is taken (R15). -/
def State.takeStartStep (s : State) : State :=
  let n := s.rst.startStep + 1
  let s := { s with rst := { s.rst with startStep := n } }
  if n = 7 then s.beginStreams else s

/-- Start-up goes on as far as its conditions allow (R15, R531), at most `n` steps. -/
def State.advanceStartN : Nat → State → State
  | 0, s => s
  | n + 1, s => if s.stepReady then State.advanceStartN n s.takeStartStep else s

/-- Start-up goes on as far as its conditions allow (R15). -/
def State.advanceStart (s : State) : State := State.advanceStartN 4 s

/-- R295: a direction of a TDM port stops at index `k`, or starts no more. -/
def TdmDir.stopAfter (k : Nat) (d : TdmDir) : TdmDir := { d with startAt := none, stopAt := if d.on then some k else none }

/-- R311, R505, R506: every output ramps down over 10 ms and its stream ends. -/
def State.endStreams (s : State) : State :=
  let n := s.rampTicks 10
  let k := s.audio.outIndex + n + 1
  let s := s.mapOuts (fun o => if o.on then { o with sys := s.aimSys false 10 o, stopAt := some k } else o)
  { s with audio := { s.audio with
    started := false, tdm := s.audio.tdm.map (fun p => { p with rx := p.rx.stopAfter k, tx := p.tx.stopAfter k }) } }

/-- The peers of the cell are lost, in the order of their stations (R386, R399): each loss is an action of its own, but an entry to a
low-power mode is one action for all of them (R565). -/
def State.loseAll (reason : Nat) (s : State) : State :=
  if reason = 3 then
    let r := s.cell.members.foldl (fun (p : Nat × State) m =>
      if m.state = 1 then
        let x := p.2.dropPeer m.station
        (p.1 + x.1, x.2.2)
      else p) (0, s)
    r.2.reclaimEvent 22 r.1 3 0xFF
  else s.cell.members.foldl (fun s m => if m.state = 1 then (s.losePeer m.station reason).2.2 else s) s

/-- The Omba unit stops and drops its peers (R386, R399, R505, R506): a later start of the unit finds its cell as after a reset, with
the configuration in force and the counters kept. A burst on the air goes on to its end (DESIGN CHOICE, log entry 139). -/
def State.stopCell (reason : Nat) (s : State) : State :=
  let s := s.loseAll reason
  { s with
    cell := { cfg := s.cell.cfg, cfgNext := s.cell.cfgNext }
    modem := { s.modem with window := none, rx := 0, current := none, buffers := [], delivered := [], frozen := false }
    radio := { s.radio with bursts := s.radio.bursts.filter (·.onAir) } }

end Sys2Proof.Machine
end

