-- ==== Sys2Proof/Machine/CellRx.lean ====
section
/-! DEFINITION. What the Omba unit does with the bursts and messages it receives (R372–R394). -/
namespace Sys2Proof.Machine

/-! Bursts the modem has delivered -/

/-- The first delivered burst of a kind, and the state without it. -/
def State.takeDelivered (kind : Nat) (s : State) : Option (RxFrame × State) :=
  (s.modem.delivered.find? (fun x => x.kind == kind)).map (fun x =>
    (x, { s with modem := { s.modem with delivered := s.modem.delivered.erase x } }))

/-- R357: byte `j` of a payload lies in a failed codeword. -/
def RxFrame.byteBad (x : RxFrame) (j : Nat) : Bool := x.mcs != 0 && x.failed.contains (8 * j / ldpcK (mcsCode x.mcs))

/-- Some byte of `n` from `o` lies in a failed codeword. -/
def RxFrame.bad (x : RxFrame) (o n : Nat) : Bool := !x.failed.isEmpty && (List.range n).any (fun i => x.byteBad (o + i))

/-- R397: a valid burst of a member: LAST_SEEN. -/
def State.heardAt (st : Nat) (s : State) : State := s.modMember st (fun m => { m with lastSeen := s.qt / qtSec % 2 ^ 32 })

/-- R391, R397: a valid scheduled burst of a member in frame `f`. -/
def State.heardFrom (st f : Nat) (s : State) : State := (s.heardAt st).modMember st (fun m => { m with seenFrame := f + 1 })

/-! The beacon on a worker (R372–R374) -/

/-- R374, R392: the manager is heard: after BEACON_LOST, or for the first time, the pair is restored. -/
def State.beaconRegained (s : State) : State :=
  let n := s.cell.missed
  let was := s.cell.lost
  let s := { s with cell := { s.cell with lost := false, missed := 0, gotBeacon := true } }
  let s := if (s.member 0).state = 1 then s else s.restorePair 0
  if was then s.occur 97 0 (le 2 n) else s

/-- R373, R389: a STEP item on a worker whose source is a cell's. -/
def State.takeStepItem (b : Bytes) (s : State) : State :=
  let id := fieldAt 0 2 b
  let d := signedAt 4 8 b
  let k := fieldAt 12 4 b
  if !within 2 4 s.plumb.source then s
  else if k = 0 then
    if s.plumb.step.any (fun p => p.delta.isSome && p.id == id) then { s with plumb := { s.plumb with step := none } } else s
  else if k * qtSec ≤ s.qt then s
  else { s with plumb := { s.plumb with
    slewing := false, step := some { id := id, policy := 0, offset := -d, applyAt := some k, delta := some d } } }

/-- R373: a LEAP item; a worker that decodes satellites keeps its own. -/
def State.takeLeapItem (b : Bytes) (s : State) : State :=
  if s.plumb.source = 1 then s
  else { s with plumb := { s.plumb with utcOffset := signedAt 0 2 b, leap := fieldAt 2 1 b, leapAt := fieldAt 4 4 b } }

/-- R373: the ITEM of a beacon. -/
def State.takeItem (kind : Nat) (b : Bytes) (s : State) : State :=
  match kind with
  | 0 =>
    let v := [fieldAt 0 1 b, fieldAt 1 1 b, fieldAt 2 1 b, fieldAt 3 1 b, fieldAt 4 2 b, fieldAt 6 2 b, fieldAt 8 1 b, fieldAt 9 1 b]
    { s with cell := { s.cell with config := some v } }
  | 1 => s.takeStepItem b
  | 2 => s.takeLeapItem b
  | _ => { s with cell := { s.cell with mgrPos := some { x := signedAt 0 5 b, y := signedAt 5 5 b, z := signedAt 10 5 b } } }

/-- The distance of two positions, the first in mm, the second in 0.1 mm; in mm, rounded down. -/
def distanceMm (a b : Vec3) : Nat :=
  isqrt (((a.x * 10 - b.x) * (a.x * 10 - b.x) + (a.y * 10 - b.y) * (a.y * 10 - b.y) + (a.z * 10 - b.z) * (a.z * 10 - b.z)).toNat / 100)

/-- The distance to the manager, when the worker holds a position bound of at most `mm`. -/
def State.managerDistance (mm : Nat) (s : State) : Option Nat :=
  match s.cell.mgrPos, s.plumb.position with
  | some a, some b => if s.plumb.sigma ≤ mm then some (distanceMm a b) else none
  | _, _ => none

/-- R374: D, 2⁻¹⁶ ns: millimetres over c. -/
def delayOf (mm : Nat) : Nat := mm * 65536 * 1000000 / 299792458

/-- R374: the upper bits of QT_SEC: nearest to the RTC when it is valid, else 0. -/
def State.wholeSeconds (low : Nat) (s : State) : Nat :=
  if s.rtc.valid then low + 2 ^ 32 * ((s.utcNow + s.plumb.utcOffset - low + 2 ^ 31) / 2 ^ 32).toNat else low

/-- R374: what a beacon's stamp lacks of the manager's scale. -/
def State.beaconEstimate (b : Bytes) (stamp : Nat) (s : State) : Int :=
  let d := (s.managerDistance 1000000).elim 0 delayOf
  ((s.wholeSeconds (fieldAt 4 4 b) * qtSec + fieldAt 2 1 b * qtFrame + 16000 * 65536 + d : Nat) : Int) - stamp

/-- R372: a time-transfer or beacon payload whose CRC is right. -/
def crcPayload (b : Bytes) : Bool := b.length == 32 && fieldAt 28 4 b == crc32 (b.take 28)

/-- R372–R374: a beacon on a worker. `lead` is 16 µs on the wire, whose stamp is the start edge at B and not a SYNC_STAMP. -/
def State.takeBeacon (x : RxFrame) (lead : Int) (s : State) : State :=
  let b := x.payload
  if !crcPayload b then s.bump 0x32 2
  else if fieldAt 0 2 b ≠ s.cell.cfg.cellId then s.bump 0x32 4
  else
    let flags := fieldAt 3 1 b
    let s := (s.bump 0x32 1).passOmba 16 0 x.frame b
    let s := s.occur 96 (fieldAt 2 1 b) (le 2 (fieldAt 0 2 b) ++ le 1 x.lq ++ zeros 1 ++ qtBytes x.stamp)
    let s := (s.beaconRegained.heardFrom 0 x.frame).modMember 0 (fun m => { m with timeState := bits 2 0 flags })
    let s := { s with cell := { s.cell with
      mgrState := bits 2 0 flags, mgrBound := fieldAt 8 4 b } }
    let s := s.takeItem (bits 5 4 flags) (slice 12 16 b)
    ({ s with cell := { s.cell with beaconEst := some (s.beaconEstimate b x.stamp - lead) } }).advanceStart

/-- BEACON_RX (R374). -/
def State.beaconRx (s : State) : State :=
  if s.cellRole ≠ 2 then s
  else match s.takeDelivered 0 with
  | some (x, s) => s.takeBeacon x 0
  | none => s

/-- BEACON_RX (R374). -/
def execBeaconRx (s : State) : Step := .next s.beaconRx

/-- BEACON_LOST (R374, R392): BEACON_LOSS frames in a row without a valid beacon; the manager is lost as a peer. -/
def State.beaconLost (s : State) : State :=
  if s.cellRole = 2 ∧ !s.cell.lost ∧ s.param 0x3200 ≤ s.cell.missed then
    let r := ({ s with cell := { s.cell with lost := true } }).losePeer 0 2
    (r.2.2.modMember 0 (fun m => { m with state := if m.state = 1 then 2 else m.state })).occur 97 1 (le 2 s.cell.missed)
  else s

/-- BEACON_LOST (R374). -/
def execBeaconLost (s : State) : Step := .next s.beaconLost

/-! Messages (R376) -/

/-- The messages of a cell section from offset `o`, `n` bytes: those whole, undamaged and for this station. -/
def RxFrame.messages (x : RxFrame) (own : Nat) : Nat → Nat → Nat → List CellMessage
  | 0, _, _ => []
  | fuel + 1, o, n =>
    let len := fieldAt (o + 2) 2 x.payload
    if n < 4 ∨ x.bad o 4 ∨ n < 4 + len then []
    else
      let dest := fieldAt (o + 1) 1 x.payload
      let rest := RxFrame.messages x own fuel (o + 4 + len) (n - 4 - len)
      if x.bad (o + 4) len ∨ (dest ≠ own ∧ dest ≠ 63) then rest
      else { from_ := x.station, kind := fieldAt o 1 x.payload, body := slice (o + 4) len x.payload } :: rest

/-- R376: a body of the length its type has. -/
def CellMessage.legal (m : CellMessage) : Bool :=
  match m.kind with
  | 1 => decide (20 ≤ m.body.length)
  | 2 => within 4 252 m.body.length
  | 3 => m.body.length == 4
  | 4 | 5 => m.body.length == 12
  | 6 => m.body.length == 28
  | 7 => decide (m.body.length ≤ 248)
  | _ => false

/-- R376, R380: a message goes where its type says: Q19, Q20, or to its row. -/
def State.deliverMessage (f : Nat) (s : State) (m : CellMessage) : State :=
  let keep := { s with cell := { s.cell with messages := s.cell.messages ++ [m] } }
  let bytes := ombaMessage m.kind (if m.kind = 6 then 0 else s.ownStation) m.body
  if !m.legal then s
  else if s.cellRole = 2 then
    match m.kind with
    | 1 | 2 | 7 => keep
    | 3 | 4 | 5 => s.offerOmba 19 m.from_ f false bytes
    | _ => s
  else
    match m.kind with
    | 2 | 7 => keep
    | 6 => s.offerOmba 20 m.from_ f false bytes
    | _ => s

/-- The first waiting message of a type, and the state without it. -/
def State.takeMessage (kind : Nat) (s : State) : Option (CellMessage × State) :=
  (s.cell.messages.find? (fun m => m.kind == kind)).map (fun m =>
    (m, { s with cell := { s.cell with messages := s.cell.messages.erase m } }))

/-! The downlink on a worker (R375, R377) -/

/-- R375, R377: the samples of a downlink that are whole: tagged index, channel and word. -/
def RxFrame.samples (x : RxFrame) (first channels frames : Nat) : List (Nat × Nat × Nat) :=
  (List.range frames).flatMap (fun i => (List.range channels).filterMap (fun c =>
    let o := 32 + 3 * (i * channels + c)
    if x.bad o 3 then none else some (first + i, c, fieldAt o 3 x.payload * 256)))

/-- R377, R380: audio whose rate is this part's own is held until its indices come; samples of a piece that a full Q17 drops are
missing. -/
def State.takeAudio (x : RxFrame) (s : State) : State :=
  let first := fieldAt 16 8 x.payload
  let frames := fieldAt 24 2 x.payload
  let channels := fieldAt 26 1 x.payload
  let code := fieldAt 27 1 x.payload
  let r := s.passAudio 0 x.frame first channels code 256 (slice 32 (3 * frames * channels) x.payload)
  let s := r.2
  if code ≠ s.param 0x2000 then s
  else
    let whole := (x.samples first channels frames).filter (fun y => !inSpans r.1 y.1)
    { s with audio := { s.audio with downlink := s.audio.downlink ++ whole } }

/-- R375: a downlink payload on a worker. -/
def State.takeDownlinkBurst (x : RxFrame) (s : State) : State :=
  let b := x.payload
  if b.length < 16 ∨ x.bad 0 16 then s
  else if fieldAt 0 2 b ≠ s.cell.cfg.cellId then s.bump 0x32 4
  else
    let s := (s.bump 0x32 6).heardFrom 0 x.frame
    let s := { s with cell := { s.cell with lqDl := x.lq } }
    let audio := bit 0 (fieldAt 3 1 b) && !x.bad 16 16
    let s := if audio then s.takeAudio x else s
    let o := if bit 0 (fieldAt 3 1 b) then 32 + fieldAt 4 4 b else 16
    (x.messages s.ownStation 4096 o (min (fieldAt 8 2 b) (b.length - o))).foldl (State.deliverMessage x.frame) s

/-- DOWNLINK_RX (R375). -/
def State.downlinkRx (s : State) : State :=
  if s.cellRole ≠ 2 then s
  else match s.takeDelivered 1 with
  | some (x, s) => s.takeDownlinkBurst x
  | none => s

/-- DOWNLINK_RX (R375). -/
def execDownlinkRx (s : State) : Step := .next s.downlinkRx

/-! Time transfer (R381–R385, R394) -/

/-- R385: a result goes to Q18 and TT_RESULT occurs; a flagged one is not used. -/
def State.offerResult (kind svs : Nat) (fail : Bool) (x : Int) (bound delay at_ : Nat) (s : State) : State :=
  let v := le 1 kind ++ le 1 svs ++ le 1 (b01 fail) ++ zeros 1 ++ leInt 8 x ++ le 4 bound ++ le 4 delay ++ qtBytes at_ ++ zeros 2
  let s := s.offerOmba 18 0 (frameOf at_) false v
  let s := if fail then s else { s with cell := { s.cell with lastOffset := x } }
  s.occur 101 kind (leInt 8 x ++ le 4 bound)

/-- R382: d against the distance of the two positions, in mm. The manager's position bound comes with no message: it is free (log
entry 129). -/
def State.geometryFails (d : Int) (s : State) : Bool :=
  match s.cell.mgrPos, s.plumb.position with
  | some a, some b =>
    let off := absNat (d * 299792458 - ((distanceMm a b * 65536000000 : Nat) : Int))
    decide (65536000000 * (s.plumb.sigma + Config.managerSigma a.x a.y a.z) + 300 * 65536 * 299792458 < off)
  | _, _ => false

/-- R381–R383, R394: the manager's burst on a worker; a T4 of 0 says that the last frame's reply did not come. `t1` is its instant on the manager's scale, `deviation` and `combined` the
stamp deviation of this burst and of the exchange, 0.1 ns. -/
def State.takeTtManager (x : RxFrame) (t1 deviation combined : Nat) (s : State) : State :=
  let b := x.payload
  if !crcPayload b ∨ fieldAt 0 1 b ≠ 0 then s
  else
    let t21 : Int := (x.stamp : Int) - t1
    let asym : Int := if s.wired then s.cell.cfg.asym * 65536 / 10 else 0
    let mine := s.cell.ttReplied.filter (fun p => p.1 + 1 == x.frame)
    let s := { s.heardFrom 0 x.frame with cell := { s.cell with ttBurst := some (x.frame, t21) } }
    let s := match mine with
      | none => s
      | some (_, p) =>
        if fieldAt 2 1 b ≠ s.cell.cfg.station ∨ signedAt 4 8 b = 0 then s.bump 0x32 10
        else
          let t43 := signedAt 4 8 b
          let o := (p - t43 - asym) / 2
          let d := (p + t43) / 2
          let fail := s.geometryFails d
          let s := (s.bump 0x32 9).offerResult (if s.wired then 4 else 2) 0 fail o (3 * combined) (toTenths d).toNat t1
          if fail then s else { s with cell := { s.cell with twoWay := some (d, 3 * combined, s.up), twoWayX := some o } }
    match s.cell.twoWay with
    | some (d, w, at_) =>
      if s.up < at_ + s.param 0x3203 * qtSec then
        s.offerResult (if s.wired then 5 else 1) 0 false (t21 - d) (w + 3 * deviation) (toTenths d).toNat t1
      else s
    | none => s

/-- TT_MANAGER_BURST_RX (R382, R383). -/
def State.ttManagerBurstRx (deviation combined : Nat) (s : State) : State :=
  if s.cellRole ≠ 2 then s
  else match s.takeDelivered 2 with
  | some (x, s) => s.takeTtManager x (burstInstant 2 0 x.frame + 16 * qtUs) deviation combined
  | none => s

/-- TT_MANAGER_BURST_RX (R382). -/
def execTtManagerBurstRx (deviation combined : Nat) (s : State) : Step := .next (s.ttManagerBurstRx deviation combined)

/-- R381, R382: a worker's reply on the manager: t4 − t3 for the next frame's burst, and x of the worker. -/
def State.takeTtReply (x : RxFrame) (t3 : Nat) (s : State) : State :=
  let b := x.payload
  let st := fieldAt 2 1 b
  if !crcPayload b ∨ fieldAt 0 1 b ≠ 1 ∨ st = 0 ∨ st ≠ ttWorker x.frame ∨ !s.admittedStation st then s
  else
    let t43 : Int := (x.stamp : Int) - t3
    let asym : Int := if s.wired then s.cell.cfg.asym * 65536 / 10 else 0
    let o := (signedAt 4 8 b - t43 - asym) / 2
    let s := { s with cell := { s.cell with lastReply := some (st, x.frame, t43) } }
    ((s.heardAt st).modMember st (fun m => { m with x := o, offset := toTenths o })).bump 0x32 9

/-- TT_REPLY_RX (R382). -/
def State.ttReplyRx (s : State) : State :=
  if s.cellRole ≠ 1 then s
  else match s.takeDelivered 3 with
  | some (x, s) => s.takeTtReply x (burstInstant 3 0 x.frame + 16 * qtUs)
  | none => s

/-- TT_REPLY_RX (R382). -/
def execTtReplyRx (s : State) : Step := .next s.ttReplyRx

/-! Common view (R384) -/

/-- R384: the antennas are at most CV_MAX_BASELINE apart, or one position is unknown. -/
def State.baselineOk (s : State) : Bool :=
  match s.cell.mgrPos, s.plumb.position with
  | some a, some b => decide (distanceMm a b ≤ s.param 0x3202 * 1000000)
  | _, _ => true

/-- R384: the pairs of a message's records with this part's own records of the same latch: φ_W is corrected by DOPPLER_W × x. A record
with a half cycle to settle is left out (DESIGN CHOICE, log entry 144). -/
def cvPairs (x : Int) (set : List (Bytes × Nat)) (ownRanges mgrRanges weights : List Nat) (body : Bytes) : List CvPair :=
  (List.range (fieldAt 16 1 body)).filterMap (fun i =>
    let r := slice (20 + 16 * i) 16 body
    match set.find? (fun o => fieldAt 1 1 o.1 == fieldAt 0 1 r && fieldAt 2 1 o.1 == fieldAt 1 1 r) with
    | none => none
    | some (own, arc) =>
      let phase := signedAt 12 8 own + signedAt 20 4 own * x / 1000000000000 - signedAt 4 8 r
      if bit 1 (fieldAt 3 1 own) ∨ bit 0 (fieldAt 2 1 r) then none
      else some {
        signal := fieldAt 0 1 r, sv := fieldAt 1 1 r, phase := phase, range := (ownRanges.getD i 0 : Int) - (mgrRanges.getD i 0 : Int)
        weight := max 1 (weights.getD i 1), arc := arc, restart := bit 2 (fieldAt 2 1 r) })

/-- R384: x of a phase difference (2⁻¹⁶ cycle) at `hz`, with `n` its ambiguity; 2⁻¹⁶ ns. -/
def cvOffset (phase range n : Int) (hz : Nat) : Int := -((phase - 65536 * n) * 1000000000 / (hz : Int) + range)

/-- R384: the ambiguity that an x fixes: the nearest integer. -/
def cvAmbiguity (phase range x : Int) (hz : Nat) : Int := (phase + (hz : Int) * (x + range) / 1000000000 + 32768) / 65536

/-- R384: the L1–L5 widelane. -/
def widelaneHz : Nat := 1575420000 - 1176450000

/-- R384: an ambiguity fixed from two-way `x`: first on the L1–L5 widelane of its satellite, then on its band. -/
def CvPair.fixFrom (x : Int) (l : List CvPair) (p : CvPair) : Option Int :=
  let same := fun (q : CvPair) => q.sv == p.sv && signalSystem q.signal == signalSystem p.signal
  match l.find? (fun q => same q && !signalL5 q.signal), l.find? (fun q => same q && signalL5 q.signal) with
  | some a, some b =>
    let wide := a.phase - b.phase
    let xw := cvOffset wide p.range (cvAmbiguity wide p.range x widelaneHz) widelaneHz
    some (cvAmbiguity p.phase p.range xw (carrierHz p.signal))
  | _, _ => none

/-- R384: the ambiguity of a pair: held while its arc continues, and fixed again after NEW_ARC or a slip. -/
def State.cvFix (s : State) (l : List CvPair) (p : CvPair) : Option (CvPair × CvArc) :=
  let held := s.cell.cvArcs.find? (fun a => a.signal == p.signal && a.sv == p.sv && a.arc == p.arc && !p.restart)
  let n := match held with
    | some a => some a.n
    | none => s.cell.twoWayX.bind (fun x => p.fixFrom x l)
  n.map (fun n => (p, { signal := p.signal, sv := p.sv, n := n, arc := p.arc }))

/-- R384: the weighted mean of x over the fixed arcs, rounded down (DESIGN CHOICE, log entry 144). -/
def cvMean (l : List (CvPair × CvArc)) : Int :=
  let w := (l.map (fun y => y.1.weight)).foldl (· + ·) 0
  (l.map (fun y => (y.1.weight : Int) * cvOffset y.1.phase y.1.range y.2.n (carrierHz y.1.signal))).foldl (· + ·) 0 / ((max w 1 : Nat) : Int)

/-- R384: the set is complete: arcs are fixed, and a result of at least 4 of them is offered to Q18 as KIND 3. -/
def State.cvResult (bound instant : Nat) (s : State) : State :=
  let fixed := s.cell.cvPairs.filterMap (s.cvFix s.cell.cvPairs)
  let s := { s with cell := { s.cell with cvArcs := fixed.map (·.2), cvPairs := [], cvSeq := none } }
  if 4 ≤ fixed.length ∧ s.baselineOk then (s.bump 0x32 11).offerResult 3 (min fixed.length 255) false (cvMean fixed) bound 0 instant else s

/-- MEAS (R384): a message is used at a latch instant common to both members; with its last PART the set gives a result. -/
def State.measMessage (ownRanges mgrRanges weights : List Nat) (bound : Nat) (s : State) : State :=
  if s.cellRole ≠ 2 then s
  else match s.takeMessage 1 with
  | none => s
  | some (m, s) =>
    match s.cell.cvSets.find? (fun x => qtBytes x.1 == slice 4 10 m.body) with
    | none => s
    | some (instant, set) =>
      let seq := fieldAt 0 4 m.body
      let old := if s.cell.cvSeq = some seq then s.cell.cvPairs else []
      let new := cvPairs (s.cell.twoWayX.getD 0) set ownRanges mgrRanges weights m.body
      let s := { s with cell := { s.cell with cvSeq := some seq, cvPairs := old ++ new } }
      if fieldAt 14 1 m.body + 1 = fieldAt 15 1 m.body then s.cvResult bound instant else s

/-- MEAS (R384). -/
def execMeas (ownRanges mgrRanges weights : List Nat) (bound : BitVec 32) (s : State) : Step :=
  .next (s.measMessage ownRanges mgrRanges weights bound.toNat)

/-! Control, grants, commits, admission (R386–R390) -/

/-- CTRL (R386): ACK and LIMIT are taken; the next in-order message with a credit goes to Q22. -/
def State.ctrlMessage (s : State) : State :=
  match s.takeMessage 2 with
  | none => s
  | some (m, s) =>
    let st := m.from_
    let seq := fieldAt 0 1 m.body
    let s := s.takeAck st (fieldAt 1 1 m.body) (fieldAt 2 1 m.body)
    let p := s.member st
    if p.state = 1 ∧ seq = p.expect ∧ within 1 128 ((p.limitOut + 256 - seq) % 256) then
      (s.modMember st (fun p => { p with expect := (p.expect + 1) % 256 })).offerOmba 22 st (frameOf s.qt) true (m.body.drop 4)
    else s

/-- CTRL (R386). -/
def execCtrl (s : State) : Step := .next s.ctrlMessage

/-- The message at the head of a queue of the unit, if it is of a type: its station, its body, and the queue without it. -/
def State.takeQueued (n kind : Nat) (s : State) : Option (Nat × Bytes × State) :=
  match (s.queue n).entries with
  | [] => none
  | e :: _ => if fieldAt 8 1 e.data = kind then some (fieldAt 0 1 e.data, e.data.drop 12, s.consume n) else none

/-- GRANT (R386): LIMIT and ACK of the manager. -/
def State.grantMessageRx (s : State) : State :=
  match s.takeQueued 19 3 with
  | some (_, b, s) => s.takeAck 0 (fieldAt 1 1 b) (fieldAt 0 1 b)
  | none => s

/-- GRANT (R386). -/
def execGrant (s : State) : Step := .next s.grantMessageRx

/-- R388: a COMMIT_ID not handled yet. -/
def State.newCommitId (id : Nat) (s : State) : Bool := !s.cell.heardCommit || s.cell.commitId != id

/-- R388: a commit named by the manager. -/
def State.applyCellCommit (id what index : Nat) (s : State) : State :=
  let tests := (s.fsMismatch, Status.notReady) :: s.commitTests what index true
  let s := { s with cell := { s.cell with heardCommit := true, commitId := id } }
  match firstFail tests with
  | some st => { s with cell := { s.cell with commitState := 3, commitStatus := st.code } }
  | none =>
    let s := s.addCommit what index true
    { s with cell := { s.cell with commitState := 1, commitStatus := 0 } }

/-- R387, R388: pending cell commits are withdrawn. -/
def State.withdrawCellCommits (s : State) : State :=
  let gone := s.screed.commits.filter (·.cell)
  gone.foldl (fun s c => s.commitDone c 1) { s with screed := { s.screed with commits := s.screed.commits.filter (fun c => !c.cell) } }

/-- COMMIT (R388). -/
def State.commitMessageRx (s : State) : State :=
  match s.takeQueued 19 4 with
  | none => s
  | some (_, b, s) =>
    let id := fieldAt 0 1 b
    let what := fieldAt 1 1 b
    if bit 7 what then
      if !s.newCommitId id && s.cell.commitState == 1 then s.withdrawCellCommits else s
    else if s.newCommitId id then s.applyCellCommit id (what % 128) (fieldAt 4 8 b)
    else s

/-- COMMIT (R388). -/
def execCommit (s : State) : Step := .next s.commitMessageRx

/-- ADMIT (R390): the last one for a station names this part with ACTION 1, or not. -/
def State.admitMessageRx (s : State) : State :=
  match s.takeQueued 19 5 with
  | none => s
  | some (_, b, s) =>
    let others := s.cell.permits.filter (· != fieldAt 0 1 b)
    let mine := fieldAt 1 1 b == 1 && fieldAt 4 8 b == Config.serial.toNat
    { s with cell := { s.cell with permits := if mine then fieldAt 0 1 b :: others else others } }

/-- ADMIT (R390). -/
def execCellAdmit (s : State) : Step := .next s.admitMessageRx

/-- R388: a worker's outcome of a cell commit whose end is still to come. -/
def State.noteReport (st id outcome : Nat) (s : State) : State :=
  if !within 2 5 outcome then s
  else { s with cell := { s.cell with commits := s.cell.commits.map (fun c =>
    if c.waits && c.id == id then { c with reports := c.reports.filter (fun r => r.1 != st) ++ [(st, outcome)] } else c) } }

/-- REPORT (R379, R388): the member record of the worker. -/
def State.reportMessageRx (s : State) : State :=
  match s.takeQueued 20 6 with
  | none => s
  | some (st, b, s) =>
    let s := s.modMember st (fun m => { m with
      timeState := fieldAt 8 1 b, lqDl := fieldAt 11 1 b, commitId := fieldAt 22 1 b, commitState := fieldAt 23 1 b })
    let s := s.noteReport st (fieldAt 22 1 b) (fieldAt 23 1 b)
    s.takeAck st (fieldAt 21 1 b) (fieldAt 20 1 b)

/-- REPORT (R379). -/
def execReport (s : State) : Step := .next s.reportMessageRx

/-- DIAG (R376, R380): delivered to Q23. -/
def State.diagMessage (s : State) : State :=
  match s.takeMessage 7 with
  | some (m, s) => s.offerOmba 23 m.from_ (frameOf s.qt) false (ombaMessage 7 s.ownStation m.body)
  | none => s

/-- DIAG (R376). -/
def execDiag (s : State) : Step := .next s.diagMessage

/-! The uplink on the manager (R391) -/

/-- R379, R391: the REPORT that leads an uplink is whole and carries the admitted serial. -/
def RxFrame.reportOk (x : RxFrame) (serial : Nat) : Bool :=
  fieldAt 0 1 x.payload == 6 && fieldAt 2 2 x.payload == 28 && decide (32 ≤ x.payload.length) && !x.bad 0 32 &&
  fieldAt 4 8 x.payload == serial

/-- R391: the worker is present; an absent one, or one never heard, joins. -/
def State.markPresent (st serial f lq : Nat) (s : State) : State :=
  let joins := decide ((s.member st).state ≠ 1)
  let s := if joins then (s.restorePair st).bump 0x32 15 else s
  let s := (s.heardFrom st f).modMember st (fun m => { m with missed := 0, lqUl := lq })
  if joins then s.occur 99 st (le 8 serial) else s

/-- R391: an uplink burst of a station; one whose REPORT is lost or carries another SERIAL is missing. -/
def State.takeUplink (x : RxFrame) (s : State) : State :=
  match s.admission x.station with
  | some a =>
    if !a.admitted then s
    else if x.reportOk a.serial then
      let s := (s.bump 0x32 7).markPresent x.station a.serial x.frame x.lq
      (x.messages 0 4096 0 x.payload.length).foldl (State.deliverMessage x.frame) s
    else (s.modMember x.station (fun m => { m with seenFrame := x.frame + 1 })).uplinkMissed x.station
  | none => s

/-- UPLINK_RX (R391). -/
def State.uplinkRx (s : State) : State :=
  if s.cellRole ≠ 1 then s
  else match s.takeDelivered 4 with
  | some (x, s) => s.takeUplink x
  | none => s

/-- UPLINK_RX (R391). -/
def execUplinkRx (s : State) : Step := .next s.uplinkRx

/-! The wire (R393, R394) -/

/-- R393: a burst as characters: address, payload, CRC. -/
def wiredBurst (dest : Nat) (payload : Bytes) : Bytes := le 1 dest ++ payload ++ le 4 (crc32 payload)

/-- R394: the stamp of a received start edge: to 1 / 16 of a bit time, rounded down (DEDUCED, log entry 128). -/
def State.wireStamp (t : Nat) (s : State) : Nat := t / (s.wireBit / 16) * (s.wireBit / 16)

/-- R393: a burst of frame `f` goes out over the UART, its address character's start edge at B. -/
def State.sendWired (kind u f : Nat) (s : State) : State :=
  let c := s.composeBurst kind f
  let p := c.2.wholePayload kind f c.1
  let s := p.2.burstSent kind f c.1 p.1
  { s with cell := { s.cell with wireSent := s.cell.wireSent ++ [(burstInstant kind u f, wiredBurst (if kind ≤ 2 then 63 else 0) p.1)] } }

/-- R368, R393: the slots of a frame that wait on nothing received in it: kind and uplink burst. -/
def wireSlots : List (Nat × Nat) := [(0, 0), (1, 0), (2, 0), (4, 0), (4, 1), (4, 2), (4, 3)]

/-- R368, R392, R393: the bursts whose B has come by QT `t` are composed and sent, those of the slots that are the part's own then. -/
def State.wireUp (t : Nat) (s : State) : State :=
  let ready := fun (p : Nat × Nat × Nat) => decide (burstInstant p.1 p.2.1 p.2.2 ≤ t)
  let due := s.cell.wireDue.filter ready
  due.foldl (fun s p => if s.wired && s.sends p.1 p.2.1 p.2.2 then s.sendWired p.1 p.2.1 p.2.2 else s)
    { s with cell := { s.cell with wireDue := s.cell.wireDue.filter (fun p => !ready p) } }

/-- R368, R393: frame `f` begins on the wire. -/
def State.wiredFrame (f : Nat) (s : State) : State :=
  let s := s.wireUp s.qt
  if !s.wired then s
  else ({ s with cell := { s.cell with wireSent := [], wireDue := wireSlots.map (fun (p : Nat × Nat) => (p.1, p.2, f)) } }).wireUp s.qt

/-- SAMPLE_TICK (R207): with what the cell sends over the wire before the tick's instant (R393). -/
def execSampleTick (received : Nat) (s : State) : Step :=
  .next (s.ascending (fun s => (if s.sampleTicks then s.wireUp (s.indexInstant s.nextIndex) else s).sampleTick received))

/-- WIRED_BURST_RX (R393, R394): a burst with a CRC failure or framing error is discarded whole; the others go where their radio
counterparts go. `start` is the received start edge. The spec gives a wired burst no LQ: it is free. -/
def State.wiredBurstRx (kind station : Nat) (payload : Bytes) (intact : Bool) (start deviation combined : Nat) (s : State) : State :=
  if !s.wired ∨ s.cellRole = 0 ∨ !intact then s
  else
    let f := frameOf start
    let x : RxFrame := { kind := kind, frame := f, station := station, stamp := s.wireStamp start, payload := payload, mcs := 0, failed := []
                         lq := (Config.freeByte s.freeTick).toNat }
    let role := s.cellRole
    let s := ({ s.advance start with freeTick := s.freeTick + 1 }).wireUp start
    match role, kind with
    | 2, 0 => s.takeBeacon { x with station := 0 } (16000 * 65536)
    | 2, 1 => s.takeDownlinkBurst { x with station := 0 }
    | 2, 2 =>
      let s := s.takeTtManager { x with station := 0 } (burstInstant 2 0 f) deviation combined
      if s.sends 3 0 f then s.sendWired 3 0 f else s
    | 1, 3 => s.takeTtReply x (burstInstant 3 0 f)
    | 1, 4 => s.takeUplink x
    | _, _ => s

/-- WIRED_BURST_RX (R393). -/
def execWiredBurstRx (kind : Fin 5) (station : BitVec 6) (payload : Bytes) (intact : Bool) (start deviation combined : Nat) (s : State) : Step :=
  .next (s.wiredBurstRx kind.val station.toNat payload intact start deviation combined)

/-! Frames (R374, R391) -/

/-- R382, R399: an exchange is lost: a worker's when frame `f`, which was to bring its T4, had no manager burst; a wired manager's when the
reply of frame `f` has not come. A radio manager's is counted as its window closes. -/
def State.exchangeLost (f : Nat) (s : State) : Bool :=
  if s.cellRole = 2 then s.cell.ttReplied.any (fun p => p.1 + 1 == f) && !s.heardManager f
  else s.wired && s.admittedStation (ttWorker f) && !s.cell.lastReply.any (fun p => p.2.1 == f)

/-- The end of frame `f` for the unit: a worker counts a missed beacon; a wired manager its missing uplinks; either a lost exchange. -/
def State.endFrame (f : Nat) (s : State) : State :=
  let s := if s.cellRole ≠ 0 ∧ s.exchangeLost f then s.bump 0x32 10 else s
  if s.cellRole = 2 then
    if s.cell.gotBeacon then { s with cell := { s.cell with gotBeacon := false } }
    else ({ s with cell := { s.cell with missed := min 65535 (s.cell.missed + 1) } }).bump 0x32 3
  else if s.cellRole = 1 ∧ s.wired then
    let due := (List.range 4).filterMap (uplinkStation f)
    (due.filter (fun st => s.admittedStation st && (s.member st).seenFrame != f + 1)).foldl (fun s st => s.uplinkMissed st) s
  else s

end Sys2Proof.Machine
end

