-- ==== Sys2Proof/Machine/Flags.lean ====
section
/-! DEFINITION. Carries, borrows, comparisons, parity, bit reversal and CRC steps. -/
namespace Sys2Proof.Machine

/-- The carry out of an `n`-bit sum (R405 ADDC, R412). -/
def carryOut (n a b : Nat) : Nat := b01 (decide (2 ^ n ≤ a + b))

/-- The borrow of an `n`-bit difference a − b (R405 SUBB, R412). -/
def borrow (a b : Nat) : Nat := b01 (decide (a < b))

/-- a + b modulo 2ⁿ. -/
def addMod (n a b : Nat) : Nat := (a + b) % 2 ^ n

/-- a − b modulo 2ⁿ. -/
def subMod (n a b : Nat) : Nat := (a + 2 ^ n - b % 2 ^ n) % 2 ^ n

/-- Signed a < b over `n` bits. -/
def ltSigned (n a b : Nat) : Bool := decide (signed n a < signed n b)

/-- Signed a ≤ b over `n` bits. -/
def leSigned (n a b : Nat) : Bool := decide (signed n a ≤ signed n b)

/-- Arithmetic shift right by 1 of `n` bits (R405 ASR). -/
def asrOne (n a : Nat) : Nat := a / 2 + (if 2 ^ (n - 1) ≤ a then 2 ^ (n - 1) else 0)

/-- Bit `n − 1` ↔ bit 0 and so on (R405 BREV, BREVW). -/
def reverseBits : Nat → Nat → Nat
  | 0, _ => 0
  | n + 1, a => (a % 2) * 2 ^ n + reverseBits n (a / 2)

/-- One for an odd number of ones in `n` bits (R405 PAR). -/
def oddOnes : Nat → Nat → Nat
  | 0, _ => 0
  | n + 1, a => (a % 2 + oddOnes n (a / 2)) % 2

/-- One bit of the CRC16 register, most significant bit first (R407). -/
def crc16Bit (c : Nat) : Nat := if 32768 ≤ c then Nat.xor (c * 2 % 65536) 0x1021 else c * 2

/-- The CRC16 step with REFLECT16 clear (R407). -/
def crc16Step (c b : Nat) : Nat :=
  crc16Bit (crc16Bit (crc16Bit (crc16Bit (crc16Bit (crc16Bit (crc16Bit (crc16Bit (Nat.xor c (b * 256)))))))))

/-- The CRC16 step with REFLECT16 set (R407). -/
def crc16Reflected (c b : Nat) : Nat := crcByte 0x8408 c (BitVec.ofNat 8 b)

/-- The CRC32 step (R407). -/
def crc32Step (c b : Nat) : Nat := crcByte 0xEDB88320 c (BitVec.ofNat 8 b)

end Sys2Proof.Machine
end

