-- ==== Sys2Proof/Machine/CellCmd.lean ====
section
/-! DEFINITION. The commands of the Omba unit, the end of a cell-wide commit, and what its boundaries do (R387–R397). -/
namespace Sys2Proof.Machine

/-! Status (R397) -/

/-- R397: the pending cell commit's index; 0 if none. -/
def State.cellCommitIndex (s : State) : Nat := ((s.screed.commits.find? (·.cell)).map (·.index)).getD 0

/-- R397: the header of cell status. -/
def State.cellHeader (members : Nat) (s : State) : Bytes :=
  le 1 s.cellRole ++ le 1 s.ownStation ++ le 2 s.cell.cfg.cellId ++
  le 1 (b01 s.cell.lost + 2 * b01 s.cell.capacity + 4 * b01 s.cellCommitPending) ++ le 1 members ++ le 1 s.cell.commitId ++ zeros 1 ++
  le 8 s.cellCommitIndex

/-- R397: the record of an admitted station on the manager. -/
def State.workerRecord (st : Nat) (s : State) : Bytes :=
  let m := s.member st
  le 1 st ++ le 1 m.state ++ le 1 m.timeState ++ le 1 m.commitState ++ leInt 4 m.offset ++ le 1 (s.creditsOut st) ++ le 1 m.missed ++
  le 1 m.lqDl ++ le 1 m.lqUl ++ le 4 m.lastSeen

/-- R397: a worker's record of its manager, with its own view; it has no LQ_UL, which is free. -/
def State.managerRecord (s : State) : Bytes :=
  let m := s.member 0
  le 1 0 ++ le 1 m.state ++ le 1 m.timeState ++ le 1 s.cell.commitState ++ leInt 4 (toTenths s.cell.lastOffset) ++ le 1 (s.creditsOut 0) ++
  le 1 (min s.cell.missed 255) ++ le 1 s.cell.lqDl ++ [Config.freeByte s.freeTick] ++ le 4 m.lastSeen

/-- Stations in rising order, one by one. -/
def putSorted (n : Nat) : List Nat → List Nat
  | [] => [n]
  | x :: r => if n ≤ x then n :: x :: r else x :: putSorted n r

/-- R390: the admitted stations in rising order. -/
def State.admittedSorted (s : State) : List Nat := s.admitted.foldl (fun l n => putSorted n l) []

/-- R397: cell status, as CELL_STATUS_GET replies it and slot 3 publishes it. -/
def State.cellStatus (s : State) : Bytes :=
  match s.cellRole with
  | 1 => s.cellHeader s.admittedSorted.length ++ s.admittedSorted.flatMap (fun st => s.workerRecord st)
  | 2 => s.cellHeader 1 ++ s.managerRecord
  | _ => s.cellHeader 0

/-- CELL_STATUS_GET (R397). -/
def cellStatusGet : CmdSpec :=
  { opcode := 0x3211, role := 1, shape := noItems, body := fun _ s => reply 0x3211 s.cellStatus s.draw }

/-- CELL_STATUS_GET (R397). -/
def execCellStatusGet (s : State) : Step := .next (cellStatusGet.run s)

/-! Configuration (R395) -/

/-- The configuration an item holds (R395). -/
def cellCfgOf (v : Bytes) : CellCfg :=
  { cellId := fieldAt 0 2 v, station := fieldAt 2 1 v, dlChannels := fieldAt 3 1 v, dlMcs := fieldAt 4 1 v, ulMcs := fieldAt 5 1 v
    presentMs := fieldAt 6 2 v, credits := fieldAt 8 1 v, link := fieldAt 9 1 v, uart := fieldAt 10 1 v, baud := fieldAt 11 1 v
    asym := signedAt 12 4 v }

/-- R395, check 7: LINK 0 on a radio-N part; a UART the package does not bond. -/
def cellConfigAbsent (s : State) (l : List Item) : Bool :=
  l.any (fun i => (fieldAt 9 1 i.value == 0 && !s.part.radio) || (within 0 3 (fieldAt 10 1 i.value) && !s.uartBonded (fieldAt 10 1 i.value)))

/-- R395: the tests of the item. -/
def State.cellConfigTests (v : Bytes) (s : State) : List (Bool × Status) :=
  let c := cellCfgOf v
  [ (!within 1 62 c.station, .outOfRange), (decide (16 < c.dlChannels), .outOfRange), (!within 1 8 c.dlMcs, .badParam),
    (!within 1 8 c.ulMcs, .badParam), (!within 20 500 c.presentMs || c.presentMs % 10 != 0, .outOfRange),
    (!within 1 4 c.credits, .outOfRange), (decide (1 < c.link), .badParam), (decide (3 < c.uart), .outOfRange),
    (decide (2 < c.baud), .badParam), (!(decide (-100000 ≤ c.asym) && decide (c.asym ≤ 100000)), .outOfRange),
    (decide (maxChannels (s.wiredLink c) (s.param 0x2000) s.radio.plan.rate c.dlMcs c.baud < c.dlChannels), .outOfRange),
    (decide (64 < s.admitted.length * c.credits), .outOfRange) ]

/-- CELL_CONFIG_SET (R395). -/
def cellConfigSet (ok : Bool) : CmdSpec :=
  { opcode := 0x3210, role := 2, journals := true, shape := oneItem 0x3210 16, absent := cellConfigAbsent
    body := fun c s =>
      guarded (s.cellConfigTests c.value) s (c.journalThen ok 0 s (fun s =>
        let g := cellCfgOf c.value
        done { s with
          nv := { s.nv with config := { s.nv.config with cell := g } }
          cell := { s.cell with cfgNext := s.cell.cfgNext ++ [(g, s.boundaryAfter)] } })) }

/-- CELL_CONFIG_SET (R395). -/
def execCellConfigSet (nvOk : Bool) (s : State) : Step := .next ((cellConfigSet nvOk).run s)

/-- R390, R395: the configurations whose second boundary has come; in another cell no ADMIT has been heard. -/
def State.cellBoundary (k : Nat) (s : State) : State :=
  let due := s.cell.cfgNext.filter (fun p => decide (p.2 ≤ k))
  let cfg := (due.getLast?.map (·.1)).getD s.cell.cfg
  { s with cell := { s.cell with
      cfg := cfg, cfgNext := s.cell.cfgNext.filter (fun p => decide (k < p.2))
      permits := if cfg.cellId = s.cell.cfg.cellId then s.cell.permits else [] } }

/-! Admission (R390) -/

/-- WORKER_ADMIT carries both actions; this is the revocation. -/
def isRevoke (l : List Item) : Bool := match l with | i :: _ => fieldAt 1 1 i.value == 0 | [] => false

/-- R390, check 7: only on a tier-A part. -/
def notTierA (s : State) (_ : List Item) : Bool := decide (s.part.tier ≠ .a)

/-- R390: the tests of the item. -/
def State.admitTests (v : Bytes) (s : State) : List (Bool × Status) :=
  let st := fieldAt 0 1 v
  let n := (s.admitted.filter (· != st)).length + fieldAt 1 1 v
  [ (!within 1 62 st, .outOfRange), (decide (1 < fieldAt 1 1 v), .badParam), (fieldAt 2 2 v != 0, .badParam),
    ((s.admission st).any (fun a => a.admitted && a.serial != fieldAt 4 8 v), .badParam),
    (decide (64 < n * s.nv.config.cell.credits), .outOfRange) ]

/-- R390: the admitted list with a station's new entry. -/
def putAdmission (a : Admission) (l : List Admission) : List Admission := l.filter (fun b => b.station != a.station) ++ [a]

/-- R390: an entry of the list is committed. -/
def State.commitAdmission (v : Bytes) (admitted : Bool) (s : State) : State :=
  let a : Admission := { station := fieldAt 0 1 v, serial := fieldAt 4 8 v, admitted := admitted }
  { s with nv := { s.nv with config := { s.nv.config with admissions := putAdmission a s.nv.config.admissions } } }

/-- WORKER_ADMIT with ACTION 1 (R390). -/
def workerAdmit (ok : Bool) : CmdSpec :=
  { opcode := 0x3213, role := 2, journals := true, shape := oneItem 0x3213 12, selects := fun l => !isRevoke l, absent := notTierA
    body := fun c s => guarded (s.admitTests c.value) s (c.journalThen ok 1 s (fun s => done (s.commitAdmission c.value true))) }

/-- WORKER_ADMIT (R390). -/
def execWorkerAdmit (nvOk : Bool) (s : State) : Step := .next ((workerAdmit nvOk).run s)

/-- WORKER_ADMIT with ACTION 0 (R390): a revocation is handled as an absence at once. -/
def workerRevoke (ok : Bool) : CmdSpec :=
  { opcode := 0x3213, role := 2, journals := true, shape := oneItem 0x3213 12, selects := isRevoke, absent := notTierA
    body := fun c s => guarded (s.admitTests c.value) s (c.journalThen ok 1 s (fun s =>
      done ((s.commitAdmission c.value false).markAbsent (c.u 0 1)))) }

/-- WORKER_REVOKE (R390). -/
def execWorkerRevoke (nvOk : Bool) (s : State) : Step := .next ((workerRevoke nvOk).run s)

/-! Cell-wide commits (R387, R388) -/

/-- R387: the earliest index of a cell commit. -/
def State.cellLead (s : State) : Nat := s.currentIndex + s.param 0x3201 * s.fs / 1000

/-- R387: the frame in which an index passes. -/
def State.frameOfIndex (i : Nat) (s : State) : Nat := i * 100 / s.fs

/-- R388: the manager's own COMMIT_STATE for one of its cell commits. -/
def State.ownOutcome (c : CellCommit) (s : State) : Nat := if c.id = s.cell.commitId then s.cell.commitState else c.own

/-- The earlier cell commits that are still to be announced or reported, with the manager's own outcome of each. -/
def State.commitsKept (s : State) : List CellCommit :=
  (s.cell.commits.filter (fun c => c.waits || c.owed || decide (frameOf s.qt ≤ c.last))).map (fun c => { c with own := s.ownOutcome c })

/-- CELL_COMMIT (R387): its own tests, then those of R262. -/
def cellCommit : CmdSpec :=
  { opcode := 0x3212, role := 1, shape := oneItem 0x3212 12, selects := fun l => !isCancel l, absent := notTierA
    naming := fun _ c => firstFail (commitNaming (c.u 0 1))
    body := fun c s =>
      let what := c.u 0 1
      let index := namedIndex s.cellLead (c.u 4 8)
      guarded ([ (decide (s.cellRole ≠ 1), .notReady), (s.cellCommitPending, .busy), (c.u 1 3 != 0, .badParam),
          (decide (index < s.cellLead), .tooLate) ] ++ s.commitTests what index true) s
        (let s := s.addCommit what index true
         let id := (s.cell.commitId + 1) % 256
         let s := { s with cell := { s.cell with
           commitId := id, commitState := 1, commitStatus := 0
           commits := s.commitsKept ++
             [({ id := id, what := what, index := index, last := s.frameOfIndex index, members := s.admitted } : CellCommit)] } }
         reply 0x3212 (le 8 index ++ le 1 id) (s.bump 0x32 16)) }

/-- CELL_COMMIT (R387). -/
def execCellCommit (s : State) : Step := .next (cellCommit.run s)

/-- CELL_COMMIT with CANCEL (R387). -/
def cellCommitCancel : CmdSpec :=
  { opcode := 0x3212, role := 1, shape := oneItem 0x3212 12, selects := isCancel, absent := notTierA
    naming := fun _ c => if !onlyBits 0x83 (c.u 0 1) then some .badParam else none
    body := fun c s =>
      guarded [ (decide (s.cellRole ≠ 1), .notReady), (!s.cellCommitPending, .notReady),
          (c.u 1 3 != 0, .badParam), (decide (s.cellCommitIndex < s.currentIndex + s.fs / 5), .tooLate) ] s
        (let s := s.withdrawCellCommits
         done { s with cell := { s.cell with
           commits := s.cell.commits.map (fun c => if c.id = s.cell.commitId then { c with cancel := true } else c) } }) }

/-- CELL_COMMIT_CANCEL (R387). -/
def execCellCommitCancel (s : State) : Step := .next (cellCommitCancel.run s)

/-- R388: a worker's report of a commit; 0 for one that is silent: none has come, or the worker is absent or revoked. -/
def State.reported (c : CellCommit) (s : State) (st : Nat) : Nat :=
  if (s.member st).state = 1 ∧ s.admittedStation st then ((c.reports.find? (fun r => r.1 == st)).map (·.2)).getD 0 else 0

/-- R388: the stations that a commit's outcome counts: those admitted when it was accepted, and those admitted since. -/
def State.commitMembers (c : CellCommit) (s : State) : List Nat := c.members ++ s.admitted.filter (fun st => !c.members.contains st)

/-- R388: the end of a cell commit is due: every present admitted worker, of at least one, has reported, or 32 frames have passed since
the index. -/
def State.commitEnded (c : CellCommit) (s : State) : Bool :=
  let present := s.admitted.filter (fun st => (s.member st).state == 1)
  (!present.isEmpty && present.all (fun st => s.reported c st != 0)) || decide (s.frameOfIndex c.index + 32 < frameOf s.qt)

/-- CELL_COMMIT_DONE (R388, R398): applied, refused and silent. -/
def State.cellCommitDone (s : State) : State :=
  match s.cell.commits.find? (fun c => c.waits && s.commitEnded c) with
  | none => s
  | some c =>
    if s.cellRole = 1 then
      let l := (s.commitMembers c).map (s.reported c)
      let count := fun (p : Nat → Bool) => (l.filter p).length
      let own := s.ownOutcome c
      let s := { s with cell := { s.cell with commits := s.cell.commits.map (fun d => if d = c then { d with waits := false } else d) } }
      s.occur 100 c.id
        (le 1 (count (· == 2) + b01 (own == 2)) ++ le 1 (count (fun n => n == 3 || n == 5) + b01 (own == 3 || own == 5)) ++
         le 1 (count (· == 0)) ++ zeros 1 ++ le 8 c.index)
    else s

/-- CELL_COMMIT_DONE (R388). -/
def execCellCommitDone (s : State) : Step := .next s.cellCommitDone

end Sys2Proof.Machine
end

