-- ==== Sys2Proof/Machine/Radio.lean ====
section
/-! DEFINITION. The link radio front-end: states, calibration, admission of bursts, power, tuner, tokens, coexistence
(R312–R337). -/
namespace Sys2Proof.Machine

/-- Check 7 on a radio-N part (R337). -/
def radioAbsent (s : State) (_ : List Item) : Bool := !s.part.radio

/-- Sub-band `n`: what the radio keeps of it, and its locks. -/
def State.band_ (n : Nat) (s : State) : SubBand := s.radio.bands.getD n {}
/-- The locks the sequencer holds for sub-band `n` (R326). -/
def State.locksOf (n : Nat) (s : State) : Locks := s.radio.locks.getD n {}

/-- Replace what the radio keeps of sub-band `n`. -/
def State.modSubBand (n : Nat) (f : SubBand → SubBand) (s : State) : State :=
  { s with radio := { s.radio with bands := modAt n f s.radio.bands } }

/-- R312: channels of a sub-band. -/
def channelsOf (sub : Nat) : Nat := match sub with | 0 => 41 | 1 => 49 | _ => 75

/-- R312: hardware power maximum, 0.25 dBm. -/
def hardwareMax (sub : Nat) : Int := if sub = 0 then 80 else 72

/-- R312, R313: the centre ± half the occupied bandwidth lies within the edges; in 100 kHz. -/
def fitsEdges (sub ch rate : Nat) : Bool :=
  let centre := (match sub with | 0 => 24020 | 1 => 51520 | _ => 57260) + 20 * ch
  let edges := match sub with | 0 => (24000, 24835) | 1 => (51500, 52500) | _ => (57250, 58750)
  let half := 25 * 2 ^ rate
  decide (edges.1 + half ≤ centre) && decide (centre + half ≤ edges.2)

/-- R321: CAP, 0.25 dBm, rounded down. -/
def capOf (l : Locks) (gain : Int) : Int := (min (5 * l.maxCond) (5 * l.maxEirp - 2 * gain) - 5 * l.margin) / 5

/-- R323: P_CAP. -/
def State.pCap (sub : Nat) (s : State) : Int := min (capOf (s.locksOf sub) s.radio.plan.gain) (hardwareMax sub)

/-- R321: the power of a burst under a plan, 0.25 dBm; none where CAP does not allow even −10.00 dBm. -/
def State.powerFor (p : ChannelPlan) (probe : Bool) (s : State) : Option Int :=
  let sub := p.subband
  let cap := capOf (s.locksOf sub) p.gain
  let back : Int := if (s.band_ sub).state = 1 then s.param 0x3003 else 0
  let v := min p.power (min (hardwareMax sub) cap) - back
  if cap < -40 then none else if probe then some (-40) else some (max v (-40))

/-- R321: the power of a burst now. -/
def State.burstPower (probe : Bool) (s : State) : Option Int := s.powerFor s.radio.plan probe

/-! Tokens (R328–R330) -/

/-- R329: B of a sub-band, µs. -/
def Locks.budget (l : Locks) : Nat := l.duty * 360000

/-- R329: the sum of the 61 bins. -/
def SubBand.spent (b : SubBand) : Nat := b.bins.foldl (· + ·) 0

/-- R329: the level of a sub-band. -/
def State.tokenLevel (n : Nat) (s : State) : Int := ((s.locksOf n).budget : Int) - (s.band_ n).spent

/-- R320 check 3: airtime reserved by accepted bursts that have not begun. -/
def State.reserved_ (n : Nat) (s : State) : Nat :=
  ((s.radio.bursts.filter (fun b => b.subband == n && !b.onAir)).map (·.airtime)).foldl (· + ·) 0

/-- R330: an empty bucket. -/
def emptyBins (l : Locks) : List Nat := 0 :: List.replicate 60 (l.budget / 60)

/-- R329: `n` minutes have begun: older bins leave the sum. -/
def rollBins (n : Nat) (l : List Nat) : List Nat := (List.replicate (min n 61) 0 ++ l).take 61

/-- R329: the level is below TOKENS_LOW percent of B. -/
def State.tokensLow (n : Nat) (s : State) : Bool :=
  s.param 0x3009 != 0 && decide (s.tokenLevel n * 100 < (((s.locksOf n).budget * s.param 0x3009 : Nat) : Int))

/-- TOKEN_BIN_ROLL (R329): the next QT minute begins. -/
def State.tokenBinRoll (s : State) : State :=
  let s := s.advance (max s.qt ((s.radio.minute + 1) * (60 * qtSec)))
  let m := s.qt / (60 * qtSec)
  let bands := s.radio.bands.map (fun (b : SubBand) => { b with bins := rollBins (m - s.radio.minute) b.bins })
  let s : State := { s with radio := { s.radio with minute := m, bands := bands } }
  { s with radio := { s.radio with bands := bands.mapIdx (fun n (b : SubBand) => { b with low := b.low && s.tokensLow n }) } }

/-- TOKEN_BIN_ROLL (R329). -/
def execTokenBinRoll (s : State) : Step := .next s.tokenBinRoll

/-- R329, R335: TOKENS_LOW occurs when the level falls below its share of B. -/
def State.noteTokens (n : Nat) (s : State) : State :=
  let low := s.tokensLow n
  let was := (s.band_ n).low
  let s := s.modSubBand n (fun b => { b with low := low })
  if low && !was then s.occur 92 n (leInt 4 (s.tokenLevel n) ++ le 4 (s.locksOf n).budget) else s

/-- R329: the airtime of a burst is charged. -/
def State.charge (n airtime : Nat) (s : State) : State :=
  (s.modSubBand n (fun b => { b with bins := modAt 0 (fun v => wrap32 (v + airtime)) b.bins })).noteTokens n

/-! The schedule (R317, R366–R369) -/

/-- R368: a slot's span within its frame, µs. -/
def slotSpan (kind u : Nat) : Nat × Nat :=
  match kind with
  | 0 => (0, 200)
  | 1 => (200, 5200)
  | 2 => (5200, 5700)
  | 3 => (5700, 6200)
  | _ => (6200 + 850 * u, 7050 + 850 * u)

/-- R366, R369: the station whose burst the part expects in a slot; none where it does not listen. -/
def State.expects (kind u f : Nat) (s : State) : Option Nat :=
  match s.cellRole, kind with
  | 2, 0 | 2, 1 | 2, 2 => some 0
  | 1, 3 => if s.admittedStation (ttWorker f) then some (ttWorker f) else none
  | 1, 4 => (uplinkStation f u).filter (fun st => s.admittedStation st)
  | _, _ => none

/-- R15, R315: the part listens: the unit runs, or a worker waits for the beacon of its first estimate. -/
def State.mayListen (s : State) : Bool :=
  s.part.radio && !s.wired && (s.cellRuns || (s.cellRole == 2 && !s.plumb.estimated && decide (3 ≤ s.rst.startStep)))

/-- R314: from the transition start to the PA ramp, µs: 10 from RX and from TX, 8 from SYNTH_ON. -/
def State.entrySpan (b : Burst) (s : State) : Nat := if within 4 5 s.radio.state || (s.locksOf b.subband).lbt then 10 else 8

/-- The transition start of a burst (R314): a transition to TX ends at the first symbol, B. -/
def State.transitionOf (b : Burst) (s : State) : Nat := b.start - (s.entrySpan b + b.ramp) * qtUs

/-- R368: the slots of a frame: kind and uplink index. -/
def frameSlots : List (Nat × Nat) := [(0, 0), (1, 0), (2, 0), (3, 0), (4, 0), (4, 1), (4, 2), (4, 3)]

/-- R368: when the last symbol of a burst has ended at the latest, µs into the frame. -/
def lastSymbol (kind u : Nat) : Nat := match kind with | 0 => 182 | 1 => 5192 | 2 => 5400 | 3 => 5884 | _ => 6970 + 850 * u

/-- R317: a transmission that the schedule gives the part: from its transition start to the end of its ramp-down. -/
def State.sendSpan (kind u f : Nat) (s : State) : Option (Nat × Nat) :=
  if s.ownsSlot kind u f then
    some (burstInstant kind u f - (10 + s.param 0x3104) * qtUs, f * qtFrame + (lastSymbol kind u + s.param 0x3104) * qtUs)
  else none

/-- R314, R317: a receive slot that the schedule gives the part: from its transition start to its end. -/
def State.listenSpan (kind u f : Nat) (s : State) : Option (Nat × Nat) :=
  if s.mayListen && s.plumb.estimated && (s.expects kind u f).isSome then
    some (f * qtFrame + (slotSpan kind u).1 * qtUs - 8 * qtUs, f * qtFrame + (slotSpan kind u).2 * qtUs)
  else none

/-- The scheduled activities of this frame and the next (R317). -/
def State.activities (s : State) : List (Nat × Nat) :=
  let f := frameOf s.qt
  [f, f + 1].flatMap (fun f => frameSlots.flatMap (fun k => (s.sendSpan k.1 k.2 f).toList ++ (s.listenSpan k.1 k.2 f).toList))

/-- R314: time until a calibration could begin: from SLEEP the chain first reaches STANDBY. -/
def State.calLead (s : State) : Nat := if s.radio.state = 1 then 1500 * qtUs else if s.radio.state = 2 then s.radio.standbyAt - s.up else 0

/-- R18, R317: an idle gap of at least 270 µs from where a calibration can begin. -/
def State.idleGap (s : State) : Bool :=
  let t := s.qt + s.calLead + 270 * qtUs
  s.modem.window.isNone && s.radio.bursts.all (fun b => decide (t ≤ s.transitionOf b)) &&
  s.activities.all (fun a => decide (a.2 ≤ s.qt) || decide (t ≤ a.1))

/-! Listen before talk (R331) -/

/-- R331: a clear-channel check is due before a burst whose PA ramp begins at `t` (State.up). -/
def State.listensAt (x : Burst) (t : Nat) (s : State) : Bool :=
  (s.locksOf x.subband).lbt &&
  (match (s.band_ x.subband).lastEnd with | some e => decide (e + 100 * qtUs < t) | none => true)

/-- R331: a clear-channel check is due before this burst, at its transition start. -/
def State.listens (x : Burst) (s : State) : Bool := s.listensAt x (s.up + s.entrySpan x * qtUs)

/-- R331: where the 18 µs of the check end: at the transition start, or in the gap before the own slots that they would overlap (with
the 8 µs of the entry to RX). -/
def State.listenEnd (x : Burst) (s : State) : Nat :=
  let f := frameOf x.start
  let own := [f - 1, f].flatMap (fun f => frameSlots.filterMap (fun k => s.sendSpan k.1 k.2 f))
  own.reverse.foldl (fun e a => if a.1 + 4 * qtUs < e ∧ e < a.2 + 26 * qtUs then a.1 else e) (s.transitionOf x)

/-- R331: the chain is in RX on the channel of the next burst, for its check. -/
def State.listening (s : State) : Bool :=
  match s.radio.bursts.head? with
  | some x =>
    let e := s.listenEnd x
    !x.onAir && s.listensAt x (s.up + (x.start - x.ramp * qtUs - s.qt)) && decide (e ≤ s.qt + 18 * qtUs) && decide (s.qt < e)
  | none => false

/-- R314, R336: the state of the chain at this instant: on its way from SLEEP, listening for a clear channel, or as it stands. -/
def State.radioNow (s : State) : Nat :=
  let k := s.radio.state
  if 2 ≤ k ∧ s.up < s.radio.standbyAt then 1
  else if k = 3 ∧ s.up < s.radio.synthAt then 2
  else if k = 3 ∧ s.listening then 4
  else k

/-! Coexistence, external front-end and blanking (R128, R332, R333) -/

/-- A superframe parameter as the radio uses it; in Watch the committed value (R53). -/
def State.radioParam (id : Nat) (s : State) : Nat := if s.power.mode = .watch then s.committed id else s.param id

/-- R332: the mode of arbitration. -/
def State.coexMode (s : State) : Nat := bits 1 0 (s.radioParam 0x3007)

/-- R332: a burst whose request for the medium stands: from COEX_LEAD before its transition start. -/
def State.asksMedium (b : Burst) (s : State) : Bool := b.onAir || decide (s.transitionOf b ≤ s.qt + s.radioParam 0x3008 * qtUs)

/-- R332: a slot of the schedule of this frame or the next, of those `f` gives a span, that has begun or begins within COEX_LEAD. -/
def State.asksSlot (f : Nat → Nat → Nat → State → Option (Nat × Nat)) (k : Nat × Nat) (s : State) : Bool :=
  [frameOf s.qt, frameOf s.qt + 1].any (fun n => match f k.1 k.2 n s with
    | some a => decide (s.qt < a.2) && decide (a.1 ≤ s.qt + s.radioParam 0x3008 * qtUs)
    | none => false)

/-- R332: the span of a scheduled burst that has not been requested yet. -/
def State.unsentSpan (kind u f : Nat) (s : State) : Option (Nat × Nat) :=
  if s.radio.lastB.any (fun b => decide (burstInstant kind u f ≤ b)) then none
  else (s.sendSpan kind u f).bind (fun a => if s.qt ≤ a.1 then some a else none)

/-- R332: a burst of these slots of the schedule, accepted or still to be requested, asks for the medium. -/
def State.asksSend (pri : Bool) (s : State) : Bool :=
  s.radio.bursts.any (fun b => s.asksMedium b && (!pri || b.kind == 0 || within 2 3 b.kind)) ||
  frameSlots.any (fun k => (!pri || k.1 == 0 || within 2 3 k.1) && s.asksSlot State.unsentSpan k)

/-- R53, R332: a receive slot or a Watch window of the radio, from COEX_LEAD before its transition start to its end. -/
def State.asksListen (s : State) : Bool :=
  s.modem.window.isSome || (s.power.mode == .watch && s.power.watchOpen) || frameSlots.any (fun k => s.asksSlot State.listenSpan k)

/-- The radio domain is powered (R502, R516). -/
def State.radioOn (s : State) : Bool := s.part.radio && (s.power.mode.serves || (s.power.mode == .watch && s.power.watchOpen))

/-- R53, R332: COEX_REQ is high. -/
def State.coexReq (s : State) : Bool :=
  s.radioOn && ((s.coexMode != 0 && s.asksSend false) || (s.coexMode == 2 && s.asksListen))

/-- R332: COEX_PRI is high: a beacon, a time-transfer burst or a receive slot. -/
def State.coexPri (s : State) : Bool :=
  s.radioOn && ((s.coexMode != 0 && s.asksSend true) || (s.coexMode == 2 && s.asksListen))

/-- R333: the external radio holds the medium. -/
def State.extBlank (s : State) : Bool := s.radioOn && bit 2 (s.radioParam 0x3007) && !s.radio.coexGnt && !s.coexReq

/-- R128, R333: a transmission blanks the sample of time `t` (State.up): TX_BLANK_GUARD before its PA ramp to as long after its
ramp-down. -/
def State.txBlankedAt (t : Nat) (s : State) : Bool :=
  s.radio.bursts.any (fun b => b.onAir && decide (b.rampAt ≤ t + b.guard)) ||
  s.radio.blanks.any (fun r => decide (r.1 ≤ t) && decide (t < r.2))

/-- R128, R333: the blanking of transmissions. -/
def State.txBlank (s : State) : Bool :=
  s.txBlankedAt s.up

/-- R128, R453: every sample of both bands is replaced by 0. -/
def State.gnssBlanked (s : State) : Bool := s.txBlank || s.extBlank || (s.pll 2).state == 3

/-- A burst is between its transition start and the end of its ramp-down. -/
def State.onAir (s : State) : Bool := s.radio.bursts.any (fun b => b.onAir)

/-- R53, R60, R333: EXT_PA_EN. -/
def State.extPaEn (s : State) : Bool := s.radioOn && bit 0 (s.radioParam 0x300A) && s.onAir
/-- R333: EXT_LNA_EN. -/
def State.extLnaEn (s : State) : Bool := s.radioOn && bit 1 (s.radioParam 0x300A) && s.radioNow == 4
/-- R333: EXT_SW0: while the chain receives or transmits in sub-band 1 or 2 (DESIGN CHOICE, log entry 108). -/
def State.extSw0 (s : State) : Bool :=
  s.radioOn && bit 2 (s.radioParam 0x300A) && (s.radioNow == 4 || s.onAir) && decide (1 ≤ s.radio.plan.subband)
/-- R333: EXT_SW1. -/
def State.extSw1 (s : State) : Bool := s.radioOn && bit 2 (s.radioParam 0x300A) && s.onAir

/-- COEX_GNT (R60, R333): a radio-N part ignores it. -/
def State.coexGnt (level : Bool) (s : State) : State :=
  if s.part.radio then { s with radio := { s.radio with coexGnt := level, gntBefore := s.radio.coexGnt, gntSince := s.up } } else s

/-- R332: the grant as it stood at a transition start (State.up). -/
def State.gntAt (t : Nat) (s : State) : Bool := if t < s.radio.gntSince then s.radio.gntBefore else s.radio.coexGnt

/-- COEX_GNT (R333). -/
def execCoexGnt (level : Bool) (s : State) : Step := .next (s.coexGnt level)

/-- R347, R348: the AGC and the offset unfreeze; the clips of the frozen gain are counted, as many as there were, which is free. -/
def State.unfreezeAgc (s : State) : State :=
  if s.modem.frozen then
    ({ s.draw with modem := { s.modem with frozen := false } }).bumpBy 0x31 9 (Config.freeNat s.freeTick)
  else s

/-! Radio states and calibration (R314–R319) -/

/-- R448, R452: PLL 3 retunes, its detector masked. -/
def State.retuneRadio (s : State) : State :=
  (s.modPll 3 (fun p => if p.state = 5 then { p with thawed := 4 } else if p.state = 2 then { p with state := 4 } else p)).bump 0x50 11

/-- The key of a channel in `Radio.pfd` and `Radio.tuned`. -/
def ChannelPlan.key (p : ChannelPlan) : Nat := p.subband * 128 + p.channel

/-- PLL 3 stands on the plan's channel. -/
def State.tunedTo (s : State) : State := { s with radio := { s.radio with tuned := s.radio.plan.key } }

/-- The retune of PLL 3 ends on the VCO frequency and the REF_MODE of the channel. -/
def State.tuneRadio (mode : Nat) (s : State) : State :=
  s.modPll 3 (fun p => { p with
    state := if p.state = 4 then 2 else p.state, thawed := if p.thawed = 4 then 2 else p.thawed
    refMode := mode, vco := radioVco s.radio.plan }) |>.tunedTo

/-- R448: the REF_MODE stored with a channel's calibration; a channel without one keeps that in force (DESIGN CHOICE, log entry 109). -/
def State.channelPfd (s : State) : Nat :=
  match s.radio.pfd.find? (fun (p : Nat × Nat) => p.1 == s.radio.plan.key) with | some p => p.2 | none => (s.pll 3).refMode

/-- R314: when the chain reaches STANDBY (State.up) if the schedule needs it now: maximum times. -/
def State.standbyBy (s : State) : Nat := if s.radio.state = 1 then s.up + 1500 * qtUs else max s.up s.radio.standbyAt

/-- R314: when it is ready from there: calibrated first, where no calibration has come since the wake. -/
def State.wakeReady (s : State) : Nat := s.standbyBy + (if s.radio.calibrated then 70 else 260) * qtUs

/-- R318: the ready instant (State.up), from the maximum remaining settling and calibration times: a calibration that RF_CAL has made
immediate, and the channel change of a plan that is to take effect (R314, R323), included. -/
def State.chainReady (s : State) : Nat :=
  let k := s.radio.state
  let t := if within 1 2 k then s.wakeReady else s.radio.readyAt
  let t := if s.radio.immediate && k != 6 then max t s.up + 260 * qtUs else t
  if within 3 4 k ∧ s.radio.tuned ≠ s.radio.plan.key then max t (s.up + ((s.qt / qtSec + 1) * qtSec - s.qt)) + 70 * qtUs else t

/-- R314, R316: the schedule or a command needs the radio; without a calibration since the wake it calibrates first. -/
def State.wakeRadio (s : State) : State :=
  if !within 1 2 s.radio.state then s
  else
    let b := s.standbyBy
    let r := s.wakeReady
    if s.radio.calibrated then { s with radio := { s.radio with state := 3, standbyAt := b, synthAt := r, readyAt := r } }
    else { s.retuneRadio with radio := { s.radio with state := 6, standbyAt := b, readyAt := r, cal := some (s.radio.cal.getD 2) } }

/-- RF_CAL (R319): a second trigger joins a calibration that is due or runs (R317). In Timing it wakes the radio to STANDBY. -/
def rfCal : CmdSpec :=
  { opcode := 0x3010, role := 1, shape := oneItem 0x3010 1, absent := radioAbsent
    body := fun c s =>
      guarded [(s.radio.calTicket.isSome, .busy), (!onlyBits 1 (c.u 0 1), .badParam)] s
        (let t := c.ticket s
         let r := { s.radio with
           calTicket := some t, cal := some (s.radio.cal.getD 0), immediate := s.radio.immediate || bit 0 (c.u 0 1) }
         let s := { s with radio := r }
         { status := .accepted
           state := if s.power.mode = .timing ∧ s.radio.state = 1 then
               { s with radio := { s.radio with state := 2, standbyAt := s.up + 1500 * qtUs } }
             else s }) }

/-- RF_CAL (R319). -/
def execRfCal (s : State) : Step := .next (rfCal.run s)

/-- R316: a die temperature (0.1 °C) that has moved by more than CAL_TEMP_STEP makes a calibration due. -/
def State.temperatureCal (t : Int) (s : State) : State :=
  if s.part.radio ∧ s.radio.calibrated ∧ s.radio.cal.isNone ∧ s.param 0x3000 * 10 < absNat (t - s.radio.calTemp) then
    { s with radio := { s.radio with cal := some 1 } }
  else s

/-- R15, R315: a calibration may take the radio out of SLEEP: in a run mode from step 6 on, elsewhere for a command. -/
def State.calAllowed (s : State) : Bool :=
  s.radio.state != 1 || (if s.power.mode.run then decide (6 ≤ s.rst.startStep) else s.radio.calTicket.isSome)

/-- CAL_START (R317, R319): a due calibration begins in an idle gap, or at once when IMMEDIATE; a receive slot it breaks is
missed (R318), and what the AGC had frozen is released (R347). -/
def State.calStart (s : State) : State :=
  let free := s.radio.immediate || s.idleGap
  if s.part.radio ∧ s.radio.cal.isSome ∧ s.radio.state ≠ 6 ∧ s.radio.state ≠ 5 ∧ free ∧ s.calAllowed ∧ s.power.mode.serves then
    let b := if within 1 2 s.radio.state then s.standbyBy else max s.radio.readyAt s.up
    let missed := s.modem.window.isSome
    let s := s.unfreezeAgc
    let s := { s.retuneRadio with
      radio := { s.radio with state := 6, standbyAt := if within 1 2 s.radio.state then b else s.radio.standbyAt, readyAt := b + 260 * qtUs }
      modem := { s.modem with window := none, rx := 0, current := none } }
    if missed then s.bump 0x30 7 else s
  else s

/-- CAL_START (R317). -/
def execCalStart (s : State) : Step := .next s.calStart

/-- R325: a probe of each stopped sub-band. -/
def State.probeStopped (s : State) : State :=
  { s with radio := { s.radio with bands := s.radio.bands.map (fun b => { b with probe := b.probe || b.state == 2 }) } }

/-- R316, R348: a calibration sets the loop gain, measures the static offset of each branch and nulls the transmit leakage; the figures
are the part's own, so free. -/
def State.measureDc (s : State) : State :=
  let f := fun k => Config.freeInt (s.freeTick + k)
  { s with freeTick := s.freeTick + 5, radio := { s.radio with dc := (f 0, f 1), leak := (f 2, f 3), loopGain := f 4 } }

/-- R316, R514: a calibration within a Watch window: the listening follows, and nothing leaves the domain (R503). -/
def State.watchCal (temp : Int) (vco : Nat) (s : State) : State :=
  let s := (s.tuneRadio (radioPfd s.clocks.refHz (radioVco s.radio.plan))).measureDc
  { s with radio := { s.radio with state := 4, calibrated := true, calTemp := temp, vcoBand := vco, cal := none } }

/-- CAL_COMPLETE (R316, R319, R335, R348, R448). -/
def State.calComplete (temp : Int) (vco : Nat) (s : State) : State :=
  if s.radio.state ≠ 6 then s
  else if s.power.mode = .watch then s.watchCal temp vco
  else
    let k := s.radio.cal.getD 0
    let v := leInt 2 temp ++ le 1 vco
    let ticket := s.radio.calTicket
    let mode := radioPfd s.clocks.refHz (radioVco s.radio.plan)
    let s := (s.tuneRadio mode).measureDc
    let s := { s with radio := { s.radio with
      state := 3, calibrated := true, calTemp := temp, vcoBand := vco, cal := none, immediate := false, calTicket := none
      pfd := Table.insert s.radio.plan.key mode s.radio.pfd } }
    let s := (s.bump 0x30 (9 + k)).occur 88 k v
    match ticket with
    | some t => (s.probeStopped).complete 0x3010 t .ok [{ id := 0x3010, value := v }]
    | none => s

/-- CAL_COMPLETE (R316). -/
def execCalComplete (temp : BitVec 16) (vcoBand : BitVec 8) (s : State) : Step :=
  .next (s.calComplete (signed 16 temp.toNat) vcoBand.toNat)

/-- RADIO_IDLE_SLEEP (R314): no scheduled activity for 5 ms. -/
def State.radioIdleSleep (s : State) : State :=
  if within 2 4 s.radio.state ∧ s.radio.bursts.isEmpty ∧ s.modem.window.isNone ∧ s.radio.cal.isNone then
    { s with radio := { s.radio with state := 1 } }
  else s

/-- RADIO_IDLE_SLEEP (R314). -/
def execRadioIdleSleep (s : State) : Step := .next s.radioIdleSleep

/-! Admission (R318, R320) -/

/-- R371, R320: a refused burst. -/
def State.refuseBurst (reason b : Nat) (s : State) : State :=
  let d := le 1 s.radio.plan.subband ++ le 1 s.radio.plan.channel ++ qtBytes b
  ((s.bump 0x30 reason).bump 0x32 18).occur 89 reason d

/-- The first frame at or after `least` that is `r` modulo `p`. -/
def nextFrame (least p r : Nat) : Nat := least + (r + p - least % p) % p

/-- The next burst of a kind that this part may request: its uplink index and its frame (R318, R368, R369). -/
def State.nextBurst (kind : Nat) (s : State) : Nat × Nat :=
  let k := s.cell.cfg.station - 1
  let u := if kind = 4 then k % 4 else 0
  let p := match kind with | 3 => 64 | 4 => 16 | _ => 1
  let r := match kind with | 3 => k % 64 | 4 => k / 4 | _ => 0
  let lead := (s.param 0x3001 + 10 + s.param 0x3104) * qtUs
  let least := max (s.qt + lead) (match s.radio.lastB with | some b => b + 1 | none => 0)
  (u, nextFrame ((least + qtFrame - 1 - burstOffset kind u * qtUs) / qtFrame) p r)

/-- R368: RATE and MCS of a burst kind. -/
def State.burstRate (kind : Nat) (s : State) : Nat := if kind = 0 then 0 else s.radio.plan.rate
/-- R368: its MCS. -/
def State.burstMcs (kind : Nat) (s : State) : Nat := match kind with | 1 => s.cell.cfg.dlMcs | 4 => s.cell.cfg.ulMcs | _ => 0

/-- R320 check 1, R327: the locks forbid the channel, the rate, the sub-band or the antenna gain of the plan. -/
def State.lockedOut (rate : Nat) (s : State) : Bool :=
  let l := s.locksOf s.radio.plan.subband
  !l.permitted || !bit rate l.rates || !bit s.radio.plan.channel l.channels || decide (s.radio.plan.gain < l.minGain)

/-- R320, R453: checks 1–4, in order; `need` is the airtime. -/
def State.admission_ (rate need : Nat) (s : State) : Option Nat :=
  let sub := s.radio.plan.subband
  let b := s.band_ sub
  let ready := s.chainReady
  if s.lockedOut rate ∨ (s.burstPower b.probe).isNone then some 4
  else if b.state = 2 ∧ !b.probe then some 3
  else if s.tokenLevel sub < ((s.reserved_ sub + need : Nat) : Int) then some 2
  else if (s.pll 3).state = 3 ∨ s.up + s.param 0x3001 * qtUs < ready then some 1
  else none

/-- R323: the plan that is in force at QT `b`. -/
def State.planAt (b : Nat) (s : State) : ChannelPlan :=
  ((s.radio.planNext.filter (fun (p : ChannelPlan × Nat) => decide (p.2 * qtSec ≤ b))).getLast?.map (·.1)).getD s.radio.plan

/-- The sequencer reckons with another plan. -/
def State.withPlan (p : ChannelPlan) (s : State) : State := { s with radio := { s.radio with plan := p } }

/-- TX_REQUEST (R318, R320, R323): the request of the next burst of a kind that the part is to send, under the plan in force at its B. -/
def State.txRequest (kind : Nat) (s : State) : State :=
  let n := s.nextBurst kind
  if !s.part.radio ∨ s.wired ∨ frameOf s.qt + 1 < n.2 ∨ !s.sends kind n.1 n.2 then s
  else
    let b := burstInstant kind n.1 n.2
    let ramp := s.param 0x3104
    let s := s.advance (b - (s.param 0x3001 + 10 + ramp) * qtUs)
    let now := s.radio.plan
    let p := s.planAt b
    let s := ({ s with radio := { s.radio with lastB := some b } } : State).withPlan p
    let c := s.composeBurst kind n.2
    let bytes := if kind = 1 then 16 + audioBytes s.fs c.1.audio + c.1.body.length else c.1.body.length
    let need := burstAirtime (s.burstRate kind) (s.burstMcs kind) bytes ramp
    match s.admission_ (s.burstRate kind) need with
    | some reason =>
      let s := s.refuseBurst reason b
      ((if kind = 1 then s.downlinkLost n.2 else s).withPlan now).wakeRadio
    | none =>
      let probe := (s.band_ p.subband).probe
      let power := (s.burstPower probe).getD (-40)
      let x : Burst := { kind := kind, frame := n.2, start := b, airtime := need, subband := p.subband, power := power, probe := probe
                         load := c.1, plan := p, ramp := ramp }
      let s := c.2
      (({ s with radio := { s.radio with bursts := s.radio.bursts ++ [x] } } : State).withPlan now).wakeRadio

/-- TX_REQUEST (R318). -/
def execTxRequest (kind : Fin 5) (s : State) : Step := .next (s.txRequest kind.val)

/-- The accepted burst at the head leaves without being sent; the messages of a downlink go in the next one (R371). -/
def State.dropBurst (x : Burst) (s : State) : State :=
  let s := { s with
    radio := { s.radio with bursts := s.radio.bursts.drop 1 }
    cell := { s.cell with measOut := x.load.meas ++ s.cell.measOut } }
  if x.kind = 1 then s.downlinkLost x.frame else s

/-- R335: LBT_BLOCKED. -/
def State.lbtBlocked (x : Burst) (power : Int) (s : State) : State :=
  ((s.dropBurst x).bump 0x30 6).bump 0x32 18 |>.occur 93 x.subband (leInt 2 power ++ qtBytes x.start)

/-- R322: the correction of a burst, 0.25 dB: the calibration table's for the die temperature (0.1 °C) and VDD_PA (mV) at its
transition start; it never raises P above CAP. -/
def State.paCorrection (x : Burst) (temp : Int) (vdd : Nat) (s : State) : Int :=
  min (Config.paTable s.radio.calTemp temp vdd) (capOf (s.locksOf x.subband) x.plan.gain - x.power)

/-- R325: the mismatch state lets a burst that was accepted begin: a stopped sub-band sends one probe (log entry 139). -/
def State.mismatchAllows (x : Burst) (s : State) : Bool := (s.band_ x.subband).state != 2 || (s.band_ x.subband).probe

/-- R321, R325, R334: the burst as it goes out: power and probe by the mismatch state of its transition start, and the parameters that
its end is judged by. -/
def State.readyBurst (x : Burst) (temp : Int) (vdd : Nat) (s : State) : Burst :=
  let probe := (s.band_ x.subband).probe && (s.band_ x.subband).state == 2
  let x := { x with probe := probe, power := (s.powerFor x.plan probe).getD (-40) }
  { x with
    onAir := true, rampAt := s.up + (x.start - x.ramp * qtUs - s.qt), guard := s.param 0x1007 * 65536, correction := s.paCorrection x temp vdd
    tuner := s.param 0x3005, reduce := s.param 0x3002 }

/-- R322, R329, R333, R341, R358, R359: the burst goes on the air. -/
def State.startBurst (x : Burst) (temp : Int) (vdd : Nat) (s : State) : State :=
  let x := s.readyBurst x temp vdd
  let s := s.charge x.subband x.airtime
  let rate := if x.kind = 0 then 0 else x.plan.rate
  let p := s.wholePayload x.kind x.frame x.load
  let s := ((p.2.burstSent x.kind x.frame x.load p.1).bump 0x30 0).bump 0x31 0
  let fixed := s.param 0x3006
  let s := s.modSubBand x.subband (fun b =>
    let b := { b with probe := b.probe && !x.probe }
    if x.tuner = 0 then { b with series := bits 5 0 fixed, shunt := bits 13 8 fixed, before := none } else b)
  let y := modulate rate (s.burstMcs x.kind) (x.frame % 100 % 16) (s.param 0x3101) p.1
  let rise := rampRise rate x.ramp (s.param 0x3105) (s.param 0x3106)
  { s with radio := { s.radio with
      state := 5, sent := p.1
      symbols := y
      rise := rise
      samples := envelope rise y.length (transmitSamples (s.param (0x3107 + x.subband)) y)
      bursts := modAt 0 (fun _ => x) s.radio.bursts } }

/-- TRANSITION_START (R320, R322, R329, R331): checks 5 and 6 of the next accepted burst; `power` is the measured level (0.1 dBm), `temp`
and `vdd` are what the chain reads of the die (0.1 °C) and of VDD_PA (mV). -/
def State.transitionStart (power temp : Int) (vdd : Nat) (s : State) : State :=
  match s.radio.bursts with
  | [] => s
  | x :: _ =>
    if x.onAir then s
    else
      let s := s.advance (s.transitionOf x)
      if s.coexMode ≠ 0 ∧ !s.radio.coexGnt then (s.dropBurst x).refuseBurst 5 x.start
      else if s.listens x ∧ (s.locksOf x.subband).lbtThresh * 10 < power then s.lbtBlocked x power
      else if !s.mismatchAllows x then (s.dropBurst x).refuseBurst 3 x.start
      else s.startBurst x temp vdd

/-- TRANSITION_START (R320). -/
def execTransitionStart (figures : TransitionFigures) (s : State) : Step :=
  .next (s.transitionStart (signed 16 figures.power.toNat) (signed 16 figures.dieTemp.toNat) figures.vddPa.toNat)

/-! The tuner and the mismatch state (R324, R325) -/

/-- R325, R335: EV090 or EV091. -/
def State.vswrEvent (ev code sub vswr : Nat) (s : State) : State := s.occur ev code (le 2 vswr ++ le 1 sub)

/-- R324: the burst judges the last move, then the next bank moves by one code; which way the codes go is the tuner's own. -/
def State.tune (mode sub : Nat) (reflected : Int) (s : State) : State :=
  if mode = 0 then s
  else
    let b := s.band_ sub
    let b := match b.before with
      | some (x, y) => if reflected < b.reflected then b else { b with series := x, shunt := y }
      | none => b
    let old := if b.moveShunt then b.shunt else b.series
    let up := if old = 0 then true else if old = 63 then false else Config.freeBit s.freeTick
    let new := if up then old + 1 else old - 1
    let b := { b with
      before := some (b.series, b.shunt), moveShunt := !b.moveShunt
      series := if b.moveShunt then b.series else new
      shunt := if b.moveShunt then new else b.shunt }
    (s.draw.modSubBand sub (fun _ => b)).bump 0x30 12

/-- R325: REDUCED, entered from NORMAL or by a probe. -/
def State.reduce (sub vswr : Nat) (s : State) : State :=
  ((s.modSubBand sub (fun b => { b with state := 1, goodBursts := 0 })).bump 0x30 13).vswrEvent 90 1 sub vswr

/-- R325, R334: the mean VSWR of a burst that was not cut short, by VSWR_REDUCE as the burst began. -/
def State.judge (sub vswr reduce : Nat) (probe : Bool) (s : State) : State :=
  let b := s.band_ sub
  let high := decide (reduce < vswr)
  if b.state = 2 then
    if probe then
      let s := (s.modSubBand sub (fun b => { b with state := 0, probe := false })).vswrEvent 91 0 sub vswr
      if high then s.reduce sub vswr else s
    else s
  else if b.state = 0 then (if high then s.reduce sub vswr else s)
  else if vswr + 30 < reduce then
    if b.goodBursts + 1 < 10 then s.modSubBand sub (fun b => { b with goodBursts := b.goodBursts + 1 })
    else (s.modSubBand sub (fun b => { b with state := 0, goodBursts := 0 })).vswrEvent 90 0 sub vswr
  else s.modSubBand sub (fun b => { b with goodBursts := 0 })

/-- R314, R445, R448: a new channel: a synthesiser that runs settles on it, after the burst on the air. -/
def State.channelChange (s : State) : State :=
  if s.radio.plan.key = s.radio.tuned ∨ s.radio.state = 5 then s
  else if within 3 4 s.radio.state then
    let s := (s.retuneRadio.tuneRadio s.channelPfd).steerRadio
    { s with radio := { s.radio with state := 3, readyAt := max s.radio.readyAt (s.up + 70 * qtUs) } }
  else (s.tuneRadio s.channelPfd).steerRadio

/-- BURST_END (R324, R325): the ramp-down of the burst on the air ends: at its planned end, or after a stop by the maximum time of R325
and the ramp. -/
def State.burstEnd (vswr : Nat) (forward reflected : Int) (s : State) : State :=
  match s.radio.bursts with
  | [] => s
  | x :: r =>
    if !x.onAir then s
    else
      let s := s.advance (if x.cut then s.qt + (2 + x.ramp) * qtUs else x.start + x.airtime * qtUs - x.ramp * qtUs)
      let s := s.tune x.tuner x.subband reflected
      let s := s.modSubBand x.subband (fun b => { b with vswr := vswr, forward := forward, reflected := reflected, lastEnd := some s.up })
      let s := if x.cut then s else s.judge x.subband vswr x.reduce x.probe
      let old := s.radio.blanks.filter (fun r => decide (s.up < r.2 + 40 * qtMs))
      ({ s with radio := { s.radio with
          bursts := r, state := if s.radio.state = 5 then 3 else s.radio.state
          blanks := old ++ [(x.rampAt - x.guard, s.up + x.guard)] } } : State).channelChange

/-- BURST_END (R324). -/
def execBurstEnd (vswr : BitVec 16) (forward reflected : BitVec 16) (s : State) : Step :=
  .next (s.burstEnd vswr.toNat (signed 16 forward.toNat) (signed 16 reflected.toNat))

/-- VSWR_STOP (R325): an instantaneous VSWR above 6.00 for 2 µs within a burst. -/
def State.vswrStop (vswr : Nat) (s : State) : State :=
  match s.radio.bursts with
  | [] => s
  | x :: _ =>
    if !x.onAir ∨ x.cut ∨ vswr ≤ 600 then s
    else
      let s := s.modSubBand x.subband (fun b => { b with
        state := 2, probe := false, stoppedAt := s.up, retry := s.param 0x3004, goodBursts := 0 })
      let s := { s with radio := { s.radio with bursts := modAt 0 (fun b => { b with cut := true }) s.radio.bursts } }
      (s.bump 0x30 14).vswrEvent 91 1 x.subband vswr

/-- VSWR_STOP (R325). -/
def execVswrStop (vswr : BitVec 16) (s : State) : Step := .next (s.vswrStop vswr.toNat)

/-- VSWR_RETRY (R325): the next scheduled burst of a stopped sub-band is a probe. -/
def State.vswrRetry (n : Nat) (s : State) : State :=
  let b := s.band_ n
  if b.state = 2 ∧ b.retry ≠ 0 ∧ b.stoppedAt + b.retry * qtSec ≤ s.up then s.modSubBand n (fun b => { b with probe := true }) else s

/-- VSWR_RETRY (R325). -/
def execVswrRetry (subband : Fin 3) (s : State) : Step := .next (s.vswrRetry subband.val)

/-! The channel plan and the locks (R323, R326, R327) -/

/-- The plan an item holds (R323). -/
def planOf (v : Bytes) : ChannelPlan :=
  { subband := fieldAt 0 1 v, channel := fieldAt 1 1 v, rate := fieldAt 2 1 v, power := signedAt 4 2 v, gain := signedAt 6 2 v }

/-- R323: a plan that names a channel and a rate of R312. -/
def ChannelPlan.named (p : ChannelPlan) : Bool := decide (p.subband ≤ 2) && decide (p.channel < channelsOf p.subband) && decide (p.rate ≤ 2)

/-- R323, check 9. -/
def planLocked (s : State) (l : List Item) : Bool :=
  l.any (fun i =>
    let p := planOf i.value
    let k := s.locksOf p.subband
    p.named && (!k.permitted || !bit p.channel k.channels || !bit p.rate k.rates || decide (p.gain < k.minGain)))

/-- R323: the tests of the item. -/
def planTests (v : Bytes) : List (Bool × Status) :=
  let p := planOf v
  [ (decide (2 < p.subband), .outOfRange), (decide (channelsOf p.subband ≤ p.channel), .outOfRange), (decide (2 < p.rate), .badParam),
    (fieldAt 3 1 v != 0, .badParam), (!(decide (-40 ≤ p.power) && decide (p.power ≤ 80)), .outOfRange),
    (!(decide (-100 ≤ p.gain) && decide (p.gain ≤ 300)), .outOfRange), (!fitsEdges p.subband p.channel p.rate, .outOfRange) ]

/-- RF_CHANNEL_SET (R323). -/
def rfChannelSet (ok : Bool) : CmdSpec :=
  { opcode := 0x3011, role := 2, journals := true, shape := oneItem 0x3011 8, absent := radioAbsent, locked := planLocked
    body := fun c s =>
      guarded (planTests c.value) s (c.journalThen ok 0 s (fun s =>
        let p := planOf c.value
        let cap := min (capOf (s.locksOf p.subband) p.gain) (hardwareMax p.subband)
        reply 0x3011 (leInt 2 cap) { s with
          nv := { s.nv with config := { s.nv.config with plan := p } }
          radio := { s.radio with planNext := s.radio.planNext ++ [(p, s.boundaryAfter)] } })) }

/-- RF_CHANNEL_SET (R323). -/
def execRfChannelSet (nvOk : Bool) (s : State) : Step := .next ((rfChannelSet nvOk).run s)

/-- R323: the plans whose second boundary has come. -/
def State.planBoundary (k : Nat) (s : State) : State :=
  let due := s.radio.planNext.filter (fun (p : ChannelPlan × Nat) => decide (p.2 ≤ k))
  ({ s with radio := { s.radio with
      plan := (due.getLast?.map (·.1)).getD s.radio.plan
      planNext := s.radio.planNext.filter (fun (p : ChannelPlan × Nat) => decide (k < p.2)) } } : State).channelChange

/-- The locks an item holds (R327). -/
def locksItem (v : Bytes) : Locks :=
  { permitted := bit 0 (fieldAt 1 1 v), lbt := bit 1 (fieldAt 1 1 v), rates := fieldAt 2 1 v, margin := fieldAt 3 1 v
    maxCond := signedAt 4 2 v, maxEirp := signedAt 6 2 v, minGain := signedAt 8 2 v, duty := fieldAt 10 2 v
    lbtThresh := signedAt 12 2 v, channels := fieldAt 16 16 v }

/-- R327: the tests of one item. -/
def locksTests (v : Bytes) : List (Bool × Status) :=
  let l := locksItem v
  let sub := fieldAt 0 1 v
  [ (!onlyBits 3 (fieldAt 1 1 v), .badParam), (!onlyBits 7 l.rates, .badParam), (decide (12 < l.margin), .outOfRange),
    (decide (hardwareMax sub < l.maxCond), .outOfRange), (!(decide (-40 ≤ l.maxEirp) && decide (l.maxEirp ≤ 144)), .outOfRange),
    (!(decide (-100 ≤ l.minGain) && decide (l.minGain ≤ 300)), .outOfRange), (!within 1 10000 l.duty, .outOfRange),
    (!(decide (-100 ≤ l.lbtThresh) && decide (l.lbtThresh ≤ -40)), .outOfRange), (fieldAt 14 2 v != 0, .badParam),
    (!onlyBits (2 ^ channelsOf sub - 1) l.channels, .badParam) ]

/-- R566: a SUBBAND that does not exist. -/
def subbandNaming (_ : State) (c : Cmd) : Option Status :=
  if c.items.any (fun i => decide (2 < fieldAt 0 1 i.value)) then some .outOfRange else none

/-- LOCKS_WRITE (R327, R481): one KIND 10 record; the lock region then holds the new locks, which the sequencer takes when the
Steward has loaded them. -/
def locksWrite (ok : Bool) : CmdSpec :=
  { opcode := 0x3013, role := 3, maintenance := true, journals := true, absent := radioAbsent
    shape := fun l => someItems 0x3013 32 l && decide (l.length ≤ 64), naming := subbandNaming
    body := fun c s => c.guardItems locksTests s
      (let v := c.items.flatMap (·.value)
       match s.journalAppend ok 10 c.role c.keyId c.opcode [] v with
       | (.ok, s) =>
         let locks := c.items.foldl (fun l i => modAt (fieldAt 0 1 i.value) (fun _ => locksItem i.value) l) s.nv.locks
         done ({ s with nv := { s.nv with locks := locks, locksValid := true }, rst := { s.rst with locksFailed := false } }.logFree 0x30 0x0A)
       | (st, s) => { status := st, state := s }) }

/-- LOCKS_WRITE (R327). -/
def execLocksWrite (nvOk : Bool) (s : State) : Step := .next ((locksWrite nvOk).run s)

/-- R326, R329: the Steward loads the locks into the sequencer; an invalid region permits no sub-band, and a lowered budget may leave
the level below TOKENS_LOW. -/
def State.loadLocks (s : State) : State :=
  let s := { s with radio := { s.radio with locks := if s.nv.locksValid && !s.rst.locksFailed then s.nv.locks else List.replicate 3 {} } }
  if s.power.mode.serves && !s.rst.inReset then [0, 1, 2].foldl (fun s n => s.noteTokens n) s else s

/-! Status (R336) -/

/-- TUNER_STATUS_GET (R336). -/
def tunerStatusGet : CmdSpec :=
  { opcode := 0x3012, role := 1, shape := oneItem 0x3012 1, absent := radioAbsent, naming := subbandNaming
    body := fun c s =>
      let n := c.u 0 1
      let b := s.band_ n
      reply 0x3012 (le 1 n ++ le 1 b.state ++ le 1 b.series ++ le 1 b.shunt ++ le 2 b.vswr ++ leInt 2 b.forward ++ leInt 2 b.reflected ++
        leInt 2 (s.pCap n)) s }

/-- TUNER_STATUS_GET (R336). -/
def execTunerStatusGet (s : State) : Step := .next (tunerStatusGet.run s)

/-- The plan as R323 lays it out. -/
def ChannelPlan.item (p : ChannelPlan) : Bytes :=
  le 1 p.subband ++ le 1 p.channel ++ le 1 p.rate ++ zeros 1 ++ leInt 2 p.power ++ leInt 2 p.gain

/-- R336: STATUS_GET of unit 0x30. -/
def State.radioStatus (s : State) : Bytes :=
  le 1 s.radioNow ++ s.radio.plan.item ++ leInt 2 s.radio.calTemp ++
  (List.range 3).flatMap (fun n => leInt 4 (s.tokenLevel n) ++ le 4 (s.locksOf n).budget)

end Sys2Proof.Machine
end

