-- ==== Sys2Proof/Machine/Gnss.lean ====
section
/-! DEFINITION. The GNSS front-end, Lath acquisition, and the navigation messages held in DRAM (R122–R142). -/
namespace Sys2Proof.Machine

/-! Bands -/

/-- One band. -/
def State.band (l5 : Bool) (s : State) : GnssBand := if l5 then s.gnss.l5 else s.gnss.l1

/-- Replace one band by a function of it. -/
def State.modBand (l5 : Bool) (f : GnssBand → GnssBand) (s : State) : State :=
  if l5 then { s with gnss := { s.gnss with l5 := f s.gnss.l5 } } else { s with gnss := { s.gnss with l1 := f s.gnss.l1 } }

/-- The front of a band runs. -/
def State.bandRuns (l5 : Bool) (s : State) : Bool := s.power.mode.serves && (s.band l5).on

/-- Index of a counter of a band. -/
def bandCounter (l5 : Bool) (k : Nat) : Nat := 6 * b01 l5 + k

/-- Samples of one AGC update, at 81.84 MS/s (R122, R127). -/
def agcSamples : Nat := 81840

/-- R127: an ADC saturates to ±127; −128 is never produced. -/
def saturate (x : Int) : Int := max (-127) (min 127 x)

/-- What the front of a band makes of its samples: the last pulse, the samples pulse- and transmit-blanked, saturated components, the
samples left with their sums of squares, what goes on and the spans blanked, both latest first. -/
structure FrontSum where
  last : Option Nat := none
  pulse : Nat := 0
  tx : Nat := 0
  sat : Nat := 0
  used : Nat := 0
  energyI : Nat := 0
  energyQ : Nat := 0
  out : List (Int × Int) := []
  spans : List (Nat × Nat) := []
deriving DecidableEq, Repr

/-- The time of a sample joins the spans of blanked samples. -/
def joinSpan (t : Nat) : List (Nat × Nat) → List (Nat × Nat)
  | [] => [(t, t + qtSec / 81840000)]
  | (a, b) :: r => if t ≤ b + 1 then (a, t + qtSec / 81840000) :: r else (t, t + qtSec / 81840000) :: (a, b) :: r

/-- A blanked sample goes on as 0 (R128). -/
def FrontSum.blank (t : Nat) (a : FrontSum) : FrontSum := { a with out := (0, 0) :: a.out, spans := joinSpan t a.spans }

/-- R127, R128: one sample of time `x.1`: a pulse blanks it and what follows within BLANK_HOLD, a BLANK_THRESH of 0 nothing; a sample under
both blankings counts as transmit-blanked. `cfg` gives BLANK_THRESH and BLANK_HOLD of a time. -/
def FrontSum.take (blanked : Nat → Bool) (cfg : Nat → Nat × Nat) (a : FrontSum) (x : Nat × Int × Int) : FrontSum :=
  let thresh := (cfg x.1).1
  let hold := (cfg x.1).2 * 65536
  let i := saturate x.2.1
  let q := saturate x.2.2
  let last := if thresh ≠ 0 ∧ (thresh ≤ i.natAbs ∨ thresh ≤ q.natAbs) then some x.1 else a.last
  let a := { a with last := last, sat := a.sat + b01 (i != x.2.1) + b01 (q != x.2.2) }
  if blanked x.1 then { a.blank x.1 with tx := a.tx + 1 }
  else if thresh ≠ 0 ∧ last.any (fun t => decide (x.1 ≤ t + hold)) then { a.blank x.1 with pulse := a.pulse + 1 }
  else { a with
    used := a.used + 1, out := (i, q) :: a.out, energyI := a.energyI + i.natAbs * i.natAbs, energyQ := a.energyQ + q.natAbs * q.natAbs }

/-- R128, R333, R453: the sample of time `t` (State.up) is replaced by 0 in both bands; the external radio and an unlocked PLL 2 count as
they stand now (log entry 114). -/
def State.blankedAt (s : State) (t : Nat) : Bool := s.txBlankedAt t || s.extBlank || (s.pll 2).state == 3

/-- R141: BLANK_THRESH and BLANK_HOLD for the sample of time `t` (State.up). -/
def State.blankCfg (l5 : Bool) (s : State) (t : Nat) : Nat × Nat :=
  match (s.band l5).blankWas.find? (fun (x : Nat × Nat × Nat) => decide (t < x.1)) with
  | some x => x.2
  | none => (s.param 0x1005, s.param 0x1006)

/-- A spacing in 1/64 chip, to the nearest ADC sample (R144). -/
def tapSamples (g v : Nat) : Nat := (v * (if chipRate g = 10230000 then 8 else 80) + 32) / 64

/-- The spacings that DLL_SPACING and VEVL_SPACING ask for. -/
def State.spacings (g : Nat) (s : State) : Nat × Nat := (tapSamples g (s.param (0x1205 + b01 (signalL5 g))), tapSamples g (s.param 0x1207))

/-- R144: the spacings whose primary code epoch lies before `t` are in force. -/
def Chan.settle (t : Nat) (c : Chan) : Chan :=
  match c.spacingsDue with
  | some (u, x) => if u < t then { c with dllSpacing := x.1, veSpacing := x.2, spacingsDue := none } else c
  | none => c

/-- When the replica of a channel comes to its next primary code epoch. -/
def Chan.nextEpoch (now : Nat) (c : Chan) : Nat :=
  let period : Int := ((codeLength c.signal * 2 ^ 32 * qtSec : Nat) : Int)
  let left := period - (c.code + c.codeRate * ((now - c.phaseAt : Nat) : Int)) % period
  now + ((left + c.codeRate - 1) / c.codeRate).toNat

/-- R166: spacings are committed: every channel takes them at its next primary code epoch. -/
def State.noteSpacings (s : State) : State :=
  { s with track := { s.track with chans := s.track.chans.map (fun c =>
    if within 1 5 c.state then { (c.settle (s.up + 1)) with spacingsDue := some (c.nextEpoch s.up, s.spacings c.signal) } else c) } }

/-- R141: BLANK_THRESH or BLANK_HOLD is committed: the samples up to now keep `old`. -/
def State.noteBlank (old : Nat × Nat) (s : State) : State :=
  let f := fun (b : GnssBand) => { b with blankWas := b.blankWas ++ [(s.up, old)] }
  (s.modBand false f).modBand true f

/-- The samples of a band that end now, each with its time, under the gain in force, through blanking (R127, R128). -/
def State.frontSum (l5 : Bool) (samples : List (Int × Int)) (s : State) : FrontSum :=
  let n := samples.length
  let g := ((s.band l5).gain : Int)
  let timed := samples.zipIdx.map (fun (p : (Int × Int) × Nat) =>
    (s.up - (n - 1 - p.2) * qtSec / 81840000, p.1.1 * g / 65536, p.1.2 * g / 65536))
  timed.foldl (FrontSum.take s.blankedAt (s.blankCfg l5)) { last := (s.band l5).lastPulse }

/-- R127: the gain that brings the RMS of the components measured under gain `g` to 24 counts; it stays where every sample was blanked, or
none had a level (log entry 142). -/
def FrontSum.gain (g : Nat) (f : FrontSum) : Nat :=
  let e := f.energyI + f.energyQ
  if e = 0 then g else max 1 (isqrt (g * g * 24 * 24 * 2 * f.used / e))

/-- AGC_UPDATE (R127, R128, R142): the samples of I and Q of the 1 ms that ends at `t`, as they reach the AGC, and its next gain. -/
def State.agcUpdate (l5 : Bool) (samples : List (Int × Int)) (t : Nat) (s : State) : State :=
  if !s.bandRuns l5 then s
  else
    let s := s.advance t
    let f := s.frontSum l5 samples
    let n := samples.length
    let clip := s.param 0x1009
    let duty := s.param 0x1008
    let s := s.modBand l5 (fun b => { b with
      gain := f.gain b.gain
      lastPulse := f.last, used := f.used, energyI := f.energyI, energyQ := f.energyQ
      stream := f.out.reverse, frontAt := s.up, blankWas := []
      spans := b.spans.filter (fun (x : Nat × Nat) => decide (s.up < x.2 + 40 * qtMs)) ++ f.spans.reverse
      clipLimit := if b.clipSamples = 0 then clip else b.clipLimit
      dutyLimit := if b.dutySamples = 0 then duty else b.dutyLimit
      clipSamples := b.clipSamples + n, clipCount := b.clipCount + f.sat
      dutySamples := b.dutySamples + n, dutyCount := b.dutyCount + f.pulse + f.tx })
    (((s.bump64 0x10 (bandCounter l5 0) n).bump64 0x10 (bandCounter l5 1) f.pulse).bump64 0x10 (bandCounter l5 2) f.tx).bump64
      0x10 (bandCounter l5 3) f.sat

/-- AGC_UPDATE (R127). -/
def execAgcUpdate (l5 : Bool) (i q : List Int) (instant : Nat) (s : State) : Step := .next (s.agcUpdate l5 (i.zip q) instant)

/-- R128, R333: the spans of the transmit blanking (State.up). -/
def State.txSpans (s : State) : List (Nat × Nat) :=
  s.radio.blanks ++ (s.radio.bursts.filter (·.onAir)).map (fun b => (b.rampAt - b.guard, s.up))

/-- R128: the spans of blanked samples that a band holds, and the transmit blanking since its last AGC update. -/
def State.blankSpans (l5 : Bool) (s : State) : List (Nat × Nat) :=
  let t := (s.band l5).frontAt
  (s.band l5).spans ++ (s.txSpans.filter (fun (x : Nat × Nat) => decide (t < x.2))).map (fun x => (max t x.1, x.2))

/-- R128: what the spans hold of the interval from `a` to `b`, in 0.01 %. -/
def blankShare (spans : List (Nat × Nat)) (a b : Nat) : Nat :=
  min 10000 ((spans.map (fun (x : Nat × Nat) => min b x.2 - max a x.1)).sum * 10000 / (b - a))

/-- ADC_CLIP (R127): a 10 ms window ends. -/
def State.adcClip (l5 : Bool) (s : State) : State :=
  let b := s.band l5
  if !s.bandRuns l5 ∨ b.clipSamples < 10 * agcSamples then s
  else
    let s := s.modBand l5 (fun b => { b with clipSamples := 0, clipCount := 0 })
    if b.clipLimit * (2 * b.clipSamples) < b.clipCount * 10000 then
      s.occur 43 (b01 l5) (le 2 (b.clipCount * 10000 / (2 * b.clipSamples)))
    else s

/-- ADC_CLIP (R127). -/
def execAdcClip (l5 : Bool) (s : State) : Step := .next (s.adcClip l5)

/-- BLANK_DUTY (R128): a 100 ms window ends. -/
def State.blankDuty (l5 : Bool) (s : State) : State :=
  let b := s.band l5
  if !s.bandRuns l5 ∨ b.dutySamples < 100 * agcSamples then s
  else
    let s := s.modBand l5 (fun b => { b with dutySamples := 0, dutyCount := 0 })
    if b.dutyLimit * b.dutySamples < b.dutyCount * 100 then
      s.occur 42 (b01 l5) (le 2 (b.dutyCount * 10000 / b.dutySamples))
    else s

/-- BLANK_DUTY (R128). -/
def execBlankDuty (l5 : Bool) (s : State) : Step := .next (s.blankDuty l5)

/-! Notches (R129) -/

/-- R129: 0 off, 1 auto, 2 fixed. -/
def State.notchMode (l5 : Bool) (s : State) : Nat := lane 2 (b01 l5) (s.param 0x1001)

/-- R142: DETAIL of a notch event. -/
def notchDetail (k : Nat) (x : Notch) : Bytes := le 1 k ++ zeros 1 ++ leInt 4 x.offset ++ le 2 x.jn

/-- The notches set to fixed offsets; 0x7FFF_FFFF bypasses. They hold the lines 0 to 3, so a turn to auto finds them held (DESIGN CHOICE,
log entry 115). -/
def fixedNotches (v : Nat) : List Notch :=
  (List.range 4).map (fun k =>
    if lane 32 k v = 0x7FFFFFFF then ({} : Notch) else { line := some k, offset := signed 32 (lane 32 k v) })

/-- A notch follows its line; a line below NOTCH_THRESH − 3 dB, or gone, is noted with its time. -/
def Notch.follow (lines : List SpectrumLine) (thresh now : Nat) (x : Notch) : Notch :=
  match x.line with
  | none => x
  | some id =>
    match lines.find? (fun l => l.id == id) with
    | some l =>
      let low := decide (l.jn.toNat + 30 < 10 * thresh)
      { x with offset := l.offset, jn := l.jn.toNat, lowSince := if low then some (x.lowSince.getD now) else none }
    | none => { x with jn := 0, lowSince := some (x.lowSince.getD now) }

/-- The first free notch. -/
def freeNotch (l : List Notch) : Option Nat := l.findIdx? (fun x => x.line.isNone)

/-- The weakest notch. -/
def weakestNotch (l : List Notch) : Nat :=
  (l.zipIdx.foldl (fun (a : Nat × Nat) p => if p.1.jn < a.2 then (p.2, p.1.jn) else a) (0, (l.headD {}).jn)).1

/-- A notch of band `l5` is released (R129). -/
def State.releaseNotch (l5 : Bool) (k : Nat) (s : State) : State :=
  let x := (s.band l5).notches.getD k {}
  (s.modBand l5 (fun b => { b with notches := modAt k (fun _ => {}) b.notches })).occur (40 + b01 l5) 0 (notchDetail k x)

/-- A notch of band `l5` takes a line (R129). -/
def State.lockNotch (l5 : Bool) (k : Nat) (l : SpectrumLine) (s : State) : State :=
  let x : Notch := { line := some l.id, offset := l.offset, jn := l.jn.toNat }
  ((s.modBand l5 (fun b => { b with notches := modAt k (fun _ => x) b.notches })).bump64 0x10 (bandCounter l5 4) 1).occur
    (40 + b01 l5) 1 (notchDetail k x)

/-- A line above NOTCH_THRESH that no notch holds (R129): a free notch, or, where it waited at the last spectrum and is
stronger, the weakest one; otherwise it finds none. -/
def State.placeLine (l5 : Bool) (waited : List Nat) (s : State) (l : SpectrumLine) : State :=
  let b := s.band l5
  match freeNotch b.notches with
  | some k => s.lockNotch l5 k l
  | none =>
    let k := weakestNotch b.notches
    if waited.contains l.id then
      if (b.notches.getD k {}).jn < l.jn.toNat then (s.releaseNotch l5 k).lockNotch l5 k l
      else s.modBand l5 (fun b => { b with homeless := b.homeless ++ [l.id] })
    else
      let t := s.freeTick
      (s.draw.modBand l5 (fun b => { b with homeless := b.homeless ++ [l.id] })).occur (40 + b01 l5) 3
        ([Config.freeByte t] ++ zeros 1 ++ leInt 4 l.offset ++ le 2 l.jn.toNat)

/-- A line put in its place among lines of falling strength. -/
def insertLine (l : SpectrumLine) : List SpectrumLine → List SpectrumLine
  | [] => [l]
  | a :: r => if a.jn.toNat < l.jn.toNat then l :: a :: r else a :: insertLine l r

/-- Lines by falling strength. -/
def sortLines (l : List SpectrumLine) : List SpectrumLine := l.foldl (fun r x => insertLine x r) []

/-- NOTCH_SPECTRUM (R129): a new power spectrum of a band. -/
def State.notchSpectrum (l5 : Bool) (lines : List SpectrumLine) (s : State) : State :=
  if !s.bandRuns l5 then s
  else match s.notchMode l5 with
  | 1 =>
    let th := s.param 0x1002
    let waited := (s.band l5).homeless
    let s := s.modBand l5 (fun b => { b with notches := b.notches.map (Notch.follow lines th s.up), homeless := [] })
    let held := (s.band l5).notches.filterMap (·.line)
    let new := lines.filter (fun l => decide (10 * th ≤ l.jn.toNat) && !held.contains l.id)
    (sortLines new).foldl (State.placeLine l5 waited) s
  | 2 => s.modBand l5 (fun b => { b with notches := fixedNotches (s.param (0x1003 + b01 l5)), homeless := [] })
  | _ => s.modBand l5 (fun b => { b with notches := List.replicate 4 {}, homeless := [] })

/-- NOTCH_SPECTRUM (R129). -/
def execNotchSpectrum (l5 : Bool) (lines : List SpectrumLine) (s : State) : Step := .next (s.notchSpectrum l5 lines)

/-- NOTCH_RELEASE (R129): the line has stayed below for 1 s. -/
def State.notchRelease (l5 : Bool) (k : Nat) (s : State) : State :=
  let x := (s.band l5).notches.getD k {}
  if s.bandRuns l5 ∧ s.notchMode l5 = 1 ∧ x.line.isSome ∧ x.lowSince.any (fun t => decide (t + qtSec ≤ s.up)) then
    s.releaseNotch l5 k
  else s

/-- NOTCH_RELEASE (R129). -/
def execNotchRelease (l5 : Bool) (notch : Fin 4) (s : State) : Step := .next (s.notchRelease l5 notch.val)

/-! Antenna bias (R125, R126) -/

/-- BIAS_LIMIT of a band, 0.1 mA. -/
def State.biasLimit10 (l5 : Bool) (s : State) : Nat := 10 * s.param (0x100B + b01 l5)

/-- The bias of a band is enabled and its switch closed. -/
def State.biasOn (l5 : Bool) (s : State) : Bool :=
  s.power.mode.serves && bit (b01 l5) (s.param 0x100A) && (s.band l5).shortAt.isNone

/-- Event source of BIAS_OPEN of a band; BIAS_SHORT is the one after it (R108). -/
def biasSource (l5 : Bool) : Nat := 36 + 2 * b01 l5

/-- R125: a current of the bias is seen: a limit that it no longer reaches is over. -/
def State.biasSeen (l5 : Bool) (current : Nat) (s : State) : State :=
  s.modBand l5 (fun b => { b with current := current, limitSince := if current < s.biasLimit10 l5 then none else b.limitSince })

/-- BIAS_LIMIT (R125): the current exceeds its limit and is held there, or the limit is over. -/
def State.biasLimited (l5 : Bool) (current : Nat) (s : State) : State :=
  if !s.biasOn l5 then s
  else if s.biasLimit10 l5 < current then
    s.modBand l5 (fun b => { b with current := s.biasLimit10 l5, limitSince := some (b.limitSince.getD s.up) })
  else s.biasSeen l5 current

/-- BIAS_LIMIT (R125). -/
def execBiasLimit (l5 : Bool) (current : BitVec 16) (s : State) : Step := .next (s.biasLimited l5 current.toNat)

/-- BIAS_SHORT (R125): the limit has held for 5 ms and the switch opens. -/
def State.biasShort (l5 : Bool) (s : State) : State :=
  match (s.band l5).limitSince with
  | some t =>
    if s.biasOn l5 ∧ t + 5 * qtMs ≤ s.up then
      let c := (s.band l5).current
      ((s.modBand l5 (fun b => { b with shortAt := some (s.up, s.param 0x100E), limitSince := none, short := true, current := 0 })).bump64 0x10
        (bandCounter l5 5) 1).occur (biasSource l5 + 1) 1 (le 2 c)
    else s
  | none => s

/-- BIAS_SHORT (R125). -/
def execBiasShort (l5 : Bool) (s : State) : Step := .next (s.biasShort l5)

/-- BIAS_RETRY (R125): the switch closes again. -/
def State.biasRetry (l5 : Bool) (s : State) : State :=
  match (s.band l5).shortAt with
  | some (t, retry) =>
    if retry ≠ 0 ∧ t + retry * qtSec ≤ s.up then s.modBand l5 (fun b => { b with shortAt := none }) else s
  | none => s

/-- BIAS_RETRY (R125). -/
def execBiasRetry (l5 : Bool) (s : State) : Step := .next (s.biasRetry l5)

/-- BIAS_OPEN (R125): the current has been below BIAS_OPEN for 200 ms; the bias stays on. -/
def State.biasOpen (l5 : Bool) (current : Nat) (s : State) : State :=
  if s.biasOn l5 ∧ !(s.band l5).open_ ∧ current < 10 * s.param 0x100D then
    (((s.biasSeen l5 current).modBand l5 (fun b => { b with open_ := true })).bump64 0x10 (bandCounter l5 5) 1).occur
      (biasSource l5) 1 (le 2 current)
  else s

/-- BIAS_OPEN (R125). -/
def execBiasOpen (l5 : Bool) (current : BitVec 16) (s : State) : Step := .next (s.biasOpen l5 current.toNat)

/-- BIAS_RECOVERY (R125): the fault condition has been left for 200 ms. -/
def State.biasRecovery (l5 : Bool) (current : Nat) (s : State) : State :=
  if !s.biasOn l5 then s
  else
    let s := s.biasSeen l5 current
    let s := if (s.band l5).short ∧ current < s.biasLimit10 l5 then
        (s.modBand l5 (fun b => { b with short := false })).occur (biasSource l5 + 1) 0 (le 2 current) else s
    if (s.band l5).open_ ∧ 10 * s.param 0x100D ≤ current then
      (s.modBand l5 (fun b => { b with open_ := false })).occur (biasSource l5) 0 (le 2 current)
    else s

/-- BIAS_RECOVERY (R125). -/
def execBiasRecovery (l5 : Bool) (current : BitVec 16) (s : State) : Step := .next (s.biasRecovery l5 current.toNat)

/-- R125: a write of a band's bias closes a switch that a short holds open, also one whose BIAS_RETRY still runs (DESIGN CHOICE, log entry
116). -/
def State.biasWritten (l5 : Bool) (s : State) : State := s.modBand l5 (fun b => { b with shortAt := none, limitSince := none })

/-- ANT_BIAS_SET (R126): two parameters under one record, as a PARAM_SET of them (R481). -/
def antBiasSet (ok : Bool) : CmdSpec :=
  { opcode := 0x1010, role := 2, shape := oneItem 0x1010 4, journals := true
    naming := fun _ c => if 1 < c.u 0 1 then some .outOfRange else none
    body := fun c s => guarded [(decide (1 < c.u 1 1), .badParam), (!within 10 60 (c.u 2 1), .outOfRange), (c.u 3 1 != 0, .badParam)] s (
      let l5 := c.u 0 1 == 1
      let id := 0x100B + c.u 0 1
      let en := s.committed 0x100A
      let new := en - 2 ^ c.u 0 1 * b01 (bit (c.u 0 1) en) + 2 ^ c.u 0 1 * c.u 1 1
      let rec_ := fun (a b : Nat) => itemBytes [{ id := 0x100A, value := le 1 a }, { id := id, value := le 1 b }]
      match s.journalAppend ok 0 c.role c.keyId 0 (rec_ en (s.committed id)) (rec_ new (c.u 2 1)) with
      | (.ok, s') => done (((s'.setParam 0x100A new).setParam id (c.u 2 1)).biasWritten l5)
      | (st, s') => { status := st, state := s' }) }

/-- ANT_BIAS_SET (R126). -/
def execAntBiasSet (nvOk : Bool) (s : State) : Step := .next ((antBiasSet nvOk).run s)

/-! Navigation messages (R137, R150, R186) -/

/-- A message is stored in DRAM in place of the one it renews. -/
def State.storeNav (m : NavMessage) (s : State) : State :=
  let keep := s.gnss.nav.filter (fun x => !(signalSystem x.signal == signalSystem m.signal && x.sv == m.sv && x.kind == m.kind))
  { s with gnss := { s.gnss with nav := keep ++ [m] } }

/-- DRAM holds the ephemeris of an SV. -/
def State.ephemeris (g sv : Nat) (s : State) : Bool :=
  s.gnss.nav.any (fun x => signalSystem x.signal == signalSystem g && x.sv == sv && x.kind == 0)

/-- R186: QT − UTC and the announced leap second; EV070 when an announcement comes or goes. -/
def State.takeLeap (v : LeapNews) (s : State) : State :=
  let old := s.plumb.leap
  let s := { s with plumb := { s.plumb with
    utcOffset := v.utcOffset, leap := v.leap.val, leapAt := if v.leap.val = 0 then 0 else v.leapAt.toNat } }
  if v.leap.val = old then s else s.occur 70 v.leap.val (le 4 s.plumb.leapAt)

/-- The news of a decode, if any. -/
def State.takeNews (v : Option LeapNews) (s : State) : State := match v with | some x => s.takeLeap x | none => s

/-- The fields of one ASSIST_LOAD item (R137). -/
def assistTests (v : Bytes) : List (Bool × Status) :=
  [(!signalNamed (fieldAt 0 1 v), .badParam), (!svLegal (fieldAt 0 1 v) (fieldAt 1 1 v), .outOfRange),
   (decide (2 < fieldAt 2 1 v), .badParam), (fieldAt 3 1 v != 0, .badParam)]

/-- ASSIST_LOAD (R137). -/
def assistLoad : CmdSpec :=
  { opcode := 0x1112, role := 1, shape := fun l => !l.isEmpty && l.all (fun i => i.id == 0x1112 && decide (4 ≤ i.value.length))
    body := fun c s => c.guardItems assistTests s
      { status := .accepted
        state := { s with gnss := { s.gnss with assists := s.gnss.assists ++ [(c.items.map (·.value), c.ticket s)] } } } }

/-- ASSIST_LOAD (R137). -/
def execAssistLoad (s : State) : Step := .next (assistLoad.run s)

/-- A message as an ASSIST_LOAD item holds it. -/
def navOfItem (v : Bytes) : NavMessage := { signal := fieldAt 0 1 v, sv := fieldAt 1 1 v, kind := fieldAt 2 1 v, data := v.drop 4 }

/-- ASSIST_LOAD_DONE (R137): the items that pass their system's checks are stored; the others' indices are reported. -/
def State.assistLoadDone (failed : List Nat) (leap : Option LeapNews) (s : State) : State :=
  match s.gnss.assists with
  | [] => s
  | (items, t) :: r =>
    let s := { s with gnss := { s.gnss with assists := r } }
    let bad := (List.range items.length).filter (fun k => failed.contains k)
    let good := (items.zipIdx.filter (fun p => !failed.contains p.2)).map (·.1)
    let s := (good.foldl (fun s v => s.storeNav (navOfItem v)) s).takeNews leap
    s.complete 0x1112 t (if bad.isEmpty then .ok else .badParam) (bad.map (fun k => { id := 0x1112, value := le 2 k }))

/-- ASSIST_LOAD_DONE (R137). -/
def execAssistLoadDone (failed : List Nat) (leap : Option LeapNews) (s : State) : Step := .next (s.assistLoadDone failed leap)

/-! Searches (R130–R138) -/

/-- A channel holds a signal, or is about to (R143). -/
def State.tracked (g sv : Nat) (s : State) : Bool :=
  s.track.chans.any (fun c => (within 1 5 c.state && c.signal == g && c.sv == sv) ||
    (match c.assign with | some a => a.1 == g && a.2.1 == sv | none => false))

/-- Segments per pass of the part (R131). -/
def State.passSegments (s : State) : Nat := match s.part.tier with | .a => 8 | .b => 4 | .c => 2

/-- R132: passes per snapshot of a full search of `n` SVs. -/
def State.passesFor (x : Search) (n : Nat) (s : State) : Nat :=
  let bins := 2 * ((x.span * x.coh + 499) / 500) + 1
  (n * bins * codeSegments x.signal + s.passSegments - 1) / s.passSegments

/-- SVs of a search that are still undecided. -/
def Search.open_ (x : Search) : List SearchSv := x.svs.filter (fun v => v.state == 4)

/-- R130: the running search waits for a snapshot. -/
def Search.wants (x : Search) : Bool :=
  x.started && !x.done && !x.stopped && (if x.verify then x.verifyAt.isNone else decide (x.snapshots < x.nc))

/-- A pass of the search is under way or due (R131). -/
def Search.passDue (x : Search) : Bool := if x.verify then x.verifyAt.isSome else decide (x.passesDone < x.snapshots * x.passes)

/-- Replace the running search by a function of it. -/
def State.modRun (f : Search → Search) (s : State) : State := { s with gnss := { s.gnss with run := s.gnss.run.map f } }

/-- R130: the schedule has a transmission between two instants. -/
def State.transmitsIn (a b : Nat) (s : State) : Bool :=
  ((List.range (frameOf b + 2 - frameOf a)).map (fun k => frameOf a - 1 + k)).any (fun f =>
    frameSlots.any (fun k => match s.sendSpan k.1 k.2 f with
      | some r => decide (r.1 < b) && decide (a < r.2)
      | none => false))

/-- R130: where a snapshot of `coh` ms starts: the first code tick from `first` on, within 20 ms, from which it is free of scheduled
transmission, or else `first`. -/
def State.snapshotStart (coh first : Nat) (s : State) : Nat :=
  first + ((List.range 20).find? (fun k => !s.transmitsIn (first + k * qtMs) (first + (k + coh) * qtMs))).getD 0 * qtMs

/-- The code tick after `t`. -/
def tickAfter (t : Nat) : Nat := (t / qtMs + 1) * qtMs

/-- The snapshot a search waits for: as placed, or placed from `first` on. -/
def State.snapshotOf (x : Search) (first : Nat) (s : State) : Nat × Nat :=
  x.snapAt.getD (s.snapshotStart x.coh first, s.param 0x1103)

/-- R130: the snapshot that the running search waits for is placed, from the code tick `first` on. -/
def State.placeSnapshot (first : Nat) (s : State) : State :=
  s.modRun (fun x => if x.wants then { x with snapAt := some (s.snapshotOf x first) } else x)

/-- R134: the centre of the Doppler window, mHz: DOPPLER_CENTRE and the oscillator offset that Plumb holds. -/
def State.searchCentre (x : Search) (s : State) : Int :=
  1000 * x.centre + s.plumb.refFreq * (carrierHz x.signal : Int) / 1000000000

/-- A search begins (R134): tracked SVs are skipped where it says so; the passes of an assisted search cover windows whose size
the spec leaves to the prediction: those of an automatic search come with its row, those of a host search are a free number within those
of the full space. -/
def State.beginSearch (x : Search) (s : State) : State :=
  let svs := x.svs.map (fun v => if !x.stopped && x.excludeTracked && s.tracked x.signal v.sv then { v with state := 3 } else v)
  let x := { x with svs := svs, started := true, thresh := s.param 0x1102, centreMhz := s.searchCentre x }
  let n := x.open_.length
  let full := s.passesFor x n
  let windows := match x.segments with
    | some k => (k + s.passSegments - 1) / s.passSegments
    | none => Config.freeNat s.freeTick % full + 1
  let passes := if x.mode = 0 ∨ full = 0 then full else max 1 (min full windows)
  let s := if x.mode = 0 then s else s.draw
  ({ s with gnss := { s.gnss with run := some { x with passes := passes, done := x.done || n == 0 } } } : State).placeSnapshot (tickAfter s.qt)

/-- The next search runs where none does. -/
def State.nextSearch (s : State) : State :=
  match s.gnss.run, s.gnss.queue with
  | none, x :: r => { s with gnss := { s.gnss with queue := r } }.beginSearch x
  | _, _ => s

/-- A search with SVs `svs`. -/
def searchSvs (svs : List Nat) : List SearchSv := svs.map (fun v => { sv := v })

/-- R134: bounds an assisted search or a PREDICT needs: time 10 ms, position 10 km. -/
def State.predicts (s : State) : Bool :=
  decide (s.plumb.errBound.getD 0xFFFFFFFF ≤ 100000000) && s.plumb.position.isSome && decide (s.plumb.sigma ≤ 10000000)

/-- The fields of SEARCH_START (R134). -/
def State.searchTests (c : Cmd) (s : State) : List (Bool × Status) :=
  let g := c.u 0 1
  let svs := (List.range (c.u 5 1 + 1 - c.u 4 1)).map (· + c.u 4 1)
  [(!bit (b01 (signalL5 g)) (s.param 0x1000), .notReady), (decide (4 ≤ s.gnss.queue.length), .busy), (s.freeSlot.isNone, .busy),
   (decide (1 < c.u 1 1), .badParam), (!within 1 (if g = 3 then 4 else 10) (c.u 2 1), .outOfRange), (!within 1 64 (c.u 3 1), .outOfRange),
   (!svLegal g (c.u 4 1), .outOfRange), (!svLegal g (c.u 5 1) || decide (c.u 5 1 < c.u 4 1), .outOfRange),
   (!onlyBits 3 (c.u 6 1), .badParam), (c.u 7 1 != 0, .badParam), (decide (10000 < c.u 12 2), .outOfRange), (c.u 14 2 != 0, .badParam),
   (c.u 1 1 == 1 && !(s.predicts && svs.all (fun v => s.ephemeris g v)), .notReady)]

/-- SEARCH_START (R134). -/
def searchStart : CmdSpec :=
  { opcode := 0x1110, role := 1, shape := oneItem 0x1110 16
    naming := fun _ c => if signalNamed (c.u 0 1) then none else some .badParam
    body := fun c s => guarded (s.searchTests c) s (
      let n := s.freeSlot.getD 8
      let svs := searchSvs ((List.range (c.u 5 1 + 1 - c.u 4 1)).map (· + c.u 4 1))
      let x : Search :=
        { host := some (c.ticket s, n), signal := c.u 0 1, mode := c.u 1 1, coh := c.u 2 1, nc := c.u 3 1
          excludeTracked := bit 0 (c.u 6 1), noHandoff := bit 1 (c.u 6 1), centre := c.i 8 4, span := c.u 12 2
          svs := svs, acceptedAt := s.up }
      let s := s.allocate n c.session
      let s := { s with gnss := { s.gnss with queue := s.gnss.queue ++ [x], suspended := false } }
      { status := .accepted, items := [{ id := 0x1110, value := le 1 n }], state := s.nextSearch }) }

/-- SEARCH_START (R134). -/
def execSearchStart (s : State) : Step := .next (searchStart.run s)

/-- R136: a search ends: at the end of the pass under way, at once where none is (as while Lath pauses). -/
def Search.stop (held : Nat) (x : Search) : Search :=
  { x with stopped := true, done := !(x.started && x.passDue && decide (held < 4)) }

/-- Searches of a band, or all, end as SEARCH_STOP ends them (R136, R141). -/
def State.endSearches (f : Search → Bool) (s : State) : State :=
  let stop := fun (x : Search) => if f x && !x.done then x.stop s.gnss.held.length else x
  { s with gnss := { s.gnss with run := s.gnss.run.map stop, queue := s.gnss.queue.map stop } }

/-- SEARCH_STOP (R136). -/
def searchStop : CmdSpec :=
  { opcode := 0x1111, role := 1, shape := noItems
    body := fun _ s =>
      let s := s.endSearches (fun _ => true)
      done { s with gnss := { s.gnss with suspended := true } } }

/-- SEARCH_STOP (R136). -/
def execSearchStop (s : State) : Step := .next (searchStop.run s)

/-- R141: disabling a band ends its searches. -/
def State.stopBand (l5 : Bool) (s : State) : State := s.endSearches (fun x => signalL5 x.signal == l5)

/-- R139, R174: the estimate held at step 3, its bound (0.1 ns) and its QT: Plumb's, or the candidate with the better bound of a beacon's
10 µs and the warm-start bundle. -/
def State.timeCandidate (s : State) : Option (Nat × Nat) :=
  let beacon := s.cell.beaconEst.map (fun d => (100000, ((s.qt : Int) + d).toNat))
  let bundle := if s.warmBundle.valid && s.rtc.valid then some (s.bundleBound, s.estimateInstant 6 0) else none
  if s.plumb.estimated then s.plumb.errBound.map (fun b => (b, s.qt))
  else match beacon, bundle with
    | some x, some y => some (if x.1 ≤ y.1 then x else y)
    | some x, none => some x
    | none, y => y

/-- R139: the messages of a kind in DRAM whose reference time lies less than `age` seconds before the QT second `now`. -/
def State.youngNav (kind age now : Nat) (s : State) : List NavMessage :=
  s.gnss.nav.filter (fun m => m.kind == kind &&
    decide (now < Config.navReference (signalSystem m.signal) kind m.data + age))

/-- R139: the start class: 0 cold, 1 warm, 2 hot. -/
def State.startClass (s : State) : Nat :=
  let sigma := if s.plumb.estimated then s.plumb.sigma else (s.warmBundle.position.getD 3 0xFFFFFFFF).toNat
  match s.timeCandidate with
  | none => 0
  | some (bound, t) =>
    let now := t / qtSec
    if 4 ≤ (s.youngNav 0 14400 now).length ∧ bound ≤ 10000000 ∧ sigma ≤ 1000000 then 2
    else if s.youngNav 1 7776000 now ≠ [] ∧ bound ≤ 100000000000 ∧ sigma ≤ 100000000 then 1
    else 0

/-- R138: LATH_DOPPLER_SPAN on a signal, a whole bin on L5. -/
def State.autoSpan (g : Nat) (s : State) : Nat :=
  let span := s.param 0x1104
  let coh := s.param 0x1105
  if signalL5 g then (span * 117645 * coh + 157542 * 500 - 1) / (157542 * 500) * 500 / coh else span

/-- R138: bit of LATH_SIGNALS for a signal. -/
def signalBit (g : Nat) : Nat := if signalL5 g then 15 + g % 128 else g - 1

/-- R138: signals tracked. -/
def State.trackedCount (s : State) : Nat := (s.track.chans.filter (fun c => within 2 5 c.state)).length

/-- R138: the signals in ascending order. -/
def autoOrder : List Nat := (List.range 7).map (· + 1) ++ (List.range 6).map (· + 0x81)

/-- R138: the signal whose automatic search comes next: each one enabled in LATH_SIGNALS on a band that runs, in ascending order, then from
the first again. -/
def State.nextAuto (s : State) : Nat :=
  let l := autoOrder.filter (fun g => bit (signalBit g) (s.param 0x1101) && (s.band (signalL5 g)).on)
  (l.find? (fun g => decide (s.gnss.autoLast < g))).getD (l.headD 0)

/-- R138: an automatic search of a signal may begin. -/
def State.autoAllowed (g : Nat) (s : State) : Bool :=
  s.power.mode.serves && s.param 0x1100 == 1 && !s.gnss.suspended && s.gnss.run.isNone && s.gnss.queue.isEmpty &&
  decide (3 ≤ s.rst.startStep) && g != 0 && g == s.nextAuto &&
  (decide (s.trackedCount < 8) || decide (Table.get 0 g s.gnss.autoAt = 0) || decide (Table.get 0 g s.gnss.autoAt + qtSec ≤ s.up))

/-- R138: LATH_AUTO_COH for a signal; SIGNAL 0x03 takes no more than 4 ms (DESIGN CHOICE, log entry 117). -/
def State.autoCoh (g : Nat) (s : State) : Nat := if g = 3 then min 4 (s.param 0x1105) else s.param 0x1105

/-- AUTO_SEARCH (R138, R139): of every SV in a cold start, of those predicted visible in a warm or hot one, and of those predicted visible
or recently lost once 8 signals are tracked. In a hot start the prediction gives windows of `segments` segments (R131). A warm start's
±1,000 Hz is unscaled on L5, and a smaller LATH_DOPPLER_SPAN bounds it (DESIGN CHOICE, log entry 136). -/
def State.autoSearch (g : Nat) (visible lost : List Nat) (segments : Nat) (s : State) : State :=
  if !s.autoAllowed g then s
  else
    let cls := s.startClass
    let all := (List.range ((svRange g).2 + 1)).filter (fun v => svLegal g v)
    let svs := if 8 ≤ s.trackedCount then all.filter (fun v => visible.contains v || lost.contains v)
      else if cls = 0 then all else all.filter (fun v => visible.contains v)
    let span := if cls = 1 then min 1000 (s.autoSpan g) else s.autoSpan g
    let x : Search :=
      { signal := g, mode := b01 (cls == 2), coh := s.autoCoh g, nc := s.param 0x1106, excludeTracked := true, span := span
        svs := searchSvs svs, acceptedAt := s.up, segments := if cls = 2 then some segments else none }
    ({ s with gnss := { s.gnss with autoAt := Table.set 0 g s.up s.gnss.autoAt, autoLast := g } } : State).beginSearch x

/-- AUTO_SEARCH (R138). -/
def execAutoSearch (signal : BitVec 8) (visible lost : List (BitVec 8)) (segments : BitVec 16) (s : State) : Step :=
  .next (s.autoSearch signal.toNat (visible.map BitVec.toNat) (lost.map BitVec.toNat) segments.toNat)

/-- R130: 16 rejects in a row end a search; what is not decided is reported so. -/
def Search.reject (x : Search) : Search :=
  if x.rejects + 1 < 16 then { x with rejects := x.rejects + 1, snapAt := none }
  else { x with done := true, snapAt := none, svs := x.svs.map (fun v => if v.state = 4 then { v with state := 5 } else v) }

/-- R130: a snapshot that began at `start` is taken; LATH_THRESH is taken for a pass that begins on it (R141). -/
def Search.accept (start thresh : Nat) (x : Search) : Search :=
  let x := { x with rejects := 0, snapAt := none, thresh := if x.passDue then x.thresh else thresh }
  if x.verify then { x with verifyAt := some start } else { x with snapshots := x.snapshots + 1, lastSnap := start }

/-- R130: the samples that a snapshot starting at the QT instant `t` takes, blanked ones as 0, and how many were blanked: `samples` is the
band's stream, decimated to the phase step of Lath. -/
def State.snapshotBlank (l5 : Bool) (t ms : Nat) (samples : List (Int × Int)) (s : State) : List (Int × Int) × Nat :=
  let n := samples.length
  let start := s.up - (s.qt - t)
  let spans := s.blankSpans l5
  let hit := fun (k : Nat) =>
    let u := start + k * (ms * qtMs) / n
    (s.pll 2).state == 3 || s.extBlank || spans.any (fun (x : Nat × Nat) => decide (x.1 ≤ u) && decide (u < x.2))
  (samples.zipIdx.map (fun (p : (Int × Int) × Nat) => if hit p.2 then (0, 0) else p.1), ((List.range n).filter hit).length)

/-- R130: 4 MiB of samples of two times 2 bits. -/
def areaSamples : Nat := 8388608

/-- A snapshot joins the area, in which the oldest give way. -/
def storeSnapshot (t : Nat) (l : List (Int × Int)) : List (Nat × List (BitVec 2 × BitVec 2)) → List (Nat × List (BitVec 2 × BitVec 2))
  | [] => [(t, (l.map (fun (x : Int × Int) => (Config.quantise x.1, Config.quantise x.2))).take areaSamples)]
  | x :: r =>
    if (((x :: r).map (fun y => y.2.length)).sum + l.length) ≤ areaSamples then x :: storeSnapshot t l r else storeSnapshot t l r

/-- SNAPSHOT_CAPTURE_DONE (R130): COH_MS after its start. The next snapshot of NC follows at the code tick where this one ends, a retaken one
at the tick after (DEDUCED, log entry 118). -/
def State.snapshotDone (samples : List (Int × Int)) (s : State) : State :=
  match s.gnss.run with
  | none => s
  | some x =>
    if !x.wants ∨ !s.power.mode.serves then s
    else
      let p := s.snapshotOf x (tickAfter s.qt)
      let s := s.advance (p.1 + x.coh * qtMs)
      let v := s.snapshotBlank (signalL5 x.signal) p.1 x.coh samples
      if p.2 * samples.length < v.2 * 100 then ((s.bump 0x11 6).modRun Search.reject).placeSnapshot (tickAfter s.qt)
      else
        let s := { s with gnss := { s.gnss with area := storeSnapshot p.1 v.1 s.gnss.area } }
        (s.modRun (Search.accept p.1 (s.param 0x1102))).placeSnapshot (tickAfter (s.qt - 1))

/-- SNAPSHOT_CAPTURE_DONE (R130). -/
def execSnapshotCaptureDone (samples : List (Int × Int)) (s : State) : Step := .next (s.snapshotDone samples)

/-- R107, R140: a Q28 entry. -/
def Handoff.bytes (h : Handoff) : Bytes :=
  le 1 h.signal ++ le 1 h.sv ++ le 1 h.flags ++ zeros 1 ++ le 4 h.phase ++ leInt 4 h.doppler ++ le 2 h.cn0 ++ zeros 2 ++
  qtBytes h.found ++ zeros 6

/-- SIGNAL_FOUND (R140, R142): the entry is stored. -/
def State.storeHandoff (h : Handoff) (s : State) : State :=
  ((s.offer 28 { data := h.bytes }).bump 0x11 4).occur 45 h.signal (le 1 h.sv ++ le 1 h.flags ++ le 2 h.cn0)

/-- R140: a confirmed signal goes to Q28, or is held while it is full. -/
def State.handoff (s : State) (h : Handoff) : State :=
  if s.gnss.held.isEmpty && s.hasRoom 28 then s.storeHandoff h
  else
    let first := s.gnss.held.isEmpty
    let s := ({ s with gnss := { s.gnss with held := s.gnss.held ++ [h] } }).bump 0x11 5
    if first then s.occur 46 (min 4 s.gnss.held.length) [] else s

/-- HANDOFF_RESUME (R140). -/
def State.handoffResume (s : State) : State :=
  match s.gnss.held with
  | h :: r => if s.hasRoom 28 then { s with gnss := { s.gnss with held := r } }.storeHandoff h else s
  | [] => s

/-- HANDOFF_RESUME (R140). -/
def execHandoffResume (s : State) : Step := .next s.handoffResume

/-- The strongest of some peaks. -/
def strongest : List LathPeak → Option LathPeak
  | [] => none
  | p :: r => match strongest r with
    | some q => if p.power.toNat < q.power.toNat then some q else some p
    | none => some p

/-- R132, R134: a Doppler lies in the window of a search over the full code space. -/
def Search.inWindow (x : Search) (doppler : Int) : Bool :=
  x.mode == 1 || decide ((doppler - x.centreMhz).natAbs * x.coh ≤ (x.span * x.coh + 499) / 500 * 500000)

/-- R133: the strongest hypothesis of an SV is kept. -/
def SearchSv.see (x : Search) (peaks : List LathPeak) (v : SearchSv) : SearchSv :=
  if v.state ≠ 4 then v
  else match strongest (peaks.filter (fun p => p.sv.toNat == v.sv && x.inWindow p.doppler)) with
  | none => v
  | some p =>
    let v := { v with peak := max v.peak p.power.toNat }
    if x.thresh ≤ p.power.toNat ∧ v.candidate.all (fun (c : Nat × Nat × Int) => decide (c.1 < p.power.toNat)) then
      { v with candidate := some (p.power.toNat, p.phase.toNat, p.doppler) }
    else v

/-- R131, R133: one pass of the search proper. The peaks of an SV are those of the last snapshot, over all of them. -/
def State.searchPass (x : Search) (peaks : List LathPeak) (s : State) : State :=
  let last := decide ((x.nc - 1) * x.passes ≤ x.passesDone)
  let svs := if last then x.svs.map (SearchSv.see x peaks) else x.svs
  let x := { x with svs := svs, passesDone := x.passesDone + 1, thresh := s.param 0x1102 }
  if x.passesDone < x.nc * x.passes then s.modRun (fun _ => { x with done := x.stopped })
  else
    let svs := x.svs.map (fun v => if v.state = 4 ∧ v.candidate.isNone then { v with state := 0 } else v)
    let x := { x with svs := svs }
    let n := x.open_.length
    ((s.modRun (fun _ => { x with verify := true, done := n == 0 || x.stopped })).bumpBy 0x11 2 n).placeSnapshot (tickAfter s.qt)

/-- R155: a code phase (2⁻⁸ chip) some QT units on, at the chip rate scaled by the Doppler. -/
def phaseAfter (g phase : Nat) (doppler : Int) (dt : Nat) : Nat :=
  let chips : Int := ((256 * chipRate g * dt : Nat) : Int)
  ((phase + chips / (qtSec : Int) + chips * doppler / ((1000 * carrierHz g * qtSec : Nat) : Int)) % ((256 * codeLength g : Nat) : Int)).toNat

/-- R123: the phase step of Lath, 2⁻⁸ chip. -/
def phaseStep (g : Nat) : Nat := if within 2 4 g || g == 6 then 64 else 128

/-- R133: a peak lies in the 3 × 3 neighbourhood of a candidate on the verification snapshot. -/
def Search.near (x : Search) (c : Nat × Nat × Int) (p : LathPeak) : Bool :=
  let n := 256 * codeLength x.signal
  let d := (p.phase.toNat + (n - phaseAfter x.signal c.2.1 c.2.2 (x.verifyAt.getD 0 - x.lastSnap))) % n
  (decide (d ≤ phaseStep x.signal) || decide (n ≤ d + phaseStep x.signal)) && decide ((p.doppler - c.2.2).natAbs * x.coh ≤ 500000)

/-- R133: the candidate `v` in the verification pass. -/
def Search.confirm (x : Search) (peaks : List LathPeak) (v : SearchSv) : SearchSv :=
  if v.state ≠ 4 then v
  else match strongest (peaks.filter (fun p => p.sv.toNat == v.sv && decide (x.thresh ≤ p.power.toNat) && v.candidate.any (fun c => x.near c p))) with
    | some p => { v with state := if x.noHandoff then 2 else 1, peak := p.power.toNat, phase := p.phase.toNat, doppler := p.doppler,
                         cn0 := p.cn0.toNat }
    | none => { v with state := 0 }

/-- The hand-off of a found SV (R140). -/
def Search.handoffOf (x : Search) (v : SearchSv) : Handoff :=
  { signal := x.signal, sv := v.sv, phase := v.phase, doppler := v.doppler, cn0 := v.cn0, found := x.verifyAt.getD 0
    flags := b01 (signalPilot x.signal) + 2 * b01 (x.mode == 1) + 4 * b01 (decide (1 < x.nc)) }

/-- R133: the verification pass decides every candidate. -/
def State.verifyPass (x : Search) (peaks : List LathPeak) (s : State) : State :=
  let n := x.open_.length
  let ids := x.open_.map (·.sv)
  let x := { x with svs := x.svs.map (Search.confirm x peaks), done := true }
  let found := x.svs.filter (fun v => ids.contains v.sv && within 1 2 v.state)
  let s := (s.modRun (fun _ => x)).bumpBy 0x11 3 (n - found.length)
  ((found.filter (fun v => v.state == 1)).map x.handoffOf).foldl State.handoff s

/-- LATH_PASS (R131, R140): with 4 signals held Lath pauses. -/
def State.lathPass (peaks : List LathPeak) (s : State) : State :=
  match s.gnss.run with
  | none => s
  | some x =>
    if !x.started ∨ x.done ∨ 4 ≤ s.gnss.held.length ∨ !s.power.mode.serves then s
    else if x.verify then (if x.verifyAt.isSome then (s.bump 0x11 1).verifyPass x peaks else s)
    else if x.passesDone < x.snapshots * x.passes then (s.bump 0x11 1).searchPass x peaks
    else s

/-- LATH_PASS (R131). -/
def execLathPass (peaks : List LathPeak) (s : State) : Step := .next (s.lathPass peaks)

/-- R135: one record of a result. -/
def SearchSv.bytes (v : SearchSv) : Bytes :=
  let on := within 1 2 v.state
  le 1 v.sv ++ le 1 v.state ++ le 2 v.peak ++ le 4 (if on then v.phase else 0) ++ leInt 4 (if on then v.doppler else 0) ++
  le 2 (if on then v.cn0 else 0) ++ zeros 2

/-- R135: FOUND. -/
def Search.found (x : Search) : Nat := (x.svs.filter (fun v => within 1 2 v.state)).length

/-- R135: the result. -/
def Search.result (x : Search) (now : Nat) : Bytes :=
  le 1 x.signal ++ le 1 x.svs.length ++ le 1 x.found ++ le 1 (b01 x.stopped) ++ le 4 ((now - x.acceptedAt) / 65536000) ++
  x.svs.flatMap SearchSv.bytes

/-- SEARCH_DONE (R135): the result is published, EV044 occurs, the completion event is posted with SLOT and FOUND as the two bytes of one item
0x1110 (DESIGN CHOICE, log entry 119), and the next search begins. -/
def State.searchDone (s : State) : State :=
  match s.gnss.run with
  | none => s
  | some x =>
    if !x.done then s
    else
      let s := ({ s with gnss := { s.gnss with run := none } }).bump 0x11 0
      let slot := (x.host.map (·.2)).getD 0xFF
      let s := match x.host with | some (_, n) => s.publish n (x.result s.up) | none => s
      let s := s.occur 44 slot (le 1 x.signal ++ le 1 x.found)
      let s := match x.host with
        | some (t, n) => s.complete 0x1110 t .ok [{ id := 0x1110, value := le 1 n ++ le 1 x.found }]
        | none => s
      s.nextSearch

/-- SEARCH_DONE (R135). -/
def execSearchDone (s : State) : Step := .next s.searchDone

end Sys2Proof.Machine
end

