-- ==== Sys2Proof/Machine/Settings.lean ====
section
/-! DEFINITION. Parameters beyond their tables: what a commit does, what a part lacks, and the conditions that tie parameters
together (R88). -/
namespace Sys2Proof.Machine

/-- R125: a bias parameter is written: the switches it names close again; BIAS_ENABLE names both bands (DESIGN CHOICE, log entry 116). -/
def State.biasParam (id : Nat) (s : State) : State :=
  match id with
  | 0x100A => (s.biasWritten false).biasWritten true
  | 0x100B => s.biasWritten false
  | 0x100C => s.biasWritten true
  | _ => s

/-- A unit of 0x40–0x43. -/
def uartUnit (u : Nat) : Bool := within 0x40 0x43 u

/-- Commit a parameter with what its unit does on it (R125, R136, R141, R425, R431, R433): a LATH_AUTO of 0 ends an automatic
search at the end of its pass. -/
def State.commitParam (id v : Nat) (s : State) : State :=
  let old := s.committed id
  let s := s.setParam id v
  if uartUnit (id / 256) ∧ id % 256 = 0 then s.uartCfgChanged (id / 256 - 0x40) old
  else if uartUnit (id / 256) ∧ id % 256 = 1 then s.noteUart (id / 256 - 0x40)
  else if within 0x4800 0x4801 id then s.gpioSense
  else if id = 0x1100 then
    let s : State := { s with gnss := { s.gnss with suspended := false } }
    if v = 0 then s.endSearches (fun x => x.host.isNone) else s
  else if id = 0x1005 then s.noteBlank (old, s.param 0x1006)
  else if id = 0x1006 then s.noteBlank (s.param 0x1005, old)
  else if within 0x1205 0x1207 id then s.noteSpacings
  else s.biasParam id

/-- R87: what PARAM_GET returns: the value committed; port state, GEO_STATUS and a default BG_RESERVE as they stand. -/
def State.shownParam (id : Nat) (s : State) : Nat :=
  match id with
  | 0x0100 => s.port.lanes
  | 0x0101 => s.port.irqMask
  | 0x2001 => reserveAt (s.committed 0x2000) (s.committed 0x2001)
  | 0x2007 => s.geoStatus
  | _ => s.committed id

/-! What a part lacks (R6, R54, R58, R522, R537) -/

/-- A unit that the part lacks (R3, R58). -/
def State.unitAbsent (u : Nat) (s : State) : Bool :=
  ((u == 0x30 || u == 0x31) && !s.part.radio) || (uartUnit u && !s.uartBonded (u - 0x40))

/-- A parameter of a port that the part lacks (R59, R308). -/
def State.portParamAbsent (id : Nat) (s : State) : Bool :=
  (within 0x2300 0x2307 id && decide (s.aesCount ≤ id - 0x2300)) ||
  (within 0x2400 0x2407 id && decide (s.tdmCount ≤ id % 4)) ||
  (within 0x240A 0x240B id && decide (s.part.package = .h))

/-- A value that names what the part lacks. -/
def State.valueAbsent (id v : Nat) (s : State) : Bool :=
  (within 0x4800 0x4804 id && !onlyBits s.gpioBonded v) || (id == 0x7002 && !onlyBits s.gpioBonded v) ||
  (id == 0x0020 && v == 6 && decide (s.part.tier ≠ .a)) || (id == 0x2003 && within 1 4 v && !s.uartBonded (v - 1))

/-! Linked parameters (R88) -/

/-- The order in which committed values come into force. -/
def Effect.rank : Effect → Nat
  | .now => 0 | .sampleTick => 1 | .mt => 2 | .second => 3 | .boundary => 4 | .superframe => 4 | .start => 5

/-- The new values of one command. -/
abbrev NewParams := List (Nat × Nat)

/-- The value of `id` once the effects up to `rank` have come, the command's own values among them. -/
def State.valueAt (new : NewParams) (rank id : Nat) (s : State) : Nat :=
  if (paramEffect id).rank ≤ rank then ((new.find? (fun p => p.1 == id)).map (·.2)).getD (s.committed id) else s.param id

/-- The stages a command's values pass through. -/
def stages : List Nat := [0, 1, 2, 3, 4]

/-- R28: the programs that a rate and a reservation must leave room for: the active one and one committed. -/
def State.longPaths (s : State) : List Nat :=
  (if s.screed.active.loaded then [s.screed.active.path] else []) ++ (if s.programPending then [s.screed.idle.path] else [])

/-- R28, R224, R266: a rate, a reservation and SOLVER_ENABLE that may not stand together. With the rate's own boundary the
reservation is raised. -/
def State.cyclesBreak (code b solver : Nat) (raised : Bool) (s : State) : Bool :=
  let least := if solver = 0 then 0 else minReserve code
  let b := if raised then max (reserveAt code b) least else reserveAt code b
  decide (b < least) || decide (cyclesPerTick code - 65 < b) || s.longPaths.any (fun f => !fitsTick code b f)

/-- R224: SCREED_FS, BG_RESERVE and SOLVER_ENABLE at one stage. -/
def State.cyclesBreakAt (new : NewParams) (rank : Nat) (s : State) : Bool :=
  s.cyclesBreak (s.valueAt new rank 0x2000) (s.valueAt new rank 0x2001) (s.valueAt new rank 0x130F) (decide (4 ≤ rank))

/-- R179: SOLVER_ENABLE is raised while the running program is too long for it. -/
def State.solverBreaks (new : NewParams) (s : State) : Bool :=
  new.contains (0x130F, 1) && s.committed 0x130F == 0 && stages.any (fun r => s.cyclesBreakAt new r)

/-- R277, R433: the UART of AIR_TEMP_SOURCE with RX_SERVE 0 and 8 data bits. -/
def airUartOk (cfg : Nat) : Bool := cfgRxServe cfg == 0 && cfgDataBits cfg == 8

/-- R277, R433: a sensor UART that is configured otherwise. -/
def State.airTempBreaks (new : NewParams) (s : State) : Bool :=
  stages.any (fun r =>
    let u := s.valueAt new r 0x2003
    within 1 4 u && !airUartOk (s.valueAt new r (0x3F00 + 0x100 * u)))

/-- The condition that a parameter's new value breaks against the others, and its status (R88, R566). The DRAM share that a change of
SCREED_FS leaves the enabled descriptors breaks none (DESIGN CHOICE, log entry 137). -/
def State.linkBroken (new : NewParams) (id : Nat) (s : State) : Option Status :=
  match id with
  | 0x2000 | 0x2001 => if stages.any (fun r => s.cyclesBreakAt new r) then some .outOfRange else none
  | 0x130F => if s.solverBreaks new then some .outOfRange else none
  | 0x3001 | 0x3104 =>
    if stages.any (fun r => decide (400 < s.valueAt new r 0x3001 + s.valueAt new r 0x3104 + 10)) then some .outOfRange else none
  | 0x5000 | 0x5001 => if refFits (s.valueAt new 0 0x5000) (s.valueAt new 0 0x5001) then none else some .outOfRange
  | 0x2003 | 0x4000 | 0x4100 | 0x4200 => if s.airTempBreaks new then some .badParam else none
  | 0x4300 =>
    if s.airTempBreaks new then some .badParam
    else if bit 27 (s.valueAt new 0 0x4300) && decide (s.valueAt new 0 0x4301 < 1736) then some .outOfRange else none
  | 0x4301 => if bit 27 (s.valueAt new 0 0x4300) && decide (s.valueAt new 0 0x4301 < 1736) then some .outOfRange else none
  | _ => none

end Sys2Proof.Machine
end

