-- ==== Sys2Proof/Machine/Steward.lean ====
section
/-! DEFINITION. The Steward's mailbox, journal, log, sensors and watchdogs. -/
namespace Sys2Proof.Machine

/-! The mailbox (R474, R475) -/

/-- One mailbox request at the head of Q30: its entries, and whether its form is right. -/
structure Mail where
  kind : Nat
  seq : Nat
  entries : Nat
  body : Bytes
  ok : Bool

/-- R475: the kinds of Q30. -/
def mailKind (k : Nat) : Bool := within 1 8 k

/-- The request at the head of Q30; none while its last entries are still to come. -/
def State.mail (s : State) : Option Mail :=
  match (s.queue 30).entries.map QEntry.data with
  | [] => none
  | h :: r =>
    let len := fieldAt 4 2 h
    let run := h :: r.takeWhile (fun b => b.take 6 == h.take 6)
    let got := run.take (mailNeed len)
    if 8 ≤ h.length ∧ len ≤ 8256 ∧ got.length < mailNeed len ∧ run.length = r.length + 1 then none
    else
      let body := got.flatMap (fun b => b.drop 8)
      some { kind := fieldAt 0 2 h, seq := fieldAt 2 2 h, entries := got.length, body := body
             ok := decide (8 ≤ h.length) && decide (len ≤ 8256) && got.all (fun b => fieldAt 6 2 b == 0) &&
               decide (got.length = mailNeed len) && decide (body.length = len) && got.dropLast.all (fun b => b.length == 64) }

/-- Put a message into Q29 (R475). -/
def State.notify (kind seq : Nat) (body : Bytes) (s : State) : State := s.post 29 kind seq body

/-- Answer a request (R475): KIND + 0x8000, a status, and what follows it. -/
def State.answer (m : Mail) (st : Status) (body : Bytes) (s : State) : State := s.notify (m.kind + 0x8000) m.seq (le 2 st.code ++ body)

/-- Consume `n` entries of Q30. -/
def State.consumeMail : Nat → State → State
  | 0, s => s
  | n + 1, s => State.consumeMail n (s.consume 30)

/-- Take a request from Q30 (R475, R500). -/
def State.takeMail (m : Mail) (s : State) : State := (s.consumeMail m.entries).mailed

/-- R475: a request is answered with BAD_PARAM and logged; the request has been taken. -/
def State.refuseMail (m : Mail) (st : Status) (s : State) : State := ((s.bump 0x60 3).logAny 0x60).answer m st []

/-- A mailbox row: requests are served strictly in order, so it acts when the head of Q30 is of its kind; a malformed
request or an unknown kind is refused by whichever row comes. -/
def State.mailRow (kind : Nat) (f : Mail → State → State) (s : State) : State :=
  match s.mail with
  | none => s
  | some m =>
    if !m.ok || !mailKind m.kind then (s.takeMail m).refuseMail m .badParam
    else if m.kind ≠ kind then s
    else f m (s.takeMail m)

/-! Roles of journal requests (R478, R481) -/

/-- R478: role and key of a session as the Steward holds it; session 0 is always the operator's. -/
def State.stewardSession (n : Nat) (s : State) : Option (Nat × Nat) :=
  if n = 0 then some (1, 0) else (s.steward.sessions.find? (fun t => t.1 == n)).map (·.2)

/-- R89: role of the journalling opcodes. -/
def journalRole (op : Nat) : Option Nat :=
  if [0x0310, 0x0410, 0x1010, 0x1311, 0x1314, 0x2014, 0x2110, 0x2210, 0x2310, 0x2510, 0x2512, 0x3011, 0x3210, 0x3213, 0x5110,
      0x6111, 0x6112, 0x7011].contains op then some 2
  else if [0x1315, 0x2012, 0x2511, 0x5112, 0x5113].contains op then some 1
  else if [0x3013, 0x6310, 0x6311, 0x7210].contains op then some 3
  else none

/-- R481: the record KIND of a request's ID: a parameter (0) where a table defines it or ID is 0x0000, a lock write (10), the key
store (11), the boot record (12), otherwise a command item (1). An ID that is both is taken for the parameter (log entry 32). -/
def requestKind (id : Nat) : Nat :=
  if id = 0 ∨ (paramSpec id).isSome then 0
  else match id with | 0x3013 => 10 | 0x6310 | 0x6311 => 11 | 0x6111 | 0x6112 => 12 | _ => 1

/-- Role a journal request needs. -/
def requestRole (id : Nat) (new : Bytes) : Option Nat :=
  if id = 0 then
    match parseItems new with
    | some l => l.foldl (fun r i => match r, paramSpec i.id with | some a, some p => some (max a p.role) | _, _ => none) (some 1)
    | none => none
  else match paramSpec id with
  | some p => some p.role
  | none => journalRole id

/-- R479: unrevoked firmware keys. -/
def State.firmwareKeys (s : State) : List Key := s.nv.keys.filter (fun k => k.kind == 4 && !k.revoked)

/-- R479: a request revokes the last unrevoked firmware key. -/
def lastFirmwareKey (s : State) (l : List Item) : Bool :=
  match l with
  | i :: _ => fieldAt 0 1 i.value == 1 && fieldAt 1 1 i.value == 4 && s.firmwareKeys.length == 1 &&
      s.firmwareKeys.any (fun k => k.keyId == fieldAt 2 2 i.value)
  | [] => false

/-- R479, R480, R498: ACTION of a request. -/
def keyAction (l : List Item) : Nat := match l with | i :: _ => fieldAt 0 1 i.value | [] => 0

/-- R498: ACTION 2 with the fuse blown. -/
def jtagDenied (s : State) (l : List Item) : Bool := keyAction l == 2 && s.nv.boot.jtagBlown

/-- R20, R478: the locks of a journal request: a channel plan outside the regulatory locks, the last firmware key, a blown JTAG
fuse. -/
def State.requestLocked (id : Nat) (new : Bytes) (s : State) : Bool :=
  let l : List Item := [{ id := id, value := new }]
  match id with
  | 0x3011 => (planOf new).named && planLocked s l
  | 0x6310 => lastFirmwareKey s l
  | 0x7210 => jtagDenied s l
  | _ => false

/-! Journal requests (R481, R482, R484) -/

/-- The parameters of a record of KIND 0 (R481). -/
def JournalRecord.params (r : JournalRecord) : List (Nat × Nat) :=
  if r.kind ≠ 0 then []
  else if r.id ≠ 0 then [(r.id, ofLE r.new)]
  else ((parseItems r.new).getD []).map (fun i => (i.id, ofLE i.value))

/-- What a committed parameter record puts in force (R88). -/
def State.applyRecord (r : JournalRecord) (s : State) : State := r.params.foldl (fun s p => s.commitParam p.1 p.2) s

/-- R484, R517: the segment has room for a record outside the save's reserve. -/
def State.journalRoom (old new : Bytes) (s : State) : Bool :=
  decide (s.nv.journal.used + recordBytes old new ≤ segmentBytes - segmentReserve)

/-- The first write of R482: everything but CRC. -/
def State.beginAppend (r : JournalRecord) (who : Option Nat) (s : State) : State :=
  { s with steward := { s.steward with append := some (r, who) } }

/-- The first write of a record of the device's own; a request through Q30 that finds no room or fails is answered (R482, R484). -/
def State.serveRecord (ok : Bool) (r : DeviceRecord) (s : State) : State :=
  let tell := fun (st : Status) (s : State) => match r.seq with | some q => s.notify 0x8001 q (le 2 st.code) | none => s
  if !s.journalRoom [] r.new then tell .nvFull s
  else if !ok then tell .nvFault s.nvFault
  else s.beginAppend (s.journalRecord r.kind 0 0 r.id [] r.new) r.seq

/-- The request at the head of Q30 is one of the device's own: without HOLD_READY its record waits in the Steward's buffer (R34, R517). -/
def State.serveOwn (ok : Bool) (r : DeviceRecord) (s : State) : State :=
  let s := { s with steward := { s.steward with own := s.steward.own.filter (· != r) } }
  if s.power.holdReady then s.serveRecord ok r else { s with steward := { s.steward with asked := s.steward.asked ++ [r] } }

/-- The record of the device's own that a request asks for. -/
def State.ownOf (m : Mail) (s : State) : Option DeviceRecord :=
  s.steward.own.find? (fun r => r.seq == some m.seq && m.body == zeros 2 ++ le 2 r.id ++ le 2 0 ++ le 2 r.new.length ++ r.new)

/-- A journal request through Q30 (R475, R478, R481, R482). -/
def State.serveRequest (ok : Bool) (m : Mail) (s : State) : State :=
  let b := m.body
  let ol := fieldAt 4 2 b
  let nl := fieldAt 6 2 b
  let id := fieldAt 2 2 b
  let old := slice 8 ol b
  let new := slice (8 + ol) nl b
  if b.length < 8 ∨ b.length ≠ 8 + ol + nl ∨ 4096 < ol ∨ 4096 < nl ∨ fieldAt 1 1 b ≠ 0 then s.refuseMail m .badParam
  else match s.stewardSession (fieldAt 0 1 b), requestRole id new with
  | some (role, key), some need =>
    if role < need then s.refuseMail m .deniedRole
    else if s.requestLocked id new then s.refuseMail m .deniedLock
    else if !s.power.holdReady then s.answer m .notReady []
    else if !s.journalRoom old new then s.answer m .nvFull []
    else if !ok then s.nvFault.answer m .nvFault []
    else s.beginAppend (s.journalRecord (requestKind id) role key id old new) (some m.seq)
  | _, _ => s.refuseMail m .badParam

/-- The request at the head of Q30, if it is a journal request. -/
def State.takeRequest (ok : Bool) (s : State) : State :=
  s.mailRow 1 (fun m s => match s.ownOf m with | some r => s.serveOwn ok r | none => s.serveRequest ok m)

/-- JOURNAL_REQUEST (R482): the first write of the next request's record; `ok` is its verification (R476). -/
def State.journalRequest (ok : Bool) (s : State) : State :=
  if s.steward.append.isSome then s
  else match s.steward.asked with
  | r :: rest => if s.power.holdReady then ({ s with steward := { s.steward with asked := rest } }).serveRecord ok r else s.takeRequest ok
  | [] => s.takeRequest ok

/-- JOURNAL_REQUEST (R482). -/
def execJournalRequest (nvOk : Bool) (s : State) : Step := .next (s.journalRequest nvOk)

/-! Compaction (R483, R484) -/

/-- Bytes of a command item's value that name the object it sets (log entry 33). -/
def itemKeyBytes (op : Nat) : Nat :=
  match op with
  | 0x0310 | 0x2310 | 0x2014 | 0x2511 => 2
  | 0x2010 | 0x2012 => 4
  | 0x0410 | 0x1314 | 0x1315 | 0x2110 | 0x2210 | 0x2512 | 0x3213 | 0x5112 => 1
  | _ => 0

/-- The parts of a record that fold on their own: KIND, ID and value (R481). -/
def JournalRecord.parts (r : JournalRecord) : List (Nat × Nat × Bytes) :=
  if r.kind = 6 then [(fieldAt 0 1 r.old, r.id, r.new)]
  else if r.kind = 0 ∧ r.id = 0 then ((parseItems r.new).getD []).map (fun i => (0, i.id, i.value))
  else if within 7 9 r.kind then []
  else if r.kind = 1 then
    match parseItems r.new with
    | some (a :: b :: l) => if (a :: b :: l).all (fun i => i.id == r.id) then (a :: b :: l).map (fun i => (1, r.id, i.value)) else [(1, r.id, r.new)]
    | _ => [(1, r.id, r.new)]
  else [(r.kind, r.id, r.new)]

/-- Two parts set one object. -/
def samePart (a b : Nat × Nat × Bytes) : Bool :=
  a.1 == b.1 && a.2.1 == b.2.1 &&
  (if a.1 = 1 then decide (a.2.2.take (itemKeyBytes a.2.1) = b.2.2.take (itemKeyBytes a.2.1))
   else if a.1 = 0 ∨ a.1 = 2 then true else decide (a.2.2 = b.2.2))

/-- A later part replaces the earlier one that sets the same object. -/
def foldPart (l : List (Nat × Nat × Bytes)) (a : Nat × Nat × Bytes) : List (Nat × Nat × Bytes) :=
  l.filter (fun b => !samePart a b) ++ [a]

/-- The journalled items as of JSEQ `n` (R483 step 2). -/
def Journal.items (n : Nat) (j : Journal) : List (Nat × Nat × Bytes) :=
  (j.records.filter (fun r => decide (r.jseq ≤ n))).foldl (fun l r => r.parts.foldl foldPart l) []

/-- A compaction record: it carries the JSEQ of the snapshot (R481). -/
def State.compactionRecord (n kind id : Nat) (old new : Bytes) (s : State) : JournalRecord :=
  { s.journalRecord kind 0 0 id old new with jseq := n }

/-- Replace the running compaction. -/
def State.setCompaction (c : Option Compaction) (s : State) : State :=
  { s with nv := { s.nv with journal := { s.nv.journal with compaction := c } } }

/-- R483: the active segment holds 75 % of its bytes. -/
def Journal.due (j : Journal) : Bool := decide (3 * segmentBytes ≤ 4 * j.used)

/-- R484: it holds 95 %, so compaction runs without slicing. -/
def Journal.pressed (j : Journal) : Bool := decide (19 * segmentBytes ≤ 20 * j.used)

/-- Step 1 of R483. -/
def State.beginCompaction (s : State) : State :=
  let n := s.nv.journal.jseq
  s.setCompaction (some { stage := 1, jseqN := n, todo := s.nv.journal.items n
                          written := [s.compactionRecord n 7 0 [] (le 4 n)] })

/-- Steps 2 and 3 of R483: `k` snapshot records, then the snapshot-end record. -/
def State.snapshotSlice (k : Nat) (c : Compaction) (s : State) : State :=
  let now := (c.todo.take k).map (fun p => s.compactionRecord c.jseqN 6 p.2.1 (le 1 p.1) p.2.2)
  let rest := c.todo.drop k
  if rest.isEmpty then
    s.setCompaction (some { c with stage := 2, todo := [], written := c.written ++ now ++ [s.compactionRecord c.jseqN 8 0 [] []] })
  else s.setCompaction (some { c with todo := rest, written := c.written ++ now })

/-- Bytes of a list of records. -/
def recordsBytes (l : List JournalRecord) : Nat := l.foldl (fun n r => n + recordBytes r.old r.new) 0

/-- Steps 4 to 6 of R483: the later records are copied, the other segment becomes active, JOURNAL_COMPACT occurs. -/
def State.switchSegment (c : Compaction) (s : State) : State :=
  let j := s.nv.journal
  let gen := j.generation + 1
  let kept := j.records.filter (fun r => decide (c.jseqN < r.jseq) && takesJseq r.kind)
  let recs := c.written ++ kept ++ [s.compactionRecord c.jseqN 9 0 [] (le 4 gen)]
  let j := { j with records := recs, used := recordsBytes recs, segment := 1 - j.segment, generation := gen, compaction := none }
  (({ s with nv := { s.nv with journal := j } }).bump 0x61 1).occur 115 gen (le 4 c.jseqN ++ le 4 j.used)

/-- R476: an NV write of the device itself, and what it leaves: a write that fails its verification is counted and logged, and leaves
the work where it was (log entry 112). -/
def State.verifiedWrite (f : State → State) (s : State) : State := if s.readBack.1 then f s.readBack.2 else s.readBack.2.nvFault

/-- COMPACTION_SLICE (R483, R484): one slice, in which at most `k` snapshot records fit. -/
def State.compactionSlice (k : Nat) (s : State) : State :=
  match s.nv.journal.compaction with
  | none => if s.nv.journal.due && s.power.holdReady && !s.rst.inReset then s.verifiedWrite State.beginCompaction else s
  | some c =>
    if c.stage = 1 then s.verifiedWrite (State.snapshotSlice (if s.nv.journal.pressed then c.todo.length else k) c)
    else if s.steward.append.isSome then s
    else s.verifiedWrite (State.switchSegment c)

/-- COMPACTION_SLICE (R483). -/
def execCompactionSlice (count : Nat) (s : State) : Step := .next (s.compactionSlice count)

/-! JOURNAL_READ (R485) -/

/-- A record as R481 lays it out. -/
def JournalRecord.bytes (r : JournalRecord) : Bytes :=
  let vals := r.old ++ r.new
  let body := le 2 0x4A52 ++ le 2 (recordBytes r.old r.new) ++ le 4 r.jseq ++ le 1 r.kind ++ le 1 r.role ++ le 2 r.keyId ++
    qtBytes r.stamp ++ le 2 r.id ++ le 2 r.old.length ++ le 2 r.new.length ++ padTo ((vals.length + 3) / 4 * 4) vals
  body ++ le 4 (crc32 body)

/-- R485: a record passes FILTER. -/
def JournalRecord.passes (filter kind : Nat) (r : JournalRecord) : Bool :=
  match kind with
  | 0 => true
  | 1 => (r.kind == 0 && (r.id == filter || (r.id == 0 && ((parseItems r.new).getD []).any (fun i => i.id == filter)))) ||
         (r.kind == 6 && fieldAt 0 1 r.old == 0 && r.id == filter)
  | 2 => (r.kind == 1 && r.id == filter) || (r.kind == 6 && fieldAt 0 1 r.old == 1 && r.id == filter)
  | _ => r.kind == filter % 256

/-- JOURNAL_READ (R485). -/
def journalRead : CmdSpec :=
  { opcode := 0x6113, role := 1, shape := oneItem 0x6113 12
    body := fun c s =>
      match s.freeSlot with
      | none => refuse .busy s
      | some n =>
        guarded [ (!within 1 64 (c.u 4 2), .outOfRange), (decide (3 < c.u 8 1), .badParam), (c.u 9 3 != 0, .badParam) ] s
          (let w : JournalReadWork := { slot := n, fromJseq := c.u 0 4, max := c.u 4 2, filter := c.u 6 2, filterKind := c.u 8 1 }
           let s := s.allocate n c.session
           reply 0x6113 (le 1 n) { s with steward := { s.steward with journalReads := s.steward.journalReads ++ [w] } }) }

/-- JOURNAL_READ (R485). -/
def execJournalRead (s : State) : Step := .next (journalRead.run s)

/-- The longest prefix of records within a number and a size, and what follows. -/
def takeRecords : Nat → Nat → List JournalRecord → List JournalRecord × List JournalRecord
  | 0, _, l => ([], l)
  | _, _, [] => ([], [])
  | n + 1, room, r :: l =>
    if room < r.bytes.length then ([], r :: l)
    else
      let t := takeRecords n (room - r.bytes.length) l
      (r :: t.1, t.2)

/-- JOURNAL_READ_PUBLISH (R485): COUNT, reserved, NEXT_JSEQ, then the records, at most 16 KiB in all. NEXT_JSEQ is the
JSEQ of the first record left out, or one more than the last JSEQ (log entry 34). -/
def State.journalPublish (s : State) : State :=
  match s.steward.journalReads with
  | [] => s
  | w :: rest =>
    let all := s.nv.journal.records.filter (fun r => decide (w.fromJseq ≤ r.jseq) && r.passes w.filter w.filterKind)
    let t := takeRecords w.max (16384 - 8) all
    let next := match t.2 with | r :: _ => r.jseq | [] => wrap32 (s.nv.journal.jseq + 1)
    let s := { s with steward := { s.steward with journalReads := rest } }
    s.publish w.slot (le 2 t.1.length ++ zeros 2 ++ le 4 next ++ t.1.flatMap JournalRecord.bytes)

/-- JOURNAL_READ_PUBLISH (R485). -/
def execJournalReadPublish (s : State) : Step := .next s.journalPublish

/-! The event log (R486–R488) -/

/-- EVENT_LOG_REQUEST (R475, R487). -/
def State.eventLogRequest (s : State) : State :=
  s.mailRow 2 (fun m s =>
    if m.body.length ≠ 18 then s.refuseMail m .badParam
    else (s.log (fieldAt 0 1 m.body) (fieldAt 1 1 m.body % 128) (slice 2 16 m.body)).answer m .ok [])

/-- EVENT_LOG_REQUEST (R487). -/
def execEventLogRequest (s : State) : Step := .next s.eventLogRequest

/-- LOG_WRITE (R487): the oldest record of the queue goes to the ring, or fails twice; a gap marker that is due takes the freed slot. -/
def State.logWrite (ok : Bool) (s : State) : State :=
  match s.steward.logQueue with
  | [] => s
  | r :: rest =>
    let s := ({ s with steward := { s.steward with logQueue := rest } }).putLog ok r
    match s.steward.gaps with
    | [] => s
    | g :: l => { s with steward := { s.steward with gaps := l } }.gapMarker g

/-- LOG_WRITE (R487). -/
def execLogWrite (nvOk : Bool) (s : State) : Step := .next (s.logWrite nvOk)

/-- A record as R486 lays it out. -/
def LogRecord.bytes (r : LogRecord) : Bytes :=
  let b := le 4 r.seq ++ le 8 r.stamp ++ le 1 r.unit ++ le 1 (r.kind % 128 + 128 * b01 r.rtc) ++ padTo 16 r.data
  b ++ le 2 (b.foldl (fun c x => crc16Step c x.toNat) 0xFFFF)

/-- R488: the records an export can reach, oldest first: the ring and the queue. -/
def State.logHeld (s : State) : List LogRecord := s.nv.log.records ++ s.steward.logQueue

/-- LOG_EXPORT (R488). -/
def logExport : CmdSpec :=
  { opcode := 0x6010, role := 1, shape := oneItem 0x6010 8
    body := fun c s =>
      if s.steward.logExport.isSome then refuse .busy s
      else
        let oldest := match s.logHeld with | r :: _ => r.seq | [] => s.nv.log.nextSeq
        let asked := c.u 0 4
        let first := if asked = 0xFFFFFFFF ∨ asked < oldest then oldest else asked
        let last := if s.nv.log.nextSeq = 0 then 0 else s.nv.log.nextSeq - 1
        let stop := if c.u 4 4 = 0 then last else min last (first + c.u 4 4 - 1)
        let none_ := decide (s.nv.log.nextSeq ≤ first)
        let x : LogExport :=
          { ticket := c.ticket s, next := if none_ then 2 ^ 32 else first, first := first
            last := if none_ then wrap32 (first + 2 ^ 32 - 1) else stop, exported := 0
            truncated := decide (asked ≠ 0xFFFFFFFF) && decide (asked < oldest) }
        { status := .accepted, state := { s with steward := { s.steward with logExport := some x } } } }

/-- LOG_EXPORT (R488). -/
def execLogExport (s : State) : Step := .next (logExport.run s)

/-- R488: what is still to export, in SEQ order; a SEQ that was not kept is not among the records. -/
def State.exportRest (x : LogExport) (s : State) : List LogRecord :=
  s.logHeld.filter (fun r => decide (x.next ≤ r.seq) && decide (r.seq ≤ x.last))

/-- LOG_EXPORT_ENTRY (R488, R107): with room in Q05 the next entry of up to 32 records is stored. -/
def State.exportEntry (s : State) : State :=
  match s.steward.logExport with
  | none => s
  | some x =>
    let l := (s.exportRest x).take 32
    match l.getLast? with
    | none => s
    | some r =>
      if !s.hasRoom 5 then s
      else
        let x := { x with next := r.seq + 1, exported := x.exported + l.length }
        { (s.offer 5 { data := l.flatMap LogRecord.bytes }) with steward := { s.steward with logExport := some x } }

/-- LOG_EXPORT_ENTRY (R488). -/
def execLogExportEntry (s : State) : Step := .next s.exportEntry

/-- LOG_EXPORT_DONE (R488): the export has nothing left; its completion event is posted. -/
def State.exportDone (s : State) : State :=
  match s.steward.logExport with
  | none => s
  | some x =>
    if !(s.exportRest x).isEmpty then s
    else
      let s := { s with steward := { s.steward with logExport := none } }
      s.complete 0x6010 x.ticket .ok
        [{ id := 0x6010, value := le 4 x.first ++ le 4 x.last ++ le 4 x.exported ++ le 1 (b01 x.truncated) }]

/-- LOG_EXPORT_DONE (R488). -/
def execLogExportDone (s : State) : Step := .next s.exportDone

/-! Sessions by mailbox (R478) -/

/-- SESSION_PROOF_CHECK (R478): the check of a SESSION_OPEN item for a session ID; a pass is recorded and Trowel-H is notified. -/
def State.sessionProofCheck (s : State) : State :=
  s.mailRow 3 (fun m s =>
    let n := fieldAt 0 1 m.body
    let item := m.body.drop 1
    if m.body.length ≠ 73 ∨ 15 < n ∨ !s.reserved n then s.refuseMail m .badParam
    else
      let role := fieldAt 0 1 item
      let key := fieldAt 2 2 item
      if s.proofPasses n item then
        let s := { s with steward := { s.steward with sessions := s.steward.sessions ++ [(n, role, key)] } }
        (((s.bump 0x63 0).logSession 0 n role key).answer m .ok []).notify 0x4001 m.seq (le 1 n ++ le 1 role ++ le 2 key)
      else (s.authFailed n role key).answer m .authFail [])

/-- SESSION_PROOF_CHECK (R478). -/
def execSessionProofCheck (s : State) : Step := .next s.sessionProofCheck

/-- SESSION_TABLE_CHANGE (R478): Trowel-H takes the notice at the head of Q29 and uses the role from then on. -/
def State.sessionTableChange (s : State) : State :=
  match (s.queue 29).entries with
  | [] => s
  | e :: _ =>
    if fieldAt 0 2 e.data ≠ 0x4001 then s
    else
      let n := fieldAt 8 1 e.data
      let s := s.consume 29
      if n = 0 ∨ 15 < n then s
      else s.modSession n (fun _ => { state := .opened, role := fieldAt 9 1 e.data, keyId := fieldAt 10 2 e.data
                                      idleLimit := s.param 0x0104, idleFrom := s.up })

/-- SESSION_TABLE_CHANGE (R478). -/
def execSessionTableChange (s : State) : Step := .next s.sessionTableChange

/-- LOCKS_RELOADED (R326): the locks of the region are in the sequencer and Trowel-H is notified. -/
def execLocksReloaded (s : State) : Step := .next (s.loadLocks.notify 0x4002 0 [])

/-! Watchdogs (R497) -/

/-- R497, R500: the firmware's own heartbeat, a request of its own. -/
def State.firmwareBeat (s : State) : State :=
  if s.trowelH.halted then s else ({ s with steward := { s.steward with warned := false } }).mailed

/-- HEARTBEAT (R497): the Trowel-H watchdog starts again. A heartbeat is the request at the head of Q30, or the firmware's own. -/
def State.heartbeat (s : State) : State :=
  match s.mail with
  | some m =>
    if m.ok ∧ m.kind = 5 then
      if m.body.isEmpty then ({ (s.takeMail m) with steward := { (s.takeMail m).steward with warned := false } }).answer m .ok []
      else (s.takeMail m).refuseMail m .badParam
    else s.firmwareBeat
  | none => s.firmwareBeat

/-- HEARTBEAT (R497). -/
def execHeartbeat (s : State) : Step := .next s.heartbeat

/-- The Trowel-H watchdog counts: the device runs, and no low-power entry suspends it. -/
def State.watchdogsRun (s : State) : Bool := s.power.mode.serves && !s.rst.inReset && !s.steward.watchdogsSuspended

/-- WATCHDOG_WARN (R497, R500): 250 ms without a heartbeat. -/
def State.watchdogWarn (s : State) : State :=
  if s.watchdogsRun && !s.steward.warned then
    ({ s with steward := { s.steward with warned := true } }.bump 0x60 0).occur 119 0 (le 2 250)
  else s

/-- WATCHDOG_WARN (R497). -/
def execWatchdogWarn (s : State) : Step := .next s.watchdogWarn

/-- WD_H (R497): 1 s without a heartbeat is logged and starts a device reset. -/
def State.wdH (s : State) : State := if s.watchdogsRun then (s.logFree 0x60 0x06).stewardReset 0x04 else s

/-- WD_H (R497). -/
def execWdH (s : State) : Step := .next s.wdH

/-- WD_S (R497): 2 s without a scan forces a device reset, without a bundle (R525). -/
def State.wdS (s : State) : State :=
  if !s.rst.inReset && !s.steward.watchdogsSuspended && decide (s.power.mode ≠ .backup) then s.startReset 0x05 else s

/-- WD_S (R497). -/
def execWdS (s : State) : Step := .next s.wdS

/-! Device resets and the hourly bundle -/

/-- R525: the causes a request of Trowel-H can name; any other is STEWARD. -/
def requestCause (c : Nat) : Nat := if [0x03, 0x06, 0x07, 0x08, 0x09, 0x0A, 0x0B, 0x0E].contains c then c else 0x10

/-- DEVICE_RESET_REQUEST (R475, R525): a mailbox request, or the firmware's answer to a trap in its own banks (R410), which also
asks for a log record. -/
def State.deviceResetRequest (s : State) : State :=
  match s.mail with
  | some _ => s.mailRow 8 (fun m s =>
      if m.body.length ≠ 1 then s.refuseMail m .badParam else s.stewardReset (requestCause (fieldAt 0 1 m.body)))
  | none =>
    if s.trowelH.trapActive ∧ s.trowelH.trapBank ≤ 5 ∧ !s.trowelH.halted then (s.logFree 0x60 0x03).stewardReset 0x06 else s

/-- DEVICE_RESET_REQUEST (R525). -/
def execDeviceResetRequest (s : State) : Step := .next s.deviceResetRequest

/-- REGION_READ (R475): a read of the library, journal or log for Trowel-H. The numbers of the regions and the bytes at an
offset are not stated, so the bytes are free (log entry 3). -/
def State.regionRead (s : State) : State :=
  s.mailRow 7 (fun m s =>
    let n := fieldAt 8 4 m.body
    if m.body.length ≠ 12 ∨ fieldAt 1 3 m.body ≠ 0 ∨ 8254 < n then s.refuseMail m .badParam
    else ({ s with freeTick := s.freeTick + n }).answer m .ok (freeBytes n s.freeTick))

/-- REGION_READ (R475). -/
def execRegionRead (s : State) : Step := .next s.regionRead

/-- HOURLY_BUNDLE (R519): CAUSE 0, and neither the journal nor the log is flushed. -/
def State.hourlyBundle (s : State) : State :=
  if s.power.mode.serves && decide (s.power.mode ≠ .maintenance) && s.power.ready then s.writeBundle 0 0 0 else s

/-- HOURLY_BUNDLE (R519). -/
def execHourlyBundle (s : State) : Step := .next s.hourlyBundle

/-! Sensors (R489–R491) -/

/-- R489: sensors without a value on radio N. -/
def State.sensorAbsent (n : Nat) (s : State) : Bool := !s.part.radio && [13, 23, 24].contains n

/-- R489: the converted value of sensor `n`; sensor 25 is REF_FREQ in 10⁻⁹ and has a value in LOCKED and LOCKED_CELL only. -/
def State.sensorValue (n raw : Nat) (s : State) : Int :=
  if s.sensorAbsent n then -32768
  else if n = 25 then
    if within 2 3 s.plumb.state then max (-32767) (min 32767 ((s.plumb.refFreq + 500) / 1000)) else -32768
  else signed 16 raw

/-- LOW and HIGH of a sensor, none where off (R489). -/
def State.sensorLimits (n : Nat) (s : State) : Option Int × Option Int :=
  let v := s.param (0x6200 + n)
  let low := signed 16 (v % 65536)
  let high := signed 16 (v / 65536)
  (if low = -32768 then none else some low, if high = 32767 then none else some high)

/-- R489: 1 low, 2 high, 0 within. -/
def outside (v : Int) (l : Option Int × Option Int) : Nat :=
  if v = -32768 then 0
  else match l with
  | (some lo, hi) => if v < lo then 1 else match hi with | some h => if h < v then 2 else 0 | none => 0
  | (none, some h) => if h < v then 2 else 0
  | (none, none) => 0

/-- R489: inside the limits by at least the hysteresis. -/
def wellInside (v hyst : Int) (l : Option Int × Option Int) : Bool :=
  v == -32768 || ((match l.1 with | some lo => decide (lo + hyst ≤ v) | none => true) &&
    (match l.2 with | some h => decide (v ≤ h - hyst) | none => true))

/-- Sensor `n`. -/
def State.sensor (n : Nat) (s : State) : Sensor := s.steward.sensors.getD n {}

/-- Replace sensor `n`. -/
def State.setSensor (n : Nat) (x : Sensor) (s : State) : State :=
  { s with steward := { s.steward with sensors := modAt n (fun _ => x) s.steward.sensors } }

/-- SENSOR_LIMIT (R489, R500), its log record of kind 0x04, and in a low-power mode the wake (R511). -/
def State.sensorLimit (n st : Nat) (v limit : Int) (s : State) : State :=
  let s := (s.bump 0x62 n).logFree 0x62 0x04
  let s := if st ≠ 0 ∧ s.wakeable then s.latchWake 6 else s
  if s.power.mode.serves then s.occur 114 n (le 1 st ++ zeros 1 ++ leInt 2 v ++ leInt 2 limit) else s

/-- One sensor of a scan (R489). -/
def State.scanSensor (n raw : Nat) (s : State) : State :=
  let x := s.sensor n
  let v := s.sensorValue n raw
  let l := s.sensorLimits n
  let st := outside v l
  let first := decide (x.value = -32768)
  let y : Sensor := { x with
    value := v
    min := if v = -32768 then x.min else if first && decide (x.min = -32768) then v else min x.min v
    max := if v = -32768 then x.max else max x.max v }
  if st ≠ 0 ∧ st ≠ x.state then
    (s.setSensor n { y with state := st, goodScans := 0 }).sensorLimit n st v ((if st = 1 then l.1 else l.2).getD 0)
  else if x.state = 0 then s.setSensor n y
  else if !wellInside v (sensorHysteresis n) l then s.setSensor n { y with goodScans := 0 }
  else if x.goodScans + 1 < 3 then s.setSensor n { y with goodScans := x.goodScans + 1 }
  else
    (s.setSensor n { y with state := 0, goodScans := 0 }).sensorLimit n 0 v ((if x.state = 1 then l.1 else l.2).getD 0)

/-- R491: the result of a scan. -/
def State.scanResult (s : State) : Bytes :=
  le 4 s.steward.scanSeq ++ qtBytes s.qt ++ zeros 2 ++ s.steward.sensors.flatMap (fun x => leInt 2 x.value) ++
  le 4 ((List.range 26).foldl (fun m n => m + (if (s.sensor n).state = 0 then 0 else 2 ^ n)) 0)

/-- R490: any die temperature point reads TEMP_CRIT or above; every point reads below TEMP_CRIT − 10 °C. -/
def State.dieHot (s : State) : Bool :=
  (List.range 8).any (fun n => decide (((s.param 0x6220 * 10 : Nat) : Int) ≤ (s.sensor n).value))
def State.dieCool (s : State) : Bool :=
  (List.range 8).all (fun n => decide ((s.sensor n).value < (((s.param 0x6220 - 10) * 10 : Nat) : Int)))

/-- R490: the thermal rule after a scan. -/
def State.thermal (s : State) : State :=
  if s.rst.thermalHold then
    let k := if s.dieCool then s.steward.coolScans + 1 else 0
    let s := { s with steward := { s.steward with coolScans := k } }
    if 10 ≤ k then { s with rst := { s.rst with thermalHold := false } } else s
  else
    let k := if s.dieHot then s.steward.hotScans + 1 else 0
    let s := { s with steward := { s.steward with hotScans := k } }
    if 2 ≤ k ∧ !s.rst.inReset then (s.logFree 0x62 0x04).stewardReset 0x0C else s

/-- SENSOR_SCAN (R489–R491): every sensor is converted and compared; slot 2 and the radio's temperature follow. -/
def State.sensorScan (values : List Nat) (s : State) : State :=
  if s.power.mode = .backup ∧ !s.rst.thermalHold then s
  else
    let s := (List.range 26).foldl (fun s n => s.scanSensor n (values.getD n 0x8000)) s
    let s := { s with
      steward := { s.steward with scanSeq := wrap32 (s.steward.scanSeq + 1) }
      power := { s.power with vhold := (s.sensor 20).value.toNat, vddIo33 := (s.sensor 11).value.toNat } }
    let s := if s.power.mode.serves then s.publish 2 s.scanResult else s
    let s := if s.power.mode.serves || s.power.mode == .watch then s.temperatureCal (s.sensor (Config.radioPoint % 8)).value else s
    s.thermal

/-- SENSOR_SCAN (R489). -/
def execSensorScan (values : List (BitVec 16)) (s : State) : Step := .next (s.sensorScan (values.map BitVec.toNat))

/-- SENSOR_READ (R491). -/
def sensorRead : CmdSpec :=
  { opcode := 0x6210, role := 1, shape := oneItem 0x6210 1
    naming := fun _ c => if 25 < c.u 0 1 then some .outOfRange else none
    body := fun c s =>
      let x := s.sensor (c.u 0 1)
      reply 0x6210 (le 1 (c.u 0 1) ++ le 1 x.state ++ leInt 2 x.value ++ leInt 2 x.min ++ leInt 2 x.max) s }

/-- SENSOR_READ (R491). -/
def execSensorRead (s : State) : Step := .next (sensorRead.run s)

end Sys2Proof.Machine
end

