-- ==== Sys2Proof/Machine/Trowel.lean ====
section
/-! DEFINITION. The Trowel core: fetch, stacks, memories, traps, loops, and the instructions that stay inside the core. -/
namespace Sys2Proof.Machine

/-- Why an instruction has no effect: a trap with its cause (R410), or an access to a register that
R414 does not publish. -/
inductive Stop where
  | trap (cause : Nat)
  | unpublished (address : Nat)

/-- The result of an instruction on a core. -/
abbrev TR (α : Type) := Except Stop α

/-- A trap with a cause of R410. -/
def trapOut {α : Type} (cause : Nat) : TR α := .error (.trap cause)

/-! Memories (R400, R406, R417) -/

/-- R417: executing from an applet bank of Trowel-H. -/
def Trowel.inApplet (t : Trowel) : Bool := !t.steward && decide (6 ≤ t.cbank)

/-- R400: code banks that exist. -/
def Trowel.bankPresent (t : Trowel) (k : Nat) : Bool := decide (k ≤ 7) && !(t.steward && (k == 4 || k == 5))

/-- R400, R417: data addresses the running code may reach. -/
def Trowel.dataOk (t : Trowel) (a : Nat) : Bool :=
  if t.steward then decide (a < 0x8000) else !t.inApplet || decide (0xC000 ≤ a)

/-- R417: bits the running code may reach. -/
def Trowel.bitOk (t : Trowel) (n : Nat) : Bool := !t.inApplet || decide (3584 ≤ n)

/-- A byte of code. -/
def Trowel.codeByte (t : Trowel) (bank a : Nat) : Nat := (Table.get 0 (bank * 65536 + a % 65536) t.code).toNat

/-- A byte of data, no check made. -/
def Trowel.byteAt (t : Trowel) (a : Nat) : Nat := (Table.get 0 (a % 65536) t.data).toNat

/-- Store a byte of data, no check made. -/
def Trowel.putByte (t : Trowel) (a v : Nat) : Trowel :=
  { t with data := Table.set 0 (a % 65536) (BitVec.ofNat 8 v) t.data }

/-- A load from data space. -/
def Trowel.load (a : Nat) (t : Trowel) : TR Nat := if t.dataOk (a % 65536) then .ok (t.byteAt a) else trapOut 6

/-- A store to data space. -/
def Trowel.store (a v : Nat) (t : Trowel) : TR Trowel := if t.dataOk (a % 65536) then .ok (t.putByte a v) else trapOut 6

/-- A word, low byte first (R401). -/
def Trowel.loadW (a : Nat) (t : Trowel) : TR Nat := do
  let l ← t.load a
  let h ← t.load (a + 1)
  pure (l + 256 * h)

/-- Store a word, low byte first (R401). -/
def Trowel.storeW (a v : Nat) (t : Trowel) : TR Trowel := do
  let t ← t.store a (v % 256)
  t.store (a + 1) (v / 256)

/-- `n` bytes of data from `a`. -/
def Trowel.bytes (t : Trowel) (a n : Nat) : Bytes := (List.range n).map (fun i => Table.get 0 ((a + i) % 65536) t.data)

/-- Write a byte string at `a`. -/
def Trowel.putBytes (a : Nat) : Bytes → Trowel → Trowel
  | [], t => t
  | b :: r, t => Trowel.putBytes (a + 1) r (t.putByte a b.toNat)

/-- A bit of bit space. -/
def Trowel.getBit (n : Nat) (t : Trowel) : TR Bool := if t.bitOk n then .ok (Table.get false n t.bitSpace) else trapOut 6

/-- Write a bit of bit space. -/
def Trowel.setBit (n : Nat) (b : Bool) (t : Trowel) : TR Trowel :=
  if t.bitOk n then .ok { t with bitSpace := Table.set false n b t.bitSpace } else trapOut 6

/-! Stacks (R402, R403) -/

/-- Push a byte; the 33rd entry spills the deepest hardware entry to RAM (R402). -/
def Trowel.push (b : Nat) (t : Trowel) : TR Trowel :=
  if t.stack.length < 32 then .ok { t with stack := b % 256 :: t.stack }
  else if t.dsLimit ≤ t.dsSpill then trapOut 2
  else if t.steward && decide (0x8000 ≤ t.dsSpill) then trapOut 6
  else .ok { t.putByte t.dsSpill (t.stack.getLastD 0) with stack := b % 256 :: t.stack.dropLast, dsSpill := t.dsSpill + 1 }

/-- Pop a byte; a spilled entry is refilled (R402). -/
def Trowel.pop (t : Trowel) : TR (Nat × Trowel) :=
  match t.stack with
  | [] => trapOut 3
  | b :: r =>
    if t.dsBase < t.dsSpill then .ok (b, { t with stack := r ++ [t.byteAt (t.dsSpill - 1)], dsSpill := t.dsSpill - 1 })
    else .ok (b, { t with stack := r })

/-- Push a word: the high byte on top (R401). -/
def Trowel.pushW (w : Nat) (t : Trowel) : TR Trowel := do
  let t ← t.push (w % 256)
  t.push (w / 256)

/-- Pop a word (R401). -/
def Trowel.popW (t : Trowel) : TR (Nat × Trowel) := do
  let (h, t) ← t.pop
  let (l, t) ← t.pop
  pure (l + 256 * h, t)

/-- The entry `n` below the top (R405 PICK). -/
def Trowel.peek (n : Nat) (t : Trowel) : TR Nat :=
  if n < t.stack.length then .ok (t.stack.getD n 0)
  else
    let k := n - t.stack.length
    if t.dsBase + k < t.dsSpill then .ok (t.byteAt (t.dsSpill - 1 - k)) else trapOut 3

/-- R403: a return-stack entry. -/
def rsEntry (priv : Bool) (bank addr : Nat) : Nat := b01 priv * 2 ^ 23 + bank % 8 * 65536 + addr % 65536

/-- R403: PRIV of what this code pushes. -/
def Trowel.priv (t : Trowel) : Bool := decide (t.cbank < 6)

/-- Push on the return stack; a 65th push is an overflow trap. -/
def Trowel.rsPush (e : Nat) (t : Trowel) : TR Trowel := if t.rs.length < 64 then .ok { t with rs := e :: t.rs } else trapOut 4

/-- Pop from the return stack. -/
def Trowel.rsPop (t : Trowel) : TR (Nat × Trowel) :=
  match t.rs with
  | [] => trapOut 5
  | e :: r => .ok (e, { t with rs := r })

/-! Fetch (R404–R406) -/

/-- R405: immediate bytes of an opcode; none where it is reserved. -/
def immBytes (op : Nat) : Option Nat :=
  if op ≤ 0x1E then (if op = 0x01 ∨ op = 0x0C then some 1 else if op = 0x02 then some 2 else some 0)
  else if within 0x20 0x29 op || within 0x30 0x36 op || within 0x38 0x3B op then some 0
  else if within 0x40 0x4B op then (if within 0x44 0x47 op then some 2 else some 0)
  else if op = 0x50 ∨ op = 0x51 then some 0
  else if within 0x52 0x55 op then some 2
  else if within 0x58 0x5C op then some 2
  else if op = 0x5D ∨ op = 0x5E then some 0
  else if op = 0x90 ∨ op = 0x94 ∨ op = 0x95 ∨ op = 0x9A ∨ op = 0xA0 then some 2
  else if within 0x91 0x93 op || op == 0x9B then some 1
  else if within 0x96 0x99 op || within 0x9C 0x9E op || op == 0xA1 || op == 0xA2 || within 0xA8 0xAC op then some 0
  else if within 0xB0 0xEF op then some 2
  else if 0xF0 ≤ op ∧ op ≤ 0xFF then some 0
  else none

/-- The opcode at the core's PC. -/
def Trowel.opcode (t : Trowel) : Nat := t.codeByte t.cbank t.pc

/-- The immediate of the instruction at the core's PC. -/
def Trowel.imm (t : Trowel) : Nat :=
  match immBytes t.opcode with
  | some 1 => t.codeByte t.cbank (t.pc + 1)
  | some 2 => t.codeByte t.cbank (t.pc + 1) + 256 * t.codeByte t.cbank (t.pc + 2)
  | _ => 0

/-- The address of the instruction after the one at `a` of the current bank. -/
def Trowel.after (a : Nat) (t : Trowel) : Nat := (a + 1 + (immBytes (t.codeByte t.cbank a)).getD 0) % 65536

/-- R408, R415: the priority level at which the core runs: 0, or 1 + the highest ISR bit. -/
def Trowel.prio (t : Trowel) : Nat := if t.isr = 0 then 0 else 1 + Nat.log2 t.isr

/-! Loops (R408) -/

/-- The innermost armed level among levels 0 to `n` − 1. -/
def innermost (l : List LoopLevel) : Nat → Option Nat
  | 0 => none
  | n + 1 => if (l.getD n {}).armed then some n else innermost l n

/-- R408: the levels as evaluated at an instruction that has completed at `a`: the new levels and the
address to go on at, if a level returns to its start. -/
def loopEnd (prio a : Nat) : Nat → List LoopLevel → List LoopLevel × Option Nat
  | 0, l => (l, none)
  | fuel + 1, l =>
    match innermost l 3 with
    | none => (l, none)
    | some k =>
      let v := l.getD k {}
      if v.le = a ∧ v.prio = prio then
        if 1 < v.lc then (modAt k (fun v => { v with lc := v.lc - 1 }) l, some v.ls)
        else loopEnd prio a fuel (modAt k (fun v => { v with armed := false }) l)
      else (l, none)

/-- R408: an instruction at `a` has completed and would go on at the next one. -/
def Trowel.closeLoops (a : Nat) (t : Trowel) : Trowel :=
  let r := loopEnd t.prio a 3 t.loops
  { t with loops := r.1, pc := r.2.getD t.pc }

/-! Running one instruction -/

/-- Core 0 is Trowel-H, core 1 Trowel-S. -/
def State.core (c : Nat) (s : State) : Trowel := if c = 0 then s.trowelH else s.trowelS

/-- Put back a core. -/
def State.setCore (c : Nat) (t : Trowel) (s : State) : State := if c = 0 then { s with trowelH := t } else { s with trowelS := t }

/-- The core executes instructions: loaded, not halted, its clock not gated. -/
def Trowel.runs (t : Trowel) : Bool := t.loaded && !t.halted && !t.waiting

/-- R408, R413: a WAIT that ends completes as any instruction does. -/
def Trowel.endWait (t : Trowel) : Trowel :=
  if t.waiting then ({ t with pc := t.after t.pc, waiting := false } : Trowel).closeLoops t.pc else t

/-- R417: firmware calls the applet at an address of a bank, with words on the stack: it pushes its own return entry, which it notes,
and gives the applet the spill area that ends at 0xFFFF. -/
def Trowel.callApplet (bank addr spill : Nat) (args : List Nat) (t : Trowel) : Trowel :=
  let t := t.endWait
  { t with
    rs := rsEntry t.priv t.cbank t.pc :: t.rs, calls := (t.rs.length + 1) :: t.calls, cbank := bank, pc := addr
    stack := args.reverse.flatMap (fun w => [w / 256 % 256, w % 256]) ++ t.stack
    dsBase := 65536 - spill, dsSpill := 65536 - spill, dsLimit := 65535 }

/-- Firmware is in a place from which it calls the applet: running its own banks, with room for the call (R417). -/
def Trowel.mayCall (t : Trowel) : Bool :=
  t.loaded && !t.halted && !t.inApplet && !t.trapActive && decide (t.rs.length < 32) && decide (t.stack.length ≤ 28)

/-- R417, R419: the call of the applet at depth `d` of the return stack is abandoned: its firmware caller goes on where it called. A
firmware handler that stands above the applet's code keeps its own entries, which have PRIV 1, and returns to that caller. -/
def Trowel.abandonCall (d : Nat) (t : Trowel) : Trowel :=
  if t.rs.length < d then t
  else
    let k := t.rs.length - d
    let e := t.rs.getD k 0
    let rest := t.rs.drop (k + 1)
    if t.inApplet then { t with rs := rest, pc := e % 65536, cbank := bits 18 16 e, waiting := false }
    else { t with rs := (t.rs.take k).takeWhile (fun x => bit 23 x) ++ e :: rest }

/-- Applet code is abandoned, every call that firmware has made of it, the innermost first (R419, R421). -/
def Trowel.leaveApplet (t : Trowel) : Trowel := { t.calls.foldl (fun t d => t.abandonCall d) t with calls := [] }

/-- R83, R95, R419: the reply of an applet command goes out and is stored; one that a host-port reset has overtaken is dropped. -/
def State.replyHandler (e : Executing) (payload : Bytes) (tag : ReplyTag) (s : State) : State :=
  if e.ticket.epoch = s.port.epoch then
    (s.putReply 1 e.opcode e.ticket.seq e.ticket.session payload tag).modSession e.ticket.session
      (fun x => { x with storedOp := e.opcode, stored := payload })
  else s

/-- R421, R419: what stops the applet raises, and what the command being handled replies. -/
def State.stopApplet (cause : Nat) (s : State) : State :=
  if !s.applet.running then s
  else
    let s := { s with applet := { s.applet with running := false }, trowelH := s.trowelH.leaveApplet }
    let s := (s.occur 6 (0x0A00 + cause) []).logFree 0x00 0x03
    match s.executing with
    | none => s
    | some e =>
      let s := { s with executing := none }
      s.replyHandler e (le 2 Status.internalFault.code) .none

/-- R410: a trap is taken at the instruction at PC. With no room for its own push the entry is lost;
a second trap halts the core. A trap of applet code stops the applet (R421). -/
def State.takeTrap (c cause : Nat) (s : State) : State :=
  let t := s.core c
  if t.trapActive then s.setCore c { t with halted := true }
  else
    let t' := { t with
      rs := if t.rs.length < 64 then rsEntry t.priv t.cbank t.pc :: t.rs else t.rs
      trapActive := true, trapCause := cause, trapBank := t.cbank, trapPc := t.pc, cbank := 0, pc := 4 }
    let s' := s.setCore c t'
    if t.inApplet then s'.stopApplet cause else s'

/-- What an instruction does once PC has passed it: a function of the core, the immediate and the state. -/
abbrev CoreOp := Nat → Nat → State → TR State

/-- The instruction at PC, with its effect `f` of core and immediate (R404, R408, R410). -/
def trowelDo (c : Nat) (f : CoreOp) (s : State) : TR State := do
  let t := s.core c
  let next := t.after t.pc
  let s' ← f c t.imm (s.setCore c { t with pc := next })
  let t' := s'.core c
  if t'.pc = next ∧ t'.cbank = t.cbank then pure (s'.setCore c (t'.closeLoops t.pc)) else pure s'

/-- What an instruction's result is as a step. -/
def trowelStep (c : Nat) (s : State) (r : TR State) : Step :=
  match r with
  | .ok s' => .next s'
  | .error (.trap cause) => .next (s.takeTrap c cause)
  | .error (.unpublished a) => .refused (.unpublishedRegister a)

/-- The row of an instruction: it runs where the core is about to execute an opcode of `p`; elsewhere
it is not the part's next step and nothing changes (log entry 1). -/
def trowelRow (p : Nat → Bool) (f : CoreOp) (c : Nat) (s : State) : Step :=
  let t := s.core c
  if t.runs && t.bankPresent t.cbank && p t.opcode then trowelStep c s (trowelDo c f s) else .next s

/-- An effect on the core alone. -/
def onCore (f : Nat → Trowel → TR Trowel) : CoreOp := fun c imm s => do
  let t ← f imm (s.core c)
  pure (s.setCore c t)

/-- One opcode. -/
def isOp (n : Nat) : Nat → Bool := fun op => op == n

/-! Stack instructions -/

/-- ( b -- f b ) -/
def unaryB (f : Nat → Nat) : Nat → Trowel → TR Trowel := fun _ t => do
  let (b, t) ← t.pop
  t.push (f b)

/-- ( b1 b2 -- f b1 b2 ) -/
def binaryB (f : Nat → Nat → Nat) : Nat → Trowel → TR Trowel := fun _ t => do
  let (b2, t) ← t.pop
  let (b1, t) ← t.pop
  t.push (f b1 b2)

/-- ( w -- f w ) -/
def unaryW (f : Nat → Nat) : Nat → Trowel → TR Trowel := fun _ t => do
  let (w, t) ← t.popW
  t.pushW (f w)

/-- ( w1 w2 -- f w1 w2 ) -/
def binaryW (f : Nat → Nat → Nat) : Nat → Trowel → TR Trowel := fun _ t => do
  let (w2, t) ← t.popW
  let (w1, t) ← t.popW
  t.pushW (f w1 w2)

/-- ( w1 w2 -- f ) -/
def testW (f : Nat → Nat → Bool) : Nat → Trowel → TR Trowel := fun _ t => do
  let (w2, t) ← t.popW
  let (w1, t) ← t.popW
  t.push (b01 (f w1 w2))

/-- NOP -/
def effNop : Nat → Trowel → TR Trowel := fun _ t => .ok t
/-- LIT8 -/
def effLit8 : Nat → Trowel → TR Trowel := fun i t => t.push i
/-- LIT16 -/
def effLit16 : Nat → Trowel → TR Trowel := fun i t => t.pushW i
/-- DROP -/
def effDrop : Nat → Trowel → TR Trowel := fun _ t => do
  let (_, t) ← t.pop
  pure t
/-- DUP -/
def effDup : Nat → Trowel → TR Trowel := fun _ t => do
  let b ← t.peek 0
  t.push b
/-- SWAP -/
def effSwap : Nat → Trowel → TR Trowel := fun _ t => do
  let (b2, t) ← t.pop
  let (b1, t) ← t.pop
  let t ← t.push b2
  t.push b1
/-- OVER -/
def effOver : Nat → Trowel → TR Trowel := fun _ t => do
  let b ← t.peek 1
  t.push b
/-- ROT -/
def effRot : Nat → Trowel → TR Trowel := fun _ t => do
  let (b3, t) ← t.pop
  let (b2, t) ← t.pop
  let (b1, t) ← t.pop
  let t ← t.push b2
  let t ← t.push b3
  t.push b1
/-- DROPW -/
def effDropw : Nat → Trowel → TR Trowel := fun _ t => do
  let (_, t) ← t.popW
  pure t
/-- DUPW -/
def effDupw : Nat → Trowel → TR Trowel := fun _ t => do
  let (w, t) ← t.popW
  let t ← t.pushW w
  t.pushW w
/-- SWAPW -/
def effSwapw : Nat → Trowel → TR Trowel := fun _ t => do
  let (w2, t) ← t.popW
  let (w1, t) ← t.popW
  let t ← t.pushW w2
  t.pushW w1
/-- OVERW -/
def effOverw : Nat → Trowel → TR Trowel := fun _ t => do
  let (w2, t) ← t.popW
  let (w1, t) ← t.popW
  let t ← t.pushW w1
  let t ← t.pushW w2
  t.pushW w1
/-- PICK -/
def effPick : Nat → Trowel → TR Trowel := fun i t => do
  let b ← t.peek i
  t.push b
/-- >R (R403: BANK 0) -/
def effToR : Nat → Trowel → TR Trowel := fun _ t => do
  let (w, t) ← t.popW
  t.rsPush (rsEntry t.priv 0 w)
/-- R> (R403, R417) -/
def effRFrom : Nat → Trowel → TR Trowel := fun _ t => do
  let (e, t) ← t.rsPop
  if t.inApplet && bit 23 e then trapOut 6 else t.pushW (e % 65536)
/-- R@ (R403) -/
def effRFetch : Nat → Trowel → TR Trowel := fun _ t => do
  let (e, _) ← t.rsPop
  t.pushW (e % 65536)

/-- TROWEL_NOP (R405). -/
def execTrowelNop (core : Fin 2) (s : State) : Step := trowelRow (isOp 0x00) (onCore effNop) core.val s
/-- LIT8 (R405). -/
def execLit8 (core : Fin 2) (s : State) : Step := trowelRow (isOp 0x01) (onCore effLit8) core.val s
/-- LIT16 (R405). -/
def execLit16 (core : Fin 2) (s : State) : Step := trowelRow (isOp 0x02) (onCore effLit16) core.val s
/-- DROP (R405). -/
def execDrop (core : Fin 2) (s : State) : Step := trowelRow (isOp 0x03) (onCore effDrop) core.val s
/-- DUP (R405). -/
def execDup (core : Fin 2) (s : State) : Step := trowelRow (isOp 0x04) (onCore effDup) core.val s
/-- SWAP (R405). -/
def execSwap (core : Fin 2) (s : State) : Step := trowelRow (isOp 0x05) (onCore effSwap) core.val s
/-- OVER (R405). -/
def execOver (core : Fin 2) (s : State) : Step := trowelRow (isOp 0x06) (onCore effOver) core.val s
/-- ROT (R405). -/
def execRot (core : Fin 2) (s : State) : Step := trowelRow (isOp 0x07) (onCore effRot) core.val s
/-- DROPW (R405). -/
def execDropw (core : Fin 2) (s : State) : Step := trowelRow (isOp 0x08) (onCore effDropw) core.val s
/-- DUPW (R405). -/
def execDupw (core : Fin 2) (s : State) : Step := trowelRow (isOp 0x09) (onCore effDupw) core.val s
/-- SWAPW (R405). -/
def execSwapw (core : Fin 2) (s : State) : Step := trowelRow (isOp 0x0A) (onCore effSwapw) core.val s
/-- OVERW (R405). -/
def execOverw (core : Fin 2) (s : State) : Step := trowelRow (isOp 0x0B) (onCore effOverw) core.val s
/-- PICK (R405). -/
def execPick (core : Fin 2) (s : State) : Step := trowelRow (isOp 0x0C) (onCore effPick) core.val s
/-- TO_R (R403). -/
def execToR (core : Fin 2) (s : State) : Step := trowelRow (isOp 0x0D) (onCore effToR) core.val s
/-- R_FROM (R403). -/
def execRFrom (core : Fin 2) (s : State) : Step := trowelRow (isOp 0x0E) (onCore effRFrom) core.val s
/-- R_FETCH (R403). -/
def execRFetch (core : Fin 2) (s : State) : Step := trowelRow (isOp 0x0F) (onCore effRFetch) core.val s

/-! Arithmetic and logic -/

/-- TROWEL_ADD -/
def effAdd : Nat → Trowel → TR Trowel := binaryB (addMod 8)
/-- TROWEL_SUB -/
def effSub : Nat → Trowel → TR Trowel := binaryB (subMod 8)
/-- TROWEL_AND -/
def effAnd : Nat → Trowel → TR Trowel := binaryB Nat.land
/-- TROWEL_OR -/
def effOr : Nat → Trowel → TR Trowel := binaryB Nat.lor
/-- TROWEL_XOR -/
def effXor : Nat → Trowel → TR Trowel := binaryB Nat.xor
/-- NOT -/
def effNot : Nat → Trowel → TR Trowel := unaryB (fun b => 255 - b)
/-- SHL -/
def effShl : Nat → Trowel → TR Trowel := unaryB (fun b => b * 2 % 256)
/-- SHR -/
def effShr : Nat → Trowel → TR Trowel := unaryB (fun b => b / 2)
/-- ASR -/
def effAsr : Nat → Trowel → TR Trowel := unaryB (asrOne 8)
/-- INC -/
def effInc : Nat → Trowel → TR Trowel := unaryB (fun b => addMod 8 b 1)
/-- DEC -/
def effDec : Nat → Trowel → TR Trowel := unaryB (fun b => subMod 8 b 1)
/-- TROWEL_NEG -/
def effNeg : Nat → Trowel → TR Trowel := unaryB (subMod 8 0)
/-- ADDW -/
def effAddw : Nat → Trowel → TR Trowel := binaryW (addMod 16)
/-- SUBW -/
def effSubw : Nat → Trowel → TR Trowel := binaryW (subMod 16)
/-- INCW -/
def effIncw : Nat → Trowel → TR Trowel := unaryW (fun w => addMod 16 w 1)
/-- DECW -/
def effDecw : Nat → Trowel → TR Trowel := unaryW (fun w => subMod 16 w 1)
/-- ANDW -/
def effAndw : Nat → Trowel → TR Trowel := binaryW Nat.land
/-- ORW -/
def effOrw : Nat → Trowel → TR Trowel := binaryW Nat.lor
/-- XORW -/
def effXorw : Nat → Trowel → TR Trowel := binaryW Nat.xor
/-- SHLW -/
def effShlw : Nat → Trowel → TR Trowel := unaryW (fun w => w * 2 % 65536)
/-- SHRW -/
def effShrw : Nat → Trowel → TR Trowel := unaryW (fun w => w / 2)
/-- EQ -/
def effEq : Nat → Trowel → TR Trowel := binaryB (fun a b => b01 (a == b))
/-- NE -/
def effNe : Nat → Trowel → TR Trowel := binaryB (fun a b => b01 (a != b))
/-- LTU -/
def effLtu : Nat → Trowel → TR Trowel := binaryB (fun a b => b01 (decide (a < b)))
/-- LEU -/
def effLeu : Nat → Trowel → TR Trowel := binaryB (fun a b => b01 (decide (a ≤ b)))
/-- LTS -/
def effLts : Nat → Trowel → TR Trowel := binaryB (fun a b => b01 (ltSigned 8 a b))
/-- LES -/
def effLes : Nat → Trowel → TR Trowel := binaryB (fun a b => b01 (leSigned 8 a b))
/-- ZEQ -/
def effZeq : Nat → Trowel → TR Trowel := unaryB (fun b => b01 (b == 0))
/-- EQW -/
def effEqw : Nat → Trowel → TR Trowel := testW (fun a b => a == b)
/-- LTUW -/
def effLtuw : Nat → Trowel → TR Trowel := testW (fun a b => decide (a < b))
/-- LTSW -/
def effLtsw : Nat → Trowel → TR Trowel := testW (ltSigned 16)
/-- PAR -/
def effPar : Nat → Trowel → TR Trowel := unaryB (oddOnes 8)
/-- BREV -/
def effBrev : Nat → Trowel → TR Trowel := unaryB (reverseBits 8)
/-- BREVW -/
def effBrevw : Nat → Trowel → TR Trowel := unaryW (reverseBits 16)
/-- ADDC ( b1 b2 -- b c ) -/
def effAddc : Nat → Trowel → TR Trowel := fun _ t => do
  let (b2, t) ← t.pop
  let (b1, t) ← t.pop
  let t ← t.push (addMod 8 b1 b2)
  t.push (carryOut 8 b1 b2)
/-- SUBB ( b1 b2 -- b bw ) -/
def effSubb : Nat → Trowel → TR Trowel := fun _ t => do
  let (b2, t) ← t.pop
  let (b1, t) ← t.pop
  let t ← t.push (subMod 8 b1 b2)
  t.push (borrow b1 b2)
/-- MULU ( b1 b2 -- w ) -/
def effMulu : Nat → Trowel → TR Trowel := fun _ t => do
  let (b2, t) ← t.pop
  let (b1, t) ← t.pop
  t.pushW (b1 * b2)
/-- EXT ( b -- w ) -/
def effExt : Nat → Trowel → TR Trowel := fun _ t => do
  let (b, t) ← t.pop
  t.pushW (unsigned 16 (signed 8 b))
/-- ZEQW ( w -- f ) -/
def effZeqw : Nat → Trowel → TR Trowel := fun _ t => do
  let (w, t) ← t.popW
  t.push (b01 (w == 0))

/-- TROWEL_ADD (R405). -/
def execTrowelAdd (core : Fin 2) (s : State) : Step := trowelRow (isOp 0x10) (onCore effAdd) core.val s
/-- TROWEL_SUB (R405). -/
def execTrowelSub (core : Fin 2) (s : State) : Step := trowelRow (isOp 0x12) (onCore effSub) core.val s
/-- TROWEL_AND (R405). -/
def execTrowelAnd (core : Fin 2) (s : State) : Step := trowelRow (isOp 0x14) (onCore effAnd) core.val s
/-- TROWEL_OR (R405). -/
def execTrowelOr (core : Fin 2) (s : State) : Step := trowelRow (isOp 0x15) (onCore effOr) core.val s
/-- TROWEL_XOR (R405). -/
def execTrowelXor (core : Fin 2) (s : State) : Step := trowelRow (isOp 0x16) (onCore effXor) core.val s
/-- NOT (R405). -/
def execNotByte (core : Fin 2) (s : State) : Step := trowelRow (isOp 0x17) (onCore effNot) core.val s
/-- SHL (R405). -/
def execShl (core : Fin 2) (s : State) : Step := trowelRow (isOp 0x18) (onCore effShl) core.val s
/-- SHR (R405). -/
def execShr (core : Fin 2) (s : State) : Step := trowelRow (isOp 0x19) (onCore effShr) core.val s
/-- ASR (R405). -/
def execAsr (core : Fin 2) (s : State) : Step := trowelRow (isOp 0x1A) (onCore effAsr) core.val s
/-- INC (R405). -/
def execInc (core : Fin 2) (s : State) : Step := trowelRow (isOp 0x1B) (onCore effInc) core.val s
/-- DEC (R405). -/
def execDec (core : Fin 2) (s : State) : Step := trowelRow (isOp 0x1C) (onCore effDec) core.val s
/-- TROWEL_NEG (R405). -/
def execTrowelNeg (core : Fin 2) (s : State) : Step := trowelRow (isOp 0x1D) (onCore effNeg) core.val s
/-- ADDW (R405). -/
def execAddw (core : Fin 2) (s : State) : Step := trowelRow (isOp 0x20) (onCore effAddw) core.val s
/-- SUBW (R405). -/
def execSubw (core : Fin 2) (s : State) : Step := trowelRow (isOp 0x21) (onCore effSubw) core.val s
/-- INCW (R405). -/
def execIncw (core : Fin 2) (s : State) : Step := trowelRow (isOp 0x22) (onCore effIncw) core.val s
/-- DECW (R405). -/
def execDecw (core : Fin 2) (s : State) : Step := trowelRow (isOp 0x23) (onCore effDecw) core.val s
/-- ANDW (R405). -/
def execAndw (core : Fin 2) (s : State) : Step := trowelRow (isOp 0x24) (onCore effAndw) core.val s
/-- ORW (R405). -/
def execOrw (core : Fin 2) (s : State) : Step := trowelRow (isOp 0x25) (onCore effOrw) core.val s
/-- XORW (R405). -/
def execXorw (core : Fin 2) (s : State) : Step := trowelRow (isOp 0x26) (onCore effXorw) core.val s
/-- SHLW (R405). -/
def execShlw (core : Fin 2) (s : State) : Step := trowelRow (isOp 0x27) (onCore effShlw) core.val s
/-- SHRW (R405). -/
def execShrw (core : Fin 2) (s : State) : Step := trowelRow (isOp 0x28) (onCore effShrw) core.val s
/-- EQ (R405). -/
def execEq (core : Fin 2) (s : State) : Step := trowelRow (isOp 0x30) (onCore effEq) core.val s
/-- NE (R405). -/
def execNe (core : Fin 2) (s : State) : Step := trowelRow (isOp 0x31) (onCore effNe) core.val s
/-- LTU (R405). -/
def execLtu (core : Fin 2) (s : State) : Step := trowelRow (isOp 0x32) (onCore effLtu) core.val s
/-- LEU (R405). -/
def execLeu (core : Fin 2) (s : State) : Step := trowelRow (isOp 0x33) (onCore effLeu) core.val s
/-- LTS (R405). -/
def execLts (core : Fin 2) (s : State) : Step := trowelRow (isOp 0x34) (onCore effLts) core.val s
/-- LES (R405). -/
def execLes (core : Fin 2) (s : State) : Step := trowelRow (isOp 0x35) (onCore effLes) core.val s
/-- ZEQ (R405). -/
def execZeq (core : Fin 2) (s : State) : Step := trowelRow (isOp 0x36) (onCore effZeq) core.val s
/-- EQW (R405). -/
def execEqw (core : Fin 2) (s : State) : Step := trowelRow (isOp 0x38) (onCore effEqw) core.val s
/-- LTUW (R405). -/
def execLtuw (core : Fin 2) (s : State) : Step := trowelRow (isOp 0x39) (onCore effLtuw) core.val s
/-- LTSW (R405). -/
def execLtsw (core : Fin 2) (s : State) : Step := trowelRow (isOp 0x3A) (onCore effLtsw) core.val s
/-- PAR (R405). -/
def execPar (core : Fin 2) (s : State) : Step := trowelRow (isOp 0xAA) (onCore effPar) core.val s
/-- BREV (R405). -/
def execBrev (core : Fin 2) (s : State) : Step := trowelRow (isOp 0xAB) (onCore effBrev) core.val s
/-- BREVW (R405). -/
def execBrevw (core : Fin 2) (s : State) : Step := trowelRow (isOp 0xAC) (onCore effBrevw) core.val s
/-- ADDC (R405). -/
def execAddc (core : Fin 2) (s : State) : Step := trowelRow (isOp 0x11) (onCore effAddc) core.val s
/-- SUBB (R405). -/
def execSubb (core : Fin 2) (s : State) : Step := trowelRow (isOp 0x13) (onCore effSubb) core.val s
/-- MULU (R405). -/
def execMulu (core : Fin 2) (s : State) : Step := trowelRow (isOp 0x1E) (onCore effMulu) core.val s
/-- EXT (R405). -/
def execExt (core : Fin 2) (s : State) : Step := trowelRow (isOp 0x29) (onCore effExt) core.val s
/-- ZEQW (R405). -/
def execZeqw (core : Fin 2) (s : State) : Step := trowelRow (isOp 0x3B) (onCore effZeqw) core.val s

/-! Loads and stores -/

/-- LD ( a -- b ) -/
def effLd : Nat → Trowel → TR Trowel := fun _ t => do
  let (a, t) ← t.popW
  let b ← t.load a
  t.push b
/-- ST ( b a -- ) -/
def effSt : Nat → Trowel → TR Trowel := fun _ t => do
  let (a, t) ← t.popW
  let (b, t) ← t.pop
  t.store a b
/-- LDW ( a -- w ) -/
def effLdw : Nat → Trowel → TR Trowel := fun _ t => do
  let (a, t) ← t.popW
  let w ← t.loadW a
  t.pushW w
/-- STW ( w a -- ) -/
def effStw : Nat → Trowel → TR Trowel := fun _ t => do
  let (a, t) ← t.popW
  let (w, t) ← t.popW
  t.storeW a w
/-- LDA ( -- b ) -/
def effLda : Nat → Trowel → TR Trowel := fun i t => do
  let b ← t.load i
  t.push b
/-- STA ( b -- ) -/
def effSta : Nat → Trowel → TR Trowel := fun i t => do
  let (b, t) ← t.pop
  t.store i b
/-- LDAW ( -- w ) -/
def effLdaw : Nat → Trowel → TR Trowel := fun i t => do
  let w ← t.loadW i
  t.pushW w
/-- STAW ( w -- ) -/
def effStaw : Nat → Trowel → TR Trowel := fun i t => do
  let (w, t) ← t.popW
  t.storeW i w
/-- LDP ( a -- a+1 b ) -/
def effLdp : Nat → Trowel → TR Trowel := fun _ t => do
  let (a, t) ← t.popW
  let b ← t.load a
  let t ← t.pushW ((a + 1) % 65536)
  t.push b
/-- STP ( b a -- a+1 ) -/
def effStp : Nat → Trowel → TR Trowel := fun _ t => do
  let (a, t) ← t.popW
  let (b, t) ← t.pop
  let t ← t.store a b
  t.pushW ((a + 1) % 65536)
/-- LDC ( a -- b ) -/
def effLdc : Nat → Trowel → TR Trowel := fun _ t => do
  let (a, t) ← t.popW
  t.push (t.codeByte t.cbank a)
/-- LDCF ( a k -- b ); an absent bank, or a bank outside 6–7 for an applet, is a protection trap -/
def effLdcf : Nat → Trowel → TR Trowel := fun _ t => do
  let (k, t) ← t.pop
  let (a, t) ← t.popW
  if !t.bankPresent k || (t.inApplet && decide (k < 6)) then trapOut 6 else t.push (t.codeByte k a)

/-- LD (R405). -/
def execLd (core : Fin 2) (s : State) : Step := trowelRow (isOp 0x40) (onCore effLd) core.val s
/-- ST (R405). -/
def execSt (core : Fin 2) (s : State) : Step := trowelRow (isOp 0x41) (onCore effSt) core.val s
/-- LDW (R405). -/
def execLdw (core : Fin 2) (s : State) : Step := trowelRow (isOp 0x42) (onCore effLdw) core.val s
/-- STW (R405). -/
def execStw (core : Fin 2) (s : State) : Step := trowelRow (isOp 0x43) (onCore effStw) core.val s
/-- LDA (R405). -/
def execLda (core : Fin 2) (s : State) : Step := trowelRow (isOp 0x44) (onCore effLda) core.val s
/-- STA (R405). -/
def execSta (core : Fin 2) (s : State) : Step := trowelRow (isOp 0x45) (onCore effSta) core.val s
/-- LDAW (R405). -/
def execLdaw (core : Fin 2) (s : State) : Step := trowelRow (isOp 0x46) (onCore effLdaw) core.val s
/-- STAW (R405). -/
def execStaw (core : Fin 2) (s : State) : Step := trowelRow (isOp 0x47) (onCore effStaw) core.val s
/-- LDP (R405). -/
def execLdp (core : Fin 2) (s : State) : Step := trowelRow (isOp 0x48) (onCore effLdp) core.val s
/-- STP (R405). -/
def execStp (core : Fin 2) (s : State) : Step := trowelRow (isOp 0x49) (onCore effStp) core.val s
/-- LDC (R405). -/
def execLdc (core : Fin 2) (s : State) : Step := trowelRow (isOp 0x4A) (onCore effLdc) core.val s
/-- LDCF (R405). -/
def execLdcf (core : Fin 2) (s : State) : Step := trowelRow (isOp 0x4B) (onCore effLdcf) core.val s

/-! Bits (R406) -/

/-- R406: the bit number of BSET–BPOP; bits [15:12] are reserved. -/
def bitNumber (i : Nat) : TR Nat := if i < 4096 then .ok i else trapOut 1

/-- BSET -/
def effBset : Nat → Trowel → TR Trowel := fun i t => do
  let n ← bitNumber i
  t.setBit n true
/-- BCLR -/
def effBclr : Nat → Trowel → TR Trowel := fun i t => do
  let n ← bitNumber i
  t.setBit n false
/-- BCPL -/
def effBcpl : Nat → Trowel → TR Trowel := fun i t => do
  let n ← bitNumber i
  let b ← t.getBit n
  t.setBit n (!b)
/-- BPUSH ( -- f ) -/
def effBpush : Nat → Trowel → TR Trowel := fun i t => do
  let n ← bitNumber i
  let b ← t.getBit n
  t.push (b01 b)
/-- BPOP ( b -- ) -/
def effBpop : Nat → Trowel → TR Trowel := fun i t => do
  let n ← bitNumber i
  let (b, t) ← t.pop
  t.setBit n (bit 0 b)
/-- BPUSHI ( w -- f ) -/
def effBpushi : Nat → Trowel → TR Trowel := fun _ t => do
  let (w, t) ← t.popW
  let b ← t.getBit (w % 4096)
  t.push (b01 b)
/-- BPOPI ( b w -- ) -/
def effBpopi : Nat → Trowel → TR Trowel := fun _ t => do
  let (w, t) ← t.popW
  let (b, t) ← t.pop
  t.setBit (w % 4096) (bit 0 b)

/-- A branch by a signed byte offset from the next instruction. -/
def Trowel.jumpBy (o : Nat) (t : Trowel) : Trowel := { t with pc := unsigned 16 ((t.pc : Int) + signed 8 o) }

/-- R406: bit number and offset of the bit-branch family, from the opcode before PC. -/
def bitBranch (op i : Nat) : Nat × Nat := (i % 4096, op % 16 * 16 + i / 4096)

/-- The bit-branch family: branch where the bit is `want`, writing `put` if one is given (R406). -/
def effBranch (want : Bool) (put : Option Bool) : CoreOp := fun c i s => do
  let t := s.core c
  let op := t.codeByte t.cbank (t.pc + 65536 - 3)
  let (n, o) := bitBranch op i
  let b ← t.getBit n
  if b = want then
    match put with
    | some v => do
      let t ← t.setBit n v
      pure (s.setCore c (t.jumpBy o))
    | none => pure (s.setCore c (t.jumpBy o))
  else pure s

/-- BSET (R406). -/
def execBset (core : Fin 2) (s : State) : Step := trowelRow (isOp 0x58) (onCore effBset) core.val s
/-- BCLR (R406). -/
def execBclr (core : Fin 2) (s : State) : Step := trowelRow (isOp 0x59) (onCore effBclr) core.val s
/-- BCPL (R406). -/
def execBcpl (core : Fin 2) (s : State) : Step := trowelRow (isOp 0x5A) (onCore effBcpl) core.val s
/-- BPUSH (R406). -/
def execBpush (core : Fin 2) (s : State) : Step := trowelRow (isOp 0x5B) (onCore effBpush) core.val s
/-- BPOP (R406). -/
def execBpop (core : Fin 2) (s : State) : Step := trowelRow (isOp 0x5C) (onCore effBpop) core.val s
/-- BPUSHI (R406). -/
def execBpushi (core : Fin 2) (s : State) : Step := trowelRow (isOp 0x5D) (onCore effBpushi) core.val s
/-- BPOPI (R406). -/
def execBpopi (core : Fin 2) (s : State) : Step := trowelRow (isOp 0x5E) (onCore effBpopi) core.val s

/-- BRB1 (R406). -/
def execBrb1 (core : Fin 2) (s : State) : Step := trowelRow (within 0xB0 0xBF) (effBranch true none) core.val s
/-- BRB0 (R406). -/
def execBrb0 (core : Fin 2) (s : State) : Step := trowelRow (within 0xC0 0xCF) (effBranch false none) core.val s
/-- BRB1C (R406). -/
def execBrb1c (core : Fin 2) (s : State) : Step := trowelRow (within 0xD0 0xDF) (effBranch true (some false)) core.val s
/-- BRB0S (R406). -/
def execBrb0s (core : Fin 2) (s : State) : Step := trowelRow (within 0xE0 0xEF) (effBranch false (some true)) core.val s

/-! Control flow (R405, R417) -/

/-- R417: applet code may not leave banks 6–7; an absent bank number above 7 exists nowhere. -/
def Trowel.farOk (k : Nat) (t : Trowel) : Bool := decide (k ≤ 7) && !(t.inApplet && decide (k < 6))

/-- JMP -/
def effJmp : Nat → Trowel → TR Trowel := fun i t => .ok { t with pc := i }
/-- JR -/
def effJr : Nat → Trowel → TR Trowel := fun i t => .ok (t.jumpBy i)
/-- JZ ( b -- ) -/
def effJz : Nat → Trowel → TR Trowel := fun i t => do
  let (b, t) ← t.pop
  pure (if b = 0 then t.jumpBy i else t)
/-- JNZ ( b -- ) -/
def effJnz : Nat → Trowel → TR Trowel := fun i t => do
  let (b, t) ← t.pop
  pure (if b = 0 then t else t.jumpBy i)
/-- CALL -/
def effCall : Nat → Trowel → TR Trowel := fun i t => do
  let t ← t.rsPush (rsEntry t.priv t.cbank t.pc)
  pure { t with pc := i }
/-- CALLF ( k -- ); firmware that calls into the applet marks the entry that may return to it (R417) -/
def effCallf : Nat → Trowel → TR Trowel := fun i t => do
  let (k, t) ← t.pop
  if !t.farOk k then trapOut 6
  else do
    let into := t.priv && !t.steward && decide (6 ≤ k)
    let t ← t.rsPush (rsEntry t.priv t.cbank t.pc)
    pure { t with pc := i, cbank := k, calls := if into then t.rs.length :: t.calls else t.calls }
/-- JMPI ( a -- ) -/
def effJmpi : Nat → Trowel → TR Trowel := fun _ t => do
  let (a, t) ← t.popW
  pure { t with pc := a }
/-- CALLI ( a -- ) -/
def effCalli : Nat → Trowel → TR Trowel := fun _ t => do
  let (a, t) ← t.popW
  let t ← t.rsPush (rsEntry t.priv t.cbank t.pc)
  pure { t with pc := a }
/-- JMPF ( k -- ) -/
def effJmpf : Nat → Trowel → TR Trowel := fun i t => do
  let (k, t) ← t.pop
  if !t.farOk k then trapOut 6 else pure { t with pc := i, cbank := k }
/-- R403, R417: a return-stack entry that applet code may not return to: one of firmware, or one that leads out of banks 6–7. -/
def Trowel.closedEntry (e : Nat) (t : Trowel) : Bool := t.inApplet && (bit 23 e || decide (bits 18 16 e < 6))

/-- RETI (R409): the highest ISR bit clears; applet code reaches firmware only through SYS (R417) -/
def effReti : Nat → Trowel → TR Trowel := fun _ t => do
  let (e, t) ← t.rsPop
  if t.closedEntry e then trapOut 6
  else pure { t with pc := e % 65536, cbank := bits 18 16 e, isr := if t.isr = 0 then 0 else t.isr - 2 ^ Nat.log2 t.isr }
/-- EI (R417) -/
def effEi : Nat → Trowel → TR Trowel := fun _ t => if t.inApplet then trapOut 6 else .ok { t with ie := true }
/-- DI (R417) -/
def effDi : Nat → Trowel → TR Trowel := fun _ t => if t.inApplet then trapOut 6 else .ok { t with ie := false }

/-- R75: the items a reply of status word `w` carries: with OK and ACCEPTED alone. -/
def replyItems (w : Nat) (items : Bytes) : Bytes := if w = Status.ok.code ∨ w = Status.accepted.code then items else []

/-- R419: firmware takes the handler's status word back and replies with the items it appended (R75). -/
def State.handlerReturns (s : State) : State :=
  match s.executing with
  | none => s
  | some e =>
    match s.trowelH.popW with
    | .ok (w, t) =>
      let s := { s with trowelH := t, executing := none }
      s.replyHandler e (le 2 w ++ replyItems w e.items) e.tag
    | .error _ => s

/-- RET (R405, R417): from the applet, only to its own entries and to the entry firmware called it with. -/
def effRet : CoreOp := fun c _ s => do
  let t := s.core c
  let depth := t.rs.length
  let (e, t') ← t.rsPop
  let home := decide (t.calls.head? = some depth)
  if t.closedEntry e && !home then trapOut 6
  else
    let t' := { t' with pc := e % 65536, cbank := bits 18 16 e, calls := if home then t.calls.tail else t.calls }
    let s := s.setCore c t'
    pure (if c = 0 ∧ t.inApplet ∧ home ∧ s.executing.any (fun e => e.depth == depth) then s.handlerReturns else s)

/-- TROWEL_JMP (R405). -/
def execTrowelJmp (core : Fin 2) (s : State) : Step := trowelRow (isOp 0x90) (onCore effJmp) core.val s
/-- JR (R405). -/
def execJr (core : Fin 2) (s : State) : Step := trowelRow (isOp 0x91) (onCore effJr) core.val s
/-- JZ (R405). -/
def execJz (core : Fin 2) (s : State) : Step := trowelRow (isOp 0x92) (onCore effJz) core.val s
/-- JNZ (R405). -/
def execJnz (core : Fin 2) (s : State) : Step := trowelRow (isOp 0x93) (onCore effJnz) core.val s
/-- CALL (R405). -/
def execCall (core : Fin 2) (s : State) : Step := trowelRow (isOp 0x94) (onCore effCall) core.val s
/-- CALLF (R405). -/
def execCallf (core : Fin 2) (s : State) : Step := trowelRow (isOp 0x95) (onCore effCallf) core.val s
/-- RETI (R405). -/
def execReti (core : Fin 2) (s : State) : Step := trowelRow (isOp 0x97) (onCore effReti) core.val s
/-- JMPI (R405). -/
def execJmpi (core : Fin 2) (s : State) : Step := trowelRow (isOp 0x98) (onCore effJmpi) core.val s
/-- CALLI (R405). -/
def execCalli (core : Fin 2) (s : State) : Step := trowelRow (isOp 0x99) (onCore effCalli) core.val s
/-- JMPF (R405). -/
def execJmpf (core : Fin 2) (s : State) : Step := trowelRow (isOp 0x9A) (onCore effJmpf) core.val s
/-- EI (R405). -/
def execEi (core : Fin 2) (s : State) : Step := trowelRow (isOp 0x9C) (onCore effEi) core.val s
/-- DI (R405). -/
def execDi (core : Fin 2) (s : State) : Step := trowelRow (isOp 0x9D) (onCore effDi) core.val s

/-- RET (R405). -/
def execRet (core : Fin 2) (s : State) : Step := trowelRow (isOp 0x96) effRet core.val s

/-! Loops and CRC (R407, R408) -/

/-- The lowest idle level. -/
def idleLevel (l : List LoopLevel) : Option Nat := (List.range 3).find? (fun k => !(l.getD k {}).armed)

/-- LOOP ( w -- ): imm2 is the address of the body's last instruction -/
def effLoop : Nat → Trowel → TR Trowel := fun i t => do
  let (n, t) ← t.popW
  match idleLevel t.loops with
  | none => trapOut 9
  | some k =>
    let v : LoopLevel := { ls := t.pc, le := i, lc := n, prio := t.prio, armed := decide (n ≠ 0) }
    pure { t with loops := modAt k (fun _ => v) t.loops, pc := if n = 0 then t.after i else t.pc }
/-- LBRK -/
def effLbrk : Nat → Trowel → TR Trowel := fun _ t =>
  match innermost t.loops 3 with
  | none => .ok t
  | some k => .ok { t with loops := modAt k (fun v => { v with armed := false }) t.loops }
/-- LCNT ( -- w ) -/
def effLcnt : Nat → Trowel → TR Trowel := fun _ t =>
  t.pushW (match innermost t.loops 3 with | none => 0 | some k => (t.loops.getD k {}).lc)
/-- CRC16 ( b -- ) -/
def effCrc16 : Nat → Trowel → TR Trowel := fun _ t => do
  let (b, t) ← t.pop
  pure { t with crc16 := if t.reflect then crc16Reflected t.crc16 b else crc16Step t.crc16 b }
/-- CRC32 ( b -- ) -/
def effCrc32 : Nat → Trowel → TR Trowel := fun _ t => do
  let (b, t) ← t.pop
  pure { t with crc32 := crc32Step t.crc32 b }

/-- TROWEL_LOOP (R408). -/
def execTrowelLoop (core : Fin 2) (s : State) : Step := trowelRow (isOp 0xA0) (onCore effLoop) core.val s
/-- LBRK (R408). -/
def execLbrk (core : Fin 2) (s : State) : Step := trowelRow (isOp 0xA1) (onCore effLbrk) core.val s
/-- LCNT (R408). -/
def execLcnt (core : Fin 2) (s : State) : Step := trowelRow (isOp 0xA2) (onCore effLcnt) core.val s
/-- CRC16 (R408). -/
def execCrc16 (core : Fin 2) (s : State) : Step := trowelRow (isOp 0xA8) (onCore effCrc16) core.val s
/-- CRC32 (R408). -/
def execCrc32 (core : Fin 2) (s : State) : Step := trowelRow (isOp 0xA9) (onCore effCrc32) core.val s

/-! Coprocessors (R411, R412, R567) -/

/-- Coprocessor `n` of a core. -/
def Trowel.cp (n : Nat) (t : Trowel) : Coprocessor := t.cps.getD n {}

/-- Replace a coprocessor by a function of it. -/
def Trowel.modCp (n : Nat) (f : Coprocessor → Coprocessor) (t : Trowel) : Trowel := { t with cps := modAt n f t.cps }

/-- The coprocessor an opcode 0xF0 + 4n + k names; cp3 is absent (R411). -/
def cpOf (op : Nat) : TR Nat := if bits 3 2 op = 3 then trapOut 7 else .ok (bits 3 2 op)

/-- The opcode of the one-byte instruction before PC. -/
def Trowel.lastOp (t : Trowel) : Nat := t.codeByte t.cbank (t.pc + 65535)

/-- CPSET ( w r -- ); a busy coprocessor takes it at the next CPGO, unless a later CPSET of the register finds it idle -/
def effCpset : Nat → Trowel → TR Trowel := fun _ t => do
  let n ← cpOf t.lastOp
  let (r, t) ← t.pop
  let (w, t) ← t.popW
  pure (t.modCp n (fun p =>
    if p.busy then { p with late := p.late ++ [(r % 16, w)] }
    else { p with regs := modAt (r % 16) (fun _ => w) p.regs, late := p.late.filter (fun (x : Nat × Nat) => x.1 != r % 16) }))
/-- CPGET ( r -- w ) -/
def effCpget : Nat → Trowel → TR Trowel := fun _ t => do
  let n ← cpOf t.lastOp
  let (r, t) ← t.pop
  t.pushW ((t.cp n).regs.getD (r % 16) 0)
/-- CPWAIT ( -- s ): it stalls while the coprocessor is busy -/
def effCpwait : Nat → Trowel → TR Trowel := fun _ t => do
  let n ← cpOf t.lastOp
  if (t.cp n).busy then pure { t with pc := (t.pc + 65535) % 65536 } else t.push (t.cp n).status

/-- CPSET (R411). -/
def execCpset (core : Fin 2) (s : State) : Step :=
  trowelRow (fun op => decide (0xF0 ≤ op) && op % 4 == 0) (onCore effCpset) core.val s
/-- CPGET (R411). -/
def execCpget (core : Fin 2) (s : State) : Step :=
  trowelRow (fun op => decide (0xF0 ≤ op) && op % 4 == 1) (onCore effCpget) core.val s
/-- CPWAIT (R411). -/
def execCpwait (core : Fin 2) (s : State) : Step :=
  trowelRow (fun op => decide (0xF0 ≤ op) && op % 4 == 3) (onCore effCpwait) core.val s

/-- R411: the range lies in the data space of the running code. -/
def Trowel.rangeOk (t : Trowel) (r : Nat × Nat) : Bool :=
  decide (r.2 = 0) || (decide (r.1 + r.2 ≤ 65536) && t.dataOk r.1 && t.dataOk (r.1 + r.2 - 1))

/-- R411: registers set while it was busy. -/
def lateRegs (regs : List Nat) (l : List (Nat × Nat)) : List Nat := l.foldl (fun r p => modAt p.1 (fun _ => p.2) r) regs

/-- CPGO with command `c` on coprocessor `n` (R411): registers set late are taken, ranges are checked,
and the command's result stands in data RAM; `COPROCESSOR_DONE` ends its time. A busy coprocessor
stalls the instruction. -/
def cpgo (n : Nat) (ranges : List Nat → List (Nat × Nat)) (f : List Nat → Trowel → Nat × Trowel) :
    Nat → Trowel → TR Trowel := fun _ t => do
  if (t.cp n).busy then pure { t with pc := (t.pc + 65535) % 65536 }
  else do
    let (_, t) ← t.pop
    let regs := lateRegs (t.cp n).regs (t.cp n).late
    if (ranges regs).all t.rangeOk then
      let r := f regs t
      pure (r.2.modCp n (fun p => { p with regs := regs, late := [], busy := true, status := r.1 }))
    else trapOut 8

/-- The row of a coprocessor command: CPGO `n` is the instruction at PC and `c` is on the stack. -/
def cpRow (n c : Nat) (f : Nat → Trowel → TR Trowel) (core : Nat) (s : State) : Step :=
  if (s.core core).stack.head? = some c then trowelRow (isOp (0xF2 + 4 * n)) (onCore f) core s else .next s

/-- Register `k` of a coprocessor command. -/
def cpReg (regs : List Nat) (k : Nat) : Nat := regs.getD k 0

/-- R412: CTX as the model lays it out: the eight state words, the length in bytes, the partial block. -/
def ctxBytes (h : List Nat) (len : Nat) (part : Bytes) : Bytes := h.flatMap (le 4) ++ le 8 len ++ padTo 64 part

/-- The state words of a CTX. -/
def ctxWords (b : Bytes) : List Nat := (List.range 8).map (fun i => fieldAt (4 * i) 4 b)

/-- SHA-256 INIT -/
def effShaInit : Nat → Trowel → TR Trowel :=
  cpgo 0 (fun r => [(cpReg r 2, 104)]) (fun r t => (0, t.putBytes (cpReg r 2) (ctxBytes sha256H0 0 [])))

/-- R412: a context absorbs bytes. -/
def ctxUpdate (ctx msg : Bytes) : Bytes :=
  let len := fieldAt 32 8 ctx
  let b := slice 40 (len % 64) ctx ++ msg
  let n := b.length / 64
  ctxBytes (shaBlocks sha256Kind n (ctxWords ctx) b) (len + msg.length) (b.drop (64 * n))

/-- R412: the digest of a context. -/
def ctxFinal (ctx : Bytes) : Bytes :=
  let len := fieldAt 32 8 ctx
  let p := shaPad sha256Kind (slice 40 (len % 64) ctx) len
  (shaBlocks sha256Kind (p.length / 64) (ctxWords ctx) p).flatMap (be 4)

/-- SHA-256 UPDATE -/
def effShaUpdate : Nat → Trowel → TR Trowel :=
  cpgo 0 (fun r => [(cpReg r 0, cpReg r 1), (cpReg r 2, 104)])
    (fun r t => (0, t.putBytes (cpReg r 2) (ctxUpdate (t.bytes (cpReg r 2) 104) (t.bytes (cpReg r 0) (cpReg r 1)))))

/-- SHA-256 FINAL -/
def effShaFinal : Nat → Trowel → TR Trowel :=
  cpgo 0 (fun r => [(cpReg r 2, 104), (cpReg r 3, 32)])
    (fun r t => (0, t.putBytes (cpReg r 3) (ctxFinal (t.bytes (cpReg r 2) 104))))

/-- Ed25519 VERIFY (R567) -/
def effVerify : Nat → Trowel → TR Trowel :=
  cpgo 1 (fun r => [(cpReg r 0, cpReg r 1), (cpReg r 2, 32), (cpReg r 3, 64)])
    (fun r t => (ed25519Verify (t.bytes (cpReg r 0) (cpReg r 1)) (t.bytes (cpReg r 2) 32) (t.bytes (cpReg r 3) 64), t))

/-- A command of cp2 that writes `n` bytes: `f` gives status and value of A and B (R412). -/
def cp2 (n : Nat) (f : Nat → Nat → Nat × Nat) : Nat → Trowel → TR Trowel :=
  cpgo 2 (fun r => [(cpReg r 0, 4), (cpReg r 1, 4), (cpReg r 2, n)])
    (fun r t =>
      let v := f (ofLE (t.bytes (cpReg r 0) 4)) (ofLE (t.bytes (cpReg r 1) 4))
      (v.1, t.putBytes (cpReg r 2) (le n v.2)))

/-- cp2 ADD -/
def effCp2Add : Nat → Trowel → TR Trowel := cp2 4 (fun a b => (carryOut 32 a b, addMod 32 a b))
/-- cp2 SUB -/
def effCp2Sub : Nat → Trowel → TR Trowel := cp2 4 (fun a b => (borrow a b, subMod 32 a b))
/-- cp2 MULU -/
def effCp2Mulu : Nat → Trowel → TR Trowel := cp2 8 (fun a b => (0, a * b))
/-- cp2 MULS -/
def effCp2Muls : Nat → Trowel → TR Trowel := cp2 8 (fun a b => (0, unsigned 64 (signed 32 a * signed 32 b)))
/-- cp2 CMPU -/
def effCp2Cmpu : Nat → Trowel → TR Trowel := cp2 0 (fun a b => (if a = b then 0 else if a < b then 1 else 2, 0))
/-- cp2 SHL -/
def effCp2Shl : Nat → Trowel → TR Trowel := cp2 4 (fun a b => (0, a * 2 ^ (b % 32) % 2 ^ 32))
/-- cp2 SHR -/
def effCp2Shr : Nat → Trowel → TR Trowel := cp2 4 (fun a b => (0, a / 2 ^ (b % 32)))
/-- cp2 DIVU: by 0 it writes nothing -/
def effCp2Divu : Nat → Trowel → TR Trowel :=
  cpgo 2 (fun r => [(cpReg r 0, 4), (cpReg r 1, 4), (cpReg r 2, 8)])
    (fun r t =>
      let a := ofLE (t.bytes (cpReg r 0) 4)
      let b := ofLE (t.bytes (cpReg r 1) 4)
      if b = 0 then (0x80, t) else (0, t.putBytes (cpReg r 2) (le 4 (a / b) ++ le 4 (a % b))))

/-- SHA256_INIT (R412). -/
def execSha256Init (core : Fin 2) (s : State) : Step := cpRow 0 0 effShaInit core.val s
/-- SHA256_UPDATE (R412). -/
def execSha256Update (core : Fin 2) (s : State) : Step := cpRow 0 1 effShaUpdate core.val s
/-- SHA256_FINAL (R412). -/
def execSha256Final (core : Fin 2) (s : State) : Step := cpRow 0 2 effShaFinal core.val s
/-- ED25519_VERIFY (R567). -/
def execEd25519Verify (core : Fin 2) (s : State) : Step := cpRow 1 0 effVerify core.val s
/-- CP2_ADD (R412). -/
def execCp2Add (core : Fin 2) (s : State) : Step := cpRow 2 0 effCp2Add core.val s
/-- CP2_SUB (R412). -/
def execCp2Sub (core : Fin 2) (s : State) : Step := cpRow 2 1 effCp2Sub core.val s
/-- CP2_MULU (R412). -/
def execCp2Mulu (core : Fin 2) (s : State) : Step := cpRow 2 2 effCp2Mulu core.val s
/-- CP2_MULS (R412). -/
def execCp2Muls (core : Fin 2) (s : State) : Step := cpRow 2 3 effCp2Muls core.val s
/-- CP2_DIVU (R412). -/
def execCp2Divu (core : Fin 2) (s : State) : Step := cpRow 2 4 effCp2Divu core.val s
/-- CP2_CMPU (R412). -/
def execCp2Cmpu (core : Fin 2) (s : State) : Step := cpRow 2 5 effCp2Cmpu core.val s
/-- CP2_SHL (R412). -/
def execCp2Shl (core : Fin 2) (s : State) : Step := cpRow 2 6 effCp2Shl core.val s
/-- CP2_SHR (R412). -/
def execCp2Shr (core : Fin 2) (s : State) : Step := cpRow 2 7 effCp2Shr core.val s

/-- What the instruction of each opcode does, for the row that takes a trap (R410); the opcodes of I/O, SYS,
WAIT and CPGO have none here. -/
def coreEffect (op : Nat) : Option CoreOp :=
  match op with
  | 0x00 => some (onCore effNop)
  | 0x01 => some (onCore effLit8)
  | 0x02 => some (onCore effLit16)
  | 0x03 => some (onCore effDrop)
  | 0x04 => some (onCore effDup)
  | 0x05 => some (onCore effSwap)
  | 0x06 => some (onCore effOver)
  | 0x07 => some (onCore effRot)
  | 0x08 => some (onCore effDropw)
  | 0x09 => some (onCore effDupw)
  | 0x0A => some (onCore effSwapw)
  | 0x0B => some (onCore effOverw)
  | 0x0C => some (onCore effPick)
  | 0x0D => some (onCore effToR)
  | 0x0E => some (onCore effRFrom)
  | 0x0F => some (onCore effRFetch)
  | 0x10 => some (onCore effAdd)
  | 0x11 => some (onCore effAddc)
  | 0x12 => some (onCore effSub)
  | 0x13 => some (onCore effSubb)
  | 0x14 => some (onCore effAnd)
  | 0x15 => some (onCore effOr)
  | 0x16 => some (onCore effXor)
  | 0x17 => some (onCore effNot)
  | 0x18 => some (onCore effShl)
  | 0x19 => some (onCore effShr)
  | 0x1A => some (onCore effAsr)
  | 0x1B => some (onCore effInc)
  | 0x1C => some (onCore effDec)
  | 0x1D => some (onCore effNeg)
  | 0x1E => some (onCore effMulu)
  | 0x20 => some (onCore effAddw)
  | 0x21 => some (onCore effSubw)
  | 0x22 => some (onCore effIncw)
  | 0x23 => some (onCore effDecw)
  | 0x24 => some (onCore effAndw)
  | 0x25 => some (onCore effOrw)
  | 0x26 => some (onCore effXorw)
  | 0x27 => some (onCore effShlw)
  | 0x28 => some (onCore effShrw)
  | 0x29 => some (onCore effExt)
  | 0x30 => some (onCore effEq)
  | 0x31 => some (onCore effNe)
  | 0x32 => some (onCore effLtu)
  | 0x33 => some (onCore effLeu)
  | 0x34 => some (onCore effLts)
  | 0x35 => some (onCore effLes)
  | 0x36 => some (onCore effZeq)
  | 0x38 => some (onCore effEqw)
  | 0x39 => some (onCore effLtuw)
  | 0x3A => some (onCore effLtsw)
  | 0x3B => some (onCore effZeqw)
  | 0x40 => some (onCore effLd)
  | 0x41 => some (onCore effSt)
  | 0x42 => some (onCore effLdw)
  | 0x43 => some (onCore effStw)
  | 0x44 => some (onCore effLda)
  | 0x45 => some (onCore effSta)
  | 0x46 => some (onCore effLdaw)
  | 0x47 => some (onCore effStaw)
  | 0x48 => some (onCore effLdp)
  | 0x49 => some (onCore effStp)
  | 0x4A => some (onCore effLdc)
  | 0x4B => some (onCore effLdcf)
  | 0x58 => some (onCore effBset)
  | 0x59 => some (onCore effBclr)
  | 0x5A => some (onCore effBcpl)
  | 0x5B => some (onCore effBpush)
  | 0x5C => some (onCore effBpop)
  | 0x5D => some (onCore effBpushi)
  | 0x5E => some (onCore effBpopi)
  | 0x90 => some (onCore effJmp)
  | 0x91 => some (onCore effJr)
  | 0x92 => some (onCore effJz)
  | 0x93 => some (onCore effJnz)
  | 0x94 => some (onCore effCall)
  | 0x95 => some (onCore effCallf)
  | 0x97 => some (onCore effReti)
  | 0x98 => some (onCore effJmpi)
  | 0x99 => some (onCore effCalli)
  | 0x9A => some (onCore effJmpf)
  | 0x9C => some (onCore effEi)
  | 0x9D => some (onCore effDi)
  | 0xA0 => some (onCore effLoop)
  | 0xA1 => some (onCore effLbrk)
  | 0xA2 => some (onCore effLcnt)
  | 0xA8 => some (onCore effCrc16)
  | 0xA9 => some (onCore effCrc32)
  | 0xAA => some (onCore effPar)
  | 0xAB => some (onCore effBrev)
  | 0xAC => some (onCore effBrevw)
  | 0x96 => some effRet
  | _ =>
    if within 0xB0 0xBF op then some (effBranch true none)
    else if within 0xC0 0xCF op then some (effBranch false none)
    else if within 0xD0 0xDF op then some (effBranch true (some false))
    else if within 0xE0 0xEF op then some (effBranch false (some true))
    else if 0xF0 ≤ op ∧ op % 4 = 0 then some (onCore effCpset)
    else if 0xF0 ≤ op ∧ op % 4 = 1 then some (onCore effCpget)
    else if 0xF0 ≤ op ∧ op % 4 = 3 then some (onCore effCpwait)
    else none

/-- R412: the effect of CPGO `n` with command `c` on the stack. -/
def cpEffect (n c : Nat) : Option (Nat → Trowel → TR Trowel) :=
  match n, c with
  | 0, 0 => some effShaInit
  | 0, 1 => some effShaUpdate
  | 0, 2 => some effShaFinal
  | 1, 0 => some effVerify
  | 2, 0 => some effCp2Add
  | 2, 1 => some effCp2Sub
  | 2, 2 => some effCp2Mulu
  | 2, 3 => some effCp2Muls
  | 2, 4 => some effCp2Divu
  | 2, 5 => some effCp2Cmpu
  | 2, 6 => some effCp2Shl
  | 2, 7 => some effCp2Shr
  | _, _ => none

/-- COPROCESSOR_DONE (R411): the command completes. -/
def State.coprocessorDone (c n : Nat) (s : State) : State :=
  s.setCore c ((s.core c).modCp n (fun p => { p with busy := false }))

/-- COPROCESSOR_DONE (R411). -/
def execCoprocessorDone (core : Fin 2) (cp : Fin 3) (s : State) : Step := .next (s.coprocessorDone core.val cp.val)

end Sys2Proof.Machine
end

