-- ==== Sys2Proof/Machine/StewardImage.lean ====
section
/-! DEFINITION. Firmware and applet images, keys, the operator PIN and test access. -/
namespace Sys2Proof.Machine

/-! Images (R418, R492) -/

/-- R476: bytes of an image slot: Trowel-H less the applet area, Trowel-S, applet area. -/
def slotBytes (target : Nat) : Nat := match target with | 0 => 786432 | 1 => 524288 | _ => 262144

/-- The bytes of an image. -/
def Image.content (g : Image) : Bytes := Table.getList 0 0 g.length g.bytes

/-- R492: the fields of an image are in range and its length is theirs. -/
def imageFields (target : Nat) (b : Bytes) : Bool :=
  let code := fieldAt 16 4 b
  let solver := fieldAt 20 4 b
  fieldAt 0 4 b == 0x31474D49 && fieldAt 4 1 b == target && fieldAt 5 1 b == 0 && fieldAt 14 2 b == 0 && allZero (slice 26 6 b) &&
  (if target = 0 then within 1 524288 code && solver == 0
   else within 1 262144 code && within 1 5120 solver && fieldAt 24 2 b == 0) &&
  b.length == 32 + code + 8 * solver + 64

/-- R477, R492: the signature over the digest of every preceding byte, under an unrevoked key of a kind. -/
def State.signedBy (kind : Nat) (b : Bytes) (s : State) : Bool :=
  s.keyVerifies kind (fieldAt 6 2 b) (sha256 (b.take (b.length - 64))) (b.drop (b.length - 64))

/-- The rollback counter of a target. -/
def BootRecord.rollback (target : Nat) (x : BootRecord) : Nat := if target = 0 then x.rollbackH else x.rollbackS

/-- R492, R493: the outcome of the check of an image. -/
def State.imageOutcome (target : Nat) (b : Bytes) (s : State) : Status :=
  if !imageFields target b then .badParam
  else if !s.signedBy 4 b then .authFail
  else if fieldAt 12 2 b < s.nv.boot.rollback target then .deniedLock
  else .ok

/-- The image in a slot. -/
def State.image (target slot : Nat) (s : State) : Image := s.nv.images.getD (imageIndex target slot) {}

/-- R492: the image in a slot is valid. -/
def State.imageValid (target slot : Nat) (s : State) : Bool := s.imageOutcome target (s.image target slot).content == .ok

/-- The service version of the running Trowel-H image (R492 API). -/
def State.servedApi (s : State) : Nat := fieldAt 24 2 (s.image 0 s.steward.runningH).content

/-- R418: OPCODE, ROLE, BANK, HANDLER, JOURNAL of each table entry. -/
def appletTable (b : Bytes) : List (Nat × Nat × Nat × Nat × Bool) :=
  (List.range (fieldAt 26 1 b)).map (fun k =>
    let e := slice (32 + 8 * k) 8 b
    (fieldAt 0 2 e, fieldAt 2 1 e, fieldAt 3 1 e, fieldAt 4 2 e, bit 0 (fieldAt 6 1 e)))

/-- R418: an address of CODE, which begins at bank 6, 0x0000. -/
def codeHas (code bank addr : Nat) : Bool := within 6 7 bank && decide ((bank - 6) * 65536 + addr < code)

/-- R418: the fields of an applet image. -/
def State.appletFields (b : Bytes) (s : State) : Bool :=
  let code := fieldAt 12 4 b
  let data := fieldAt 16 2 b
  let spill := fieldAt 18 2 b
  let n := fieldAt 26 1 b
  let table := appletTable b
  let entry := fun v => v == 0xFFFF || codeHas code 6 v
  fieldAt 0 4 b == 0x31545041 && within 1 131072 code && decide (data ≤ 16320) && within 64 4096 spill && decide (data + spill ≤ 16384) &&
  decide (n ≤ 64) && allZero (slice 27 5 b) && b.length == 32 + 8 * n + code + data + 64 &&
  codeHas code 6 (fieldAt 20 2 b) && fieldAt 20 2 b != 0xFFFF && entry (fieldAt 22 2 b) && entry (fieldAt 24 2 b) &&
  table.all (fun e => within 0xC000 0xFFFF e.1 && within 1 2 e.2.1 && codeHas code e.2.2.1 e.2.2.2.1) &&
  (List.range n).all (fun k => onlyBits 1 (fieldAt (32 + 8 * k + 6) 1 b) && fieldAt (32 + 8 * k + 7) 1 b == 0) &&
  !repeated (table.map (·.1)) && decide (fieldAt 4 2 b ≤ s.servedApi)

/-- R418: the outcome of the check of an applet image. -/
def State.appletOutcome (b : Bytes) (s : State) : Status :=
  if !s.appletFields b then .badParam else if !s.signedBy 2 b then .authFail else .ok

/-- IMAGE_STATE (R500) and its log record of kind 0x05. -/
def State.imageState (code target slot : Nat) (b : Bytes) (s : State) : State :=
  (s.logFree 0x60 0x05).occur 117 code
    (le 1 target ++ le 1 slot ++ (if target = 2 then slice 8 4 b ++ le 2 0 else slice 8 4 b ++ slice 12 2 b))

/-! IMAGE_WRITE (R493) -/

/-- The running slot of a target. -/
def Steward.running (target : Nat) (x : Steward) : Nat := if target = 1 then x.runningS else x.runningH

/-- R418, R493: the slot a target is written to. -/
def State.writeSlot (target : Nat) (s : State) : Nat :=
  if target = 2 then s.steward.runningH else 1 - s.steward.running target

/-- The image being written for a target. -/
def State.stagedImage (target : Nat) (s : State) : Image := if target = 2 then s.steward.appletStage else s.image target (s.writeSlot target)

/-- Replace the image being written for a target. -/
def State.setStaged (target : Nat) (g : Image) (s : State) : State :=
  if target = 2 then { s with steward := { s.steward with appletStage := g } }
  else { s with nv := { s.nv with images := modAt (imageIndex target (s.writeSlot target)) (fun _ => g) s.nv.images } }

/-- PART of a request. -/
def imagePart (l : List Item) : Nat := match l with | i :: _ => fieldAt 1 1 i.value | [] => 0

/-- R493: the size of the item. -/
def imageShape (l : List Item) : Bool :=
  match l with
  | [i] => i.id == 0x6110 && decide (12 ≤ i.value.length) &&
      i.value.length == 12 + (if fieldAt 1 1 i.value = 1 then fieldAt 8 4 i.value else 0)
  | _ => false

/-- R493: a write is refused while another is being checked, or where it would destroy the image to fall back to. -/
def State.imageBusy (target : Nat) (s : State) : Bool :=
  s.steward.imageWork.isSome || (match s.nv.boot.trial with | some (t, _) => t == target | none => false)

/-- R493: the fields of a request, in their order. -/
def imageTests (c : Cmd) (s : State) : List (Bool × Status) :=
  let n := c.u 8 4
  let cap := slotBytes (c.u 0 1)
  [ (decide (3 < c.u 1 1), .badParam), (c.u 2 2 != 0, .badParam),
    (c.u 1 1 == 0 && !within 1 cap n, .outOfRange), (c.u 1 1 == 1 && !within 1 4000 n, .outOfRange),
    (c.u 1 1 == 3 && !within 1 cap n, .outOfRange),
    (c.u 1 1 == 1 && decide ((s.stagedImage (c.u 0 1)).length < c.u 4 4 + n), .outOfRange) ]

/-- Write what a part brings: BEGIN erases, DATA writes its bytes, FROM_FLASH the whole image (log entry 35: an erased byte reads 0). -/
def State.imagePut (c : Cmd) (flash : Bytes) (s : State) : State :=
  let target := c.u 0 1
  let s := if target = 2 then s.draw.stopApplet (Config.freeNat s.freeTick % 256) else s
  let g := s.stagedImage target
  match c.u 1 1 with
  | 0 => s.setStaged target { length := c.u 8 4 }
  | 1 => s.setStaged target { g with bytes := Table.setList 0 (c.u 4 4) (c.value.drop 12) g.bytes }
  | 3 => s.setStaged target { length := c.u 8 4, bytes := Table.setList 0 0 (padTo (c.u 8 4) flash) [] }
  | _ => s

/-- R418, R493: the check of a written image, and what it leaves. -/
def State.imageCheck (target : Nat) (ok : Bool) (s : State) : Status × State :=
  let slot := s.writeSlot target
  let g := s.stagedImage target
  let st := if target = 2 then s.appletOutcome g.content else s.imageOutcome target g.content
  let s := s.imageState (if st = .ok then 0 else 1) target slot g.content
  if target ≠ 2 then (st, s)
  else
    let s := { s with steward := { s.steward with appletStage := {} } }
    if st ≠ .ok then (st, s)
    else if !ok then (.nvFault, s.nvFault)
    else (.ok, { s with nv := { s.nv with applets := modAt slot (fun _ => g) s.nv.applets } })

/-- The work of a part: BEGIN and DATA are done at once, END and FROM_FLASH wait for the check (IMAGE_CHECK_DONE). -/
def State.imageWork (c : Cmd) (ok : Bool) (flash : Bytes) (s : State) : State :=
  if !ok then s.nvFault.complete 0x6110 (c.ticket s) .nvFault []
  else
    let s := s.imagePut c flash
    if c.u 1 1 < 2 then s.complete 0x6110 (c.ticket s) .ok []
    else
      let w : ImageWork := { target := c.u 0 1, slot := s.writeSlot (c.u 0 1), part := c.u 1 1, ticket := c.ticket s }
      { s with steward := { s.steward with imageWork := some w } }

/-- IMAGE_WRITE (R493), the rows that `sel` selects. -/
def imageWrite (sel : Nat → Bool) (ok : Bool) (flash : Bytes) : CmdSpec :=
  { opcode := 0x6110, role := 2, maintenance := true, shape := imageShape, selects := fun l => sel (imagePart l)
    naming := fun _ c => if 2 < c.u 0 1 then some .badParam else none
    body := fun c s =>
      guarded ((s.imageBusy (c.u 0 1), .busy) :: imageTests c s) s { status := .accepted, state := s.mailed.imageWork c ok flash } }

/-- IMAGE_WRITE_BEGIN (R493); the row also takes a PART that does not exist. -/
def execImageWriteBegin (nvOk : Bool) (s : State) : Step := .next ((imageWrite (fun p => p == 0 || decide (3 < p)) nvOk []).run s)
/-- IMAGE_WRITE_DATA (R493). -/
def execImageWriteData (nvOk : Bool) (s : State) : Step := .next ((imageWrite (· == 1) nvOk []).run s)
/-- IMAGE_WRITE_END (R493). -/
def execImageWriteEnd (s : State) : Step := .next ((imageWrite (· == 2) true []).run s)
/-- IMAGE_WRITE_FROM_FLASH (R493): `flash` is what the external flash holds from OFFSET on. -/
def execImageWriteFromFlash (flash : Bytes) (nvOk : Bool) (s : State) : Step := .next ((imageWrite (· == 3) nvOk flash).run s)

/-- IMAGE_CHECK_DONE (R493): the check ends, IMAGE_STATE occurs, the completion event is posted. -/
def State.imageCheckDone (ok : Bool) (s : State) : State :=
  match s.steward.imageWork with
  | none => s
  | some w =>
    let r := { s with steward := { s.steward with imageWork := none } }.imageCheck w.target ok
    r.2.complete 0x6110 w.ticket r.1 []

/-- IMAGE_CHECK_DONE (R493). -/
def execImageCheckDone (nvOk : Bool) (s : State) : Step := .next (s.imageCheckDone nvOk)

/-! Trial and confirmation (R494–R496) -/

/-- R566, R494: TARGET and SLOT. -/
def activateNaming (_ : State) (c : Cmd) : Option Status := if 1 < c.u 0 1 ∨ 1 < c.u 1 1 then some .badParam else none

/-- R494: what refuses an activation. -/
def State.activateTests (target slot : Nat) (s : State) : List (Bool × Status) :=
  [ (!s.imageValid target slot, .notReady), (s.nv.boot.trial.isSome, .busy), (slot == s.steward.running target, .badParam) ]

/-- R494: the boot record names the slot as TRIAL; the applet area is copied for Trowel-H. -/
def State.activate (ok : Bool) (c : Cmd) (target slot : Nat) (s : State) : Status × State :=
  match s.stewardAppend ok 12 c.role c.keyId 0x6111 [] (le 1 target ++ le 1 slot) with
  | (.ok, s) =>
    let applets := if target = 0 then modAt slot (fun _ => s.nv.applets.getD s.steward.runningH {}) s.nv.applets else s.nv.applets
    (.ok, { s with nv := { s.nv with applets := applets, boot := { s.nv.boot with trial := some (target, slot) } } })
  | r => r

/-- IMAGE_ACTIVATE (R494). -/
def imageActivate (ok : Bool) : CmdSpec :=
  { opcode := 0x6111, role := 2, maintenance := true, journals := true, shape := oneItem 0x6111 2, naming := activateNaming
    body := fun c s => guarded (s.activateTests (c.u 0 1) (c.u 1 1)) s
      (let r := s.mailed.activate ok c (c.u 0 1) (c.u 1 1)
       { status := r.1, tag := if r.1 = .ok then .deviceReset 0x0E else .none, state := r.2 }) }

/-- IMAGE_ACTIVATE (R494). -/
def execImageActivate (nvOk : Bool) (s : State) : Step := .next ((imageActivate nvOk).run s)

/-- R496: the trial that runs. -/
def State.runningTrial (s : State) : Option (Nat × Nat) := if s.steward.trialRunning then s.nv.boot.trial else none

/-- R496: what BOOT_CONFIRM is refused with. -/
def State.confirmTests (s : State) : List (Bool × Status) :=
  [ (s.runningTrial.isNone, .notReady), (decide (s.steward.trialEnd ≤ s.up), .tooLate) ]

/-- R496: the trial slot becomes ACTIVE, the rollback counter rises, the trial ends. -/
def BootRecord.confirm (target slot level : Nat) (x : BootRecord) : BootRecord :=
  if target = 0 then { x with activeH := slot, trial := none, rollbackH := max x.rollbackH level }
  else { x with activeS := slot, trial := none, rollbackS := max x.rollbackS level }

/-- BOOT_CONFIRM's work (R496). -/
def State.confirm (ok : Bool) (c : Cmd) (s : State) : Status × State :=
  match s.runningTrial with
  | none => (.notReady, s)
  | some (target, slot) =>
    let b := (s.image target slot).content
    match s.stewardAppend ok 12 c.role c.keyId 0x6112 [] (le 1 target ++ le 1 slot ++ slice 12 2 b) with
    | (.ok, s) =>
      let s := { s with
        nv := { s.nv with boot := s.nv.boot.confirm target slot (fieldAt 12 2 b) }
        steward := { s.steward with trialRunning := false } }
      (.ok, s.imageState 3 target slot b)
    | r => r

/-- BOOT_CONFIRM (R496). -/
def bootConfirm (ok : Bool) : CmdSpec :=
  { opcode := 0x6112, role := 2, journals := true, shape := noItems
    body := fun c s => guarded s.confirmTests s (let r := s.mailed.confirm ok c; { status := r.1, state := r.2 }) }

/-- BOOT_CONFIRM (R496). -/
def execBootConfirm (nvOk : Bool) (s : State) : Step := .next ((bootConfirm nvOk).run s)

/-- TRIAL_TIMEOUT (R496): the trial reverts and a device reset follows. -/
def State.trialTimeout (s : State) : State :=
  if s.runningTrial.isNone ∨ s.up < s.steward.trialEnd then s else s.stewardReset 0x0F

/-- TRIAL_TIMEOUT (R496). -/
def execTrialTimeout (s : State) : Step := .next s.trialTimeout

/-- UPDATE_WORK (R475): an IMAGE_WRITE, IMAGE_ACTIVATE or BOOT_CONFIRM item through the mailbox, under the rules of its command; a
check is answered with its outcome. -/
def State.updateWork (ok : Bool) (flash : Bytes) (s : State) : State :=
  s.mailRow 6 (fun m s =>
    match parseItems m.body with
    | some [i] =>
      let c : Cmd := { opcode := i.id, seq := m.seq, session := 0, role := 0, keyId := 0, items := [i] }
      let maint := decide (s.power.mode = .maintenance)
      if i.id = 0x6110 then
        if !imageShape [i] ∨ 2 < c.u 0 1 then s.refuseMail m .badParam
        else match firstFail ((!maint, .notReady) :: (s.imageBusy (c.u 0 1), .busy) :: imageTests c s) with
        | some st => s.answer m st []
        | none =>
          if !ok then s.nvFault.answer m .nvFault []
          else
            let s := s.imagePut c flash
            if c.u 1 1 < 2 then s.answer m .ok [] else (let r := s.imageCheck (c.u 0 1) ok; r.2.answer m r.1 [])
      else if i.id = 0x6111 ∧ i.value.length = 2 ∧ c.u 0 1 ≤ 1 ∧ c.u 1 1 ≤ 1 then
        match firstFail ((!maint, .notReady) :: (!s.power.holdReady, .notReady) :: s.activateTests (c.u 0 1) (c.u 1 1)) with
        | some st => s.answer m st []
        | none => (let r := s.activate ok c (c.u 0 1) (c.u 1 1); r.2.answer m r.1 [])
      else if i.id = 0x6112 ∧ i.value.isEmpty then
        match firstFail ((!s.power.holdReady, .notReady) :: s.confirmTests) with
        | some st => s.answer m st []
        | none => (let r := s.confirm ok c; r.2.answer m r.1 [])
      else s.refuseMail m .badParam
    | _ => s.refuseMail m .badParam)

/-- UPDATE_WORK (R475). -/
def execUpdateWork (nvOk : Bool) (flash : Bytes) (s : State) : Step := .next (s.updateWork nvOk flash)

/-! Keys (R477, R479) -/

/-- R479: the fields of a request, then what its KEY_ID names. -/
def keyTests (c : Cmd) (s : State) : List (Bool × Status) :=
  let kind := c.u 1 1
  let id := c.u 2 2
  let held := s.key id
  [ (decide (1 < c.u 0 1), .badParam), (kind != 2 && kind != 4, .badParam), (id == 0, .badParam),
    (c.u 0 1 == 1 && !allZero (slice 4 32 c.value), .badParam),
    (c.u 0 1 == 0 && held.isSome, .badParam), (c.u 0 1 == 1 && !held.any (fun k => k.kind == kind), .badParam),
    (c.u 0 1 == 0 && decide (64 ≤ s.nv.keys.length), .nvFull) ]

/-- KEY_PROVISION (R479), the rows that `sel` selects: a record of KIND 11 and a log record of kind 0x0A. -/
def keyProvision (sel : Nat → Bool) (ok : Bool) (f : Cmd → State → List Key) : CmdSpec :=
  { opcode := 0x6310, role := 3, maintenance := true, journals := true, shape := oneItem 0x6310 36
    selects := fun l => sel (keyAction l), locked := lastFirmwareKey
    body := fun c s => guarded (keyTests c s) s
      (match s.journalAppend ok 11 c.role c.keyId 0x6310 [] c.value with
       | (.ok, s) =>
         { status := .ok, tag := if c.u 0 1 = 1 then .keyRevoked (c.u 2 2) else .none
           state := { s with nv := { s.nv with keys := f c s } }.logFree 0x63 0x0A }
       | (st, s) => { status := st, state := s }) }

/-- KEY_ADD (R479); the row also takes an ACTION that does not exist. -/
def keyAdd (ok : Bool) : CmdSpec :=
  keyProvision (· != 1) ok (fun c s => s.nv.keys ++ [{ keyId := c.u 2 2, kind := c.u 1 1, revoked := false, pub := slice 4 32 c.value }])

/-- KEY_ADD (R479). -/
def execKeyAdd (nvOk : Bool) (s : State) : Step := .next ((keyAdd nvOk).run s)

/-- KEY_REVOKE (R479): the entry keeps its KEY_ID; its sessions close once the reply has been consumed. -/
def keyRevoke (ok : Bool) : CmdSpec :=
  keyProvision (· == 1) ok (fun c s => s.nv.keys.map (fun k => if k.keyId = c.u 2 2 then { k with revoked := true } else k))

/-- KEY_REVOKE (R479). -/
def execKeyRevoke (nvOk : Bool) (s : State) : Step := .next ((keyRevoke nvOk).run s)

/-! The operator PIN (R480) -/

/-- R480: 4–8 digits from byte 0, then zeros. -/
def pinLegal (p : Bytes) : Bool :=
  let d := p.takeWhile (fun b => within 0x30 0x39 b.toNat)
  within 4 8 d.length && allZero (p.drop d.length)

/-- PIN_SET (R480), the rows that `sel` selects. The record of KIND 11 holds ENABLE alone (log entry 36). -/
def pinSet (sel : Nat → Bool) (ok : Bool) : CmdSpec :=
  { opcode := 0x6311, role := 3, journals := true, shape := oneItem 0x6311 12, selects := fun l => sel (keyAction l)
    body := fun c s =>
      let on := c.u 0 1 == 1
      let pin := slice 4 8 c.value
      guarded [ (decide (1 < c.u 0 1), .badParam), (c.u 1 3 != 0, .badParam), (if on then !pinLegal pin else !allZero pin, .badParam) ] s
        (match s.journalAppend ok 11 c.role c.keyId 0x6311 (le 1 (b01 s.nv.pin.isSome)) (le 1 (b01 on)) with
         | (.ok, s) =>
           let salt := freeBytes 16 s.freeTick
           let s := if on then { s with freeTick := s.freeTick + 16, nv := { s.nv with pin := some (salt, sha256 (salt ++ pin)) } }
             else { s with nv := { s.nv with pin := none } }
           done (s.logFree 0x63 0x0A)
         | (st, s) => { status := st, state := s }) }

/-- PIN_SET_ENABLE (R480); the row also takes an ENABLE that does not exist. -/
def execPinSetEnable (nvOk : Bool) (s : State) : Step := .next ((pinSet (· != 0) nvOk).run s)
/-- PIN_SET_DISABLE (R480). -/
def execPinSetDisable (nvOk : Bool) (s : State) : Step := .next ((pinSet (· == 0) nvOk).run s)

/-! Test access (R498) -/

/-- R498: what an ACTION leaves. -/
def State.testAction (action session : Nat) (s : State) : State :=
  match action with
  | 1 | 2 => { s with steward := { s.steward with testAccess := action, testSession := session } }
  | 3 => { s with nv := { s.nv with boot := { s.nv.boot with jtagBlown := true } } }
  | _ => { s with steward := { s.steward with testAccess := 0, testSession := 0 } }

/-- TEST_ACCESS (R498), the rows that `sel` selects. -/
def testAccess (sel : Nat → Bool) (ok : Bool) : CmdSpec :=
  { opcode := 0x7210, role := 3, maintenance := true, journals := true, shape := oneItem 0x7210 1
    selects := fun l => sel (keyAction l), locked := jtagDenied
    body := fun c s => guarded [(decide (3 < c.u 0 1), .badParam)] s
      (match s.journalAppend ok 1 c.role c.keyId 0x7210 (le 1 s.steward.testAccess) c.value with
       | (.ok, s) => done ((s.testAction (c.u 0 1) c.session).logAny 0x72)
       | (st, s) => { status := st, state := s }) }

/-- TEST_ACCESS_CLOSE (R498); the row also takes an ACTION that does not exist. -/
def execTestAccessClose (nvOk : Bool) (s : State) : Step := .next ((testAccess (fun a => a == 0 || decide (3 < a)) nvOk).run s)
/-- TEST_ACCESS_OPEN (R498). -/
def execTestAccessOpen (nvOk : Bool) (s : State) : Step := .next ((testAccess (· == 1) nvOk).run s)
/-- TEST_ACCESS_JTAG (R498). -/
def execTestAccessJtag (nvOk : Bool) (s : State) : Step := .next ((testAccess (· == 2) nvOk).run s)
/-- JTAG_FUSE_BLOW (R498). -/
def execJtagFuseBlow (nvOk : Bool) (s : State) : Step := .next ((testAccess (· == 3) nvOk).run s)

end Sys2Proof.Machine
end

