-- ==== Sys2Proof/Machine/Track.lean ====
section
/-! DEFINITION. Tracking channels: states, loops, slips, starts, the code tick, latches and measurement sets (R143–R169). -/
namespace Sys2Proof.Machine

/-- Channels fused on the part. -/
def State.chanCount (s : State) : Nat := match s.part.tier with | .a => 128 | .b => 64 | .c => 32

/-- Channel `n`. -/
def State.chan (n : Nat) (s : State) : Chan := s.track.chans.getD n {}

/-- Replace channel `n` by a function of it. -/
def State.modChan (n : Nat) (f : Chan → Chan) (s : State) : State :=
  { s with track := { s.track with chans := modAt n f s.track.chans } }

/-- Channels that are not retired (R165). -/
def State.chansAvailable (s : State) : Nat := ((s.track.chans.take s.chanCount).filter (fun c => c.state != 6)).length

/-! Phases (R145, R160) -/

/-- R145: the code NCO aided by the carrier, 2⁻³² chip per second. -/
def aidedRate (g : Nat) (doppler : Int) : Int :=
  let chip : Int := ((chipRate g * 2 ^ 32 : Nat) : Int)
  chip + chip * doppler / ((1000 * carrierHz g : Nat) : Int)

/-- The NCOs run on to `now`. -/
def Chan.runTo (now : Nat) (c : Chan) : Chan :=
  let d : Int := ((now - c.phaseAt : Nat) : Int)
  { c with carrier := c.carrier + c.doppler * d, code := c.code + c.codeRate * d, phaseAt := now }

/-- Units of `Chan.carrier` in one cycle. -/
def cycleUnits : Int := ((1000 * qtSec : Nat) : Int)

/-! The loops (R145, R160); log entry 26 -/

/-- Power of a tap. -/
def tapPower (t : Tap) : Nat := (t.i * t.i + t.q * t.q).toNat

/-- The discriminators of a dump (R145): PLL in 2⁻³² cycle; FLL in 2⁻³² mHz, where the dump before was used; DLL in 2⁻³² chip. -/
structure LoopErrors where
  pll : Int
  fll : Option Int
  dll : Int
deriving DecidableEq, Repr

/-- R145: the PLL discriminator: four quadrants on a pilot after secondary-code sync, otherwise Costas. -/
def pllError (fourQuadrant : Bool) (p : Tap) : Int :=
  if fourQuadrant || decide (0 ≤ p.i) then atan2 p.q p.i else atan2 (-p.q) (-p.i)

/-- R145: the FLL discriminator of successive P dumps `k` ms apart; its angle is atan2 / 2π, so that T alone divides it. -/
def fllError (k : Nat) (a b : Tap) : Int := atan2 (a.i * b.q - b.i * a.q) (a.i * b.i + a.q * b.q) * 1000000 / (k : Int)

/-- R145: the DLL discriminator; taps without power give 0 (DESIGN CHOICE, log entry 26). -/
def dllError (g spacing : Nat) (e l : Tap) : Int :=
  let a : Int := isqrt (tapPower e)
  let b : Int := isqrt (tapPower l)
  if a + b = 0 then 0 else Config.dllChips g spacing ((a - b) * 1000000 / (a + b))

/-- The discriminators of a dump. -/
def Chan.errors (h : HeldDump) (c : Chan) : LoopErrors :=
  let d := h.dump
  { pll := pllError (signalPilot c.signal && c.sync == 2) d.p
    fll := c.lastP.map (fun a => fllError h.ms a d.p)
    dll := dllError c.signal h.dllSpacing d.e d.l }

/-- R145: the FLL takes part: alone in PULL_IN, and until CARRIER_LOCK, or while FLL_ASSIST is 1. -/
def State.fllRuns (c : Chan) (s : State) : Bool := decide (c.state < 3) || s.param 0x1212 == 1

/-- R145: the filters of a channel over an interval of `k` ms, after its discriminators `x`. The first integrators are those of ω₀³T and of
the FLL's ω₀²T; both loops feed the second; 2.4ω₀ acts on the NCO itself. The code NCO takes the carrier's aid and 4 · DLL_BW, towards the
early tap where that is the stronger. -/
def State.loopFilter (k : Nat) (x : LoopErrors) (s : State) (c : Chan) : Chan :=
  let l5 := b01 (signalL5 c.signal)
  let t : Int := (k : Nat)
  let w : Int := ((200 * s.param (0x1201 + l5) : Nat) : Int)
  let v : Int := ((10 * s.param 0x1203 : Nat) : Int)
  let ef : Int := if s.fllRuns c then x.fll.getD 0 else 0
  let ep : Int := if c.state = 1 then 0 else x.pll
  let accF := c.accF + ef * v * v * t / 2809000
  let acc1 := c.acc1 + ep * w * w * w * t / 1569 ^ 3
  let fTerm := if s.fllRuns c then (accF + 1414 * ef * v / 53000) * t / 1000 else 0
  let pTerm := if c.state = 1 then 0 else (acc1 + 1100 * ep * w * w / 1569 ^ 2) * t / 1000
  let acc2 := c.acc2 + fTerm + pTerm
  let doppler := (acc2 + 2400 * ep * w / 1569) / 2 ^ 32
  let dll : Int := ((4 * s.param 0x1204 : Nat) : Int)
  { c with acc1 := acc1, accF := accF, acc2 := acc2, doppler := doppler, codeRate := aidedRate c.signal doppler - dll * x.dll / 100 }

/-- R146: a loop update with a dump over `k` ms: the NCOs, run on to now, take new frequencies. -/
def State.loopUpdate (n k : Nat) (x : LoopErrors) (d : Dump) (s : State) : State :=
  s.modChan n (fun c => { (s.loopFilter k x (c.runTo s.up)) with lastP := some d.p })

/-- R152, R160: C/N0 of the dumps in the window, 0.01 dB-Hz: power of P over power of N in the bandwidth of the unblanked time. With no
noise power there is no ratio: a free value (log entry 26). -/
def cn0Of (free : Nat) (l : List (Nat × Nat × Nat × Nat)) : Nat :=
  let p := l.foldl (fun (a : Nat) x => a + x.2.1) 0
  let n := l.foldl (fun (a : Nat) x => a + x.2.2.1) 0
  let t := l.foldl (fun (a : Nat) x => a + x.2.2.2) 0
  if n * t = 0 then free % 65536 else log1000 (p * l.length * qtSec) (n * t)

/-- R153: the lock indicator of a dump, 10⁻⁶; with no power there is none: a free value. -/
def lockOf (free : Int) (p : Tap) : Int := if tapPower p = 0 then free else (p.i * p.i - p.q * p.q) * 1000000 / (tapPower p : Int)

/-- R152, R153, R160: a used dump over `k` ms enters the estimates: C/N0 over CN0_AVG_MS, the lock indicator over 10 dumps. -/
def State.estimate (n k : Nat) (d : Dump) (s : State) : State :=
  let t := s.freeTick
  { s with freeTick := t + 2 }.modChan n (fun c =>
    let now := (s.up, tapPower d.p, tapPower d.n, k * qtMs * (10000 - d.blanked) / 10000)
    let l := (c.powers.filter (fun (x : Nat × Nat × Nat × Nat) => decide (s.up < x.1 + s.param 0x120F * qtMs))) ++ [now]
    let locks := c.locks ++ [lockOf (Config.freeInt (t + 1)) d.p]
    { c with powers := l, cn0 := cn0Of (Config.freeNat t) l, locks := locks.drop (locks.length - 10) })

/-- The smoothed lock indicator lies above a threshold of 0.01. -/
def Chan.lockAbove (thresh : Nat) (c : Chan) : Bool := decide (((thresh * 10000 * c.locks.length : Nat) : Int) < c.locks.foldl (· + ·) 0)

/-- The smoothed lock indicator lies below a threshold of 0.01. -/
def Chan.lockBelow (thresh : Nat) (c : Chan) : Bool := decide (c.locks.foldl (· + ·) 0 < ((thresh * 10000 * c.locks.length : Nat) : Int))

/-! Signals' intervals (R148) -/

/-- R148: the allowed coherent intervals, ms. -/
def cohAllowed (g : Nat) : List Nat :=
  match g with
  | 0x02 | 0x04 | 0x06 => [10, 20]
  | 0x03 => [4, 20]
  | 0x07 | 0x86 => [1, 2]
  | _ => [1, 2, 4, 5, 10, 20]

/-- R148: one primary code period, ms. -/
def cohPrimary (g : Nat) : Nat := (cohAllowed g).headD 1

/-- R148: the interval after synchronisation. -/
def State.cohSynced (g : Nat) (s : State) : Nat :=
  let l5 := b01 (signalL5 g)
  (cohAllowed g).foldl (fun m v => if v ≤ s.param (0x1208 + l5) ∧ v * s.param (0x1201 + l5) ≤ 3000 then max m v else m) (cohPrimary g)

/-- R148: the sync period of a signal, in primary periods. -/
def syncPeriods (g : Nat) : Nat :=
  match g with
  | 0x02 | 0x04 | 0x06 => 1800
  | 0x03 => 25
  | 0x07 | 0x86 => 2
  | 0x82 | 0x83 => 100
  | _ => 20

/-- Where in the sync period a count of primary periods lies. -/
def Chan.syncPos (pos : Nat) (c : Chan) : Nat := (pos + c.base) % syncPeriods c.signal

/-- R148: at the end of an interval the channel changes to the next one, if this is a boundary of the longer of the two. -/
def Chan.turnInterval (c : Chan) : Chan :=
  if c.syncPos c.pos * cohPrimary c.signal % max c.coh c.cohNext = 0 then { c with coh := c.cohNext } else c

/-! Events of a channel (R167) -/

/-- CHANNEL_LOCK (R153). -/
def State.chanLock (n : Nat) (s : State) : State :=
  let c := s.chan n
  (s.bump 0x12 4).occur 48 n (le 1 c.signal ++ le 1 c.sv ++ le 2 c.cn0)

/-- CHANNEL_LOSS with its reason (R153, R167), the channel then IDLE. -/
def State.chanLoss (n reason : Nat) (s : State) : State :=
  let c := s.chan n
  ((s.modChan n (fun _ => {})).bump 0x12 5).occur 49 n (le 1 c.signal ++ le 1 c.sv ++ le 1 reason)

/-- CYCLE_SLIP (R154). -/
def State.chanSlip (n : Nat) (s : State) : State :=
  let s := (s.modChan n (fun c => { c with slips := (c.slips + 1) % 65536, lockFrom := s.up })).bump 0x12 6
  let c := s.chan n
  s.occur 50 n (le 1 c.signal ++ le 1 c.sv ++ le 2 c.slips)

/-- A channel enters a state. -/
def Chan.enter (st now : Nat) (c : Chan) : Chan := { c with state := st, since := now, good := 0, bad := 0 }

/-- Synchronisation is lost or not yet found (R149, R153): the interval returns to one primary period at the next boundary, and a histogram
begins. -/
def State.unsync (s : State) (c : Chan) : Chan :=
  { c with sync := 0, cohNext := cohPrimary c.signal, hist := if signalPilot c.signal then [] else List.replicate (syncPeriods c.signal) 0
           syncMin := s.param 0x1211, lastNegative := none, signs := [], polarity := none, symbols := [] }

/-- A signal that starts takes the spacings in force (R144, R166). -/
def State.takeSpacings (s : State) (c : Chan) : Chan :=
  { c with dllSpacing := (s.spacings c.signal).1, veSpacing := (s.spacings c.signal).2, spacingsDue := none, began := s.up }

/-- A signal starts in PULL_IN (R153, R155) with its NCO states as of now. -/
def State.freshChan (g sv : Nat) (code doppler : Int) (host : Bool) (s : State) : Chan :=
  let c : Chan :=
    { state := 1, signal := g, sv := sv, host := host, doppler := doppler, codeRate := aidedRate g doppler, code := code
      phaseAt := s.up, since := s.up, coh := cohPrimary g, acc2 := doppler * 2 ^ 32 }
  s.takeSpacings (s.unsync c)

/-! A dump at its loop update (R146–R154) -/

/-- R147: the half-chip jump of a BOC pilot, after 3 dumps of one side above |P|; where both sides are, towards VE (DESIGN CHOICE, log entry
120). -/
def State.bumpJump (n : Nat) (d : Dump) (s : State) : State :=
  if [0x02, 0x03, 0x04, 0x06].all (fun k => k != (s.chan n).signal) then s
  else
    let s := s.modChan n (fun c => { c with
      veRun := if tapPower d.p < tapPower d.ve then c.veRun + 1 else 0, vlRun := if tapPower d.p < tapPower d.vl then c.vlRun + 1 else 0 })
    let c := s.chan n
    let half : Int := ((2 ^ 31 * qtSec : Nat) : Int)
    if 3 ≤ c.veRun then (s.modChan n (fun c => { c with code := c.code - half, veRun := 0, vlRun := 0 })).bump 0x12 7
    else if 3 ≤ c.vlRun then (s.modChan n (fun c => { c with code := c.code + half, veRun := 0, vlRun := 0 })).bump 0x12 7
    else s

/-- R147, R153: the loss condition of a dump: C/N0 below LOSS_CN0, or |P| below |VE| or |VL|. -/
def State.lossOf (n : Nat) (d : Dump) (s : State) : Bool :=
  decide ((s.chan n).cn0 < s.param 0x120B) || decide (tapPower d.p < max (tapPower d.ve) (tapPower d.vl))

/-- R147, R153: the loss condition is kept with the time since which it has held. -/
def State.noteLoss (n : Nat) (d : Dump) (s : State) : State :=
  s.modChan n (fun c => { c with lowSince := if s.lossOf n d then some (c.lowSince.getD s.up) else none })

/-- R149: a dump of one primary period that ends at `pos`: a change of its sign counts at the position where it began, and the sign is kept. -/
def Chan.countSign (pos : Nat) (d : Dump) (c : Chan) : Chan :=
  let k := (pos - 1) % syncPeriods c.signal
  let neg := decide (d.p.i < 0)
  { c with lastNegative := some neg
           hist := if c.lastNegative = some (!neg) then modAt k (· + 1) c.hist else c.hist
           signs := (c.signs ++ [if neg then -1 else 1]).drop (c.signs.length + 1 - min 100 (syncPeriods c.signal)) }

/-- R149: both methods go by dumps of one primary period: a longer one ends the run of signs. -/
def Chan.stopSigns (c : Chan) : Chan := { c with lastNegative := none, signs := [] }

/-- R152: a discarded dump takes part in no estimate and no loop. -/
def Chan.skip (c : Chan) : Chan :=
  { c with lastP := none, lastNegative := none, signs := (c.signs ++ [0]).drop (c.signs.length + 1 - min 100 (syncPeriods c.signal)) }

/-- R149: the position with enough changes and three times those of any other. -/
def histFound (least : Nat) (h : List Nat) : Option Nat :=
  (h.zipIdx.find? (fun p => decide (least ≤ p.1) && h.zipIdx.all (fun q => q.2 == p.2 || decide (3 * q.1 ≤ p.1)))).map (·.2)

/-- A chip of a secondary or overlay code as a sign. -/
def secondarySign (g sv k : Nat) : Int := if Config.secondary g sv (k % syncPeriods g) then -1 else 1

/-- R149: signs of P against phase `k` of the code. -/
def codeScore (g sv : Nat) (signs : List Int) (k : Nat) : Int := signs.zipIdx.foldl (fun (a : Int) x => a + x.1 * secondarySign g sv (k + x.2)) 0

/-- R149: the phase of the code at the first of a full set of signs whose match exceeds every other by 30, in a match of 100 dumps
(log entry 121), and whether it is inverted. -/
def codeFound (g sv : Nat) (signs : List Int) : Option (Nat × Bool) :=
  let m := min 100 (syncPeriods g)
  let l := (List.range (syncPeriods g)).map (fun k => (k, codeScore g sv signs k))
  if signs.length < m then none
  else (l.find? (fun x => l.all (fun y => y.1 == x.1 || decide (y.2.natAbs * 100 + 30 * m ≤ x.2.natAbs * 100)))).map
    (fun x => (x.1, decide (x.2 < 0)))

/-- R149: time-aided synchronisation is possible: 1 ms, 10 km, and the satellite's ephemeris. -/
def State.timeAided (c : Chan) (s : State) : Bool :=
  decide (s.plumb.errBound.getD 0xFFFFFFFF ≤ 10000000) && s.plumb.position.isSome && decide (s.plumb.sigma ≤ 10000000) &&
  s.ephemeris c.signal c.sv

/-- R149: what the methods find at a dump that ends at `pos`, first the predicted boundary, then the histogram or the code match: the `base`
of a channel, and whether the prompt is inverted against the secondary code. -/
def State.syncClaims (c : Chan) (pos : Nat) (d : Dump) (s : State) : List (Nat × Bool) :=
  let m := syncPeriods c.signal
  let baseOf := fun (k : Nat) => (k + m - pos % m) % m
  let aided := if s.timeAided c then
      [(baseOf (d.predicted % m), decide (d.p.i < 0) != decide (secondarySign c.signal c.sv (d.predicted + m - 1) < 0))] else []
  let found := if signalPilot c.signal then
      (codeFound c.signal c.sv c.signs).map (fun x => (baseOf ((x.1 + min 100 m) % m), x.2))
    else (histFound c.syncMin c.hist).map (fun k => ((m - k) % m, false))
  aided ++ found.toList

/-- SYNC_REACHED (R149, R151, R153): the channel moves to FINE; on a pilot HALF_CYCLE is cleared, and an inversion adds half a cycle. -/
def State.reachSync (n : Nat) (x : Nat × Bool) (s : State) : State :=
  let k := s.cohSynced (s.chan n).signal
  s.modChan n (fun c => { (c.enter 4 s.up) with
    sync := if signalPilot c.signal then 2 else 1, base := x.1, cohNext := k
    carrier := if signalPilot c.signal && c.halfCycle && x.2 then c.carrier + cycleUnits / 2 else c.carrier
    halfCycle := if signalPilot c.signal then false else c.halfCycle })

/-- CARRIER_LOCK is reached (R151, R153, R154, R160): a return without having left the locked states is a slip. -/
def State.reachCarrier (n : Nat) (s : State) : State :=
  let back := (s.chan n).hadLock
  let s := s.modChan n (fun c => { (s.unsync (c.enter 3 s.up)) with
    halfCycle := true, hadLock := true, lockFrom := s.up, carrier := c.carrier % cycleUnits })
  let s := s.chanLock n
  if back then s.chanSlip n else s

/-- A channel with carrier lock: loss of it, synchronisation found or contradicted (R149, R153). -/
def State.lockedDump (n k pos : Nat) (d : Dump) (s : State) : State :=
  let c := s.chan n
  let bad := if c.lockBelow (s.param 0x120A) then c.bad + 1 else 0
  if 5 ≤ bad then s.modChan n (fun c => s.unsync (c.enter 2 s.up))
  else
    let s := s.modChan n (fun c => { (if k = cohPrimary c.signal then c.countSign pos d else c.stopSigns) with bad := bad })
    let claims := s.syncClaims (s.chan n) pos d
    if c.state = 4 then
      if claims.any (fun x => x.1 != c.base) then s.modChan n (fun c => { (s.unsync (c.enter 3 s.up)) with halfCycle := true })
      else s
    else match claims with
    | x :: _ => s.reachSync n x
    | [] => s

/-- State changes of a dump (R153, R154), with its discriminators. -/
def State.stateDump (n k pos : Nat) (x : LoopErrors) (d : Dump) (s : State) : State :=
  let c := s.chan n
  match c.state with
  | 1 =>
    let near := x.fll.any (fun e => decide (e.natAbs < 5000 * 2 ^ 32)) && decide (x.dll.natAbs * 20 < 2 ^ 32)
    let good := if near then c.good + 1 else 0
    if 5 ≤ good then s.modChan n (Chan.enter 2 s.up) else s.modChan n (fun c => { c with good := good })
  | 2 =>
    let good := if c.lockAbove (s.param 0x120A) then c.good + 1 else 0
    if 10 ≤ good then s.reachCarrier n else s.modChan n (fun c => { c with good := good })
  | 3 | 4 =>
    let s := if s.param 0x120E * 2 ^ 32 < (x.pll - d.expected).natAbs * 100 then s.chanSlip n else s
    s.lockedDump n k pos d
  | _ => s

/-- R151: on a data-tracked channel the decoder's polarity clears HALF_CYCLE in a loop update; an inversion adds half a cycle. -/
def Chan.resolveHalf (c : Chan) : Chan :=
  match c.polarity with
  | some inverted =>
    { c with polarity := none, halfCycle := false, carrier := if c.halfCycle && inverted then c.carrier + cycleUnits / 2 else c.carrier }
  | none => c

/-- R150: in FINE the DP of a used dump is a data symbol for the decoder. -/
def Chan.keepSymbol (d : Dump) (c : Chan) : Chan := if c.state = 4 then { c with symbols := c.symbols ++ [d.dp] } else c

/-- LOOP_UPDATE (R146, R152): one dump, of interval `x.1` ms and with `pos` at its end, is used. A dump nine tenths blanked is discarded; in
REACQ the NCOs coast. -/
def State.useDump (n : Nat) (s : State) (h : HeldDump) : State :=
  let d := h.dump
  if !within 1 5 (s.chan n).state then s
  else if 9000 ≤ d.blanked then s.modChan n Chan.skip
  else
    let s := s.estimate n h.ms d
    let c := s.chan n
    if c.state = 5 then
      if s.param 0x120B + 300 ≤ c.cn0 then s.modChan n (fun c => { (s.unsync (c.enter 2 s.up)) with lowSince := none, lastP := none }) else s
    else
      let e := c.errors h
      ((((((s.loopUpdate n h.ms e d).modChan n Chan.resolveHalf).bumpJump n d).noteLoss n d).stateDump n h.ms h.pos e d).modChan n
        (Chan.keepSymbol d))

/-- R144: PP is P on a pilot-tracked signal; on a data-only signal DP is P, and PP is unused. -/
def dumpOf (g : Nat) (d : Dump) : Dump := if signalPilot g then { d with pp := d.p } else { d with pp := { i := 0, q := 0 }, dp := d.p }

/-- The dump as the channel's taps see it: the blanked share is at least what the spans of its interval hold (R128, R152), and all of it
while PLL 2 is unlocked (R453). -/
def State.blankDump (c : Chan) (d : Dump) (s : State) : Dump :=
  let share := blankShare (s.blankSpans (signalL5 c.signal)) c.began s.up
  { (dumpOf c.signal d) with blanked := if (s.pll 2).state = 3 then 10000 else max d.blanked share }

/-- The channel at the end of an interval: the dump waits, with the spacings it was taken with. -/
def State.holdDump (d : Dump) (s : State) (c : Chan) : Chan :=
  let c := c.settle s.up
  let pos := c.pos + c.coh / cohPrimary c.signal
  { (c.settle (s.up + 1)) with
    pos := pos, began := s.up
    dumps := c.dumps ++ [{ ms := c.coh, pos := pos, dllSpacing := c.dllSpacing, veSpacing := c.veSpacing, dump := s.blankDump c d }] }

/-- CORRELATOR_DUMP (R146): an interval ends, and the next begins (R144, R148), in FINE by COH_MAX as it now stands (R166). -/
def State.correlatorDump (n : Nat) (d : Dump) (s : State) : State :=
  if !s.power.mode.serves ∨ !within 1 5 (s.chan n).state then s
  else s.modChan n (fun c =>
    let c := s.holdDump d c
    ({ c with cohNext := if c.state = 4 then s.cohSynced c.signal else c.cohNext } : Chan).turnInterval)

/-- CORRELATOR_DUMP (R146). -/
def execCorrelatorDump (ch : Fin 128) (dump : Dump) (s : State) : Step := .next (s.correlatorDump ch.val dump)

/-! Timeouts (R153) -/

/-- PULL_IN_TIMEOUT (R153). -/
def State.pullInTimeout (n : Nat) (s : State) : State :=
  let c := s.chan n
  if s.power.mode.serves ∧ c.state = 1 ∧ c.since + 200 * qtMs ≤ s.up then (s.bump 0x12 3).chanLoss n 2 else s

/-- PULL_IN_TIMEOUT (R153). -/
def execPullInTimeout (ch : Fin 128) (s : State) : Step := .next (s.pullInTimeout ch.val)

/-- LOSS_TIMEOUT (R153, R166): with REACQ_MS at 0 the channel passes through REACQ to IDLE. -/
def State.lossTimeout (n : Nat) (s : State) : State :=
  let c := s.chan n
  if s.power.mode.serves ∧ within 2 4 c.state ∧ c.lowSince.any (fun t => decide (t + s.param 0x120C * qtMs ≤ s.up)) then
    let s := s.modChan n (fun c => { (s.unsync (c.enter 5 s.up)) with hadLock := false, reacqMs := s.param 0x120D })
    if s.param 0x120D = 0 then s.chanLoss n 0 else s
  else s

/-- LOSS_TIMEOUT (R153). -/
def execLossTimeout (ch : Fin 128) (s : State) : Step := .next (s.lossTimeout ch.val)

/-- REACQ_TIMEOUT (R153). -/
def State.reacqTimeout (n : Nat) (s : State) : State :=
  let c := s.chan n
  if s.power.mode.serves ∧ c.state = 5 ∧ c.since + c.reacqMs * qtMs ≤ s.up then s.chanLoss n 0 else s

/-- REACQ_TIMEOUT (R153). -/
def execReacqTimeout (ch : Fin 128) (s : State) : Step := .next (s.reacqTimeout ch.val)

/-! Navigation data (R150, R151) -/

/-- R151: the decoder has resolved the preamble's polarity on a data-tracked channel, for its next loop update. -/
def State.notePolarity (n : Nat) (inverted : Bool) (s : State) : State :=
  s.modChan n (fun c => if c.halfCycle && !signalPilot c.signal then { c with polarity := some inverted } else c)

/-- NAV_DATA_DECODE (R150, R151, R186): the decoder has taken the symbols of the channel; messages that pass
their check are stored; the polarity is resolved. -/
def State.navDecode (n : Nat) (messages : List (Fin 3 × Bytes)) (inverted : Option Bool) (leap : Option LeapNews) (s : State) : State :=
  let c := s.chan n
  if !s.power.mode.serves ∨ !within 3 4 c.state then s
  else
    let s := messages.foldl (fun s m => s.storeNav { signal := c.signal, sv := c.sv, kind := m.1.val, data := m.2 }) s
    let s := match inverted with | some v => s.notePolarity n v | none => s
    (s.modChan n (fun c => { c with symbols := [] })).takeNews leap

/-- NAV_DATA_DECODE (R150). -/
def execNavDataDecode (ch : Fin 128) (messages : List (Fin 3 × Bytes)) (inverted : Option Bool) (leap : Option LeapNews)
    (s : State) : Step := .next (s.navDecode ch.val messages inverted leap)

/-! Commands (R156, R157) -/

/-- A channel that may start a signal: IDLE with no start pending. -/
def Chan.idle (c : Chan) : Bool := c.state == 0 && c.assign.isNone

/-- The lowest-numbered IDLE channel. -/
def State.idleChan (s : State) : Option Nat := (List.range s.chanCount).find? (fun n => (s.chan n).idle)

/-- Check 7 of CHANNEL_ASSIGN and CHANNEL_RELEASE: a channel beyond the fused count; `any` names no channel. -/
def chanAbsent (any : Nat) (s : State) (l : List Item) : Bool :=
  match l with
  | i :: _ => let n := fieldAt 0 1 i.value; n != any && decide (s.chanCount ≤ n)
  | [] => false

/-- R566 stage 1 of CHANNEL_ASSIGN. -/
def assignNaming (_ : State) (c : Cmd) : Option Status := if signalNamed (c.u 1 1) then none else some .badParam

/-- R156: AT lies from HANDOFF_AGE_MS before to 1 s after now. -/
def State.atLegal (b : Bytes) (s : State) : Bool :=
  match qtOf b with
  | some t => decide (s.qt ≤ t + s.param 0x1210 * qtMs) && decide (t ≤ s.qt + qtSec)
  | none => false

/-- The channel a CHANNEL_ASSIGN takes. -/
def State.assignTarget (c : Cmd) (s : State) : Option Nat :=
  if c.u 0 1 = 0xFF then s.idleChan else if (s.chan (c.u 0 1)).idle then some (c.u 0 1) else none

/-- The tests of CHANNEL_ASSIGN (R156); the order among its refusals of one kind is a DESIGN CHOICE (log entry 136). -/
def State.assignTests (c : Cmd) (s : State) : List (Bool × Status) :=
  let g := c.u 1 1
  let predict := bit 0 (c.u 3 1)
  [((s.assignTarget c).isNone, .busy), (!bit (b01 (signalL5 g)) (s.param 0x1000), .notReady), (!svLegal g (c.u 2 1), .outOfRange),
   (!onlyBits 1 (c.u 3 1), .badParam), (c.u 22 2 != 0, .badParam), (!predict && !s.atLegal (slice 12 10 c.value), .outOfRange),
   (s.tracked g (c.u 2 1), .badParam), (predict && !(s.predicts && s.ephemeris g (c.u 2 1)), .notReady)]

/-- R156: what a start takes from the request, or, with PREDICT, from ephemeris, position and time, whose figures are free. -/
def State.assignFigures (c : Cmd) (s : State) : (Nat × Int × Nat) × State :=
  if bit 0 (c.u 3 1) then
    let t := s.freeTick
    ((Config.freeNat t % (codeLength (c.u 1 1) * 2 ^ 32), signed 32 (Config.freeNat (t + 1)), s.qt), { s with freeTick := t + 2 })
  else ((c.u 4 4 * 2 ^ 24, c.i 8 4, (qtOf (slice 12 10 c.value)).getD s.qt), s)

/-- CHANNEL_ASSIGN (R156): run-time state, started at the next code tick. -/
def channelAssign : CmdSpec :=
  { opcode := 0x1210, role := 1, shape := oneItem 0x1210 24, absent := chanAbsent 0xFF, naming := assignNaming
    body := fun c s => guarded (s.assignTests c) s (
      let n := (s.assignTarget c).getD 0
      let f := s.assignFigures c
      reply 0x1210 (le 1 n) (f.2.modChan n (fun _ => { assign := some (c.u 1 1, c.u 2 1, f.1.1, f.1.2.1, f.1.2.2) }))) }

/-- CHANNEL_ASSIGN (R156). -/
def execChannelAssign (s : State) : Step := .next (channelAssign.run s)

/-- CHANNEL_RELEASE (R157): an IDLE or RETIRED channel is left as it is, also one that a CHANNEL_ASSIGN will start. -/
def channelRelease : CmdSpec :=
  { opcode := 0x1211, role := 1, shape := oneItem 0x1211 1, absent := chanAbsent 0x100
    body := fun c s => done (s.modChan (c.u 0 1) (fun x => if within 1 5 x.state then { x with release := true } else x)) }

/-- CHANNEL_RELEASE (R157). -/
def execChannelRelease (s : State) : Step := .next (channelRelease.run s)

/-! The code tick (R158) -/

/-- A record latched at this instant is marked MISSING (R164). -/
def Latch.drop (n now : Nat) (l : Latch) : Latch :=
  if l.instant = now then
    { l with records := l.records.map (fun r => if r.1 = n then (n, slice 0 3 r.2 ++ le 1 1 ++ zeros 44) else r) }
  else l

/-- SELF_CHECK_MISMATCH (R164): the channel is retired, what it latched at this tick is not used, its NCOs
stand as at its last matching code tick, and its journal record is asked for (log entry 22). -/
def State.retire (n : Nat) (s : State) : State :=
  let s := (s.modChan n (fun c => { (c.runTo s.track.lastTick) with state := 6, retiredAt := some s.qt, dumps := [], release := false, assign := none })).bump 0x12 8
  let s := { s with track := { s.track with latch := s.track.latch.map (Latch.drop n s.qt) } }
  s.askJournal 4 0 (le 1 0x12 ++ le 1 n ++ qtBytes s.qt)

/-- Step 2: the channels whose checksums differ (R164). -/
def State.selfCheck (mismatch : Nat) (s : State) : State :=
  ((List.range s.chanCount).filter (fun n => bit n mismatch && (s.chan n).state != 6)).foldl (fun s n => s.retire n) s

/-- Step 3: every dump since the last tick (R146). -/
def State.loopUpdates (s : State) : State :=
  (List.range s.chanCount).foldl (fun s n =>
    let l := (s.chan n).dumps
    if l.isEmpty then s else l.foldl (fun s d => s.useDump n d) (s.modChan n (fun c => { c with dumps := [] }))) s

/-- Step 4 for one channel: a release, or the stop of a disabled band (R153, R157). -/
def State.stopChan (s : State) (n : Nat) : State :=
  let c := s.chan n
  if c.state = 6 then s
  else if c.release then s.modChan n (fun _ => {})
  else if c.state ≠ 0 ∧ !(s.band (signalL5 c.signal)).on then s.chanLoss n 1
  else s

/-- Step 4: BAND_ENABLE comes into force, releases and band-disable stops (R141, R158). -/
def State.stopChans (s : State) : State :=
  let turn := fun (l5 : Bool) (s : State) =>
    let on := bit (b01 l5) (s.param 0x1000)
    let s := if (s.band l5).on && !on then s.stopBand l5 else s
    s.modBand l5 (fun b => { b with on := on })
  let s := turn true (turn false s)
  (List.range s.chanCount).foldl State.stopChan s

/-- R155, R165: a signal starts on channel `n`, its figures of `age` units of QT ago. -/
def State.startChan (n g sv : Nat) (code : Int) (doppler : Int) (age : Int) (host : Bool) (s : State) : State :=
  s.modChan n (fun _ => s.freshChan g sv (code * (qtSec : Int) + aidedRate g doppler * age) doppler host)

/-- Step 5 for one channel: a retired channel's signal moves to the lowest IDLE channel (R165), its HOST flag
with it (DESIGN CHOICE, log entry 122). -/
def State.reassign (s : State) (n : Nat) : State :=
  let c := s.chan n
  match c.retiredAt with
  | none => s
  | some t =>
    let s := s.modChan n (fun c => { c with retiredAt := none })
    let target := if c.signal = 0 ∨ s.tracked c.signal c.sv then none else s.idleChan
    let s := match target with
      | some k => s.modChan k (fun _ => s.freshChan c.signal c.sv (c.code + aidedRate c.signal c.doppler * ((s.up - c.phaseAt : Nat) : Int))
          c.doppler c.host)
      | none => s
    s.occur 51 n (le 1 c.signal ++ le 1 c.sv ++ le 1 (target.getD 0xFF) ++ le 1 s.chansAvailable ++ qtBytes t)

/-- Step 6, HANDOFF_TAKEN (R155): the head entry of Q28. -/
def State.takeHandoff (s : State) : State :=
  match (s.queue 28).entries with
  | [] => s
  | e :: _ =>
    let g := fieldAt 0 1 e.data
    let sv := fieldAt 1 1 e.data
    let found := (qtOf (slice 16 10 e.data)).getD 0
    if found + s.param 0x1210 * qtMs < s.qt then (s.consume 28).bump 0x12 2
    else if s.tracked g sv then (s.consume 28).bump 0x12 1
    else match s.idleChan with
    | none => s
    | some n =>
      ((s.consume 28).startChan n g sv (fieldAt 4 4 e.data * 2 ^ 24 : Nat) (signedAt 8 4 e.data) ((s.qt : Int) - found) false).bump 0x12 0

/-- Step 6: the CHANNEL_ASSIGNs that wait (R156). -/
def State.startAssigned (s : State) (n : Nat) : State :=
  match (s.chan n).assign with
  | some (g, sv, code, dop, at_) => s.startChan n g sv (code : Int) dop ((s.qt : Int) - at_) true
  | none => s

/-- CODE_TICK (R158), an MT's latch already taken. -/
def State.codeTick (mismatch : Nat) (s : State) : State :=
  let k := s.plumb.codeIdx + 1
  let t := k * qtMs
  if !s.tickRuns 3 t then s
  else
    let s := s.advance t
    let s := ({ s with plumb := { s.plumb with codeIdx := k } }).occur 59 0 []
    let s := ((s.selfCheck mismatch).loopUpdates).stopChans
    let s := if t % s.mtPeriod = 0 then (List.range s.chanCount).foldl State.reassign s else s
    let s := (List.range s.chanCount).foldl State.startAssigned s.takeHandoff
    { s with track := { s.track with lastTick := s.up } }

/-- CODE_TICK (R158). -/
def execCodeTick (mismatch : BitVec 128) (s : State) : Step := .next (s.ascending (fun s => s.codeTick mismatch.toNat))

/-! The latch and the set (R159–R162) -/

/-- R160: LOCK_MS. -/
def Chan.lockMs (now : Nat) (c : Chan) : Nat := if within 3 4 c.state then min 0xFFFFFFFF ((now - c.lockFrom) / qtMs) else 0

/-- R104, R160: the record of a channel. -/
def Chan.record (n now : Nat) (c : Chan) : Bytes :=
  let head := le 1 n ++ le 1 c.signal ++ le 1 c.sv
  if c.state = 5 ∨ c.state = 6 then head ++ le 1 1 ++ zeros 44
  else
    let x := c.runTo now
    let code := x.code / (qtSec : Int) % ((codeLength c.signal * 2 ^ 32 : Nat) : Int)
    let carrier := if c.state = 2 then 0 else x.carrier * 65536 / cycleUnits
    head ++ le 1 (2 * b01 c.halfCycle + 4 * b01 (signalPilot c.signal)) ++ leInt 8 code ++ leInt 8 carrier ++ leInt 4 c.doppler ++
    le 2 c.cn0 ++ le 2 c.slips ++ le 4 (c.lockMs now) ++ zeros 16

/-- R168: the word of a channel. -/
def Chan.word (c : Chan) : Nat :=
  (if c.state = 0 then 0 else c.signal * 2 ^ 24 + c.sv * 2 ^ 16) + c.state * 2 ^ 12 + c.sync * 2 ^ 10 + b01 c.halfCycle * 2 ^ 9 +
  b01 (c.state != 0 && signalPilot c.signal) * 2 ^ 8 + b01 c.host * 2 ^ 7 + c.coh % 32

/-- R168: the tracking status as it stands. -/
def State.trackNow (s : State) : Bytes :=
  let l := s.track.chans.take s.chanCount
  le 1 s.chanCount ++ le 1 s.chansAvailable ++ le 1 (l.filter (fun c => within 1 5 c.state)).length ++ zeros 1 ++
  l.flatMap (fun c => le 4 c.word)

/-- R162, R168: STATUS_GET of unit 0x12: between a latch and its swap, the status of the last complete set (DEDUCED, log entry 123). -/
def State.trackStatus (s : State) : Bytes := if s.track.latch.isSome && !s.track.words.isEmpty then s.track.words else s.trackNow

/-- Channels that an MT latches: those tracking, and those retired since the last MT (R159, R161). -/
def Chan.latched (c : Chan) : Bool := within 2 5 c.state || (c.state == 6 && c.retiredAt.isSome)

/-- R384: when the carrier's arc began (State.up) on a channel in CARRIER_LOCK or FINE; 0 on another. -/
def Chan.arcStart (c : Chan) : Nat := if within 3 4 c.state then c.lockFrom else 0

/-- R159: every channel latches at the MT instant. -/
def State.latchSet (s : State) : State :=
  let ns := (List.range s.chanCount).filter (fun n => (s.chan n).latched)
  let l : Latch := { instant := s.qt, holdover := s.plumb.state == 5, records := ns.map (fun n => (n, (s.chan n).record n s.up)), words := s.trackNow
                     arcs := ns.map (fun n => (s.chan n).arcStart), since := s.track.latchedAt }
  ({ s with track := { s.track with latch := some l, latchedAt := s.up } }).bump 0x12 9

/-- R104: a Q03 entry. -/
def Latch.entry (seq : Nat) (l : Latch) : Bytes :=
  le 4 seq ++ le 1 l.records.length ++ le 1 (b01 l.holdover) ++ zeros 2 ++ qtBytes l.instant ++ zeros 14 ++ l.records.flatMap (·.2)

/-- R384: a record of a MEAS body, from the record of a set. -/
def measRecord (restart : Bool) (r : Bytes) : Bytes :=
  let f := fieldAt 3 1 r
  le 1 (fieldAt 1 1 r) ++ le 1 (fieldAt 2 1 r) ++ le 1 (b01 (bit 1 f) + 2 * b01 (bit 2 f) + 4 * b01 restart) ++
  zeros 1 ++ slice 12 8 r ++ le 4 (fieldAt 4 8 r / 2 ^ 14 % 2 ^ 32)

/-- Insert a channel's record before those of a lower C/N0 (R384). -/
def insertByCn0 (x : Nat × Bytes) : List (Nat × Bytes) → List (Nat × Bytes)
  | [] => [x]
  | y :: l => if y.1 < x.1 then x :: y :: l else y :: insertByCn0 x l

/-- Cut records into the bodies of MEAS messages, at most 15 records each (log entry 30). -/
def measBodies (head : Bytes) (parts : Nat) : Nat → Nat → List Bytes → List Bytes
  | 0, _, _ => []
  | n + 1, k, l =>
    (head ++ le 1 k ++ le 1 parts ++ le 1 (l.take 15).length ++ zeros 3 ++ (l.take 15).flatten) :: measBodies head parts n (k + 1) (l.drop 15)

/-- The records of a latched set that a manager sends on: channels in CARRIER_LOCK or FINE above 10° elevation, in descending
C/N0 (R384). Whether a satellite is above 10° is found in firmware, and is free (log entry 30). -/
def State.measRecords (l : Latch) (s : State) : List Bytes :=
  let arc := fun (k : Nat) => l.arcs.getD k 0
  let ok := fun (x : (Nat × Bytes) × Nat) => arc x.2 != 0 && !bit 0 (fieldAt 3 1 x.1.2) && Config.freeBit (s.freeTick + x.2)
  let sorted := ((l.records.zipIdx).filter ok).foldl (fun a x =>
    insertByCn0 (fieldAt 24 2 x.1.2, measRecord (decide (l.since < arc x.2)) x.1.2) a) []
  sorted.map (·.2)

/-- R384: a manager turns the set into MEAS messages; what is left of the one before is omitted and counted. -/
def State.measForCell (q : Nat) (l : Latch) (s : State) : State :=
  if s.power.mode ≠ .runManager ∨ s.rst.startStep < 6 then s
  else
    let recs := s.measRecords l
    let parts := (recs.length + 14) / 15
    let left := s.cell.measOut.foldl (fun n b => n + fieldAt 16 1 b) 0
    let s := { s with
      freeTick := s.freeTick + l.records.length
      cell := { s.cell with measOut := measBodies (le 4 q ++ qtBytes l.instant) parts parts 0 recs } }
    if left = 0 then s else s.bumpBy 0x32 12 left

/-- R384: a worker keeps its own sets for 2 s, for the latch instants that it has in common with its manager. -/
def State.keepSet (l : Latch) (s : State) : State :=
  if s.power.mode ≠ .runWorker then s
  else
    let recs := (l.records.zipIdx).filterMap (fun (x : (Nat × Bytes) × Nat) =>
      let arc := l.arcs.getD x.2 0
      if arc = 0 ∨ bit 0 (fieldAt 3 1 x.1.2) then none else some (x.1.2, arc))
    let kept := s.cell.cvSets.filter (fun x => decide (l.instant < x.1 + 2 * qtSec))
    { s with cell := { s.cell with cvSets := kept ++ [(l.instant, recs)] } }

/-- MEAS_SET_READY (R162, R384): the buffers swap, the set goes to Q03, to slot 0 and to the cell, EV052 occurs. -/
def State.measSetReady (s : State) : State :=
  match s.track.latch with
  | none => s
  | some l =>
    let q := wrap32 (s.track.setSeq + 1)
    let s := { s with track := { s.track with setSeq := q, latch := none, words := l.words } }
    let s := ((s.offer 3 { data := l.entry q }).publish 0 (l.entry q)).occur 52 0 (le 4 q ++ le 1 l.records.length)
    (s.measForCell q l).keepSet l

/-- MEAS_SET_READY (R162). -/
def execMeasSetReady (s : State) : Step := .next s.measSetReady

end Sys2Proof.Machine
end

