-- ==== Sys2Proof/Machine/Apply.lean ====
section
/-! DEFINITION. What a start and a wake put back: images into the cores, the applet, and the journalled configuration of every unit. -/
namespace Sys2Proof.Machine

/-! Images and the applet (R417, R418, R421, R492) -/

/-- `n` bytes of an image from offset `o`, as memory content from address `a`. -/
def Image.part (o n a : Nat) (g : Image) : Table Byte :=
  (g.bytes.filter (fun p => decide (o ≤ p.1) && decide (p.1 < o + n))).map (fun p => (p.1 - o + a, p.2))

/-- CODE of a firmware image at code address 0 (R492). -/
def Image.code (g : Image) : Table Byte := g.part 32 (ofLE (Table.getList 0 16 4 g.bytes)) 0

/-- Key of bank 6, address 0 of the code RAM. -/
def appletBase : Nat := 6 * 65536

/-- R417, R418, R421: the applet of the running Trowel-H slot starts, when its image passes: code from bank 6, initial data at 0xC000,
its opcodes registered, and its ENTRY_INIT called. -/
def State.startApplet (s : State) : State :=
  let g := s.nv.applets.getD s.steward.runningH {}
  let b := g.content
  if s.appletOutcome b ≠ .ok then s
  else
    let code := fieldAt 12 4 b
    let o := 32 + 8 * fieldAt 26 1 b
    let t := s.trowelH
    let t := { t with
      code := t.code.filter (fun (p : Nat × Byte) => decide (p.1 < appletBase)) ++ g.part o code appletBase
      data := Table.setList 0 0xC000 (slice (o + code) (fieldAt 16 2 b) b) t.data }
    let t := if t.mayCall then t.callApplet 6 (fieldAt 20 2 b) (fieldAt 18 2 b) [] else t
    { s with
      trowelH := t
      applet := { running := true, init := fieldAt 20 2 b, vec0 := fieldAt 22 2 b, vec1 := fieldAt 24 2 b, table := appletTable b
                  keyId := fieldAt 6 2 b, spill := fieldAt 18 2 b } }

/-! Units take their journalled configuration (R529 step 8) -/

/-- Insert a coefficient record after those of its generation or an earlier one. -/
def insertRecord (r : CoefRecord) : List CoefRecord → List CoefRecord
  | [] => [r]
  | x :: l => if r.generation < x.generation then r :: x :: l else x :: insertRecord r l

/-- R265, R279: the records of the generations up to the active one, in the order of their generations. -/
def activeRecords (gen : Nat) (l : List CoefRecord) : List CoefRecord :=
  (l.filter (fun r => decide (r.generation ≤ gen))).foldl (fun a r => insertRecord r a) []

/-- A bank with the values of some records written. -/
def writeRecords (l : List CoefRecord) (t : Table Nat) : Table Nat :=
  l.foldl (fun t r => r.values.foldl (fun t v => Table.set 0 v.1 v.2 t) t) t

/-- R224, R228: a lane bank that COEF_RETAIN keeps: bit 0 active, bit 1 pending. -/
def State.applyCoefs (keptActive keptPending : Bool) (s : State) : State :=
  let cf := s.nv.config
  let active := if keptActive then s.screed.coefActive else writeRecords (activeRecords cf.activeGen cf.coefs) []
  { s with
    screed := { s.screed with
      coefActive := active, coefPending := if keptPending then s.screed.coefPending else active, generation := cf.activeGen
      dirty := if keptPending then s.screed.dirty else [], glided := if keptPending then s.screed.glided else [] }
    nv := { s.nv with config := { cf with
      coefs := if keptPending then cf.coefs else cf.coefs.filter (fun r => decide (r.generation ≤ cf.activeGen)) } } }

/-- R279: the active program in bank A and the customer program, from the library; descriptors; the solver. The descriptors' lines read 0,
also those that self-refresh kept (DESIGN CHOICE, log entry 137). -/
def State.applyPrograms (s : State) : State :=
  let cf := s.nv.config
  let s := match s.libEntry cf.activeEntry with
    | some e =>
      let b : ScreedBank := { words := e.words, entry := e.entry, loaded := true, path := longestPath e.words }
      if cf.activeEntry = 0 then s else { s with screed := { s.screed with bankA := b, activeB := false } }
    | none => s
  let s := match s.libEntry cf.custEntry with
    | some e =>
      let b : ScreedBank := { words := e.words, entry := e.entry, loaded := true }
      if cf.custEntry = 0 then s else { s with screed := { s.screed with custBank := b, cust := { on := true, pc := 0x7400 } } }
    | none => s
  cf.descs.foldl (fun s p => s.applyDesc p.1 p.2) s

/-- R288, R297, R300, R303, R304, R311: ports, bindings, the map and groups; no stream runs. -/
def State.applyAudio (s : State) : State :=
  let cf := s.nv.config
  let aes := s.audio.aes.mapIdx (fun n p =>
    let t := cf.aesTemplates.getD n (List.replicate 24 0, List.replicate 24 0)
    { p with templA := t.1, templB := t.2 })
  let asrc := s.audio.asrc.mapIdx (fun n c =>
    let b := cf.asrc.getD n (0, 0)
    { c with source := b.1, slot := b.2 })
  let s := { s with audio := { s.audio with aes := aes, asrc := asrc, groups := cf.groups, routes := cf.routes } }
  { s with audio := { s.audio with outs := (cf.routes.filter (fun p => isOutputClass p.2)).map (fun p => s.newOut p.1 p.2 0 false 0) } }

/-- R113, R121: routes of the event controller and programs of the DMA. -/
def State.applyFabric (s : State) : State :=
  let cf := s.nv.config
  let s := cf.evCfg.foldl (fun s p => s.setEvCfg p.1 p.2) s
  cf.dmaPrograms.foldl (fun s p => { s with dma := { s.dma with
    channels := modAt p.1 (fun _ => { priority := p.2.1, program := p.2.2 }) s.dma.channels } }) s

/-- R191, R194, R195: pulses, marks and the stored position. -/
def State.applyPlumb (s : State) : State :=
  let cf := s.nv.config
  { s with plumb := { s.plumb with
    pulses := s.plumb.pulses.mapIdx (fun n p => { p with cfg := cf.pulses.getD n {}, next := none })
    marks := cf.marks, stored := cf.position } }

/-- R425, R440: the ports run from UART_CFG and SAMP_DIV. -/
def State.applyUart (n : Nat) (u : Uart) (s : State) : Uart :=
  let cfg := s.param (0x4000 + 0x100 * n)
  let div := s.param (0x4001 + 0x100 * n)
  { u with
    rxCfg := cfg, txCfg := cfg, rxDiv := div, txDiv := div, versions := [], txMode := cfg, muted := true, rtsHigh := !bit 22 cfg && !cfgRxEn cfg }

/-- R323, R326, R395: plan, locks and cell; and the UARTs. -/
def State.applyLinks (s : State) : State :=
  let s := s.loadLocks
  { s with
    radio := { s.radio with plan := s.nv.config.plan, planNext := [], tuned := s.nv.config.plan.key }
    clocks := { s.clocks with plls := modAt 3 (fun p => { p with vco := if p.state = 0 then p.vco else radioVco s.nv.config.plan }) s.clocks.plls }
    cell := { s.cell with cfg := s.nv.config.cell, cfgNext := [] }
    uarts := s.uarts.mapIdx (fun n u => s.applyUart n u) }

/-- R529 step 8, R512 step 8: every unit re-applies the journalled configuration. -/
def State.reapply (keptActive keptPending : Bool) (s : State) : State :=
  ((((s.applyParams.applyFabric).applyPlumb).applyLinks).applyCoefs keptActive keptPending).applyPrograms.applyAudio

/-! The warm-start bundle (R198, R534) -/

/-- R329, R330: bins of a bundle, the minutes elapsed since expired. -/
def State.restoreBins (elapsed : Nat) (b : Bundle) (s : State) : State :=
  { s with radio := { s.radio with bands := s.radio.bands.mapIdx (fun n x => { x with bins := rollBins elapsed ((b.tokens.getD n []).drop 1) }) } }

/-- R330: a bucket that restarts empty. -/
def State.emptyBuckets (s : State) : State :=
  { s with radio := { s.radio with bands := s.radio.bands.mapIdx (fun n x => { x with bins := emptyBins (s.locksOf n) }) } }

/-- R316, R534: tuner codes and the figures of the last calibration. -/
def State.restoreRadio (b : Bundle) (s : State) : State :=
  { s with radio := { s.radio with
    bands := s.radio.bands.mapIdx (fun n x => { x with
      series := (b.radio.getD (2 * n) 0x20).toNat, shunt := (b.radio.getD (2 * n + 1) 0x20).toNat })
    calTemp := b.radio.getD 6 0, vcoBand := (b.radio.getD 7 0).toNat } }

/-- R198, R534: REF_FREQ and the position of a valid bundle. -/
def State.restorePlumb (b : Bundle) (s : State) : State :=
  let p := b.position
  { s with plumb := { s.plumb with
    refFreq := b.time.getD 4 0
    position := if p.isEmpty then none else some { x := p.getD 0 0, y := p.getD 1 0, z := p.getD 2 0 }
    sigma := (p.getD 3 0).toNat } }

/-- Whole minutes of RTC time since a bundle was formed. -/
def State.bundleMinutes (b : Bundle) (s : State) : Nat := (s.utcSec - b.rtcUtc) / 60

end Sys2Proof.Machine
end

