-- ==== Sys2Proof/Machine/Power.lean ====
section
/-! DEFINITION. The power controller: modes by command, entry to and wake from the low-power modes, the Watch sequencer, and
the supply-loss save. -/
namespace Sys2Proof.Machine

/-! Modes entered by command (R505) -/

/-- R523: MODE_CHANGED. `reason`: 0 command, 1 wake, 2 start-up. -/
def State.modeChanged (old : Mode) (reason : Nat) (s : State) : State :=
  s.occur 0 s.power.mode.code (le 1 old.code ++ le 1 reason)

/-- R505: what leaving a mode stops. -/
def State.leaveMode (new : Mode) (s : State) : State :=
  let old := s.power.mode
  let s := if old.run && !new.run then
      let s := s.endStreams.stopCell 2
      { s with rst := { s.rst with startStep := min 4 s.rst.startStep } }
    else s
  if new = .maintenance then s.draw.stopApplet (Config.freeNat s.freeTick % 256)
  else if old = .maintenance then s.endTestAccess
  else s

/-- R505, R531: the mode changes, with what it stops and what it starts. -/
def State.changeMode (new : Mode) (reason : Nat) (s : State) : State :=
  let old := s.power.mode
  let s := s.leaveMode new
  let s := { s with power := { s.power with mode := new } }
  let s := s.modeChanged old reason
  let s := if old = .maintenance then s.startApplet else s
  s.advanceStart

/-- R33, R505: Run-Manager on tier B or C. -/
def modeAbsent (s : State) (l : List Item) : Bool :=
  match l with
  | i :: _ => fieldAt 0 1 i.value == 6 && decide (s.part.tier ≠ .a)
  | [] => false

/-- R505: Maintenance needs the installer. -/
def modeRole (l : List Item) : Nat := match l with | i :: _ => if fieldAt 0 1 i.value = 7 then 2 else 1 | [] => 1

/-- R34, R505: a run mode waits for HOLD_READY and is reached from Timing only. -/
def State.runBarred (new : Mode) (s : State) : Bool := new.run && (!s.power.holdReady || decide (s.power.mode ≠ .timing))

/-- A MODE_SET replaces START_MODE for this start (R531). -/
def State.startReplaced (s : State) : State := { s with rst := { s.rst with startPending := false } }

/-- MODE_SET (R505). -/
def modeSet : CmdSpec :=
  { opcode := 0x0011, role := 1, shape := oneItem 0x0011 1, absent := modeAbsent, roleOf := modeRole
    body := fun c s =>
      let new := modeOf (c.u 0 1)
      let named := within 4 7 (c.u 0 1)
      let same := named && decide (new = s.power.mode)
      guarded [(named && !same && s.runBarred new, .notReady), (!named, .badParam)] s
        (if same then done s.startReplaced
         else
          { status := .accepted
            state := (s.startReplaced.changeMode new 0).complete 0x0011 (c.ticket s) .ok [] }) }

/-- MODE_SET (R505). -/
def execModeSet (s : State) : Step := .next (modeSet.run s)

/-! POWER_ENTER and consent (R506, R508) -/

/-- POWER_ENTER (R506): the entry begins at execution; consent is asked. -/
def powerEnter : CmdSpec :=
  { opcode := 0x7010, role := 1, shape := oneItem 0x7010 2
    body := fun c s =>
      let m := modeOf (c.u 0 1)
      guarded
        [ (!(s.power.mode.run || decide (s.power.mode = .timing)), .notReady),
          (m == .watch && s.nv.config.watch.isNone, .notReady), (s.power.entry.isSome, .busy),
          (!m.low, .badParam), (c.u 1 1 != 0, .badParam) ] s
        (let e : PowerEntry := { target := m, ticket := c.ticket s, at_ := s.up }
         { status := .accepted, tag := .powerEnter
           state := { s with power := { s.power with entry := some e, returnMode := s.power.mode, wakeLatched := 0 } } }) }

/-- POWER_ENTER (R506). -/
def execPowerEnter (s : State) : Step := .next (powerEnter.run s)

/-- R508: the core shows the outcome of an entry; a WAIT that asked for it completes (R413). -/
def Trowel.entryEnded (result refuser : Nat) (t : Trowel) : Trowel :=
  let t := { t with pwrValid := true, pwrResult := result, pwrRefuser := refuser }
  if t.pwrMode != 0 then t.endWait else t

/-- R509: what prepare withdrew is reported. -/
def State.reportWithdrawn (s : State) : State :=
  let p := s.power
  let s := { s with power := { p with withdrawnCommits := [], withdrawnGlides := [] } }
  let s := p.withdrawnCommits.foldl (fun s c => s.commitDone c 1) s
  p.withdrawnGlides.foldl (fun s g => (s.bump 0x20 41).occur 77 g.1 (le 1 1 ++ zeros 1 ++ le 2 g.2.1 ++ le 8 g.2.2)) s

/-- R508, R509: an entry ends without the mode: `result` 1 refused, 2 aborted. A POWER_ENTER gets its completion event. -/
def State.endEntry (result cond refuser : Nat) (s : State) : State :=
  let e := s.power.entry
  let mode := match e with | some x => x.target.code | none => s.trowelH.pwrMode
  let s := (s.bump 0x70 (if result = 1 then 3 else 4)).occur (if result = 1 then 2 else 3) refuser (le 1 mode ++ le 1 cond)
  let s := match e with
    | some x => s.complete 0x7010 x.ticket .busy
        [{ id := 0x7010, value := le 1 refuser ++ le 1 result ++ le 1 cond ++ zeros 1 }]
    | none => s
  let p := { s.power with
    entry := none, wakeLatched := 0, lastResult := result, lastCondition := cond, lastRefuser := refuser }
  let s := { s with
    power := p
    trowelH := s.trowelH.entryEnded result refuser
    steward := { s.steward with record := none, consentAt := none, watchdogsSuspended := false } }
  s.reportWithdrawn.advanceStart

/-- R508: conditions checked at consent: the first that holds. -/
def State.consentRefusal (s : State) : Option Nat :=
  let st := s.steward
  if !s.power.holdReady then some 1
  else if (match s.nv.journal.compaction with | some c => c.stage == 2 | none => false) || st.imageWork.isSome || st.logExport.isSome ||
      s.power.save.running then some 2
  else if s.nv.boot.trial.isSome || st.testAccess != 0 then some 3
  else if st.sensors.any (fun x => x.state != 0) then some 4
  else none

/-- R506 event 3: running glides are withdrawn (R279); the values of those that own their words are journalled (R271). -/
def State.withdrawGlide (n : Nat) (s : State) : State :=
  let g := s.glide n
  if !g.on then s
  else
    let s := s.modGlide n (fun g => { g with on := false })
    let s := { s with power := { s.power with withdrawnGlides := s.power.withdrawnGlides ++ [(n, g.lanes, s.screed.index)] } }
    if g.owns then s.askJournal 3 0x2013 (s.glideRecord g) else s

/-- R506 event 3: searches stop and their results are published (R84); a pass under way is cut (log entry 118). -/
def State.stopSearches (s : State) : State :=
  let s := s.endSearches (fun _ => true)
  let s := { s with gnss := { s.gnss with run := s.gnss.run.map (fun x => { x with done := true }) } }
  (List.range (s.gnss.queue.length + 1)).foldl (fun s _ => s.searchDone) s

/-- R506 event 3: prepare. -/
def State.prepare (s : State) : State :=
  let commits := s.screed.commits
  let s := { s with
    screed := { s.screed with commits := [] }
    power := { s.power with withdrawnCommits := s.power.withdrawnCommits ++ commits } }
  let s := (List.range 64).foldl (fun s n => s.withdrawGlide n) s
  let s := s.endStreams.stopCell 3
  let s := { s with rst := { s.rst with startStep := min 4 s.rst.startStep } }
  let s := s.stopSearches
  let s := s.steward.journalReads.foldl (fun s _ => s.journalPublish) s
  let b := s.formBundle
  { s with steward := { s.steward with record := some { b with valid := true, nav := [] } } }

/-- R506 event 2: the Steward consents: the watchdogs are suspended (R497) and prepare follows. -/
def State.consent (e : PowerEntry) (s : State) : State :=
  let s := { s with
    steward := { s.steward with consentAt := some s.up, watchdogsSuspended := true }
    power := { s.power with entry := some { e with stage := 1 } } }
  s.prepare

/-- POWER_STATE_CONSENT (R475 KIND 4, R506, R508): the consent of an entry that asks for it, or a request through Q30, which
nothing but an entry gives rise to: it is refused. -/
def State.powerStateConsent (s : State) : State :=
  match s.power.entry with
  | some e =>
    if e.stage = 0 then
      match s.consentRefusal with
      | some cond => s.mailed.endEntry 1 cond 0x60
      | none => s.mailed.consent e
    else s
  | none => s.mailRow 4 (fun m s =>
      if m.body.length ≠ 1 ∨ !within 1 3 (fieldAt 0 1 m.body) then s.refuseMail m .badParam
      else match s.consentRefusal with
        | some _ => s.answer m .busy []
        | none =>
          { s with steward := { s.steward with consentAt := some s.up, watchdogsSuspended := true } }.answer m .ok [])

/-- POWER_STATE_CONSENT (R508). -/
def execPowerStateConsent (s : State) : Step := .next s.powerStateConsent

/-! WAIT, the drain and the end of an entry (R413, R506–R508) -/

/-- R506 event 4: ramps have ended, allocated slots hold their results, and the ACCEPTED reply is gone from Q01. -/
def State.entryPrepared (e : PowerEntry) (s : State) : Bool :=
  s.audio.outs.all (fun o => !o.on) && ((List.range 24).map (· + 8)).all (fun n => !(s.slot n).allocated || (s.slot n).ready) &&
  e.replyConsumed

/-- R506: the 100 ms of event 4 are over. -/
def State.entryLate (e : PowerEntry) (s : State) : Bool := decide (e.at_ + 100 * qtMs ≤ s.up)

/-- R508: the checks at WAIT: condition and refuser of the first that fails. -/
def State.waitRefusal (mode : Nat) (csLow : Bool) (s : State) : Option (Nat × Nat) :=
  let fresh := match s.steward.consentAt with | some t => decide (s.up ≤ t + 150 * qtMs) | none => false
  match s.power.entry with
  | none => some (5, 0x60)
  | some e =>
    if e.stage ≠ 1 ∨ e.target.code ≠ mode ∨ !fresh then some (5, 0x60)
    else if !e.replyConsumed || !(s.queue 0).entries.isEmpty || csLow then some (6, 0x01)
    else if s.dma.channels.any (fun c => [DmaPhase.running, .waitLine, .waitEvent, .waitQueue, .draining].contains c.phase) then some (7, 0x04)
    else if s.radio.state = 6 then some (8, 0x30)
    else none

/-- R413, R506 event 5: WAIT with MODE 1–3: refused, or the drain begins. -/
def State.waitEntry (mode : Nat) (csLow : Bool) (s : State) : State :=
  match s.waitRefusal mode csLow with
  | some (cond, refuser) => s.endEntry 1 cond refuser
  | none => { s with power := { s.power with entry := s.power.entry.map (fun e => { e with stage := 2 }) } }

/-- The core is at a WAIT that asks for a low-power mode. -/
def Trowel.waitsForPower (t : Trowel) : Bool := t.runs && t.bankPresent t.cbank && t.opcode == 0x9E && t.pwrMode != 0

/-- WAIT_POWER_ENTRY (R413, R506): executed by Trowel-H, or by the firmware's own routine when event 4 is reached. -/
def State.waitPowerEntry (csLow : Bool) (s : State) : State :=
  let t := s.trowelH
  if t.waitsForPower then
    if t.inApplet then s.takeTrap 0 0x0A
    else { s with trowelH := { t with waiting := true } }.waitEntry t.pwrMode csLow
  else match s.power.entry with
  | some e =>
    if e.stage = 1 ∧ (s.entryPrepared e ∨ s.entryLate e) then
      { s with trowelH := { t with pwrMode := e.target.code } }.waitEntry e.target.code csLow
    else s
  | none => s

/-- WAIT_POWER_ENTRY (R413). -/
def execWaitPowerEntry (csLow : Bool) (s : State) : Step := .next (s.waitPowerEntry csLow)

/-- DRAIN_TIMEOUT (R508): `unit` is still busy 1 ms into the drain. -/
def State.drainTimeout (unit : Nat) (s : State) : State :=
  match s.power.entry with
  | some e => if e.stage = 2 then s.endEntry 2 9 unit else s
  | none => s

/-- DRAIN_TIMEOUT (R508). -/
def execDrainTimeout (unit : BitVec 8) (s : State) : Step := .next (s.drainTimeout unit.toNat)

/-- What `k` drops of queue `n` raise, the count already taken: EV008 with PORT_ERR for Q00–Q02, and EV012, once each (R67, R100,
R564). -/
def State.raiseDrops (n : Nat) : Nat → State → State
  | 0, s => s
  | k + 1, s =>
    let d := wrap32 ((s.queue n).drops + 2 ^ 32 - k)
    let s := if n ≤ 2 then s.setPortErr.occur 8 (n + 1) (le 4 d) else s
    State.raiseDrops n k (s.occur 12 n (dropDetail n d))

/-- R507: every stored entry of queue `n` is a drop of it. -/
def State.dropStored (n : Nat) (s : State) : State :=
  let k := (s.queue n).entries.length
  (s.modQueue n (Queue.dropAll (queueDepth n))).raiseDrops n k

/-- R507: command credits that replies in Q01 held are reclaimed and issued afresh. -/
def State.reclaimReplies (k : Nat) (s : State) : State :=
  (s.modQueue 0 (fun q => { q with crReclaimed := wrap32 (q.crReclaimed + k), crIssued := wrap32 (q.crIssued + k) })).reclaimEvent 0 k 3 0xFF

/-- R507: every outstanding credit of an input queue, or of Q22, counts as reclaimed. -/
def State.reclaimInput (n : Nat) (s : State) : State :=
  if s.inputQueue n || n == 22 then
    let k := (s.queue n).outstanding
    (s.modQueue n Queue.reclaimAll).reclaimEvent n k 3 0xFF
  else s

/-- R506 event 7, R507: the queues at the point of no return; Q02, which carries the events of the others, goes last, and once more
for the packets that its own first drops have posted. -/
def State.drainQueues (s : State) : State :=
  let k := (s.queue 1).carried
  let s := ((List.range 32).filter (· ≠ 2)).foldl (fun s n => s.dropStored n) s
  let s := s.reclaimReplies k
  let s := ([8, 9, 10, 11, 12, 13, 14, 15, 22]).foldl (fun s n => s.reclaimInput n) s
  (s.dropStored 2).dropStored 2

/-- R504, R507: what is kept of a queue; an entry that it still stores is a drop (R38). PROD_IDX, CONS_IDX and HWM start again at 0 (DESIGN
CHOICE, log entry 127). -/
def Queue.counts (q : Queue) : Queue :=
  { produced := q.produced, consumed := q.consumed, drops := wrap32 (q.drops + q.entries.length), crIssued := q.crIssued, crReturned := q.crReturned
    crReclaimed := q.crReclaimed }

/-- Units whose counters stay in domains that are on, or in the Steward's records (R502, R504; log entry 40). -/
def keptUnit (standby : Bool) (u : Nat) : Bool := [0x51, 0x60, 0x61, 0x62, 0x63, 0x70].contains u || (standby && u == 0x50)

/-- R35: the data banks that `mask` selects. -/
def keptData (mask : Nat) (t : Table Byte) : Table Byte := t.filter (fun (p : Nat × Byte) => bit (p.1 / 8192) mask)

/-- R504: the radio records of the Steward: bins and tuner codes. -/
def Radio.records (r : Radio) : Radio :=
  { bands := r.bands.map (fun b => { bins := b.bins, series := b.series, shunt := b.shunt })
    calTemp := r.calTemp, vcoBand := r.vcoBand }

/-- R502, R504: the cores in a low-power mode. -/
def State.lowCores (standby : Bool) (s : State) : Trowel × Trowel :=
  let h := s.trowelH
  let k := s.trowelS
  let m := s.committed 0x7000
  ( { data := keptData m h.data, bitSpace := if bit 0 m then h.bitSpace else [] },
    if standby then k else { steward := true, loaded := true, cbank := 6, data := k.data, bitSpace := k.bitSpace } )

/-- R504: the memories of Screed in a low-power mode. -/
def State.lowScreed (dram : Bool) (s : State) : Screed :=
  let m := s.committed 0x2002
  let x := s.screed
  { coefActive := if bit 0 m then x.coefActive else [], coefPending := if bit 1 m then x.coefPending else []
    dirty := if bit 1 m then x.dirty else [], glided := if bit 1 m then x.glided else [], generation := x.generation, dram := if dram then x.dram else [] }

/-- R502–R504, R506 event 8: the part in a low-power mode: every domain that is off has lost its content. The hold latches close here, at
event 7, not as the entry starts (DESIGN CHOICE, log entry 135). -/
def State.lowState (target : Mode) (s : State) : State :=
  let standby := decide (target = .standby)
  let dram := standby || s.committed 0x7001 == 1
  let p := s.power
  let cores := s.lowCores standby
  let r := State.reset
  { r with
    part := s.part, pending := s.pending, freeTick := s.freeTick, up := s.up
    port := { s.port with wakeAddr := s.committed 0x0102, lanes := 1, irqMask := 3 }
    sessions := s.sessions, authFails := s.authFails, lockout := s.lockout
    queues := s.queues.map Queue.counts
    inForce := s.inForce
    events := r.events.mapIdx (fun n e => { e with occur := (s.event n).occur })
    counters := s.counters.filter (fun (c : Nat × Nat) => keptUnit standby (c.1 / 256))
    gpio := { ext := s.gpio.ext, out := s.gpio.out, held := true }
    steward := { s.steward with asked := s.steward.taken, own := [] }, nv := s.nv, rtc := s.rtc
    rst := { s.rst with startStep := 0 }
    gnss := { nav := if dram then s.gnss.nav else [] }
    track := { chans := s.track.chans.map (fun c => if c.state = 6 then { state := 6 } else {}) }
    screed := s.lowScreed dram
    radio := s.radio.records
    clocks := if standby then s.clocks else { refHz := s.clocks.refHz, refMismatch := s.clocks.refMismatch }
    trowelH := cores.1, trowelS := cores.2
    power := { p with
      mode := target, ready := false, entry := none, watchRun := 0, watchOpen := false, watchDue := false, modeLeft := target.code
      duringEntry := decide (p.wakeLatched ≠ 0), lastResult := 0, lastCondition := 0, lastRefuser := 0 } }

/-- R522, R523: ENTRIES per mode: its index in COUNTERS_GET. -/
def entryCounter (m : Mode) : Nat := match m with | .sleep => 0 | .watch => 1 | _ => 2

/-- DRAIN_END (R506 events 7 and 8). -/
def State.drainEnd (s : State) : State :=
  match s.power.entry with
  | some e => if e.stage = 2 then ((s.bump 0x70 (entryCounter e.target)).drainQueues).lowState e.target else s
  | none => s

/-- DRAIN_END (R506). -/
def execDrainEnd (s : State) : Step := .next s.drainEnd

/-! Waking (R511–R513) -/

/-- R400, R512 step 3: the Trowel-S code is in place and runs. -/
def State.loadTrowelS (s : State) : State :=
  let t := s.trowelS
  { s with trowelS := { steward := true, loaded := true, code := (s.image 1 s.steward.runningS).code, data := t.data, bitSpace := t.bitSpace } }

/-- R413, R512 step 7: Trowel-H starts at its reset address. -/
def State.loadTrowelH (wake : Bool) (s : State) : State :=
  let t := s.trowelH
  { s with trowelH := { loaded := true, code := (s.image 0 s.steward.runningH).code, data := t.data, bitSpace := t.bitSpace, wake := wake } }

/-- Whether bit `n` is the lowest of a mask. -/
def lowestBit (m : Nat) : Nat := ((List.range 7).find? (fun n => bit n m)).getD 0

/-- R523: WAKES per source. -/
def State.countWakes (m : Nat) (s : State) : State := (List.range 7).foldl (fun s n => if bit n m then s.bump 0x70 (5 + n) else s) s

/-- R507: credits of an input queue on wake: one per free cell, those outstanding counted. -/
def State.issueInputs (s : State) : State :=
  (List.range 8).foldl (fun s k =>
    if s.inputQueue (8 + k) then s.modQueue (8 + k) (fun q => q.issue (16 - q.entries.length - q.outstanding)) else s) s

/-- R504, R534: bins and REF_FREQ from the Steward's record; the minutes of the low-power mode expire by the RTC. -/
def State.restoreRecord (s : State) : State :=
  match s.steward.record with
  | some b => (if s.rtc.valid then s.restoreBins (s.bundleMinutes b) b else s).restorePlumb b
  | none => s

/-- R70, R512 step 8: a latched HP_RST_N is applied. -/
def State.applyLatchedReset (s : State) : State := if s.port.resetLatched then (s.startHostReset 2).hostReset else s

/-- R512 steps 1–8: the domains return and the units are restored. -/
def State.restoreUnits (s : State) : State :=
  let low := s.power.mode
  let keep := s.committed 0x2002
  let s := s.applyParams.applyLatchedReset
  let s := if low = Mode.standby then s else s.loadTrowelS.startPlls
  let s := { s with gnss := { s.gnss with
    nav := if low = Mode.standby ∨ s.committed 0x7001 = 1 then s.gnss.nav else if s.nv.bundle.valid then s.nv.bundle.nav else [] } }
  let s := (s.loadTrowelH true).startSolver
  let s := (s.reapply (bit 0 keep) (bit 1 keep)).restoreRecord
  s.issueInputs.gpioStart s.gpio.out

/-- R511, R513, R523: what HOST_RDY brings: the mode returned to, MODE_CHANGED, WAKE and what waited for it. -/
def State.reportWake (us : Nat) (low : Mode) (s : State) : State :=
  let p := s.power
  let m := p.wakeLatched
  let s := { s with
    power := { p with mode := p.returnMode, ready := true, wakeLatched := 0, lastWakeMask := m }
    steward := { s.steward with watchdogsSuspended := false, consentAt := none } }
  let s := (s.countWakes m)
  let s := if p.duringEntry then s.bump 0x70 12 else s
  let s := (s.modeChanged low 1).occur 4 (lowestBit m) (le 1 m ++ le 1 p.modeLeft ++ le 1 (b01 p.duringEntry) ++ le 4 us)
  s.reportWithdrawn.reportAlarms

/-- WAKE (R512, R513): `us` is the time from the trigger to HOST_RDY. -/
def State.wakeUp (us : Nat) (s : State) : State :=
  if !s.power.mode.low || s.power.wakeLatched == 0 then s
  else
    let low := s.power.mode
    let s := (s.restoreUnits.reportWake us low).startApplet
    { s with rst := { s.rst with startStep := 3 } }.advanceStart

/-- WAKE (R512). -/
def execWake (us : BitVec 32) (s : State) : Step := .next (s.wakeUp us.toNat)

/-! The Watch sequencer (R514) -/

/-- R514, R524: an input or a radio the part does not have. -/
def watchAbsent (s : State) (l : List Item) : Bool :=
  match l with
  | i :: _ =>
    let x := fieldAt 2 2 i.value
    match fieldAt 0 1 i.value with
    | 0 => within 1 2 (chClass x) && !s.chPresent x
    | 1 => !s.part.radio
    | _ => false
  | [] => false

/-- The fields of WATCH_CONFIG (R514). -/
def watchOf (v : Bytes) : WatchCfg :=
  { source := fieldAt 0 1 v, metric := fieldAt 1 1 v, input := fieldAt 2 2 v, period := fieldAt 4 4 v, window := fieldAt 8 4 v
    thresh := signedAt 12 2 v, count := fieldAt 14 1 v }

/-- R514: what a WATCH_CONFIG item is refused with. -/
def State.watchTests (v : Bytes) (s : State) : List (Bool × Status) :=
  let w := watchOf v
  let audio := w.source == 0
  [ (decide (1 < w.source), .badParam), (decide ((if audio then 1 else 0) < w.metric), .badParam),
    (if audio then !within 1 2 (chClass w.input) || boundAway s.nv.config.asrc w.input else w.input != 0, .badParam),
    (!within 1 60000 w.period, .outOfRange),
    (if audio then !within 1000 1000000 w.window else !within 200 20000 w.window, .outOfRange),
    (if audio then !(decide (-1200 ≤ w.thresh) && decide (w.thresh ≤ 0)) else !(decide (-1000 ≤ w.thresh) && decide (w.thresh ≤ -300)),
      .outOfRange),
    (!within 1 16 w.count, .outOfRange), (fieldAt 15 1 v != 0, .badParam) ]

/-- WATCH_CONFIG (R514). -/
def watchConfig (ok : Bool) : CmdSpec :=
  { opcode := 0x7011, role := 2, journals := true, shape := oneItem 0x7011 16, absent := watchAbsent
    body := fun c s => guarded (s.watchTests c.value) s
      (c.journalThen ok 0 s (fun s => done { s with nv := { s.nv with config := { s.nv.config with watch := some (watchOf c.value) } } })) }

/-- WATCH_CONFIG (R514). -/
def execWatchConfig (nvOk : Bool) (s : State) : Step := .next ((watchConfig nvOk).run s)

/-- The configuration of a part in Watch. -/
def State.watching (s : State) : Option WatchCfg := if s.power.mode = .watch then s.nv.config.watch else none

/-- R53, R314, R317, R514: the radio passes through STANDBY, and CAL when one is due, to RX on the plan's channel. -/
def State.openRadioWatch (s : State) : State :=
  let s := { s with radio := { s.radio with plan := s.nv.config.plan, state := 1 } }
  let b := s.standbyBy
  let r := s.wakeReady
  let due := !s.radio.calibrated || s.radio.cal.isSome
  { (s.modPll 3 (fun p => { p with state := 2, vco := radioVco s.radio.plan })).tunedTo with
    radio := { s.radio with
      tuned := s.radio.plan.key, state := if due then 6 else 4, standbyAt := b, synthAt := r, readyAt := r
      cal := if due then some (s.radio.cal.getD 2) else none } }

/-- R514: a window opens: PLL 1 and the receive path, or the radio. -/
def State.openWatch (w : WatchCfg) (s : State) : State :=
  let s := ({ s with power := { s.power with watchOpen := true, watchDue := false } }).bump 0x70 13
  if w.source = 0 then s.startPll 1
  else s.openRadioWatch

/-- WATCH_WINDOW (R514): PERIOD_MS has passed: a window opens without software, or opens when the one under way ends. -/
def State.watchWindow (s : State) : State :=
  match s.watching with
  | none => s
  | some w =>
    if s.power.watchOpen then { s with power := { s.power with watchDue := true } } else s.openWatch w

/-- WATCH_WINDOW (R514). -/
def execWatchWindow (s : State) : Step := .next s.watchWindow

/-- R514: the level of Q1.31 samples is at or above `t` tenths of a decibel below full scale. -/
def levelMet (peak : Bool) (t : Int) (l : List Int) : Bool :=
  let p := 10 ^ (-t).toNat
  if peak then decide (2 ^ 6200 ≤ (l.foldl (fun m x => max m x.natAbs) 0) ^ 200 * p)
  else !l.isEmpty && decide (l.length ^ 100 * 2 ^ 6200 ≤ (l.foldl (fun m x => m + x.natAbs * x.natAbs) 0) ^ 100 * p)

/-- R514: the window meets its threshold. -/
def WatchCfg.met (samples : List Int) (rssi : Int) (sync : Bool) (w : WatchCfg) : Bool :=
  if w.source = 0 then levelMet (w.metric == 1) w.thresh samples else sync && decide (w.thresh ≤ rssi)

/-- R349, R514: the sync detector accepts one of the runs of 64 hard decisions of a Watch window. -/
def State.watchSync (runs : List (BitVec 64)) (s : State) : Bool :=
  s.radio.state == 4 && runs.any (fun r => decide (syncErrors r.toNat (s.radioParam 0x3101) ≤ s.radioParam 0x3100))

/-- R514: a window closes: what it powered goes off, and the run of windows is counted. -/
def State.closeWindow (met : Bool) (w : WatchCfg) (s : State) : State :=
  let run := if met then s.power.watchRun + 1 else 0
  let wakes := decide (w.count ≤ run)
  let s := { s with
    power := { s.power with watchOpen := false, watchRun := if wakes then 0 else run }
    clocks := { s.clocks with plls := List.replicate 4 {} }
    radio := { s.radio with state := 1 } }
  let s := if met then s.bump 0x70 14 else s
  if wakes then s.latchWake (if w.source = 0 then 3 else 4) else if s.power.watchDue then s.openWatch w else s

/-- WATCH_WINDOW_END (R514): the samples of the watched input, or the runs of hard decisions that the sync detector sees, with RSSI. -/
def State.watchWindowEnd (samples : List Int) (rssi : Int) (runs : List (BitVec 64)) (s : State) : State :=
  match s.watching with
  | some w => if s.power.watchOpen then s.closeWindow (w.met samples rssi (s.watchSync runs)) w else s
  | none => s

/-- WATCH_WINDOW_END (R514). -/
def execWatchWindowEnd (samples : List (BitVec 32)) (rssi : BitVec 16) (runs : List (BitVec 64)) (s : State) : Step :=
  .next (s.watchWindowEnd (samples.map (fun x => signed 32 x.toNat)) (signed 16 rssi.toNat) runs)

/-- WATCH_NOT_READY (R514): the input is not ready 25 ms after its window opened. -/
def State.watchNotReady (s : State) : State :=
  match s.watching with
  | some w => if s.power.watchOpen ∧ w.source = 0 then (s.closeWindow false w).bump 0x70 15 else s
  | none => s

/-- WATCH_NOT_READY (R514). -/
def execWatchNotReady (s : State) : Step := .next s.watchNotReady

/-! HOLD_READY and supply loss (R515–R521) -/

/-- R515, R523: HOLD_READY changes. -/
def State.setHoldReady (v : Bool) (vhold : Nat) (s : State) : State :=
  ({ s with power := { s.power with holdReady := v, vhold := vhold } }).occur 5 (b01 v) (le 2 vhold)

/-- HOLD_READY (R515): VHOLD reaches 3.10 V. After a device reset it is reported at HOST_RDY (R532). -/
def State.holdSet (vhold : Nat) (s : State) : State :=
  let s' := { s with power := { s.power with vhold := vhold } }
  if s.power.save.began ≠ 0 then s
  else if 3100 ≤ vhold ∧ !s.power.holdReady ∧ !(s.rst.inReset && s.rst.cause != 1) then s.setHoldReady true vhold
  else s'

/-- HOLD_READY (R515). -/
def execHoldReady (vhold : BitVec 16) (s : State) : Step := .next (s.holdSet vhold.toNat)

/-- HOLD_READY_CLEAR (R515): VHOLD has stayed below 3.00 V for 100 ms with VDD_IO33 in range. -/
def State.holdClear (vhold : Nat) (s : State) : State :=
  if vhold < 3000 ∧ s.power.holdReady ∧ s.power.save.began = 0 then s.setHoldReady false vhold else s

/-- HOLD_READY_CLEAR (R515). -/
def execHoldReadyClear (vhold : BitVec 16) (s : State) : Step := .next (s.holdClear vhold.toNat)

/-- R521: which save a sag begins: 1 whole, 2 the log alone, 3 from a low-power mode. -/
def State.saveKind (s : State) : Nat := if s.power.mode.low then 3 else if s.power.holdReady then 1 else 2

/-- SUPPLY_SAG (R315, R516): an entry in progress aborts, Trowel-H stops, the radio is off, and the save begins. -/
def State.supplySag (vdd : Nat) (s : State) : State :=
  if s.power.save.began ≠ 0 ∨ 2950 ≤ vdd then s
  else
    let s := if s.power.entry.isSome then s.endEntry 2 0x0A 0x70 else s
    let hold := s.power.holdReady
    let v : Save := { running := true, began := s.saveKind, vdd := vdd, mode := s.power.mode }
    let s := (s.bump 0x70 16).occur 118 1 (le 2 vdd ++ le 1 (b01 hold))
    { s with
      power := { s.power with save := v, pfailLow := true, mode := .backup, ready := false, vddIo33 := vdd }
      radio := { s.radio with state := 0, bursts := [], calibrated := false }
      trowelH := { s.trowelH with loaded := false } }

/-- SUPPLY_SAG (R516). -/
def execSupplySag (vdd : BitVec 16) (s : State) : Step := .next (s.supplySag vdd.toNat)

/-- R518 step 2: the append in progress, then the journal tail in its order: at most `n` records. -/
def State.saveTail (n : Nat) (s : State) : State :=
  if n = 0 then s else s.flushAppend.commitAsked (n - b01 s.steward.append.isSome)

/-- R518 step 3: the supply-sag record joins the log queue, which then has room for it, and gap markers follow. -/
def State.saveLog (s : State) : State := ((s.flushQueueLog).logFree 0x70 0x07).flushLog

/-- R518 step 3, stopped after `n` records of the queue. -/
def State.saveLogPart (n : Nat) (s : State) : State :=
  let l := s.steward.logQueue
  (l.take n).foldl (fun s r => s.readBack.2.putLog s.readBack.1 r) { s with steward := { s.steward with logQueue := l.drop n } }

/-- R518 steps 4–6 with CAUSE 1; in a low-power mode the bundle is the Steward's record (R521). -/
def State.saveBundle (jtail logrec : Nat) (s : State) : State :=
  let old := s.nv.bundle
  let s := s.writeBundle 1 jtail logrec
  match s.power.save.began, s.steward.record with
  | 3, some b =>
    let w := s.nv.bundle
    { s with nv := { s.nv with bundle := { b with
      valid := true, gen := w.gen, cause := 1, jtail := jtail, logrec := logrec, saveUs := w.saveUs, saveUj := w.saveUj, nav := old.nav } } }
  | _, _ => s

/-- The save has ended or stopped: PFAIL_N is released (R520). A RESET_N that is still low acts now (R526). -/
def State.saveOver (logDone : Bool) (s : State) : State :=
  let low := decide (s.up < s.power.save.resetLow)
  let s := { s with power := { s.power with pfailLow := false, save := { s.power.save with running := false, ended := true, stopped := !logDone } } }
  if low then s.startReset 0x02 else s

/-- SAVE_END (R518, R521): every step of the save that this sag has. -/
def State.saveEnd (s : State) : State :=
  if !s.power.save.running then s
  else
    let kind := s.power.save.began
    let j := if kind = 1 then s.tailLength else 0
    let s := if kind = 1 then s.saveTail j else s
    let l := s.steward.logQueue.length + s.steward.gaps.length + 1
    let s := s.saveLog
    let s := if kind = 2 then s else s.saveBundle j l
    (s.bump 0x70 17).saveOver true

/-- SAVE_END (R518). -/
def execSaveEnd (s : State) : Step := .next s.saveEnd

/-- SAVE_STOP (R518): the save stops with `done` steps complete, and `n` records of the next written. The bundle, its header not
written, is invalid. -/
def State.saveStop (done n : Nat) (s : State) : State :=
  if !s.power.save.running then s
  else
    let kind := s.power.save.began
    let s := if kind ≠ 1 then s else if 2 ≤ done then s.saveTail s.tailLength else if done = 1 then s.saveTail (min n s.tailLength) else s
    let log := decide (3 ≤ done)
    let s := if log then s.saveLog else if done = 2 then s.saveLogPart n else s
    let s := if kind = 2 then s else { s with nv := { s.nv with bundle := { s.nv.bundle with valid := false } } }
    (s.bump 0x70 18).saveOver log

/-- SAVE_STOP (R518). -/
def execSaveStop (done : Fin 6) (records : Nat) (s : State) : Step := .next (s.saveStop done.val records)

/-- SAG_RESET (R520): VDD_IO33 has stayed above 3.05 V for 10 ms after the save. -/
def State.sagReset (s : State) : State := if s.power.save.ended then s.startReset 0x0D else s

/-- SAG_RESET (R520). -/
def execSagReset (s : State) : Step := .next s.sagReset

end Sys2Proof.Machine
end

