-- ==== Sys2Proof/Machine/Dma.lean ====
section
/-! DEFINITION. The DMA engine: its commands, its instructions, bursts and their arbitration, and completion. -/
namespace Sys2Proof.Machine

/-- Channel `n`. -/
def State.dmaCh (n : Nat) (s : State) : DmaChannel := s.dma.channels.getD n {}

/-- Replace channel `n` by a function of it. -/
def State.modDma (n : Nat) (f : DmaChannel → DmaChannel) (s : State) : State :=
  { s with dma := { s.dma with channels := modAt n f s.dma.channels } }

/-- Word `k` of a program; the store beyond the loaded words holds 0, which is END. -/
def dmaWord (p : List Nat) (k : Nat) : Nat := p.getD k 0

/-! Addresses (R114, R215) -/

/-- What an address reaches. -/
inductive DmaPlace where
  | ram (a : Nat)
  | data (lane word : Nat)
  | push (q : Nat)
  | pop (q : Nat)
  | uartRx (n : Nat)
  | uartTx (n : Nat)
  | aesRx (n : Nat)
  | aesTx (n : Nat)
deriving DecidableEq, Repr

/-- R97, R433: QDIR of the UART of Q24–Q27: receive. -/
def State.blockQueueReceives (q : Nat) (s : State) : Bool := cfgQdir (s.uartParam (q - 24) 0) == 0

/-- R114: queues with a push port. -/
def State.dmaPush (q : Nat) (s : State) : Bool :=
  within 6 7 q || s.inputQueue q || (within 24 27 q && s.blockQueueReceives q) || q == 31

/-- R114: queues with a pop port. -/
def State.dmaPop (q : Nat) (s : State) : Bool :=
  within 3 7 q || (within 8 15 q && s.hostqOutput q) || (within 24 27 q && !s.blockQueueReceives q) || q == 31

/-- R215: words of a lane bank that a channel reaches: the even word of each pair tells. -/
def dmaDataWord (w : Nat) : Bool := decide (w < 0x6E00) || within 0x7E00 0x7FEF w

/-- R114: what an address reaches for a read or a write. -/
def State.dmaPlace (write : Bool) (a : Nat) (s : State) : Option DmaPlace :=
  if within 0x02000000 0x0200FFFF a then some (.ram (a - 0x02000000))
  else if within 0x04000000 0x041FFFFF a then
    let l := (a - 0x04000000) / 0x20000
    let w := (a - 0x04000000) % 0x20000 / 4
    if l < s.laneCount ∧ dmaDataWord w then some (.data l w) else none
  else if within 0x08100000 0x08101FFF a then
    let q := (a - 0x08100000) / 256
    let o := (a - 0x08100000) % 256
    if write ∧ o = 0 ∧ s.dmaPush q then some (.push q)
    else if !write ∧ o = 0x80 ∧ s.dmaPop q then some (.pop q)
    else none
  else if within 0x0C000000 0x0C0003FF a then
    let n := (a - 0x0C000000) / 256
    let o := (a - 0x0C000000) % 256
    if !s.uartBonded n then none
    else if !write ∧ o = 0 then some (.uartRx n)
    else if write ∧ o = 8 then some (.uartTx n)
    else none
  else if within 0x0C010000 0x0C0107FF a then
    let n := (a - 0x0C010000) / 256
    let o := (a - 0x0C010000) % 256
    if s.aesCount ≤ n then none
    else if !write ∧ o = 0 then some (.aesRx n)
    else if write ∧ o = 8 then some (.aesTx n)
    else none
  else none

/-- R117: a port that takes bursts of one beat only. -/
def DmaPlace.single : DmaPlace → Bool
  | .uartRx _ | .uartTx _ | .aesRx _ | .aesTx _ => true
  | _ => false

/-- Two places of one run of memory. -/
def DmaPlace.sameRun : DmaPlace → DmaPlace → Bool
  | .ram _, .ram _ => true
  | .data l v, .data m w => l == m && (decide (v < 0x6E00) == decide (w < 0x6E00))
  | _, _ => false

/-- R119: an address that holds, or steps through `beats` beats from `a`, is refused or misaligned. -/
def State.dmaBadRange (write fix : Bool) (a beats : Nat) (s : State) : Bool :=
  a % 8 != 0 ||
  (match s.dmaPlace write a with
   | none => true
   | some p =>
     if fix || beats == 1 then false
     else match s.dmaPlace write (a + 8 * (beats - 1)) with
     | some e => !p.sameRun e
     | none => true)

/-! Instructions and the checks of DMA_PROGRAM_LOAD (R116, R119, R121) -/

/-- OP of an instruction word. -/
def dmaOp (w : Nat) : Nat := bits 63 60 w
/-- KIND. -/
def dmaKind (w : Nat) : Nat := bits 42 40 w
/-- ARG. -/
def dmaArg (w : Nat) : Nat := bits 39 24 w
/-- Beats of a burst. -/
def dmaBeats (w : Nat) : Nat := bits 50 47 w + 1
/-- BURSTS, TARGET or OBJECT. -/
def dmaLow (w : Nat) : Nat := bits 23 0 w

/-- Words of an instruction. -/
def dmaSize (w : Nat) : Nat := match dmaOp w with | 1 => 2 | 2 | 3 => 3 | _ => 1

/-- R116: the bits an instruction uses; the others are reserved. -/
def dmaUsed (w : Nat) : Nat :=
  match dmaOp w with
  | 1 => 0xFFFFC00000FFFFFF
  | 2 => 0xF7FFC00000FFFFFF
  | 3 => 0xFC07F00000FFFFFF
  | 4 => 0xF00008FFFF00003F
  | 5 => if dmaKind w = 0 then 0xF1F8070000000000 else if dmaKind w = 1 then 0xF00007000000007F else 0xF00007000000001F
  | 6 => if dmaKind w = 0 then 0xF00007000000007F else if dmaKind w = 1 then 0xF00007FFFF00001F else 0xF00007000000001F
  | _ => 0xF000000000000000

/-- R119 code 0x03 in an instruction's own word. -/
def dmaReserved (w : Nat) : Bool :=
  decide (6 < dmaOp w) || !onlyBits (dmaUsed w) w || (within 1 3 (dmaOp w) && dmaLow w == 0) ||
  (dmaOp w == 5 && decide (3 < dmaKind w)) || (dmaOp w == 6 && decide (2 < dmaKind w)) ||
  (dmaOp w == 6 && dmaKind w == 0 && !within 120 127 (dmaLow w))

/-- R119 codes 0x01–0x03 in the address words of a transfer. -/
def State.dmaBadWords (w a c : Nat) (s : State) : Bool :=
  let n := dmaBeats w * dmaLow w
  let src := bits 31 0 a
  let dst := bits 63 32 a
  match dmaOp w with
  | 1 => s.dmaBadRange false (bit 59 w) src n || s.dmaBadRange true (bit 58 w) dst n
  | 2 => src != 0 || s.dmaBadRange true (bit 58 w) dst n
  | 3 => s.dmaBadRange false (bit 59 w) src n ||
    (if bit 45 w then dst != 0 else c != 0 || s.dmaBadRange false (bit 58 w) dst n)
  | _ => false

/-- R119 code 0x08. -/
def State.dmaBadSignal (w : Nat) (s : State) : Bool :=
  dmaOp w == 6 &&
  ((dmaKind w == 1 && (dmaArg w == 0 || decide (queueCell (dmaLow w) < dmaArg w) || !s.dmaPush (dmaLow w))) ||
   (dmaKind w == 2 && !s.dmaPop (dmaLow w)))

/-- R119 code 0x07 for a LOOP at word `k`: its target, and the loops of its level (word, target) that it may enclose. -/
def dmaBadLoop (w k : Nat) (loops : List (Nat × Nat × Nat)) : Bool :=
  dmaOp w == 4 && (decide (k ≤ dmaLow w) || loops.any (fun l => l.1 == bits 43 43 w && decide (dmaLow w ≤ l.2.1)))

/-- R119: the checks of a program, instruction by instruction from word `k`. -/
def State.dmaBadProgram (p : List Nat) : Nat → Nat → List (Nat × Nat × Nat) → State → Bool
  | 0, _, _, _ => false
  | n + 1, k, loops, s =>
    if p.length ≤ k then false
    else
      let w := dmaWord p k
      if dmaReserved w || s.dmaBadWords w (dmaWord p (k + 1)) (dmaWord p (k + 2)) || s.dmaBadSignal w || dmaBadLoop w k loops then true
      else State.dmaBadProgram p n (k + dmaSize w) (if dmaOp w = 4 then (bits 43 43 w, k, dmaLow w) :: loops else loops) s

/-! Commands (R118, R121) -/

/-- R120: codes of the states. -/
def DmaPhase.code : DmaPhase → Nat
  | .idle => 0 | .running => 1 | .waitLine => 2 | .waitEvent => 3 | .waitQueue => 4 | .draining => 5 | .done => 6 | .stopped => 7
  | .faulted => 8

/-- States 1–5: the channel executes. -/
def DmaPhase.active (p : DmaPhase) : Bool := within 1 5 p.code

/-- R121: the words of a DMA_PROGRAM_LOAD item. -/
def dmaProgramOf (v : Bytes) : List Nat := (List.range (fieldAt 2 2 v)).map (fun k => fieldAt (4 + 8 * k) 8 v)

/-- R121: one item, as long as its WORDS says. -/
def dmaLoadShape (l : List Item) : Bool :=
  match l with
  | [i] => i.id == 0x0410 && decide (4 ≤ i.value.length) && i.value.length == 4 + 8 * fieldAt 2 2 i.value
  | _ => false

/-- The channel a command names. -/
def dmaNaming (_ : State) (c : Cmd) : Option Status := if 15 < c.u 0 1 then some .outOfRange else none

/-- DMA_PROGRAM_LOAD (R119, R121). -/
def dmaProgramLoad (ok : Bool) : CmdSpec :=
  { opcode := 0x0410, role := 2, journals := true, shape := dmaLoadShape, naming := dmaNaming
    body := fun c s =>
      let n := c.u 0 1
      let p := dmaProgramOf c.value
      guarded
        [ ((s.dmaCh n).phase.active, .busy), (decide (3 < c.u 1 1), .outOfRange), (!within 1 64 (c.u 2 2), .outOfRange),
          (s.dmaBadProgram p 64 0 [], .badParam) ] s
        (c.journalThen ok 1 s (fun s =>
          let cf := s.nv.config
          let l := cf.dmaPrograms.filter (fun x => x.1 != n) ++ [(n, c.u 1 1, p)]
          let s := { s with nv := { s.nv with config := { cf with dmaPrograms := l } } }
          done (s.modDma n (fun x => { x with program := p, priority := c.u 1 1 })))) }

/-- DMA_PROGRAM_LOAD (R121). -/
def execDmaProgramLoad (nvOk : Bool) (s : State) : Step := .next ((dmaProgramLoad nvOk).run s)

/-- R120: what DMA_START leaves. -/
def DmaChannel.start (c : DmaChannel) : DmaChannel := { program := c.program, priority := c.priority, phase := .running }

/-- DMA_START (R121). -/
def dmaStart : CmdSpec :=
  { opcode := 0x0411, role := 2, shape := oneItem 0x0411 1, naming := dmaNaming
    body := fun c s => guarded [((s.dmaCh (c.u 0 1)).phase.active, .busy)] s (done (s.modDma (c.u 0 1) DmaChannel.start)) }

/-- DMA_START (R121). -/
def execDmaStart (s : State) : Step := .next (dmaStart.run s)

/-- R112, R118, R119: a channel reaches its final state: DMA_DONEn, whose CODE is the state, then DMA_FAULT. -/
def State.dmaFinish (n : Nat) (p : DmaPhase) (s : State) : State :=
  let s := s.modDma n (fun c => { c with phase := p, xfer := none, outstanding := 0 })
  let s := { s with freeTick := s.freeTick + 16 }.occur (16 + n) p.code (freeBytes 16 s.freeTick)
  if p = .faulted then s.occurFree 32 else s

/-- R118: a channel ends in state `p` once its write responses have returned. -/
def State.dmaEndIn (n : Nat) (p : DmaPhase) (s : State) : State :=
  if (s.dmaCh n).outstanding = 0 then s.dmaFinish n p
  else s.modDma n (fun c => { c with phase := .draining, drainTo := p, xfer := none })

/-- R119: a run-time fault. -/
def State.dmaFault (n code : Nat) (s : State) : State := (s.modDma n (fun c => { c with faultCode := code })).dmaEndIn n .faulted

/-- DMA_STOP (R118): a channel that drains already is left to end as it would (DESIGN CHOICE, log entry 124). -/
def dmaStop : CmdSpec :=
  { opcode := 0x0412, role := 2, shape := oneItem 0x0412 1, naming := dmaNaming
    body := fun c s =>
      let n := c.u 0 1
      done (if (s.dmaCh n).phase.active && (s.dmaCh n).phase != .draining then s.dmaEndIn n .stopped else s) }

/-- DMA_STOP (R118). -/
def execDmaStop (s : State) : Step := .next (dmaStop.run s)

/-! Execution (R116) -/

/-- The program goes on at word `k`; past word 63 it faults (R119 code 0x09). -/
def State.dmaGoto (n k : Nat) (s : State) : State :=
  if k ≤ 63 then s.modDma n (fun c => { c with pc := k, phase := .running }) else s.dmaFault n 9

/-- The word at PC. -/
def DmaChannel.at_ (c : DmaChannel) : Nat := dmaWord c.program c.pc

/-- The channel runs its next instruction: no transfer is in progress. -/
def DmaChannel.fetches (c : DmaChannel) : Bool := c.phase == .running && c.xfer.isNone

/-- A row of an instruction, or of a data word that a LOOP has landed on, of which only a bad OP is a fault (DESIGN CHOICE, log entry 136):
it acts when the channel is at one that `is` accepts; an opcode that does not exist is a fault
whichever row comes (R119 code 0x03). -/
def State.dmaRow (n : Nat) (is : Nat → Bool) (f : DmaChannel → Nat → State → State) (s : State) : State :=
  let c := s.dmaCh n
  if !s.power.mode.serves || !c.fetches then s
  else if 6 < dmaOp c.at_ then s.dmaFault n 3
  else if is c.at_ then f c c.at_ s
  else s

/-- R115: a request is present on a line. -/
def State.lineAsserted (l : Nat) (s : State) : Bool :=
  if l < 4 then s.uartBonded l && decide (8 / charBytes (s.uartParam l 0) ≤ (s.uart l).rx.length)
  else if l < 8 then s.uartBonded (l - 4) && decide ((s.uart (l - 4)).tx.length + 8 / charBytes (s.uartParam (l - 4) 0) ≤ 64)
  else if l < 16 then decide (l - 8 < s.aesCount) && decide (64 ≤ (s.aesPort (l - 8)).userRx.length)
  else if l < 24 then decide (l - 16 < s.aesCount) && decide ((s.aesPort (l - 16)).userTx.length + 64 ≤ 4096)
  else if l < 48 then false
  else decide (0 < s.dma.linePending.getD (l - 48) 0)

/-- R115: one request of a line is taken. -/
def State.takeLine (l : Nat) (s : State) : State :=
  if 48 ≤ l then { s with dma := { s.dma with linePending := modAt (l - 48) (· - 1) s.dma.linePending } } else s

/-- A transfer begins: its addresses, which go on from where they stopped under CONTINUE. -/
def State.dmaBegin (n : Nat) (c : DmaChannel) (w : Nat) (s : State) : State :=
  if 63 < c.pc + dmaSize w - 1 then s.dmaFault n 9
  else
    let a := dmaWord c.program (c.pc + 1)
    let from_ := if bit 46 w then Table.get (bits 31 0 a, bits 63 32 a) c.pc c.resume else (bits 31 0 a, bits 63 32 a)
    let k := if dmaOp w = 1 then 0 else dmaWord c.program (c.pc + 2)
    let x : DmaXfer := { op := dmaOp w, src := from_.1, dst := from_.2, const := k, burstsLeft := dmaLow w }
    let waits := within 1 2 (dmaOp w) && bit 57 w && !s.lineAsserted (bits 56 51 w)
    s.modDma n (fun c => { c with xfer := some x, phase := if waits then .waitLine else .running })

/-- DMA_MOVE (R116). -/
def execDmaMove (ch : Fin 16) (s : State) : Step := .next (s.dmaRow ch.val (fun w => dmaOp w == 1) (State.dmaBegin ch.val))
/-- DMA_FILL (R116). -/
def execDmaFill (ch : Fin 16) (s : State) : Step := .next (s.dmaRow ch.val (fun w => dmaOp w == 2) (State.dmaBegin ch.val))
/-- DMA_CMP (R116). -/
def execDmaCmp (ch : Fin 16) (s : State) : Step := .next (s.dmaRow ch.val (fun w => dmaOp w == 3) (State.dmaBegin ch.val))

/-- LOOP (R116): an idle level is armed with ARG; a counter that is not 0 is decremented and the program jumps. -/
def State.dmaLoop (n : Nat) (c : DmaChannel) (w : Nat) (s : State) : State :=
  let one := bit 43 w
  let armed := if one then c.armed1 else c.armed0
  let count := if armed then (if one then c.count1 else c.count0) else dmaArg w
  let set := fun (on : Bool) (k : Nat) (s : State) => s.modDma n (fun c =>
    if one then { c with armed1 := on, count1 := k } else { c with armed0 := on, count0 := k })
  if count = 0 then (set false 0 s).dmaGoto n (c.pc + 1) else (set true (count - 1) s).dmaGoto n (bits 5 0 w)

/-- DMA_LOOP (R116). -/
def execDmaLoop (ch : Fin 16) (s : State) : Step := .next (s.dmaRow ch.val (fun w => dmaOp w == 4) (State.dmaLoop ch.val))

/-- The condition of a WAIT holds (R116). -/
def State.dmaWaitMet (w : Nat) (s : State) : Bool :=
  match dmaKind w with
  | 0 => s.lineAsserted (bits 56 51 w)
  | 1 => (s.event (dmaLow w)).stat
  | 2 => !(s.queue (dmaLow w)).entries.isEmpty
  | _ => s.hasRoom (dmaLow w)

/-- What a WAIT takes when it ends. -/
def State.dmaWaitTake (w : Nat) (s : State) : State :=
  match dmaKind w with
  | 0 => s.takeLine (bits 56 51 w)
  | 1 => s.clearStat (dmaLow w)
  | _ => s

/-- The state in which a channel waits (R120). -/
def dmaWaitPhase (w : Nat) : DmaPhase := match dmaKind w with | 0 => .waitLine | 1 => .waitEvent | _ => .waitQueue

/-- WAIT (R116): it ends at once, or the channel waits. -/
def State.dmaWait (n : Nat) (c : DmaChannel) (w : Nat) (s : State) : State :=
  if s.dmaWaitMet w then (s.dmaWaitTake w).dmaGoto n (c.pc + 1) else s.modDma n (fun c => { c with phase := dmaWaitPhase w })

/-- A WAIT of one KIND. -/
def isDmaWait (kind w : Nat) : Bool := dmaOp w == 5 && dmaKind w == kind

/-- DMA_WAIT_LINE (R116). -/
def execDmaWaitLine (ch : Fin 16) (s : State) : Step := .next (s.dmaRow ch.val (isDmaWait 0) (State.dmaWait ch.val))
/-- DMA_WAIT_EVENT (R116). -/
def execDmaWaitEvent (ch : Fin 16) (s : State) : Step := .next (s.dmaRow ch.val (isDmaWait 1) (State.dmaWait ch.val))
/-- DMA_WAIT_QUEUE_DATA (R116). -/
def execDmaWaitQueueData (ch : Fin 16) (s : State) : Step := .next (s.dmaRow ch.val (isDmaWait 2) (State.dmaWait ch.val))
/-- DMA_WAIT_QUEUE_ROOM (R116). -/
def execDmaWaitQueueRoom (ch : Fin 16) (s : State) : Step := .next (s.dmaRow ch.val (isDmaWait 3) (State.dmaWait ch.val))

/-- A channel that a WAIT holds. -/
def DmaChannel.held (c : DmaChannel) : Bool := [DmaPhase.waitLine, .waitEvent, .waitQueue].contains c.phase && c.xfer.isNone

/-- DMA_WAIT_DONE (R116): the condition is met and the channel continues. -/
def State.dmaWaitDone (n : Nat) (s : State) : State :=
  let c := s.dmaCh n
  if s.power.mode.serves && c.held && s.dmaWaitMet c.at_ then (s.dmaWaitTake c.at_).dmaGoto n (c.pc + 1) else s

/-- DMA_WAIT_DONE (R116). -/
def execDmaWaitDone (ch : Fin 16) (s : State) : Step := .next (s.dmaWaitDone ch.val)

/-- A SIGNAL of one KIND; it takes effect once the channel's write responses have returned (R118). -/
def State.dmaSignal (kind n : Nat) (f : Nat → State → State) (s : State) : State :=
  s.dmaRow n (fun w => dmaOp w == 6 && dmaKind w == kind) (fun c w s =>
    if c.outstanding ≠ 0 then s
    else if s.dmaBadSignal w then s.dmaFault n 8
    else (f w s).dmaGoto n (c.pc + 1))

/-- R116 SIGNAL KIND 1: the producer cell becomes an entry of ARG bytes; bytes never pushed are free. -/
def State.dmaCommit (w : Nat) (s : State) : State :=
  let q := dmaLow w
  let len := dmaArg w
  let cell := (s.queue q).cell
  let lacking := len - cell.length
  let b := cell.take len ++ freeBytes lacking s.freeTick
  ({ s with freeTick := s.freeTick + lacking }.modQueue q (fun x => { x with cell := [] })).offerAny q b

/-- DMA_SIGNAL_RAISE (R116). -/
def execDmaSignalRaise (ch : Fin 16) (s : State) : Step := .next (s.dmaSignal 0 ch.val (fun w s => s.occurFree (dmaLow w)))
/-- DMA_SIGNAL_COMMIT (R116). -/
def execDmaSignalCommit (ch : Fin 16) (s : State) : Step := .next (s.dmaSignal 1 ch.val State.dmaCommit)
/-- DMA_SIGNAL_CONSUME (R116). -/
def execDmaSignalConsume (ch : Fin 16) (s : State) : Step := .next (s.dmaSignal 2 ch.val (fun w s => s.consume (dmaLow w)))

/-- DMA_END (R116, R118). -/
def execDmaEnd (ch : Fin 16) (s : State) : Step :=
  .next (s.dmaRow ch.val (fun w => dmaOp w == 0) (fun _ _ s => s.dmaEndIn ch.val .done))

/-! Bursts (R117) -/

/-- R114: `n` characters of a data port, packed. -/
def packChars (width : Nat) : Nat → List Nat → Nat
  | 0, _ => 0
  | n + 1, l => (l.headD 0) % (if width = 2 then 512 else 256) + 256 ^ width * packChars width n l.tail

/-- The characters of a beat. -/
def unpackChars (width : Nat) : Nat → Nat → List Nat
  | 0, _ => []
  | n + 1, v => v % 256 ^ width % 512 :: unpackChars width n (v / 256 ^ width)

/-- R114: a pop port reads the head entry from where it stands; beats beyond its end read 0. -/
def Queue.dmaPopBeat (q : Queue) : Nat × Queue :=
  match q.entries with
  | [] => (0, q)
  | e :: _ => (fieldAt q.dmaPopPos 8 e.data, { q with dmaPopPos := min (q.dmaPopPos + 8) e.data.length })

/-- One beat read. -/
def State.dmaRead (p : DmaPlace) (s : State) : Nat × State :=
  match p with
  | .ram a => (ofLE (Table.getList 0 a 8 s.trowelH.data), s)
  | .data l w => (s.dataWord l w + 2 ^ 32 * s.dataWord l (w + 1), s)
  | .pop q => ((s.queue q).dmaPopBeat.1, s.modQueue q (fun x => x.dmaPopBeat.2))
  | .uartRx n =>
    let w := charBytes (s.uartParam n 0)
    let u := s.uart n
    (packChars w (8 / w) u.rx, (s.modUart n (fun u => { u with rx := u.rx.drop (8 / w) })).updateRts n)
  | .aesRx n => (bitsValue ((s.aesPort n).userRx.take 64), s.modAes n (fun p => { p with userRx := p.userRx.drop 64 }))
  | _ => (0, s)

/-- One beat written. -/
def State.dmaWrite (p : DmaPlace) (v : Nat) (s : State) : State :=
  match p with
  | .ram a => { s with trowelH := { s.trowelH with data := Table.setList 0 a (le 8 v) s.trowelH.data } }
  | .data l w => (s.setData l w v).setData l (w + 1) (v / 2 ^ 32)
  | .push q => s.modQueue q (fun x => { x with cell := (x.cell ++ le 8 v).take (queueCell q) })
  | .uartTx n =>
    let w := charBytes (s.uartParam n 0)
    s.modUart n (fun u => { u with tx := (u.tx ++ unpackChars w (8 / w) v).take 64 })
  | .aesTx n => s.modAes n (fun p => { p with userTx := (p.userTx ++ bitList 64 v).take 4096 })
  | _ => s

/-- Address of beat `i`. -/
def beatAddr (fix : Bool) (a i : Nat) : Nat := if fix then a else a + 8 * i

/-- The fault that the addresses of a burst raise, if any (R119). -/
def State.burstFault (write fix : Bool) (a beats : Nat) (s : State) : Option Nat :=
  if a % 8 ≠ 0 then some 2
  else
    let l := (List.range beats).map (fun i => s.dmaPlace write (beatAddr fix a i))
    if l.any (·.isNone) then some 1
    else if 1 < beats ∧ l.any (fun p => match p with | some x => x.single | none => false) then some 6
    else none

/-- The faults of a burst by its two sides, reads before writes. -/
def State.xferFault (w : Nat) (x : DmaXfer) (s : State) : Option Nat :=
  let b := dmaBeats w
  let src := s.burstFault false (bit 59 w) x.src b
  match x.op with
  | 1 => src.orElse (fun _ => s.burstFault true (bit 58 w) x.dst b)
  | 2 => s.burstFault true (bit 58 w) x.dst b
  | _ => src.orElse (fun _ => if bit 45 w then none else s.burstFault false (bit 58 w) x.dst b)

/-- Read the beat at an address. -/
def State.readAt (a : Nat) (s : State) : Nat × State := match s.dmaPlace false a with | some p => s.dmaRead p | none => (0, s)

/-- Write the beat at an address. -/
def State.writeAt (a v : Nat) (s : State) : State := match s.dmaPlace true a with | some p => s.dmaWrite p v | none => s

/-- R116 CMP: the first mismatch is recorded. -/
def DmaChannel.mismatched (a : Nat) (c : DmaChannel) : DmaChannel :=
  let c := { c with xfer := c.xfer.map (fun x => { x with missed := true }) }
  if c.mismatch then c else { c with mismatch := true, mismatchAddr := a }

/-- Beat `i` of a burst. -/
def State.dmaBeat (n w : Nat) (x : DmaXfer) (i : Nat) (s : State) : State :=
  let sa := beatAddr (bit 59 w) x.src i
  let da := beatAddr (bit 58 w) x.dst i
  match x.op with
  | 1 =>
    let r := s.readAt sa
    r.2.writeAt da r.1
  | 2 => s.writeAt da x.const
  | _ =>
    let r := s.readAt sa
    let t := if bit 45 w then (x.const, r.2) else r.2.readAt da
    if r.1 = t.1 then t.2 else t.2.modDma n (DmaChannel.mismatched sa)

/-- The burst is done: addresses move on; the last one ends the transfer, and a mismatch may end the program (R116). -/
def State.afterBurst (n w : Nat) (x : DmaXfer) (s : State) : State :=
  let b := dmaBeats w
  let missed := (s.dmaCh n).xfer.any (·.missed)
  let y : DmaXfer := { x with src := beatAddr (bit 59 w) x.src b, dst := beatAddr (bit 58 w) x.dst b, burstsLeft := x.burstsLeft - 1, missed := missed }
  if x.op = 3 ∧ bit 44 w ∧ missed then s.dmaEndIn n .done
  else if y.burstsLeft = 0 then
    (s.modDma n (fun c => { c with xfer := none, resume := Table.insert c.pc (y.src, y.dst) c.resume })).dmaGoto n ((s.dmaCh n).pc + dmaSize w)
  else
    let waits := within 1 2 x.op && bit 57 w && !s.lineAsserted (bits 56 51 w)
    s.modDma n (fun c => { c with xfer := some y, phase := if waits then .waitLine else .running })

/-- R217: word `k` of Screed data memory among those that a burst reads, in the order of its reads. -/
def State.secdedWord (w : Nat) (x : DmaXfer) (k : Nat) (s : State) : Option (Nat × Nat) :=
  let side := fun (fix : Bool) (a : Nat) => (List.range (dmaBeats w)).flatMap (fun i =>
    match s.dmaPlace false (beatAddr fix a i) with | some (.data l v) => [(l, v), (l, v + 1)] | _ => [])
  let l := match x.op with
    | 1 => side (bit 59 w) x.src
    | 3 => side (bit 59 w) x.src ++ (if bit 45 w then [] else side (bit 58 w) x.dst)
    | _ => []
  l[k]?

/-- R217, R119 code 0x05: an uncorrectable word ends the channel and is rewritten as 0, with all that follows (in the order of
R112). -/
def State.dmaSecded (n l w : Nat) (s : State) : State :=
  ((s.dmaFault n 5).uncorrectable (.data (Fin.ofNat 16 l) (BitVec.ofNat 15 w))).secded true 0 l w

/-- R117: a channel has a burst ready. -/
def State.burstReady (n : Nat) (s : State) : Bool :=
  let c := s.dmaCh n
  match c.xfer with
  | none => false
  | some x =>
    (c.phase == .running || c.phase == .waitLine) &&
    (!(within 1 2 x.op && bit 57 c.at_) || s.lineAsserted (bits 56 51 c.at_))

/-- R117: the channel that the next grant goes to: the highest priority, then round-robin after the last granted there. -/
def State.granted (s : State) : Option Nat :=
  [3, 2, 1, 0].findSome? (fun p =>
    let last := s.dma.lastGranted.getD p 15
    ((List.range 16).map (fun i => (last + 1 + i) % 16)).find? (fun n => (s.dmaCh n).priority == p && s.burstReady n))

/-- A granted burst runs to its last beat. -/
def State.runBurst (n : Nat) (secded : Option (Fin 64)) (writeError : Bool) (c : DmaChannel) (x : DmaXfer) (s : State) : State :=
  let w := c.at_
  let s := { s with dma := { s.dma with lastGranted := modAt c.priority (fun _ => n) s.dma.lastGranted } }
  let s := if within 1 2 x.op && bit 57 w then s.takeLine (bits 56 51 w) else s
  match s.xferFault w x with
  | some code => s.dmaFault n code
  | none =>
    match secded.bind (fun k => s.secdedWord w x k.val) with
    | some p => s.dmaSecded n p.1 p.2
    | none =>
      let writes := within 1 2 x.op
      let s := if writes then s.modDma n (fun c => { c with outstanding := c.outstanding + 1 }) else s
      if writes && writeError then s.dmaFault n 4
      else ((List.range (dmaBeats w)).foldl (fun s i => s.dmaBeat n w x i) s).afterBurst n w x

/-- DMA_BURST (R117): the channel the arbiter grants moves one burst. -/
def State.dmaBurst (n : Nat) (secded : Option (Fin 64)) (writeError : Bool) (s : State) : State :=
  if !s.power.mode.serves || s.granted != some n then s
  else match (s.dmaCh n).xfer with
  | some x => s.runBurst n secded writeError (s.dmaCh n) x
  | none => s

/-- DMA_BURST (R117). -/
def execDmaBurst (ch : Fin 16) (secded : Option (Fin 64)) (writeError : Bool) (s : State) : Step :=
  .next (s.dmaBurst ch.val secded writeError)

/-- DMA_DRAIN_DONE (R118): the last write responses return. -/
def State.dmaDrainDone (n : Nat) (s : State) : State :=
  let c := s.dmaCh n
  if c.outstanding = 0 then s
  else if c.phase = .draining then s.dmaFinish n c.drainTo
  else s.modDma n (fun c => { c with outstanding := 0 })

/-- DMA_DRAIN_DONE (R118). -/
def execDmaDrainDone (ch : Fin 16) (s : State) : Step := .next (s.dmaDrainDone ch.val)

/-- R120: the status word of a channel. -/
def DmaChannel.status (c : DmaChannel) : Nat :=
  min c.outstanding 255 * 2 ^ 24 + c.faultCode * 2 ^ 16 + b01 c.lineOverrun * 2 ^ 13 + b01 c.mismatch * 2 ^ 12 + c.priority * 2 ^ 10 +
  c.pc % 64 * 16 + c.phase.code

end Sys2Proof.Machine
end

