-- ==== Sys2Proof/Machine/Records.lean ====
section
/-! DEFINITION. What a committed journal record leaves in the net content of the journal (R481, R482, R501). -/
namespace Sys2Proof.Machine

/-- A command with one item, as its journal record holds it. -/
def itemCmd (op : Nat) (v : Bytes) : Cmd :=
  { opcode := op, seq := 0, session := 0, role := 0, keyId := 0, items := [{ id := op, value := v }] }

/-- R260: the generation a record of COEF_WRITE names behind its words; without one, the pending generation (log entry 22). -/
def Configuration.coefRecord (v : Bytes) (g : Configuration) : CoefRecord :=
  let n := fieldAt 4 2 v
  { generation := if 12 + 4 * n ≤ v.length then fieldAt (8 + 4 * n) 4 v else g.activeGen + 1
    values := coefWords (fieldAt 0 2 v) (fieldAt 2 2 v) n (v.drop 8) }

/-- R303: an item of MUTE_SET on the journalled mutes. -/
def muteNet (v : Bytes) (g : Configuration) : List Nat :=
  let t := if fieldAt 0 2 v = 0xFFFF then (g.routes.map (·.2)).filter isOutputClass else [fieldAt 0 2 v]
  if fieldAt 2 1 v = 1 then (g.mutes ++ t).eraseDups
  else if fieldAt 0 2 v = 0xFFFF then [] else g.mutes.filter (fun x => !t.contains x)

/-- R501: the value of a command item, taken into the configuration that start-up re-applies. -/
def Configuration.takeItem (op : Nat) (v : Bytes) (g : Configuration) : Configuration :=
  let n := fieldAt 0 1 v
  match op with
  | 0x0310 => { g with evCfg := commitEvCfg n (fieldAt 1 1 v + 1 - n) (fieldAt 2 2 v) g.evCfg }
  | 0x0410 => { g with dmaPrograms := g.dmaPrograms.filter (fun x => x.1 != n) ++ [(n, fieldAt 1 1 v, dmaProgramOf v)] }
  | 0x1311 => { g with position := some ((itemCmd op v).position, fieldAt 24 4 v) }
  | 0x1314 => { g with pulses := modAt n (fun _ => pulseOf v) g.pulses }
  | 0x1315 =>
    { g with marks := modAt n (fun m => { m with flags := fieldAt 1 1 v, deadtime := fieldAt 2 2 v, delay := signedAt 4 4 v }) g.marks }
  | 0x2012 => { g with coefs := g.coefs ++ [g.coefRecord v] }
  | 0x2014 => g.geometry v
  | 0x2110 =>
    let g := if g.descOf n = descOfItem v then g else g.unbindDesc n
    { g with descs := g.descs.filter (fun d => d.1 != n) ++ [(n, descOfItem v)] }
  | 0x2210 => { g with asrc := modAt n (fun _ => (fieldAt 1 1 v, fieldAt 2 1 v)) g.asrc }
  | 0x2310 =>
    let t := slice 4 24 v
    let f := fun (p : Bytes × Bytes) => (if bit 0 (fieldAt 1 1 v) then t else p.1, if bit 1 (fieldAt 1 1 v) then t else p.2)
    { g with aesTemplates := modAt n f g.aesTemplates }
  | 0x2510 => { g with routes := routePairs v }
  | 0x2511 => { g with mutes := muteNet v g }
  | 0x2512 => { g with groups := setGroup g.groups v }
  | 0x3011 => { g with plan := planOf v }
  | 0x3210 => { g with cell := cellCfgOf v }
  | 0x3213 =>
    { g with admissions := putAdmission { station := n, serial := fieldAt 4 8 v, admitted := fieldAt 1 1 v == 1 } g.admissions }
  | 0x5110 => if bit 1 (fieldAt 7 1 v) then { g with zoneMin := signedAt 8 2 v, dst := fieldAt 10 1 v } else g
  | 0x5112 => { g with alarms := modAt n (fun _ => alarmOf (itemCmd op v) {}) g.alarms }
  | 0x5113 => { g with dst := if n = 1 then 1 else 0 }
  | 0x7011 => { g with watch := some (watchOf v) }
  | _ => g

/-- R265, R271: what an ACTIVATE or a GLIDE_END leaves. -/
def Configuration.takeDevice (kind : Nat) (v : Bytes) (g : Configuration) : Configuration :=
  match kind with
  | 2 =>
    let g := if bit 0 (fieldAt 0 1 v) then { g with activeGen := fieldAt 1 4 v } else g
    if bit 1 (fieldAt 0 1 v) then { g with activeEntry := fieldAt 5 2 v } else g
  | 3 =>
    let w := fieldAt 4 2 v
    let lanes := (List.range 16).filter (fun l => bit l (fieldAt 6 2 v))
    let vals := lanes.mapIdx (fun k l => (l * 4096 + w, fieldAt (8 + 4 * k) 4 v))
    { g with coefs := g.coefs ++ [{ generation := fieldAt 0 4 v, values := vals }] }
  | _ => g

/-- The items of 32 bytes of a lock write that stand up to its tests (R327). -/
def lockItems (v : Bytes) : List Bytes :=
  ((List.range (v.length / 32)).map (fun k => slice (32 * k) 32 v)).filter (fun i =>
    decide (fieldAt 0 1 i ≤ 2) && (firstFail (locksTests i)).isNone)

/-- R479: a key-store record on the keys. -/
def takeKey (v : Bytes) (l : List Key) : List Key :=
  let id := fieldAt 2 2 v
  if fieldAt 0 1 v = 1 then l.map (fun k => if k.keyId = id then { k with revoked := true } else k)
  else if l.any (fun k => k.keyId == id) || decide (64 ≤ l.length) then l
  else l ++ [{ keyId := id, kind := fieldAt 1 1 v, revoked := false, pub := slice 4 32 v }]

/-- One part of a record on the net content (R481, R501). What no command item holds (the words of a program, an image, a PIN) is not
in the record. -/
def Nv.takePart (p : Nat × Nat × Bytes) (x : Nv) : Nv :=
  let v := p.2.2
  match p.1 with
  | 0 => { x with params := Table.set (paramDefault p.2.1) p.2.1 (ofLE v) x.params }
  | 1 =>
    if p.2.1 = 0x2010 then (if fieldAt 0 1 v = 4 then { x with library := x.library.filter (fun e => e.entry != fieldAt 2 2 v) } else x)
    else if p.2.1 = 0x7210 then (if fieldAt 0 1 v = 3 then { x with boot := { x.boot with jtagBlown := true } } else x)
    else
      let x := if p.2.1 = 0x1311 then { x with params := Table.set (paramDefault 0x1301) 0x1301 (fieldAt 28 1 v) x.params } else x
      { x with config := x.config.takeItem p.2.1 v }
  | 2 | 3 => { x with config := x.config.takeDevice p.1 v }
  | 10 =>
    { x with locks := (lockItems v).foldl (fun l i => modAt (fieldAt 0 1 i) (fun _ => locksItem i) l) x.locks, locksValid := true }
  | 11 => if p.2.1 = 0x6310 then { x with keys := takeKey v x.keys } else x
  | _ => x

/-- A record on the net content (R481). -/
def Nv.takeRecord (r : JournalRecord) (x : Nv) : Nv := r.parts.foldl (fun x p => x.takePart p) x

/-- R501, R529 step 8: the records committed on the way into the reset join the net content. -/
def State.foldLate (s : State) : State :=
  { s with nv := { s.nv.late.foldl (fun x r => x.takeRecord r) s.nv with late := [] } }

/-- R88, R482: what the commit of a record leaves: a parameter acts as its PARAM_SET; any other item is in the configuration that
start-up re-applies (R501). -/
def State.takeRecord (r : JournalRecord) (s : State) : State :=
  if r.kind = 0 then s.applyRecord r else { s with nv := s.nv.takeRecord r }

/-- JOURNAL_COMMIT (R482): CRC is written and verified, then the request is answered. -/
def State.journalCommit (ok : Bool) (s : State) : State :=
  match s.steward.append with
  | none => s
  | some (r, who) =>
    let s := { s with steward := { s.steward with append := none } }
    let s := if ok then (s.appendRecord r).takeRecord r else s.nvFault
    match who with
    | none => s
    | some q => s.notify 0x8001 q (le 2 (if ok then Status.ok else Status.nvFault).code)

/-- JOURNAL_COMMIT (R482). -/
def execJournalCommit (nvOk : Bool) (s : State) : Step := .next (s.journalCommit nvOk)

end Sys2Proof.Machine
end

