-- ==== Sys2Proof/Machine/Boot.lean ====
section
/-! DEFINITION. Reset sources, the boot sequence, and start-up as far as the mode of START_MODE. -/
namespace Sys2Proof.Machine

/-! Reset sources (R51, R525–R528) -/

/-- R51, R520, R526: RESET_N acts outside Backup, which a part is in once a sag has been followed by the loss of VDD_IO33 (log entry
106); while a supply-loss save runs it is seen only when the save is over. -/
def State.resetPin (lowNs : Nat) (s : State) : State :=
  if s.power.save.running then { s with power := { s.power with save := { s.power.save with resetLow := s.up + lowNs * 65536 } } }
  else if s.power.save.began ≠ 0 ∧ s.rtc.onVbat then s
  else s.startReset 0x02

/-- RESET_N held low for `lowNs` (R51, R546). -/
def State.resetN (lowNs : Nat) (s : State) : State :=
  let t := s.freeTick
  let s := if pulseDraws 10000 2000 lowNs then s.draw else s
  if pulseActs 10000 2000 lowNs t then s.resetPin lowNs else s

/-- RESET_N (R51). -/
def execResetN (lowNs : Nat) (s : State) : Step := .next (s.resetN lowNs)

/-- POWER_ON_RESET (R528): the internal reset is asserted, or released. While a save runs, the domains that run from VHOLD ignore it;
a boot waits for its release. -/
def State.powerOnReset (asserted : Bool) (s : State) : State :=
  if s.power.save.running then { s with rst := { s.rst with por := asserted } }
  else if asserted then
    let s := s.startReset 0x01
    { s with rst := { s.rst with por := true } }
  else { s with rst := { s.rst with por := false } }

/-- POWER_ON_RESET (R528). -/
def execPowerOnReset (asserted : Bool) (s : State) : Step := .next (s.powerOnReset asserted)

/-! The boot sequence (R529) -/

/-- Set bits of FLAGS (R535). -/
def State.bootFlag (m : Nat) (s : State) : State := { s with rst := { s.rst with flags := Nat.lor s.rst.flags m } }

/-- R529 step 2: the journal is recovered (R482, R483), and START_MODE is taken. -/
def State.recoverJournal (s : State) : State :=
  let j := s.nv.journal
  let s := if j.torn then s.bootFlag 4 else s
  let s := if j.compaction.isSome then s.bootFlag 8 else s
  { s with
    nv := { s.nv with journal := { j with torn := false, compaction := none } }
    rst := { s.rst with startMode := s.committed 0x0020 } }

/-- R326: a lock region that fails its CRC at start-up permits no sub-band. -/
def State.checkLocks (good : Bool) (s : State) : State := { s with rst := { s.rst with locksFailed := !good } }

/-- R441: REF_IN within ±200 ppm of REF_NOMINAL. -/
def refNear (measured nominal : Nat) : Bool :=
  decide ((measured - nominal + (nominal - measured)) * 1000000 ≤ 200 * nominal)

/-- R495: the slot Primer chooses for a target, and whether it fell back. -/
def State.chooseSlot (target : Nat) (s : State) : Option (Nat × Bool) :=
  let active := if target = 0 then s.nv.boot.activeH else s.nv.boot.activeS
  let first := match s.nv.boot.trial with
    | some (t, n) => if t = target then n else active
    | none => active
  if s.imageValid target first then some (first, false)
  else if s.imageValid target (1 - first) then some (1 - first, true)
  else none

/-- R495, R496: a fallback; a trial slot that failed reverts its trial. -/
def State.fellBack (target : Nat) (s : State) : State :=
  let s := s.bootFlag 0x40
  match s.nv.boot.trial with
  | some (t, _) => if t = target then s.revertTrial else s
  | none => s

/-- R495, R530: no valid slot of a target: the recovery port serves in Maintenance. -/
def State.recoveryPort (target : Nat) (s : State) : State :=
  let s := s.imageState 5 target 0 []
  { s with
    power := { s.power with mode := .maintenance, ready := true }
    rst := { s.rst with recovery := true, inReset := false, bootStep := 9 } }

/-- R534, R330: the token bins: restored with the elapsed minutes expired, or an empty bucket. -/
def State.bootTokens (b : Bundle) (s : State) : State :=
  let s := s.loadLocks
  if b.valid && within 1 2 b.cause && s.rtc.valid && decide (b.gen ≠ s.nv.boot.consumedGen) then
    (s.restoreBins (s.bundleMinutes b) b).bootFlag 2
  else s.emptyBuckets

/-- R529 step 6: the log resumes, a failed lock region is logged (R326), and the bundle is checked and used (R534, R535). -/
def State.bootBundle (s : State) : State :=
  let b := s.nv.bundle
  let s := s.bootTokens b
  let s := if b.valid then
      let s := (s.bootFlag 1).restorePlumb b |>.restoreRadio b
      { s with gnss := { s.gnss with nav := b.nav } }
    else s
  let s := { s with nv := { s.nv with boot := { s.nv.boot with consumedGen := b.gen } } }
  let s := s.logFree 0x00 0x01
  let s := if s.rst.locksFailed then s.logAny 0x30 else s
  if b.valid then s.logFree 0x70 0x07 else s

/-- R529 steps 7 and 8: Trowel-H and its applet area, then the journalled configuration. -/
def State.bootTrowelH (s : State) : State :=
  match s.chooseSlot 0 with
  | none => s.recoveryPort 0
  | some (slot, fell) =>
    let s := if fell then s.fellBack 0 else s
    let g := s.image 0 slot
    let s := { s with steward := { s.steward with runningH := slot, versionH := ofLE (Table.getList 0 8 4 g.bytes) } }
    let s := ((s.loadTrowelH false).foldLate.reapply false false).gpioStart (s.committed 0x4802)
    { s with rst := { s.rst with startStep := 3, bootStep := 8 } }

/-- R529 steps 5 to 8. -/
def State.bootTrowelS (s : State) : State :=
  match s.chooseSlot 1 with
  | none => s.recoveryPort 1
  | some (slot, fell) =>
    let s := if fell then s.fellBack 1 else s
    let g := s.image 1 slot
    let s := { s with steward := { s.steward with runningS := slot, versionS := ofLE (Table.getList 0 8 4 g.bytes) } }
    let s := s.loadTrowelS.startSolver
    ({ s with rst := { s.rst with startStep := 2 } }).bootBundle.bootTrowelH

/-- R529 step 4: the PLLs lock on the reference in use. -/
def State.bootPlls (refHz : Nat) (mismatch : Bool) (s : State) : State :=
  let s := { s with clocks := { s.clocks with refHz := refHz, refMismatch := mismatch } }
  let s := if mismatch then s.logFree 0x50 0x08 else s
  let s := s.startPlls
  ({ s with rst := { s.rst with startStep := 1, refWait := false } }).bootTrowelS

/-- R441, R529 step 3: REF_IN is measured (hertz; 0 when absent). -/
def State.measureRef (refIn : Nat) (s : State) : State :=
  let nominal := s.committed 0x5000
  if refNear refIn nominal then s.bootPlls nominal false
  else if within 10000000 52000000 refIn then s.bootPlls ((refIn + 500) / 1000 * 1000) true
  else { s with rst := { s.rst with refWait := true, bootStep := 3 } }

/-- The reset is released and the boot may begin. -/
def State.bootReady (s : State) : Bool := s.rst.inReset && !s.rst.thermalHold && !s.rst.por

/-- BOOT_SEQUENCE (R529): steps 1 to 8, or as far as an absent REF_IN lets them. -/
def State.bootSequence (refIn : Nat) (locksGood : Bool) (s : State) : State :=
  if s.bootReady ∧ s.rst.bootStep = 0 then ((s.brownOutCheck.recoverJournal).checkLocks locksGood).measureRef refIn else s

/-- BOOT_SEQUENCE (R529). -/
def execBootSequence (figures : BootFigures) (s : State) : Step := .next (s.bootSequence figures.refIn.toNat figures.locksGood)

/-- REF_IN_REMEASURE (R441): start-up waits on REF_IN, which is measured again. -/
def State.refInRemeasure (refIn : Nat) (s : State) : State := if s.bootReady ∧ s.rst.refWait then s.measureRef refIn else s

/-- REF_IN_REMEASURE (R441). -/
def execRefInRemeasure (refIn : BitVec 32) (s : State) : Step := .next (s.refInRemeasure refIn.toNat)

/-! Step 9 and after (R529, R531, R532) -/

/-- R495, R496, R500: the trial slot runs and its timer starts; a reverted trial is reported and counted. -/
def State.startTrial (s : State) : State :=
  let s := match s.nv.boot.trial with
    | some (t, n) =>
      if s.steward.running t = n then
        { s with steward := { s.steward with trialRunning := true, trialEnd := s.up + s.param 0x6000 * qtSec } }.imageState 2 t n
          (s.image t n).content
      else s
    | none => s
  match s.nv.boot.reverted with
  | some (t, n) =>
    ({ s with nv := { s.nv with boot := { s.nv.boot with reverted := none } } }.bump 0x60 1).imageState 4 t n (s.image t n).content
  | none => s

/-- START_UP_DONE (R529 step 9): HOST_RDY rises in Timing. `us` is the time since the release. -/
def State.startUpDone (us : Nat) (s : State) : State :=
  if !s.bootReady || s.rst.bootStep != 8 then s
  else
    let s := { s with
      power := { s.power with mode := .timing, ready := true }
      rst := { s.rst with
        inReset := false, bootStep := 9, startUs := us, startPending := (modeOf s.rst.startMode).run } }
    let s := (s.modeChanged .backup 2).occurFree 1
    let s := if s.rst.cause ≠ 1 ∧ 3100 ≤ s.power.vhold then s.setHoldReady true s.power.vhold else s
    s.reportAlarms.startTrial.startApplet.advanceStart

/-- START_UP_DONE (R529). -/
def execStartUpDone (startUs : BitVec 32) (s : State) : Step := .next (s.startUpDone startUs.toNat)

/-- START_MODE_ENTRY (R531): the run mode of START_MODE, once HOLD_READY is reported; on tiers B and C Run-Manager is refused and
the refusal is logged. -/
def State.startModeEntry (s : State) : State :=
  if s.rst.startPending ∧ s.power.holdReady ∧ s.power.mode = .timing ∧ s.power.ready then
    let m := modeOf s.rst.startMode
    let s := s.startReplaced
    if m = .runManager ∧ s.part.tier ≠ .a then s.logAny 0x00 else s.changeMode m 2
  else s

/-- START_MODE_ENTRY (R531). -/
def execStartModeEntry (s : State) : Step := .next s.startModeEntry

/-- FIRST_TIME_ESTIMATE (R15, R174): a satellite solution (1), a manager's beacon (5) or the bundle (6). -/
def State.firstTimeEstimate (source t b : Nat) (s : State) : State :=
  if !s.wantsEstimate source then s
  else match source, s.cell.beaconEst with
  | 5, some d => (s.firstEstimate 5 ((s.qt : Int) + d).toNat b).advanceStart
  | 5, none => s
  | _, _ => (s.firstEstimate source t b).advanceStart

/-- FIRST_TIME_ESTIMATE (R174). -/
def execFirstTimeEstimate (source : Nat) (estimate : Nat) (errBound : Nat) (s : State) : Step :=
  .next (s.firstTimeEstimate source estimate errBound)

/-- AUDIO_CLOCK_RESUME (R450): the retuned PLL is locked, MCLK and the master bit clocks start again, and ticks go on. -/
def State.audioClockResume (s : State) : State :=
  if s.clocks.held then
    { s with clocks := { s.clocks with held := false } }.modPll 1 (fun p =>
      { p with
        state := if p.state = 4 then 2 else p.state, thawed := if p.thawed = 4 then 2 else p.thawed
        vco := audioVco (s.param 0x2000) })
  else s

/-- AUDIO_CLOCK_RESUME (R450). -/
def execAudioClockResume (s : State) : Step := .next s.audioClockResume

/-! Reporting the reset (R535, R536) -/

/-- R535: FLAGS. -/
def State.resetFlags (s : State) : Nat := s.rst.flags + 16 * b01 s.rtc.borSeen + 32 * b01 s.clocks.refMismatch

/-- R535: the item of RESET_CAUSE_GET. -/
def State.resetItem (s : State) : Bytes :=
  le 1 s.rst.cause ++ le 1 s.rst.prevMode ++ le 1 s.resetFlags ++ zeros 1 ++ le 4 s.rst.resetRtc ++ le 4 s.rst.startUs ++
  le 4 s.nv.boot.boots ++ le 4 s.port.hostResets

/-- RESET_CAUSE_GET (R535). -/
def resetCauseGet : CmdSpec :=
  { opcode := 0x7110, role := 1, shape := noItems, body := fun _ s => reply 0x7110 s.resetItem s }

/-- RESET_CAUSE_GET (R535). -/
def execResetCauseGet (s : State) : Step := .next (resetCauseGet.run s)

end Sys2Proof.Machine
end

