-- ==== Sys2Proof/Machine/Equaliser.lean ====
section
/-! DEFINITION. The receive chain of the modem: AGC and RSSI, the offset, the receive filter, the equaliser with its carrier loop, the
demapper and the LDPC decoder (R338, R347–R349, R351, R355, R360). Number formats are the model's (log entry 143). -/
namespace Sys2Proof.Machine

/-! AGC, RSSI and offset (R347, R348) -/

/-- A power in 10⁻¹⁵ mW, the mean of `n` that sum to `p`, in 0.1 dBm. -/
def dbm (p n : Nat) : Int := (((log1000 p n + 5) / 10 : Nat) : Int) - 1500

/-- R347: one step of the gain, 0.1 dB, after a microsecond of `p`: 6 dB until the level is within 6 dB of −12 dBFS, then 1 dB. -/
def agcStep (gain : Int) (p : Nat) : Int :=
  let off := dbm p 1 + gain - Config.fullScale + 120
  let step : Int := if 60 < off.natAbs then 60 else if 5 < off.natAbs then 10 else 0
  if 0 < off then gain - step else gain + step

/-- R347: RSSI: the received power over the last 4 µs before sync detection, 0.1 dBm. -/
def rssiOf (powers : List Nat) : Int :=
  let l := powers.drop (powers.length - 4)
  dbm l.sum l.length

/-- 1 − e^(−1/2) in units of 2⁻³²: what a tracker of 2 µs takes of a difference in 1 µs. -/
def dcShare : Int := 1689937949

/-- R348: the residual offset after one more microsecond, of which `x` is what the offset held so far leaves. -/
def trackDc (r x : Int × Int) : Int × Int := (r.1 + x.1 * dcShare / 2 ^ 32, r.2 + x.2 * dcShare / 2 ^ 32)

/-! Complex numbers as pairs -/

/-- A product. -/
def cMul (a b : Int × Int) : Int × Int := (a.1 * b.1 - a.2 * b.2, a.1 * b.2 + a.2 * b.1)

/-- A conjugate. -/
def cConj (a : Int × Int) : Int × Int := (a.1, -a.2)

/-- A sum. -/
def cAdd (a b : Int × Int) : Int × Int := (a.1 + b.1, a.2 + b.2)

/-- A difference. -/
def cSub (a b : Int × Int) : Int × Int := (a.1 - b.1, a.2 - b.2)

/-- A quotient by a whole number, part by part. -/
def cDiv (a : Int × Int) (n : Int) : Int × Int := (a.1 / n, a.2 / n)

/-- |a|². -/
def cNorm (a : Int × Int) : Nat := (a.1 * a.1 + a.2 * a.2).toNat

/-- Σ a·b. -/
def cDot (a b : List (Int × Int)) : Int × Int := (List.zipWith cMul a b).foldl cAdd (0, 0)

/-- cos and sin of an angle in 2⁻³² cycle, in units of 2⁻³⁰. -/
def turn (phase : Int) : Int × Int :=
  let c := fun (p : Int) => cosFixed (piFixed * (((p + 2 ^ 31) % 2 ^ 32 - 2 ^ 31).natAbs : Int) / 2 ^ 31) / 2 ^ 98
  if phase = 0 then (2 ^ 30, 0) else (c phase, c (phase - 2 ^ 30))

/-! The receive filter and the equaliser (R338, R351) -/

/-- A sample enters the filter. -/
def Equaliser.sample (x : Int × Int) (e : Equaliser) : Equaliser := { e with line := x :: e.line.take 64 }

/-- A T/2 output of the filter enters the feed-forward line. -/
def Equaliser.half (e : Equaliser) : Equaliser :=
  let y := e.line.zipWith (fun x h => (x.1 * h, x.2 * h)) rrcTaps
  { e with delay := cDiv (y.foldl cAdd (0, 0)) (2 ^ 20) :: e.delay.take 23 }

/-- The four samples of a symbol, whose second and fourth give its T/2 outputs. -/
def Equaliser.feed (x : List (Int × Int)) (e : Equaliser) : Equaliser :=
  (((x.drop 2).foldl (fun e x => Equaliser.sample x e) (((x.take 2).foldl (fun e x => Equaliser.sample x e) e).half))).half

/-- R339: the levels of an axis. -/
def axisLevels (n : Nat) : List Int :=
  (match n with | 1 | 2 => [1, -1] | 4 => [3, 1, -1, -3] | _ => [7, 5, 3, 1, -1, -3, -5, -7]).map (unitLevel n)

/-- The level nearest to a value, the first of two. -/
def nearest (y : Int) : List Int → Int
  | [] => 0
  | [x] => x
  | x :: l => let z := nearest y l; if (y - x).natAbs ≤ (y - z).natAbs then x else z

/-- The hard decision of a symbol before decoding. -/
def decide_ (n : Nat) (y : Int × Int) : Int × Int :=
  (nearest y.1 (axisLevels n), if n = 1 then 0 else nearest y.2 (axisLevels n))

/-- R351: the symbol that the taps and the carrier loop make of the lines, 2⁻¹⁶. -/
def Equaliser.output (e : Equaliser) : Int × Int :=
  let y := cDiv (cSub (cDot e.ff e.delay) (cDot e.fb e.past)) (2 ^ 16)
  cDiv (cMul y (cConj (turn e.phase))) (2 ^ 30)

/-- R351, R360: the equaliser after a symbol `y` decided as `d`: LMS with step 2^−EQ_MU on both filters, the carrier loop's second order,
and the two sums of EVM. -/
def Equaliser.learn (y d : Int × Int) (e : Equaliser) : Equaliser :=
  let err := cSub d y
  let back := cDiv (cMul err (turn e.phase)) (2 ^ 30)
  let k : Int := ((2 ^ (16 + e.mu) : Nat) : Int)
  let x := cMul y (cConj d)
  let off := atan2 x.2 x.1
  { e with
    ff := List.zipWith (fun w v => cAdd w (cDiv (cMul back (cConj v)) k)) e.ff e.delay
    fb := List.zipWith (fun w v => cSub w (cDiv (cMul back (cConj v)) k)) e.fb e.past
    past := d :: e.past.take 15
    phase := (e.phase + e.freq + off * (e.gains.1 : Int) / 2 ^ 32) % 2 ^ 32
    freq := e.freq + off * (e.gains.2 : Int) / 2 ^ 32
    error := e.error + cNorm err
    reference := e.reference + cNorm d }

/-- A symbol of four samples, decided in a constellation of `n` bits, or known. -/
def Equaliser.symbol (n : Nat) (known : Option (Int × Int)) (x : List (Int × Int)) (e : Equaliser) : (Int × Int) × Equaliser :=
  let e := e.feed x
  let y := e.output
  (y, e.learn y (known.getD (decide_ n y)))

/-- The symbols of one kind in a run of samples: their values, and the equaliser after them. -/
def Equaliser.run (n : Nat) : List (Option (Int × Int)) → List (Int × Int) → Equaliser → List (Int × Int) × Equaliser
  | [], _, e => ([], e)
  | k :: r, x, e =>
    let a := e.symbol n k (x.take 4)
    let b := Equaliser.run n r (x.drop 4) a.2
    (a.1 :: b.1, b.2)

/-- R342: the symbols of the preamble and the sync word, which the training knows. -/
def trainingSymbols (rate sync : Nat) : List (Int × Int) :=
  (List.replicate (preambleSymbols rate / 32) (wordSymbols 32 trainingWord)).flatten ++ wordSymbols 64 sync

/-- R349, R351: the equaliser at sync detection, trained on the samples of the preamble and the sync; a complement turns the carrier by π.
Nothing is carried over from the burst before. -/
def Equaliser.train (rate sync mu : Nat) (turned : Bool) (x : List (Int × Int)) : Equaliser :=
  let start : Equaliser := { mu := mu, phase := if turned then 2 ^ 31 else 0, gains := Config.carrierGain rate }
  let known := trainingSymbols rate sync
  let fed := (List.range known.length).foldl (fun (a : Equaliser × List (Int × Int)) k =>
    let e := a.1.feed ((x.drop (4 * k)).take 4)
    (e, a.2 ++ (e.delay.take 2).reverse)) (start, [])
  let seen := if turned then fed.2.map (fun y => (-y.1, -y.2)) else fed.2
  let tap := Config.rlsTap seen known
  { fed.1 with
    ff := (List.range 24).map tap, fb := (List.range 16).map (fun k => tap (24 + k)), past := (known.drop (known.length - 16)).reverse }

/-! Soft values (R355, R356) -/

/-- R356: the 4-bit value of a BPSK symbol: 0 the surest 0, 15 the surest 1, `scale` the amplitude that the quantiser takes as certain. -/
def soft4 (scale : Nat) (y : Int × Int) : Nat := (min 15 (max 0 (8 * ((scale : Int) - y.1) / (scale : Int)))).toNat

/-- The bit strings of length `n`, first bit leftmost. -/
def bitStrings : Nat → List (List Bool)
  | 0 => [[]]
  | n + 1 => [false, true].flatMap (fun b => (bitStrings n).map (b :: ·))

/-- The squared distance of a value to the nearest level whose bit `j` is `b`. -/
def levelDistance (n width j : Nat) (b : Bool) (y : Int) : Int :=
  let l := ((bitStrings width).filter (fun s => s[j]?.getD false == b)).map (fun s => (y - unitLevel n (axisLevel s)) * (y - unitLevel n (axisLevel s)))
  l.foldl min (l.headD 0)

/-- R355: the 6-bit log-likelihood ratios of a symbol by max-log demapping, scaled by the noise estimate; positive for a 0. -/
def softBits (n noise : Nat) (y : Int × Int) : List Int :=
  let w := if n = 1 then 1 else n / 2
  let axis := fun (v : Int) => (List.range w).map (fun j =>
    max (-32) (min 31 ((levelDistance n w j true v - levelDistance n w j false v) / (noise : Int))))
  if n = 1 then axis y.1 else axis y.1 ++ axis y.2

/-! The LDPC decoder (R352–R355) -/

/-- R353: the present entries of row `i` of a base matrix: column and shift. -/
def ldpcEntries (c i : Nat) : List (Nat × Nat) :=
  let k := ldpcCols c
  let m := ldpcRows c
  ((List.range k).filter (fun j => ldpcHas c i j)).map (fun j => (j, ldpcShift c i j)) ++
  (if i = 0 ∨ i = m - 1 then [(k, 1)] else if i = m / 2 then [(k, 0)] else []) ++
  ((List.range m).filter (fun t => 0 < t ∧ (i = t - 1 ∨ i = t))).map (fun t => (k + t, 0))

/-- One check of a layer: its messages by what its bits say: 0.75 of the least of the others, with the sign of their product. -/
def minSum (q : List Int) : List Int :=
  let a := q.map Int.natAbs
  let least := a.foldl min (a.headD 0)
  let second := (a.erase least).foldl min ((a.erase least).headD 0)
  let odd := (q.filter (· < 0)).length % 2 == 1
  q.map (fun v =>
    let m : Int := (((if v.natAbs = least then second else least) * 3 / 4 : Nat) : Int)
    if odd != decide (v < 0) then -m else m)

/-- The values at one place of every list. -/
def columnsOf : Nat → List (List Int) → List (List Int)
  | 0, _ => []
  | n + 1, l => l.map (fun r => r.headD 0) :: columnsOf n (l.map (fun r => r.drop 1))

/-- R355: a decoder between layers: the values of the 24 columns, in blocks of 96, and each layer's messages, entry by entry. -/
structure LdpcState where
  values : List (List Int)
  messages : List (List (List Int))

/-- One layer: base row `i`. -/
def LdpcState.layer (c i : Nat) (x : LdpcState) : LdpcState :=
  let en := ldpcEntries c i
  let old := x.messages.getD i []
  let q := en.zipIdx.map (fun (p : (Nat × Nat) × Nat) =>
    let v := x.values.getD p.1.1 []
    List.zipWith (· - ·) (v.drop p.1.2 ++ v.take p.1.2) (old.getD p.2 (List.replicate 96 0)))
  let new := columnsOf en.length ((columnsOf 96 q).map minSum)
  let values := (en.zip (List.zipWith (List.zipWith (· + ·)) q new)).foldl (fun (v : List (List Int)) p =>
    modAt p.1.1 (fun _ => p.2.drop (96 - p.1.2) ++ p.2.take (96 - p.1.2)) v) x.values
  { values := values, messages := modAt i (fun _ => new) x.messages }

/-- The hard decisions of a codeword as sent, `n` of its information bits. -/
def LdpcState.hard (c n : Nat) (x : LdpcState) : List Bool :=
  let l := x.values.flatten.map (fun v => decide (v < 0))
  l.take n ++ l.drop (ldpcK c)

/-- R355: iterations until the syndrome is zero, at most `most`, of which `k` are left. -/
def LdpcState.iterate (c n most : Nat) : Nat → LdpcState → List Bool × Nat
  | 0, x => (x.hard c n, most)
  | k + 1, x =>
    let x := (List.range (ldpcRows c)).foldl (fun x i => x.layer c i) x
    if syndromeFails c n (x.hard c n) then LdpcState.iterate c n most k x else (x.hard c n, most - k)

/-- Certainty of a shortened bit. -/
def llrCertain : Int := 2 ^ 40

/-- R355: a codeword decoded from the ratios of its bits as sent, `n` of them information bits: hard decisions and iterations. Values have
8 fractional bits. -/
def ldpcDecode (c n most : Nat) (llr : List Int) : List Bool × Nat :=
  let l := llr.map (· * 256)
  let full := l.take n ++ List.replicate (ldpcK c - n) llrCertain ++ l.drop n
  let blocks := (List.range 24).map (fun j => (full.drop (96 * j)).take 96)
  LdpcState.iterate c n most most { values := blocks, messages := List.replicate (ldpcRows c) [] }

end Sys2Proof.Machine
end

