-- ==== Sys2Proof/Machine/Modem.lean ====
section
/-! DEFINITION. The modem's receive side: windows, sync, headers, codewords, delivered bursts and their figures
(R347–R365). -/
namespace Sys2Proof.Machine

/-! Receive windows (R347, R349, R368) -/

/-- The slots of a kind in this frame and the next that begin no earlier than now: uplink index and frame, in their order. -/
def State.slotsAhead (kind : Nat) (s : State) : List (Nat × Nat) :=
  let f := frameOf s.qt
  let us := if kind = 4 then [0, 1, 2, 3] else [0]
  ([f, f + 1].flatMap (fun f => us.map (fun u => (u, f)))).filter (fun p =>
    decide (s.qt ≤ p.2 * qtFrame + (slotSpan kind p.1).1 * qtUs) && (s.expects kind p.1 p.2).isSome)

/-- A receive slot that is missed: an uplink's is a missing burst (R318, R332, R391, R453). -/
def State.slotMissed (kind station unit counter : Nat) (s : State) : State :=
  let s := s.bump unit counter
  if kind = 4 then s.uplinkMissed station else s

/-- R347: the window of a slot opens; the sync search and the AGC start. -/
def State.openWindow (kind station f close : Nat) (s : State) : State :=
  if (s.pll 3).state = 3 then s.slotMissed kind station 0x50 16
  else if s.radio.state = 6 ∨ s.up < s.radio.readyAt ∨ s.radio.state = 5 then s.slotMissed kind station 0x30 7
  else if s.coexMode = 2 ∧ !s.gntAt (s.up - 8 * qtUs) then s.slotMissed kind station 0x30 8
  else
    { s with
      radio := { s.radio with state := 4 }
      modem := { s.modem with window := some { kind := kind, frame := f, station := station, close := close }, rx := 1, frozen := false, gain := Config.agcStart } }

/-- RX_WINDOW_OPEN (R347): the next slot of a kind in which the part listens. Without an estimate the search for a beacon begins at once
(log entry 29). -/
def State.rxWindowOpen (kind : Nat) (s : State) : State :=
  if !s.mayListen ∨ s.modem.window.isSome then s
  else if !s.plumb.estimated then
    if kind = 0 then (s.wakeRadio).openWindow 0 0 (frameOf s.qt) (s.qt + 2 * qtFrame) else s
  else match s.slotsAhead kind with
  | [] => s
  | (u, f) :: _ =>
    let span := slotSpan kind u
    let s := (s.advance (f * qtFrame + span.1 * qtUs)).wakeRadio
    s.openWindow kind ((s.expects kind u f).getD 0) f (f * qtFrame + span.2 * qtUs)

/-- RX_WINDOW_OPEN (R347). -/
def execRxWindowOpen (kind : Fin 5) (s : State) : Step := .next (s.rxWindowOpen kind.val)

/-- RX_WINDOW_CLOSE (R349, R391): the search ends, the AGC unfreezes; an uplink slot without a burst that passed its header check is a
missing burst. -/
def State.rxWindowClose (s : State) : State :=
  match s.modem.window with
  | none => s
  | some w =>
    let s := (s.advance w.close).unfreezeAgc
    let s := { s with
      radio := { s.radio with state := if s.radio.state = 4 then 3 else s.radio.state }
      modem := { s.modem with window := none, rx := 0, current := none } }
    if w.heard then s
    else if w.kind = 4 then s.uplinkMissed w.station
    else if w.kind = 3 then s.bump 0x32 10
    else s

/-- RX_WINDOW_CLOSE (R349). -/
def execRxWindowClose (s : State) : Step := .next s.rxWindowClose

/-! Sync and header (R343, R349, R350) -/

/-- The RATE of a burst kind (R368). -/
def State.rxRate (kind : Nat) (s : State) : Nat := if kind = 0 then 0 else s.radio.plan.rate

/-- `n` symbols at a RATE, in QT units. -/
def symbolSpan (rate n : Nat) : Nat := n * qtUs / rateMsym rate

/-- R349: the search resumes. -/
def State.resumeSearch (s : State) : State :=
  { s with modem := { s.modem with rx := if s.modem.window.isSome then 1 else 0, current := none } }.unfreezeAgc

/-- R347, R349: the burst in progress has ended by QT `t`. -/
def State.burstOver (t : Nat) (s : State) : State := if s.modem.rx = 3 ∧ s.modem.rxEnd ≤ t then s.resumeSearch else s

/-- R346: when a burst whose header is known ends. -/
def RxBurst.endAt (r : Nat) (b : RxBurst) : Nat := b.stamp + symbolSpan r (burstSymbols r b.mcs b.length - preambleSymbols r)

/-- R348: a received sample with both stages of the offset removed. -/
def State.removeDc (x : Int × Int) (s : State) : Int × Int := cSub (cSub x s.radio.dc) s.modem.residual

/-- R347, R348: what the AGC and the offset tracker come to over the microseconds up to sync detection, where they freeze. -/
def State.freezeAgc (x : RxFront) (s : State) : State :=
  { s with modem := { s.modem with
      frozen := true
      gain := x.powers.foldl agcStep s.modem.gain
      residual := x.means.foldl (fun r v => trackDc r (cSub (cSub v s.radio.dc) r)) s.modem.residual } }

/-- R350: the instant of the sync to the nearest 1/1,024 symbol, less the calibrated delay of the receive chain. -/
def syncStamp (rate t : Nat) : Nat :=
  let g := 64000 / rateMsym rate
  (t + g / 2) / g * g - Config.rxDelay rate

/-- SYNC_DETECT (R349–R351, R364): a run of 64 hard decisions; at most SYNC_ERRORS of them differ from the word or its complement, early
enough for the header to end within the window. The AGC freezes and the equaliser is trained. `at_` is when the pulse centre of the first
sync symbol reaches the receiver. -/
def State.syncDetect (hard : Nat) (x : RxFront) (at_ : Nat) (s : State) : State :=
  match s.modem.window with
  | none => s
  | some w =>
    let r := s.rxRate w.kind
    let word := s.param 0x3101
    let n := syncErrors hard word
    let s := s.burstOver at_
    if s.modem.rx ≠ 1 ∨ s.param 0x3100 < n ∨ w.close < at_ + symbolSpan r 140 then s
    else
      let s := (s.advance (at_ + symbolSpan r 64)).freezeAgc x
      let stamp := syncStamp r at_
      let rssi := rssiOf x.powers
      let b : RxBurst :=
        { kind := w.kind, frame := w.frame, station := w.station, stamp := stamp, errs := n, rssi := rssi
          eq := Equaliser.train r word (s.param 0x3102) (syncTurned hard word) (x.samples.map (fun v => s.removeDc v)) }
      let s := { s with modem := { s.modem with rx := 2, current := some b, lastStamp := stamp } }
      (s.bump 0x31 2).occur 94 w.station (le 1 n ++ zeros 1 ++ leInt 2 rssi ++ qtBytes stamp)

/-- SYNC_DETECT (R349). -/
def execSyncDetect (hard : BitVec 64) (front : RxFront) (stamp : Nat) (s : State) : Step := .next (s.syncDetect hard.toNat front stamp)

/-- R364: DECODE_FAIL. -/
def State.decodeFail (reason mcs failed : Nat) (b : RxBurst) (s : State) : State :=
  s.occur 95 reason (le 1 b.station ++ le 1 mcs ++ le 2 failed ++ qtBytes b.stamp)

/-- HEADER_DECODE (R343, R349, R357): `h` is the decoded header. -/
def State.headerDecode (h : Nat) (s : State) : State :=
  match s.modem.current, s.modem.window with
  | some b, some w =>
    let mcs := bits 3 0 h
    let len := bits 23 8 h
    let r := s.rxRate b.kind
    let last := { b with mcs := mcs, length := len }.endAt r
    if !headerOk h then ((s.resumeSearch.bump 0x31 3).decodeFail 0 mcs 0 b)
    else if w.close < last then
      ((s.resumeSearch.bump 0x31 4).decodeFail 2 mcs 0 b)
    else
      let s := { s with modem := { s.modem with rx := 3, rxEnd := last, current := none, window := some { w with heard := true } } }
      if 2 ≤ s.modem.buffers.length then (s.bump 0x31 8).decodeFail 3 mcs 0 b
      else
        let b := { b with mcs := mcs, length := len, seed := bits 7 4 h, codewords := codewordCount mcs len }
        { s with modem := { s.modem with buffers := s.modem.buffers ++ [b] } }
  | _, _ => s

/-- R351, R356: the soft values of the header's symbols, and its burst with the equaliser after them. -/
def State.headerSoft (x : HeaderSymbols) (b : RxBurst) (s : State) : List Nat × RxBurst :=
  let y := Equaliser.run 1 (List.replicate 76 none) (x.samples.map (fun v => s.removeDc v)) b.eq
  (y.1.map (soft4 x.scale), { b with eq := y.2 })

/-- HEADER_DECODE (R343, R351, R356): the header is a most likely path of its block. -/
def State.headerRow (x : HeaderSymbols) (s : State) : State :=
  match s.modem.current with
  | none => s
  | some b =>
    let y := s.headerSoft x b
    if x.samples.length ≠ 304 ∨ !mostLikely (bitsOf 32 x.header.toNat) y.1 then s
    else State.headerDecode x.header.toNat { s with modem := { s.modem with current := some y.2 } }

/-- HEADER_DECODE (R343, R356). -/
def execHeaderDecode (symbols : HeaderSymbols) (s : State) : Step := .next (s.headerRow symbols)

/-! Codewords and delivery (R355–R362) -/

/-- R345: information bits that codeword `k` of a burst was sent with. -/
def RxBurst.infoBits (k : Nat) (b : RxBurst) : Nat := min (ldpcK (mcsCode b.mcs)) (8 * b.length - k * ldpcK (mcsCode b.mcs))

/-- R345: the length of its next codeword as sent. -/
def RxBurst.sentBits (b : RxBurst) : Nat := b.infoBits b.decoded + (2304 - ldpcK (mcsCode b.mcs))

/-- R355: the hard decisions of its next codeword leave a syndrome. -/
def RxBurst.fails (hard : List Bool) (b : RxBurst) : Bool := syndromeFails (mcsCode b.mcs) (b.infoBits b.decoded) hard

/-- R355: the next codeword of a burst, its hard decisions delivered. -/
def RxBurst.codeword (hard : List Bool) (iterations : Nat) (b : RxBurst) : RxBurst :=
  { b with
    decoded := b.decoded + 1
    iterations := b.iterations + iterations
    failed := if b.fails hard then b.failed ++ [b.decoded] else b.failed
    info := b.info ++ hard.take (b.infoBits b.decoded) }

/-- The first buffered burst that still has codewords to decode, with those before and after it. -/
def decodeNext : List RxBurst → Option (List RxBurst × RxBurst × List RxBurst)
  | [] => none
  | b :: r => if b.decoded < b.codewords then some ([], b, r) else (decodeNext r).map (fun p => (b :: p.1, p.2))

/-- R345: the next `k` payload symbols, each after a pilot block has gone before it where 1,024 have. -/
def RxBurst.ahead (k : Nat) (b : RxBurst) : List (Option (Int × Int)) :=
  (List.range k).flatMap (fun j =>
    let t := b.symbols + j
    (if 0 < t ∧ t % 1024 = 0 then (wordSymbols 16 trainingWord).map some else []) ++ [none])

/-- The samples of `k` more payload symbols: the symbols' values, and the burst after them. -/
def State.hear (k : Nat) (samples : List (Int × Int)) (b : RxBurst) (s : State) : List (Int × Int) × RxBurst :=
  let known := b.ahead k
  let y := Equaliser.run (mcsBits b.mcs) known (samples.map (fun v => s.removeDc v)) b.eq
  (((known.zip y.1).filter (fun p => p.1.isNone)).map (·.2), { b with eq := y.2, symbols := b.symbols + k })

/-- R345: symbols that the next codeword still needs. -/
def RxBurst.needs (b : RxBurst) : Nat := (b.sentBits - b.llr.length + mcsBits b.mcs - 1) / mcsBits b.mcs

/-- R355: the ratios of the next codeword and of what its last symbol holds of the one after, and the burst after its symbols. -/
def State.ratios (samples : List (Int × Int)) (noise : Nat) (b : RxBurst) (s : State) : List Int × RxBurst :=
  let y := s.hear b.needs samples b
  (b.llr ++ y.1.flatMap (softBits (mcsBits b.mcs) noise), y.2)

/-- CODEWORD_DECODE (R355): the samples of the codeword's symbols and the equaliser's noise estimate give its ratios; the decoder takes
them. -/
def State.codewordDecode (samples : List (Int × Int)) (noise : Nat) (s : State) : State :=
  let m := s.param 0x3103
  match decodeNext s.modem.buffers with
  | none => s
  | some (l, b, r) =>
    if samples.length ≠ 4 * (b.ahead b.needs).length then s
    else
      let y := s.ratios samples noise b
      let x := ldpcDecode (mcsCode b.mcs) (b.infoBits b.decoded) m (y.1.take b.sentBits)
      let c := { y.2 with llr := y.1.drop b.sentBits }.codeword x.1 x.2
      let s := ({ s with modem := { s.modem with buffers := l ++ c :: r } }.bump 0x31 5).bumpBy 0x31 7 x.2
      if b.fails x.1 then s.bump 0x31 6 else s

/-- CODEWORD_DECODE (R355). -/
def execCodewordDecode (samples : List (Int × Int)) (noise : Nat) (s : State) : Step := .next (s.codewordDecode samples noise)

/-- R361: LQ; `evm` in 0.1 dB. -/
def RxBurst.quality (evm : Int) (b : RxBurst) : Nat :=
  if !b.failed.isEmpty then 0
  else
    let n : Int := max b.codewords 1
    let m : Int := -evm - snrReq b.mcs
    let pen : Int := max 0 ((b.iterations : Int) - 4 * b.codewords)
    let x := (2 * (8 * m * n - 40 * pen) + 10 * n) / (20 * n)
    (min 255 (max 1 (128 + x))).toNat

/-- R362: the figures of a burst. -/
def RxBurst.figures (evm freq : Int) (b : RxBurst) : Bytes :=
  le 1 b.station ++ le 1 b.mcs ++ le 1 b.errs ++ le 1 (b.quality evm) ++ leInt 2 evm ++ leInt 2 (-evm) ++ leInt 2 b.rssi ++
  le 1 (if b.codewords = 0 then 0 else min 255 (b.iterations * 10 / b.codewords)) ++ zeros 1 ++ leInt 4 freq ++ le 2 b.codewords ++
  le 2 b.failed.length ++ qtBytes b.stamp ++ zeros 2

/-- R345: symbols of the payload of an MCS 0 burst. -/
def RxBurst.convSymbols (b : RxBurst) : Nat := if b.mcs = 0 then codedBits 0 b.length else 0

/-- R344, R345, R356: the payload of a burst: from its codewords, or for MCS 0 a most likely path of its block. -/
def RxBurst.payload (soft : List Nat) (payload : Bytes) (b : RxBurst) : Option Bytes :=
  let r := b.seed % 16 * 8 + 7
  if b.mcs ≠ 0 then some (packBits b.length (scramble r b.info))
  else if payload.length = b.length ∧ mostLikely (scramble r (payload.flatMap (fun c => bitsOf 8 c.toNat))) soft = true then some payload
  else none

/-- R351: FREQ_ERR, Hz. -/
def State.freqErr (b : RxBurst) (s : State) : Int := b.eq.freq * ((rateMsym (s.rxRate b.kind) * 1000000 : Nat) : Int) / 2 ^ 32

/-- R357: what the Omba unit gets of a burst. -/
def RxBurst.frame_ (payload : Bytes) (evm : Int) (b : RxBurst) : RxFrame :=
  { kind := b.kind, frame := b.frame, station := b.station, stamp := b.stamp, payload := payload, mcs := b.mcs, failed := b.failed
    lq := b.quality evm, seed := b.seed, length := b.length, rssi := b.rssi, evm := evm }

/-- BURST_DELIVERED (R357, R360–R362): the oldest buffered burst, once all its symbols are decoded, goes to the Omba unit; `evm` is what
the sums of its symbols come to. -/
def State.burstDelivered (x : PayloadSymbols) (evm : Int) (scale : Nat) (s : State) : State :=
  match s.modem.buffers with
  | [] => s
  | b :: r =>
    let known := (b.ahead b.convSymbols).length
    let y := s.hear b.convSymbols x.samples b
    let b := y.2
    if x.samples.length ≠ 4 * known ∨ b.decoded < b.codewords ∨
        !evmFits evm b.eq.error b.eq.reference then s
    else match b.payload (y.1.map (soft4 scale)) x.payload with
    | none => s
    | some payload =>
      let s := { s with modem := { s.modem with
        buffers := r
        quality := Table.insert b.station (b.figures evm (s.freqErr b)) s.modem.quality
        lastStation := some b.station
        heard := if s.modem.heard.contains b.station then s.modem.heard else putSorted b.station s.modem.heard
        delivered := s.modem.delivered ++ [b.frame_ payload evm] } }
      let s := s.burstOver (max s.qt (b.endAt (s.rxRate b.kind)))
      let s := s.bump 0x31 1
      if b.failed.isEmpty then s else s.decodeFail 1 b.mcs b.failed.length b

/-- BURST_DELIVERED (R357, R360). -/
def execBurstDelivered (symbols : PayloadSymbols) (evm : BitVec 16) (scale : BitVec 32) (s : State) : Step :=
  .next (s.burstDelivered symbols (signed 16 evm.toNat) scale.toNat)

/-! Quality table and status (R362, R365, R397) -/

/-- The station MODEM_QUALITY_GET means (R362). -/
def State.qualityStation (n : Nat) (s : State) : Option Nat := if n = 0xFF then s.modem.lastStation else some n

/-- The figures of a station, if it has sent a burst since the reset. -/
def State.qualityOf (n : Nat) (s : State) : Option Bytes := (s.modem.quality.find? (fun p => p.1 == n)).map (·.2)

/-- MODEM_QUALITY_GET (R362). -/
def modemQualityGet : CmdSpec :=
  { opcode := 0x3110, role := 1, shape := oneItem 0x3110 1, absent := radioAbsent
    naming := fun _ c => if within 63 254 (c.u 0 1) then some .outOfRange else none
    body := fun c s =>
      match (s.qualityStation (c.u 0 1)).bind (fun n => s.qualityOf n) with
      | some v => reply 0x3110 v s
      | none => refuse .notReady s }

/-- MODEM_QUALITY_GET (R362). -/
def execModemQualityGet (s : State) : Step := .next (modemQualityGet.run s)

/-- R397: result slot 4: the stations heard in the superframe. -/
def State.qualitySlot (s : State) : Bytes :=
  let l := s.modem.heard.filterMap (fun n => s.qualityOf n)
  le 4 (s.qt / qtSec) ++ le 1 l.length ++ zeros 3 ++ l.flatten

/-- R362, R397: at each superframe the two slots are published and the stations heard are counted afresh. -/
def State.superframe (s : State) : State :=
  let s := if s.cellRole = 0 then s else ((s.publish 3 s.cellStatus).publish 4 s.qualitySlot).draw
  { s with modem := { s.modem with heard := [] } }

/-- R365: STATUS_GET of unit 0x31; a burst that has ended by now holds the receiver no longer. -/
def State.modemStatus (s : State) : Bytes :=
  let s := s.burstOver s.qt
  le 1 s.modem.rx ++ le 1 (b01 s.modem.frozen) ++ le 1 s.modem.buffers.length ++ zeros 1 ++ qtBytes s.modem.lastStamp

end Sys2Proof.Machine
end

