-- ==== Sys2Proof/Machine/Generic.lean ====
section
/-! DEFINITION. The four commands that every unit of the directory has: parameters, status and counters (R87, R88). -/
namespace Sys2Proof.Machine

/-! PARAM_GET and PARAM_SET (R87, R88) -/

/-- One item of a parameter command, with whether its ID stands earlier in the command. -/
structure ParamItem where
  id : Nat
  value : Bytes
  twice : Bool

/-- The items of a parameter command. -/
def paramItems (seen : List Nat) : List Item → List ParamItem
  | [] => []
  | i :: r => { id := i.id, value := i.value, twice := seen.contains i.id } :: paramItems (i.id :: seen) r

/-- R88: the item that names the parameter at fault. -/
def faultItem (id : Nat) : List Item := [{ id := 0, value := le 2 id }]

/-- R88: the first check that an item fails, and the first item that fails it. -/
def firstBad : List (ParamItem → Option Status) → List ParamItem → Option (Status × Nat)
  | [], _ => none
  | f :: r, l =>
    match l.findSome? (fun i => (f i).map (fun st => (st, i.id))) with
    | some x => some x
    | none => firstBad r l

/-- A check as a condition of refusal. -/
def failsWith (b : Bool) (st : Status) : Option Status := if b then some st else none

/-- R87: the parameter an item names, where the addressed unit has it. -/
def unitParam (unit id : Nat) : Option ParamSpec := if id / 256 = unit then paramSpec id else none

/-- Checks 7 to 10 of a parameter item, `set` for PARAM_SET (R76, R88). -/
def Cmd.paramAccess (c : Cmd) (set : Bool) (s : State) : List (ParamItem → Option Status) :=
  let spec := fun (i : ParamItem) => unitParam c.unit i.id
  [ fun i => failsWith (s.unitAbsent c.unit || s.portParamAbsent i.id || (set && s.valueAbsent i.id (ofLE i.value))) .deniedVariant,
    fun i => failsWith (decide (c.role < (if set then ((spec i).map (·.role)).getD 1 else 1)) || (c.session == 0 && s.nv.pin.isSome)) .deniedRole,
    fun i => failsWith (s.rst.recovery || (set && !s.power.holdReady && (spec i).any (·.journalled))) .notReady ]

/-- R87, R88: an unknown parameter, one of another unit, or one named twice. -/
def Cmd.paramUnknown (c : Cmd) (i : ParamItem) : Bool := (unitParam c.unit i.id).isNone || i.twice

/-- Check 11 of one value: reserved encodings, then its range (R566). Writes of a read-only parameter are ignored (R11). -/
def valueStatus (id v : Nat) (p : ParamSpec) : Option Status :=
  if p.readOnly then none
  else if !p.legal v ∨ (uartUnit (id / 256) ∧ id % 256 = 0 ∧ uartCfgConflict v) then some .badParam
  else if !p.range v then some .outOfRange
  else none

/-- Check 11 of a PARAM_SET item: the value, then what ties it to others (R88, R566). -/
def Cmd.paramValues (c : Cmd) (new : NewParams) (s : State) : List (ParamItem → Option Status) :=
  [ fun i => if c.paramUnknown i then some .badParam else (unitParam c.unit i.id).bind (valueStatus i.id (ofLE i.value)),
    fun i => s.linkBroken new i.id ]

/-- A refusal of a parameter command (R88). -/
def refuseParam (st : Status) (id : Nat) (s : State) : Result := { status := st, items := faultItem id, state := s }

/-- The width of a parameter in bytes. -/
def paramBytes (id : Nat) : Nat := match paramSpec id with | some p => p.bytes | none => 0

/-- A parameter as an item. -/
def State.paramItem (id v : Nat) (_ : State) : Item := { id := id, value := le (paramBytes id) v }

/-- PARAM_GET of a unit (R87, R88). -/
def paramGetOf (unit : Nat) : CmdSpec :=
  let bad := fun (i : Item) => decide (i.value.length ≠ 0)
  { opcode := unit * 256 + 1, role := 1, ownChecks := true
    shape := fun l => !l.isEmpty && !l.any bad
    badShape := fun l => match l.find? bad with | some i => faultItem i.id | none => []
    body := fun c s =>
      let l := paramItems [] c.items
      match firstBad (c.paramAccess false s ++ [fun i => failsWith (c.paramUnknown i) .badParam]) l with
      | some (st, id) => refuseParam st id s
      | none => { status := .ok, items := c.items.map (fun i => s.paramItem i.id (s.shownParam i.id)), state := s } }

/-- The unit whose generic command stands at the head of Q00. -/
def State.headUnit (s : State) : Nat := match (s.queue 0).entries with | e :: _ => (parsePacket e.data).opcode / 256 | [] => 0

/-- PARAM_GET (R87): of the unit the packet names. -/
def State.paramGet (s : State) : State := if directoryUnits.contains s.headUnit then (paramGetOf s.headUnit).run s else s

/-- PARAM_GET (R87). -/
def execParamGet (s : State) : Step := .next s.paramGet

/-- R94: parameters that are port state. -/
def portState (id : Nat) : Bool := id == 0x0100 || id == 0x0101

/-- R11, R277: a parameter whose writes are ignored. -/
def paramReadOnly (id : Nat) : Bool := (paramSpec id).any (·.readOnly)

/-- R88, R481: the journal record of a PARAM_SET: ID, OLD and NEW; none where all of it is port state. -/
def State.paramRecord (l : List Item) (s : State) : Option (Nat × Bytes × Bytes) :=
  match l.filter (fun i => !portState i.id && !paramReadOnly i.id) with
  | [] => none
  | [i] => some (i.id, (s.paramItem i.id (s.shownParam i.id)).value, i.value)
  | k => some (0, itemBytes (k.map (fun i => s.paramItem i.id (s.shownParam i.id))), itemBytes k)

/-- What an accepted item puts in force: port state at once, but HP_LANES when the reply has been consumed (R94). -/
def State.takeParam (s : State) (i : Item) : State :=
  if i.id = 0x0100 ∨ paramReadOnly i.id then s
  else if i.id = 0x0101 then { s with port := { s.port with irqMask := ofLE i.value } }
  else s.commitParam i.id (ofLE i.value)

/-- R94: what the reply's consumption sets going. -/
def lanesTag (l : List Item) : ReplyTag :=
  match l.find? (fun i => i.id == 0x0100) with | some i => .lanes (ofLE i.value) | none => .none

/-- R88: the journal record, then every item. -/
def Cmd.setParams (c : Cmd) (ok : Bool) (s : State) : Result :=
  let apply := fun (s : State) => { status := Status.ok, tag := lanesTag c.items, state := c.items.foldl State.takeParam s : Result }
  match s.paramRecord c.items with
  | none => apply s
  | some (id, old, new) =>
    match s.journalAppend ok 0 c.role c.keyId id old new with
    | (.ok, s') => apply s'
    | (st, s') => { status := st, state := s' }

/-- PARAM_SET of a unit (R87, R88). -/
def paramSetOf (unit : Nat) (ok : Bool) : CmdSpec :=
  let bad := fun (i : Item) => (paramSpec i.id).any (fun p => p.bytes != i.value.length)
  { opcode := unit * 256 + 2, role := 1, ownChecks := true
    shape := fun l => !l.isEmpty && !l.any bad
    badShape := fun l => match l.find? bad with | some i => faultItem i.id | none => []
    body := fun c s =>
      let new := c.items.map (fun i => (i.id, ofLE i.value))
      match firstBad (c.paramAccess true s ++ c.paramValues new s) (paramItems [] c.items) with
      | some (st, id) => refuseParam st id s
      | none => c.setParams ok s }

/-- PARAM_SET (R87): of the unit the packet names. -/
def State.paramSet (ok : Bool) (s : State) : State := if directoryUnits.contains s.headUnit then (paramSetOf s.headUnit ok).run s else s

/-- PARAM_SET (R88). -/
def execParamSet (nvOk : Bool) (s : State) : Step := .next (s.paramSet nvOk)

/-! STATUS_GET (R87) -/

/-- R226: the STATE word of unit 0x20. -/
def State.screedWord (s : State) : Nat :=
  let x := s.screed
  s.param 0x2000 * 2 ^ 29 + s.laneCount * 2 ^ 24 + b01 x.activeB * 2 ^ 23 + b01 x.active.loaded * 2 ^ 22 +
  b01 (s.plumb.state != 7) * 2 ^ 21 + b01 (x.solver.wait.isSome && x.cust.wait.isSome) * 2 ^ 20 + b01 s.programPending * 2 ^ 19 +
  b01 (x.commits.any (fun c => bit 0 c.what)) * 2 ^ 18 + b01 x.halted * 2 ^ 17 + x.muted % 65536

/-- R226: the item of unit 0x20. -/
def State.screedStatus (s : State) : Bytes :=
  let cyc := cyclesPerTick (s.param 0x2000)
  le 4 s.screedWord ++ le 2 cyc ++ le 2 s.screed.active.path ++ le 2 s.reserve ++ le 2 (cyc - s.reserve - 64) ++ le 8 s.screed.index

/-- R296, R310: SOURCE, LOCKED, two reserved bytes, ratio, and the group delay in output and input samples (log entry 38). -/
def Asrc.item (c : Asrc) : Bytes :=
  le 1 c.source ++ le 1 (b01 c.locked) ++ zeros 2 ++ le 4 c.ratio ++ (if c.locked then le 2 64 ++ le 2 3 else zeros 4)

/-- R310: directions running, s₀ of the output, or of the input where only that runs, and the FS period (log entry 38). -/
def TdmPort.item (n : Nat) (p : TdmPort) : Bytes :=
  le 1 n ++ le 1 (b01 p.rx.on + 2 * b01 p.tx.on) ++ zeros 2 ++
  le 8 (if p.tx.on then p.tx.s0 else if p.rx.on then p.rx.s0 else 0) ++ le 4 p.period

/-- R304, R310: a group as GROUP_SET carries it. -/
def AudioGroup.item (n : Nat) (g : AudioGroup) : Bytes :=
  le 1 n ++ le 1 g.fill ++ le 2 g.holdMs ++ le 1 g.streams.length ++ g.streams.map (BitVec.ofNat 8)

/-- R310: the route map as ROUTE_SET carries it, and the groups (log entry 38). -/
def State.routeStatus (s : State) : Bytes :=
  le 2 s.audio.routes.length ++ zeros 2 ++ s.audio.routes.flatMap (fun p => le 2 p.1 ++ le 2 p.2) ++
  (s.audio.groups.zipIdx).flatMap (fun g => g.1.item g.2)

/-- R523: the item of unit 0x70. -/
def State.powerStatus (s : State) : Bytes :=
  let p := s.power
  le 1 p.mode.code ++ le 1 (b01 p.holdReady) ++ le 2 p.vhold ++ le 1 p.lastResult ++ le 1 p.lastCondition ++ le 1 p.lastRefuser ++
  le 1 p.lastWakeMask

/-- R536: the item of unit 0x00. -/
def State.systemStatus (s : State) : Bytes :=
  le 1 s.power.mode.code ++ le 1 s.rst.startStep ++ le 1 (b01 s.power.holdReady) ++ le 1 s.rst.startMode

/-- The status item of a unit, where a chapter lays it out; `subsec` and `ref` are measured (R454, R471). -/
def State.unitStatus (unit subsec ref : Nat) (s : State) : Option Bytes :=
  match unit with
  | 0x00 => some s.systemStatus
  | 0x03 => some (le 16 (bitsValue (s.events.map (·.stat))))
  | 0x04 => some (s.dma.channels.flatMap (fun c => le 4 c.status))
  | 0x12 => some s.trackStatus
  | 0x20 => some s.screedStatus
  | 0x22 => some ((s.audio.asrc.take s.asrcCount).flatMap Asrc.item)
  | 0x23 => some ((List.range s.aesCount).flatMap (fun n => le 1 (s.aesState n) ++ le 4 (s.aesPort n).rate))
  | 0x24 => some ((List.range s.tdmCount).flatMap (fun n => (s.tdmPort n).item n))
  | 0x25 => some s.routeStatus
  | 0x30 => some s.radioStatus
  | 0x31 => some s.modemStatus
  | 0x40 => some (s.uartItem 0)
  | 0x41 => some (s.uartItem 1)
  | 0x42 => some (s.uartItem 2)
  | 0x43 => some (s.uartItem 3)
  | 0x48 => some s.gpioItem
  | 0x50 => some (s.pllItem ref)
  | 0x51 => some (s.rtcItem subsec)
  | 0x70 => some s.powerStatus
  | _ => none

/-- The status item of a unit whose chapter lays none out: of free length, with free bytes (log entry 38). -/
def State.freeStatus (s : State) : Bytes × State :=
  let n := Config.freeNat s.freeTick % 4090
  (freeBytes n (s.freeTick + 1), { s with freeTick := s.freeTick + 1 + n })

/-- STATUS_GET of a unit (R87). -/
def statusGetOf (unit subsec ref : Nat) : CmdSpec :=
  { opcode := unit * 256 + 3, role := 1, shape := noItems, absent := fun s _ => s.unitAbsent unit
    body := fun c s => match s.unitStatus unit subsec ref with
      | some v => reply c.opcode v s
      | none => reply c.opcode s.freeStatus.1 s.freeStatus.2 }

/-- STATUS_GET (R87): of the unit the packet names. -/
def State.statusGet (subsec ref : Nat) (s : State) : State :=
  if directoryUnits.contains s.headUnit then (statusGetOf s.headUnit subsec ref).run s else s

/-- STATUS_GET (R87). -/
def execStatusGet (subsec : Fin 32768) (figures : StatusFigures) (s : State) : Step :=
  .next ((s.seeCts figures.ctsHigh).statusGet subsec.val figures.refMeas.toNat)

/-! COUNTERS_GET (R87) -/

/-- The first `n` counters of a unit, each of `w` bytes. -/
def State.countersOf (unit w n : Nat) (s : State) : Bytes := (List.range n).flatMap (fun i => le w (s.counter unit i))

/-- R227, R278: the counters of unit 0x20. -/
def State.screedCounters (s : State) : Bytes :=
  let c := fun (i : Nat) => le 4 (s.counter 0x20 i)
  le 8 (s.counter 0x20 0) ++ c 1 ++ c 2 ++ c 3 ++ le 2 s.screed.fgMax ++ le 2 s.screed.bgMin ++
  (List.range s.laneCount).flatMap (fun l => c (6 + 2 * l) ++ c (7 + 2 * l)) ++ [38, 39, 40, 41, 42].flatMap c

/-- Insert an output before those of a higher DST. -/
def insertOut (o : AudioOut) : List AudioOut → List AudioOut
  | [] => [o]
  | p :: r => if o.dst < p.dst then o :: p :: r else p :: insertOut o r

/-- R304: the input streams that the part has, in the order of their bytes. -/
def State.inputStreams (s : State) : List Nat :=
  (List.range 5).flatMap (fun k => (List.range (s.streamCount k)).map (fun n => 16 * k + n))

/-- R310: the counters of the outputs, or of the input streams, in the order of R304's bytes (log entry 38). -/
def State.routerCounters (ins : Bool) (s : State) : Bytes :=
  if ins then s.inputStreams.flatMap (fun n => let x := s.inStream n; le 8 x.underruns ++ le 8 x.late)
  else
    ((s.audio.outs.filter (·.on)).foldl (fun l o => insertOut o l) []).flatMap (fun o =>
      le 2 o.dst ++ le 8 o.s0 ++ le 8 o.computed ++ le 8 o.held ++ le 8 o.filled ++ le 8 o.repeated ++ le 8 o.skipped)

/-- R113: the counters of unit 0x03. -/
def State.eventCounters (s : State) : Bytes :=
  s.events.flatMap (fun e => le 4 e.occur) ++ s.dma.lineOverruns.flatMap (le 4)

/-- Counters a unit keeps as one list of 32-bit counts. -/
def State.counterCount (unit : Nat) (s : State) : Nat :=
  match unit with
  | 0x11 => 7 | 0x12 => 10 | 0x13 => 15 | 0x21 => 3 | 0x22 => 2 * s.asrcCount | 0x23 => 6 * s.aesCount | 0x24 => 2 * s.tdmCount
  | 0x30 => 15 | 0x31 => 10 | 0x32 => 19 | 0x40 => 11 | 0x41 => 11 | 0x42 => 11 | 0x43 => 11 | 0x50 => 17 | 0x51 => 7
  | 0x60 => 4 | 0x61 => 5 | 0x62 => 26 | 0x63 => 3 | 0x70 => 19 | _ => 0

/-- The counters of a unit, in the order of its chapter; a unit without any has an empty list (log entry 38). -/
def State.unitCounters (unit sel : Nat) (s : State) : Bytes :=
  match unit with
  | 0x01 => le 4 s.port.framing ++ le 4 s.port.hostResets ++ le 4 s.port.crcFails
  | 0x03 => s.eventCounters
  | 0x10 => s.countersOf 0x10 8 12
  | 0x20 => s.screedCounters
  | 0x25 => s.routerCounters (sel == 1)
  | 0x48 => (s.gpio.edges.take (if s.part.package = .g then 32 else 16)).flatMap (le 4)
  | u => s.countersOf u 4 (s.counterCount u)

/-- Check 3 of COUNTERS_GET: CLEAR of unit 0x20 may be there, SELECT of unit 0x25 must (R227, R310). -/
def countersShape (unit : Nat) (l : List Item) : Bool :=
  let op := unit * 256 + 4
  if unit = 0x20 then noItems l || oneItem op 1 l else if unit = 0x25 then oneItem op 1 l else noItems l

/-- R227: CLEAR. -/
def State.clearSlots (v : Nat) (s : State) : State :=
  if bit 0 v then { s with screed := { s.screed with fgMax := 0, bgMin := 0xFFFF } } else s

/-- COUNTERS_GET of a unit (R87). -/
def countersGetOf (unit : Nat) : CmdSpec :=
  { opcode := unit * 256 + 4, role := 1, shape := countersShape unit, absent := fun s _ => s.unitAbsent unit
    body := fun c s =>
      let s := if unit = 0x31 then s.burstOver s.qt else s
      guarded [(decide (1 < c.u 0 1), .badParam)] s
      (reply c.opcode (s.unitCounters unit (c.u 0 1)) (if unit = 0x20 then s.clearSlots (c.u 0 1) else s)) }

/-- COUNTERS_GET (R87): of the unit the packet names. -/
def State.countersGet (s : State) : State := if directoryUnits.contains s.headUnit then (countersGetOf s.headUnit).run s else s

/-- COUNTERS_GET (R87). -/
def execCountersGet (s : State) : Step := .next s.countersGet

end Sys2Proof.Machine
end

