-- ==== Sys2Proof/Machine/Ticks.lean ====
section
/-! DEFINITION. The ticks of Plumb that drive the other units, and the solver's solutions. -/
namespace Sys2Proof.Machine

/-! The measurement tick (R159, R170, R184) -/

/-- Every entry is taken from a queue by its consumer (R98). -/
def Queue.takeAll (depth : Nat) (q : Queue) : Queue :=
  { q with entries := [], consIdx := (q.consIdx + q.entries.length) % depth, consumed := wrap32 (q.consumed + q.entries.length) }

/-- MEASUREMENT_TICK (R24, R159, R173, R177, R184, R274): the latch, then Plumb with the parameters of this MT; Plumb takes what
Q18 holds (R171). `jitter` is what the measured error of the sample tick gains in this MT, 2⁻¹⁶ ns. -/
def State.measurementTick (jitter : Int) (s : State) : State :=
  let k := s.plumb.mtIdx + 1
  let t := k * s.mtPeriod
  if !s.tickRuns 2 t then s
  else
    let s := (({ s.advance t with plumb := { s.plumb with mtIdx := k } }).occur 58 0 []).release .mt
    let s := (s.latchSet.takeResults.modQueue 18 (Queue.takeAll 128)).plumbTick jitter
    s.geometryMt.steerClocks

/-- MEASUREMENT_TICK (R159). -/
def execMeasurementTick (tickError : Int) (s : State) : Step := .next (s.ascending (fun s => s.measurementTick tickError))

/-- SOLUTION_PUBLISHED (R178, R272): Plumb takes the solution, the geometry unit sets its targets, and a first estimate lets the
start-up go on (R15). -/
def State.solutionPublished (v : Solution) (s : State) : State :=
  if s.solves v then (s.takeSolution v).geometryTargets.advanceStart
  else if s.solvesPlace v then (s.takeEpoch v).geometryTargets
  else s

/-- SOLUTION_PUBLISHED (R178). -/
def execSolutionPublished (sol : Solution) (s : State) : Step := .next (s.solutionPublished sol)

/-- SOLVER_LATE (R178, R197): the solution of set n is not published before the MT of set n + 2; that epoch is skipped. -/
def State.solverLate (s : State) : State :=
  let n := wrap32 (s.latchedSeq + 2 ^ 32 - 2)
  if s.power.mode.serves ∧ s.plumb.state ≠ 7 ∧ n ≠ 0 ∧ within 1 (2 ^ 31) (wrap32 (n + 2 ^ 32 - s.plumb.solSeq)) ∧ s.plumb.lateSeq ≠ some n then
    ({ s with plumb := { s.plumb with lateSeq := some n } }.bump 0x13 5).occur 69 0 (le 4 n)
  else s

/-- SOLVER_LATE (R178). -/
def execSolverLate (s : State) : Step := .next s.solverLate

/-! The frame tick (R24, R184, R367) -/

/-- The Omba unit at the tick of frame `f` (R315, R367–R369, R374, R393). -/
def State.cellFrame (f : Nat) (s : State) : State :=
  if s.cellRuns then
    let s := (s.endFrame (f - 1)).wiredFrame f
    if s.wired then s else s.wakeRadio
  else s

/-- FRAME_TICK (R24, R184, R367). -/
def State.frameTick (s : State) : State :=
  let f := s.nextFrameTick
  let t := f * qtFrame
  if !s.tickRuns 1 t || !s.power.mode.frames then s
  else
    let s := ({ s.advance t with plumb := { s.plumb with frameIdx := f } }).occur 57 0 []
    (s.cellFrame f).steerRadio

/-- FRAME_TICK (R24). -/
def execFrameTick (s : State) : Step := .next (s.ascending State.frameTick)

/-! The second tick (R24, R26, R185, R308, R450) -/

/-- R163: after a change of MEAS_PERIOD the MT at second `k` is the first at the new period. -/
def State.rebaseMt (old k : Nat) (s : State) : State :=
  if s.mtPeriod = old then s else { s with plumb := { s.plumb with mtIdx := k * qtSec / s.mtPeriod - 1 } }

/-- R186: a leap second ends at second `k`: UTC_OFFSET follows. The announcement itself stands until the calendar has taken it. -/
def State.leapEnds (k : Nat) (s : State) : State :=
  let p := s.plumb
  if k = p.leapAt then
    if p.leap = 1 then { s with plumb := { p with utcOffset := p.utcOffset + 1 } }
    else if p.leap = 2 then { s with plumb := { p with utcOffset := p.utcOffset - 1 } }
    else s
  else s

/-- R186: no leap second is announced once it has passed (log entry 37). -/
def State.leapPassed (k : Nat) (s : State) : State :=
  if s.plumb.leap ≠ 0 ∧ k = s.plumb.leapAt then { s with plumb := { s.plumb with leap := 0, leapAt := 0 } } else s

/-- R449, R450: the audio PLL retunes to the other family, the audio clocks held. -/
def State.retuneAudio (s : State) : State :=
  ({ s with clocks := { s.clocks with held := true } }.modPll 1 (fun p =>
    if p.state = 5 then { p with thawed := 4 } else if p.state = 0 then p else { p with state := 4 })).bump 0x50 5

/-- FS_CHANGE (R224, R450) at second `k`: `old` is the code of the rate before it. -/
def State.fsChange (old k : Nat) (s : State) : State :=
  let new := s.param 0x2000
  if new = old then s
  else if new % 2 = old % 2 then s.rateChanged (k * s.fs)
  else (s.retuneAudio).rateChanged (ceilDiv ((k * qtSec + qtMs) * s.fs) qtSec)

/-- R197: the second counts as spent in HOLDOVER or HOLDOVER_EXPIRED. -/
def State.countHoldover (s : State) : State := if within 5 6 s.plumb.state then s.bump 0x13 4 else s

/-- What takes effect at a second boundary comes into force (R25, R308, R359, R451, R455, R396). -/
def State.releaseSecond (s : State) : State := ((s.release .second).release .boundary).release .superframe

/-- SECOND_TICK (R24): a tick of second `k`, which is a superframe boundary too. -/
def State.secondWork (k sub : Nat) (s : State) : State :=
  let s1 := s.releaseSecond.rebaseMt s.mtPeriod k
  let s1 := ((s1.leapEnds k).discipline k sub).leapPassed k
  let s1 := { s1 with plumb := { s1.plumb with pulses := s1.plumb.pulses.map (Pulse.load (k * qtSec)) } }
  let s1 := (s1.fsChange (s.param 0x2000) k).audioBoundary k s
  ((s1.planBoundary k).cellBoundary k).countHoldover.superframe

/-- SECOND_TICK (R24): `sub` is the RTC's phase, in cycles of 1/32,768 s (R185). -/
def State.secondTick (sub : Nat) (s : State) : State :=
  let k := s.plumb.secIdx + 1
  let t := k * qtSec
  if !s.tickRuns 0 t then s
  else (({ s.advance t with plumb := { s.plumb with secIdx := k } }).occur 56 0 []).secondWork k sub

/-- SECOND_TICK (R24). -/
def execSecondTick (rtcSubsec : Fin 32768) (s : State) : Step := .next (s.ascending (fun s => s.secondTick rtcSubsec.val))

end Sys2Proof.Machine
end

