-- ==== Sys2Proof/Machine/TrowelIo.lean ====
section
/-! DEFINITION. The Trowel-H I/O space: its registers, the queue ports, the I/O instructions, interrupts and traps. -/
namespace Sys2Proof.Machine

/-! Interrupts (R409) -/

/-- R409: vector `v` is pending. -/
def State.vectorPending (v : Nat) (s : State) : Bool :=
  s.events.any (fun e => e.toTh && e.stat && bits 10 8 e.cfg == v)

/-- PENDING, bit per vector. -/
def State.pendingByte (s : State) : Nat :=
  ((List.range 8).map (fun v => if s.vectorPending v then 2 ^ v else 0)).foldl (· + ·) 0

/-- R409, R417: vector `v` is one that would be taken with IE at 1. -/
def State.takable (v : Nat) (s : State) : Bool :=
  s.vectorPending v && decide (s.trowelH.isr < 2 ^ v) && (decide (2 ≤ v) || s.applet.running)

/-- The highest vector that would be taken. -/
def State.nextVector (s : State) : Option Nat := [7, 6, 5, 4, 3, 2, 1, 0].find? (fun v => s.takable v)

/-- R110: sources that reach Trowel-S whatever their EV_CFG. -/
def alwaysToTs (n : Nat) : Bool := decide (n ≤ 6) || n == 9 || n == 11 || within 114 119 n

/-- R110, R111: source `n` is routed to Trowel-S; ENABLE does not mask it. -/
def State.toTs (n : Nat) (s : State) : Bool := alwaysToTs n || bit 2 (s.event n).cfg

/-- R111: the Trowel-S interrupt on TS_VEC `v`, held while STAT is 1. -/
def State.tsInterrupt (v : Nat) (s : State) : Bool :=
  (List.range 128).any (fun n => s.toTs n && (s.event n).stat && bits 7 5 (s.event n).cfg == v)

/-- The highest vector that core `c` would take, IE aside (R409, R413). -/
def State.vectorOf (c : Nat) (s : State) : Option Nat :=
  if c = 0 then s.nextVector
  else [7, 6, 5, 4, 3, 2, 1, 0].find? (fun v => s.tsInterrupt v && decide (s.trowelS.isr < 2 ^ v))

/-- A vector waits that core `c` would take, IE aside (R413). -/
def State.vectorWaits (c : Nat) (s : State) : Bool := (s.vectorOf c).isSome

/-- R409: the vector that core `c` takes at this instruction boundary. -/
def State.vectorNow (c : Nat) (s : State) : Option Nat :=
  let t := s.core c
  if t.loaded && !t.halted && t.ie && !(t.waiting && t.pwrMode != 0) then s.vectorOf c else none

/-- R409: core `c` takes vector `v`, once a WAIT that it ends has completed. -/
def State.takeVector (c v : Nat) (s : State) : State :=
  let t := (s.core c).endWait
  if 64 ≤ t.rs.length then (s.setCore c t).takeTrap c 4
  else s.setCore c { t with
    rs := rsEntry t.priv t.cbank t.pc :: t.rs, isr := t.isr + 2 ^ v, cbank := 0, pc := 8 + 4 * v }

/-- R417: where Trowel-H stands at the start of vector 0 or 1, the address of the applet that firmware calls from there. -/
def State.appletVector (s : State) : Option Nat :=
  let t := s.trowelH
  let at_ := fun v entry => t.cbank == 0 && t.pc == 8 + 4 * v && Nat.log2 t.isr == v && t.isr != 0 && entry != 0xFFFF
  if !s.applet.running || !t.mayCall then none
  else if at_ 0 s.applet.vec0 then some s.applet.vec0
  else if at_ 1 s.applet.vec1 then some s.applet.vec1
  else none

/-- R417: firmware's handler of vector 0 or 1 calls the applet; where in firmware the call returns to is firmware's own, so free. -/
def State.callVector (a : Nat) (s : State) : State :=
  let t := { s.trowelH with pc := Config.freeNat s.freeTick % 65536 }
  { s.draw with trowelH := t.callApplet 6 a s.applet.spill [] }

/-- VECTOR_TAKEN (R409, R111, R417): Trowel-H takes its vector, or its firmware calls the applet for vector 0 or 1; where it has none,
Trowel-S takes its own (log entry 138). -/
def execVectorTaken (s : State) : Step :=
  .next (match s.vectorNow 0, s.appletVector, s.vectorNow 1 with
    | some v, _, _ => s.takeVector 0 v
    | none, some a, _ => s.callVector a
    | none, none, some v => s.takeVector 1 v
    | none, none, none => s)

/-! Queue ports (R416) -/

/-- PUSH_DATA: one byte to the producer cell; beyond CELL it is discarded. -/
def Queue.append (cell : Nat) (b : Byte) (q : Queue) : Queue := if q.cell.length < cell then { q with cell := q.cell ++ [b] } else q

/-- PUSH_LEN (R97, R416): the producer cell is offered as an entry of `len` bytes. -/
def State.pushLen (n len : Nat) (s : State) : State :=
  let cell := (s.queue n).cell
  if len = 0 ∨ queueCell n < len ∨ cell.length < len then
    ((s.modQueue n (fun q => { q with cell := [] })).modQueue n Queue.reject).dropEvents n
  else if waitQueue n then (s.modQueue n (fun q => { q with cell := [] })).offerWait n (cell.take len)
  else (s.modQueue n (fun q => { q with cell := [] })).offerAny n (cell.take len)

/-- POP_DATA (R416): the next byte of the head entry. -/
def Queue.nextByte (q : Queue) : Nat :=
  match q.entries with
  | [] => 0
  | e :: _ => (e.data.getD q.popPos 0).toNat

/-- The read position advances within the head entry. -/
def Queue.popAdvance (q : Queue) : Queue :=
  match q.entries with
  | [] => q
  | e :: _ => if q.popPos < e.data.length then { q with popPos := q.popPos + 1 } else q

/-- POP_RELEASE (R416): the head entry is consumed. -/
def State.popRelease (n : Nat) (s : State) : State := if n = 1 then s.consumeReply else s.consume n

/-! Register rows (R11, R109, R414, R416) -/

/-- PUSH_DATA (R416). -/
def execPushData (q : Fin 32) (value : Byte) (s : State) : Step :=
  .next (s.modQueue q.val (Queue.append (queueCell q.val) value))

/-- PUSH_LEN (R416): the write of its high byte, `len` being both bytes. -/
def execPushLen (q : Fin 32) (len : BitVec 16) (s : State) : Step := .next (s.pushLen q.val len.toNat)

/-- POP_DATA (R416): a read. -/
def execPopData (q : Fin 32) (s : State) : Step := .next (s.modQueue q.val Queue.popAdvance)

/-- POP_RELEASE (R416): writing 1. -/
def execPopRelease (q : Fin 32) (value : Byte) (s : State) : Step :=
  .next (if value = 1 then s.popRelease q.val else s)

/-- A write of 1s to STAT byte `k` (R109). -/
def State.writeStat (k v : Nat) (s : State) : State :=
  { s with events := s.events.mapIdx (fun n e => if n / 8 = k ∧ bit (n % 8) v then { e with stat := false } else e) }

/-- STAT (R109). -/
def execStat (index : Fin 16) (value : Byte) (s : State) : Step := .next (s.writeStat index.val value.toNat)

/-- SW_RAISE (R414): the selected software events occur, in ascending order (R112). -/
def State.swRaise (v : Nat) : Nat → State → State
  | 0, s => s
  | n + 1, s =>
    let s := State.swRaise v n s
    if bit n v then s.occurFree (120 + n) else s

/-- SW_RAISE (R414). -/
def execSwRaise (value : Byte) (s : State) : Step := .next (s.swRaise value.toNat 8)

/-- QT_SNAP (R414). -/
def State.snapQt (s : State) : State := { s with trowelH := { s.trowelH with qtSnap := qtBytes s.qt } }

/-- QT_SNAP (R414). -/
def execQtSnap (s : State) : Step := .next s.snapQt

/-! The I/O map (R414, R415) -/

/-- Byte `k` of a value. -/
def byteOf (k v : Nat) : Nat := v / 256 ^ k % 256

/-- A value with byte `k` replaced. -/
def setByte (k b v : Nat) : Nat := v - byteOf k v * 256 ^ k + b % 256 * 256 ^ k

/-- R415: CORE_STATUS. -/
def Trowel.coreStatus (t : Trowel) : Nat := 128 * b01 t.inApplet + 64 * b01 t.trapActive + 32 * b01 t.wake + t.cbank

/-- A byte of a loop level's registers. -/
def LoopLevel.byte (k : Nat) (v : LoopLevel) : Nat :=
  match k with
  | 0 | 1 => byteOf k v.ls
  | 2 | 3 => byteOf (k - 2) v.le
  | 4 | 5 => byteOf (k - 4) v.lc
  | 6 => 128 * b01 v.armed + v.prio
  | _ => 0

/-- A write to a loop level's registers; OWNER is read only. -/
def LoopLevel.put (k b : Nat) (v : LoopLevel) : LoopLevel :=
  match k with
  | 0 | 1 => { v with ls := setByte k b v.ls }
  | 2 | 3 => { v with le := setByte (k - 2) b v.le }
  | 4 | 5 => { v with lc := setByte (k - 4) b v.lc }
  | _ => v

/-- A core register below 0x0100. -/
def State.coreRead (a : Nat) (s : State) : Nat :=
  let t := s.trowelH
  if within 0x20 0x37 a then (t.loops.getD ((a - 0x20) / 8) {}).byte (a % 8)
  else if within 0x51 0x5A a then (t.qtSnap.getD (a - 0x51) 0).toNat
  else match a with
  | 0x00 => t.coreStatus
  | 0x02 => t.stack.length
  | 0x04 | 0x05 => byteOf (a - 4) t.dsSpill
  | 0x06 | 0x07 => byteOf (a - 6) t.dsBase
  | 0x08 | 0x09 => byteOf (a - 8) t.dsLimit
  | 0x0A => t.rs.length
  | 0x0C => 128 * b01 t.ie
  | 0x0D => t.isr
  | 0x0E => s.pendingByte
  | 0x10 => t.trapCause
  | 0x11 => t.trapBank
  | 0x12 | 0x13 => byteOf (a - 0x12) t.trapPc
  | 0x18 => t.pwrMode
  | 0x19 => 128 * b01 t.pwrValid + t.pwrResult
  | 0x1A => t.pwrRefuser
  | 0x38 | 0x39 => byteOf (a - 0x38) t.crc16
  | 0x3A => b01 t.reflect
  | 0x3C | 0x3D | 0x3E | 0x3F => byteOf (a - 0x3C) t.crc32
  | 0x40 => 0x70
  | _ => 0

/-- A queue-port register (R416): its value. -/
def State.portRead (n r : Nat) (s : State) : Nat :=
  let q := s.queue n
  let len := match q.entries with | [] => 0 | e :: _ => e.data.length
  match r with
  | 4 | 5 => byteOf (r - 4) len
  | 6 => q.nextByte
  | 8 | 9 => byteOf (r - 8) q.entries.length
  | 10 | 11 => byteOf (r - 10) (queueDepth n - q.entries.length)
  | _ => 0

/-- A read of the I/O space, with what it does (R414); reserved addresses read 0 (R10). -/
def State.ioRead (a : Nat) (s : State) : TR (Nat × State) :=
  if within 0x2000 0xEFFF a then .error (.unpublished a)
  else if a < 0x100 then .ok (s.coreRead a, s)
  else if within 0x100 0x10F a then
    .ok (((List.range 8).map (fun k => if (s.event (8 * (a - 0x100) + k)).stat then 2 ^ k else 0)).foldl (· + ·) 0, s)
  else if within 0x200 0x2FF a then .ok (byteOf (a % 2) (s.event ((a - 0x200) / 2)).cfg, s)
  else if within 0x400 0x5FF a then .ok (byteOf (a % 4) (s.event ((a - 0x400) / 4)).occur, s)
  else if within 0x1000 0x13FF a then
    let n := (a - 0x1000) / 32
    .ok (s.portRead n (a % 32), if a % 32 = 6 then s.modQueue n Queue.popAdvance else s)
  else .ok (0, s)

/-- A write to a core register below 0x0100, by its access code (R11, R415). -/
def State.coreWrite (a v : Nat) (s : State) : State :=
  let t := s.trowelH
  let put := fun (t : Trowel) => { s with trowelH := t }
  if within 0x20 0x37 a then put { t with loops := modAt ((a - 0x20) / 8) (LoopLevel.put (a % 8) v) t.loops }
  else match a with
  | 0x00 => if bit 6 v then put { t with trapActive := false } else s
  | 0x04 | 0x05 => put { t with dsSpill := setByte (a - 4) v t.dsSpill }
  | 0x06 | 0x07 => put { t with dsBase := setByte (a - 6) v t.dsBase }
  | 0x08 | 0x09 => put { t with dsLimit := setByte (a - 8) v t.dsLimit }
  | 0x0C => put { t with ie := bit 7 v }
  | 0x18 => put { t with pwrMode := v % 4 }
  | 0x19 => if bit 7 v then put { t with pwrValid := false } else s
  | 0x38 | 0x39 => put { t with crc16 := setByte (a - 0x38) v t.crc16 }
  | 0x3A => put { t with reflect := bit 0 v }
  | 0x3C | 0x3D | 0x3E | 0x3F => put { t with crc32 := setByte (a - 0x3C) v t.crc32 }
  | 0x50 => s.snapQt
  | _ => s

/-- A write to a queue-port register (R416). -/
def State.portWrite (n r v : Nat) (s : State) : State :=
  match r with
  | 0 => s.modQueue n (Queue.append (queueCell n) (BitVec.ofNat 8 v))
  | 2 => s.modQueue n (fun q => { q with lenLow := v % 256 })
  | 3 => s.pushLen n ((s.queue n).lenLow + 256 * (v % 256))
  | 7 => if v = 1 then s.popRelease n else s
  | _ => s

/-- A write to the I/O space (R414); reserved addresses ignore it. -/
def State.ioWrite (a v : Nat) (s : State) : TR State :=
  if within 0x2000 0xEFFF a then .error (.unpublished a)
  else if a < 0x100 then .ok (s.coreWrite a v)
  else if within 0x100 0x10F a then .ok (s.writeStat (a - 0x100) v)
  else if a = 0x110 then .ok (s.swRaise v 8)
  else if within 0x200 0x2FF a then
    let n := (a - 0x200) / 2
    .ok (s.setEvCfg n (setByte (a % 2) v (s.event n).cfg))
  else if within 0x1000 0x13FF a then .ok (s.portWrite ((a - 0x1000) / 32) (a % 32) v)
  else .ok s

/-- REGISTER_WRITE (R11): a write by firmware to a register that has no row of its own. -/
def execRegisterWrite (address : BitVec 16) (value : Byte) (s : State) : Step :=
  trowelStep 0 s (s.ioWrite address.toNat value.toNat)

/-! I/O instructions (R405, R417) -/

/-- R414: I/O addresses an applet may read. -/
def appletReads (a : Nat) : Bool :=
  a == 0 || a == 2 || within 4 0x0A a || within 0x0C 0x0E a || within 0x20 0x40 a ||
  within 0x50 0x5A a || a == 0x10F || within 0x400 0x5FF a ||
  (within 0x1000 0x13FF a && [6, 7, 31].contains ((a - 0x1000) / 32))

/-- R414: I/O addresses an applet may write: loop registers of its own levels only. -/
def Trowel.appletWrites (a : Nat) (t : Trowel) : Bool :=
  (within 0x20 0x37 a && (let v := t.loops.getD ((a - 0x20) / 8) {}; v.armed && v.prio == t.prio)) ||
  within 0x38 0x3F a || within 0x50 0x5A a || a == 0x10F || a == 0x110 ||
  (within 0x1000 0x13FF a && [6, 7, 31].contains ((a - 0x1000) / 32))

/-- A read by an instruction: Trowel-S's own map is not published (R400). -/
def State.instrRead (c a : Nat) (s : State) : TR (Nat × State) :=
  if c ≠ 0 then .error (.unpublished a)
  else if s.trowelH.inApplet && !appletReads (a % 65536) then trapOut 6
  else s.ioRead (a % 65536)

/-- A write by an instruction. -/
def State.instrWrite (c a v : Nat) (s : State) : TR State :=
  if c ≠ 0 then .error (.unpublished a)
  else if s.trowelH.inApplet && !s.trowelH.appletWrites (a % 65536) then trapOut 6
  else s.ioWrite (a % 65536) v

/-- Pop a byte of a core. -/
def State.popB (c : Nat) (s : State) : TR (Nat × State) := do
  let (b, t) ← (s.core c).pop
  pure (b, s.setCore c t)

/-- Pop a word of a core. -/
def State.popW (c : Nat) (s : State) : TR (Nat × State) := do
  let (w, t) ← (s.core c).popW
  pure (w, s.setCore c t)

/-- Push a byte on a core. -/
def State.pushB (c b : Nat) (s : State) : TR State := do
  let t ← (s.core c).push b
  pure (s.setCore c t)

/-- Push a word on a core. -/
def State.pushW (c w : Nat) (s : State) : TR State := do
  let t ← (s.core c).pushW w
  pure (s.setCore c t)

/-- IN ( a -- b ) -/
def effIn : CoreOp := fun c _ s => do
  let (a, s) ← s.popW c
  let (v, s) ← s.instrRead c a
  s.pushB c v
/-- OUT ( b a -- ) -/
def effOut : CoreOp := fun c _ s => do
  let (a, s) ← s.popW c
  let (b, s) ← s.popB c
  s.instrWrite c a b
/-- INA ( -- b ) -/
def effIna : CoreOp := fun c i s => do
  let (v, s) ← s.instrRead c i
  s.pushB c v
/-- OUTA ( b -- ) -/
def effOuta : CoreOp := fun c i s => do
  let (b, s) ← s.popB c
  s.instrWrite c i b
/-- INW ( -- w ): low byte at imm2, high byte at imm2 + 1 -/
def effInw : CoreOp := fun c i s => do
  let (l, s) ← s.instrRead c i
  let (h, s) ← s.instrRead c (i + 1)
  s.pushW c (l + 256 * h)
/-- OUTW ( w -- ) -/
def effOutw : CoreOp := fun c i s => do
  let (w, s) ← s.popW c
  let s ← s.instrWrite c i (w % 256)
  s.instrWrite c (i + 1) (w / 256)

/-- IN (R405). -/
def execInIo (core : Fin 2) (s : State) : Step := trowelRow (isOp 0x50) effIn core.val s
/-- OUT (R405). -/
def execOutIo (core : Fin 2) (s : State) : Step := trowelRow (isOp 0x51) effOut core.val s
/-- INA (R405). -/
def execIna (core : Fin 2) (s : State) : Step := trowelRow (isOp 0x52) effIna core.val s
/-- OUTA (R405). -/
def execOuta (core : Fin 2) (s : State) : Step := trowelRow (isOp 0x53) effOuta core.val s
/-- INW (R405). -/
def execInw (core : Fin 2) (s : State) : Step := trowelRow (isOp 0x54) effInw core.val s
/-- OUTW (R405). -/
def execOutw (core : Fin 2) (s : State) : Step := trowelRow (isOp 0x55) effOutw core.val s

/-! WAIT (R413) -/

/-- WAIT with MODE 0: it ends where a vector is pending that R409 would take, IE or not; otherwise the
clock is gated. -/
def effWaitIdle : CoreOp := fun c _ s =>
  if s.vectorWaits c then .ok s
  else .ok (s.setCore c { s.core c with pc := ((s.core c).pc + 65535) % 65536, waiting := true })

/-- WAIT_IDLE (R413): also the row that ends the wait. -/
def execWaitIdle (core : Fin 2) (s : State) : Step :=
  let t := s.core core.val
  if t.pwrMode ≠ 0 ∨ !t.loaded ∨ t.halted ∨ !t.bankPresent t.cbank ∨ t.opcode ≠ 0x9E then .next s
  else trowelRow (isOp 0x9E) effWaitIdle core.val (s.setCore core.val { t with waiting := false })

end Sys2Proof.Machine
end

