-- ==== Sys2Proof/Machine/TrowelSys.lean ====
section
/-! DEFINITION. The applet's side of Trowel-H: its registered opcodes, the SYS services, its handlers' time limit, and the row
that takes a trap. -/
namespace Sys2Proof.Machine

/-! Registered opcodes (R419) -/

/-- The table entry of a registered opcode: OPCODE, ROLE, BANK, HANDLER, JOURNAL. -/
def State.appletEntry (op : Nat) (s : State) : Option (Nat × Nat × Nat × Nat × Bool) :=
  if s.applet.running then s.applet.table.find? (fun e => e.1 == op) else none

/-- R417, R419: firmware calls the handler with the address and length of the payload, which it puts at `at_`. -/
def Cmd.callHandler (c : Cmd) (bank handler at_ limit : Nat) (s : State) : Result :=
  let payload := itemBytes c.items
  let t := (s.trowelH.putBytes at_ payload).callApplet bank handler s.applet.spill [at_, payload.length]
  let e : Executing :=
    { opcode := c.opcode, ticket := c.ticket s, role := c.role, keyId := c.keyId, due := s.up + limit, depth := t.rs.length }
  { status := .ok, deferred := true, state := { s with trowelH := t, executing := some e } }

/-- R419: a handler's limit, 58 ms with JOURNAL and 18 ms without. -/
def handlerLimit (journal : Bool) : Nat := (if journal then 58 else 18) * qtMs

/-- How a registered opcode is checked (R419). -/
def appletCommand (e : Nat × Nat × Nat × Nat × Bool) (at_ : Nat) : CmdSpec :=
  { opcode := e.1, role := e.2.1, journals := e.2.2.2.2, shape := fun _ => true
    body := fun c s => c.callHandler e.2.2.1 e.2.2.2.1 at_ (handlerLimit e.2.2.2.2) s }

/-- The opcode of the packet at the head of Q00. -/
def State.headOpcode (s : State) : Nat := match (s.queue 0).entries with | e :: _ => (parsePacket e.data).opcode | [] => 0

/-- APPLET_OPCODE (R419): where firmware is in a place to call the applet. -/
def State.takeAppletOpcode (at_ : Nat) (s : State) : State :=
  match s.appletEntry s.headOpcode with
  | none => s
  | some e => if s.trowelH.mayCall then (appletCommand e at_).run s else s

/-- APPLET_OPCODE (R419). -/
def execAppletOpcode (payloadAt : BitVec 16) (s : State) : Step := .next (s.takeAppletOpcode payloadAt.toNat)

/-- HANDLER_TIME_LIMIT (R419, R421): a handler whose limit has passed is abandoned and the applet stops. -/
def execHandlerTimeLimit (s : State) : Step :=
  .next (if s.executing.any (fun e => decide (e.due ≤ s.up)) then s.stopApplet 0x0B else s)

/-! SYS services (R420) -/

/-- R420: SYS services that exist. -/
def sysService (n : Nat) : Bool := within 1 7 n

/-- `n` bytes that the running code may read from `a`. -/
def Trowel.loadBytes (a : Nat) : Nat → Trowel → TR Bytes
  | 0, _ => .ok []
  | n + 1, t => do
    let b ← t.load a
    let r ← Trowel.loadBytes (a + 1) n t
    pure (BitVec.ofNat 8 b :: r)

/-- Store bytes where the running code may write. -/
def Trowel.storeBytes (a : Nat) : Bytes → Trowel → TR Trowel
  | [], t => .ok t
  | b :: r, t => do
    let t ← t.store a b.toNat
    Trowel.storeBytes (a + 1) r t

/-- The payload bytes a reply has beyond STATUS (R71, R75). -/
def replyRoom : Nat := 4093

/-- An item joins the reply of the command being handled; one that would not fit is left out (log entry 41). -/
def Executing.addItem (i : Item) (e : Executing) : Executing :=
  if e.items.length + 4 + i.value.length ≤ replyRoom then { e with items := e.items ++ i.bytes } else e

/-- REPLY_ITEM ( a w id -- ) -/
def effReplyItem : CoreOp := fun c _ s => do
  let (id, s) ← s.popW c
  let (w, s) ← s.popW c
  let (a, s) ← s.popW c
  let v ← (s.core c).loadBytes a w
  pure { s with executing := s.executing.map (Executing.addItem { id := id, value := v }) }

/-- The command being handled, as a parameter command of the parameter's unit; none leaves no role (R420). -/
def State.sysCommand (id : Nat) (items : List Item) (s : State) : Cmd :=
  match s.executing with
  | some e => { opcode := id / 256 * 256 + 2, seq := e.ticket.seq, session := e.ticket.session, role := e.role, keyId := e.keyId, items := items }
  | none => { opcode := id / 256 * 256 + 2, seq := 0, session := 1, role := 0, keyId := 0, items := items }

/-- R420: what PARAM_GET of an applet is refused with. -/
def State.sysGetStatus (id : Nat) (s : State) : Status :=
  if s.unitAbsent (id / 256) || s.portParamAbsent id then .deniedVariant
  else if (paramSpec id).isNone then .badParam
  else .ok

/-- PARAM_GET ( a id -- status ) -/
def effSysParamGet : CoreOp := fun c _ s => do
  let (id, s) ← s.popW c
  let (a, s) ← s.popW c
  let st := s.sysGetStatus id
  let t ← if st = .ok then (s.core c).storeBytes a (s.paramItem id (s.shownParam id)).value else .ok (s.core c)
  (s.setCore c t).pushW c st.code

/-- A tag of what the reply's consumption sets going joins the command being handled (R94). -/
def State.tagReply (tag : ReplyTag) (s : State) : State :=
  if tag = .none then s else { s with executing := s.executing.map (fun e => { e with tag := tag }) }

/-- R420: the checks of one PARAM_SET of an applet, then its record and its value. -/
def State.sysSet (ok : Bool) (id : Nat) (v : Bytes) (s : State) : Status × State :=
  let i : Item := { id := id, value := v }
  let c := s.sysCommand id [i]
  match firstBad (c.paramAccess true s ++ c.paramValues [(id, ofLE v)] s) (paramItems [] [i]) with
  | some (st, _) => (st, s)
  | none =>
    let r := c.setParams ok s
    (r.status, r.state.tagReply r.tag)

/-- PARAM_SET ( a id -- status ) -/
def effSysParamSet (ok : Bool) : CoreOp := fun c _ s => do
  let (id, s) ← s.popW c
  let (a, s) ← s.popW c
  let v ← (s.core c).loadBytes a (paramBytes id)
  let r := s.sysSet ok id v
  r.2.pushW c r.1.code

/-- R420: an applet record of 1–32 bytes, of KIND 5, under the opcode being handled (log entry 41). -/
def State.sysRecord (ok : Bool) (v : Bytes) (s : State) : Status × State :=
  if !within 1 32 v.length then (.outOfRange, s)
  else if !s.power.holdReady then (.notReady, s)
  else
    let c := s.sysCommand 0 []
    s.journalAppend ok 5 c.role c.keyId ((s.executing.map (·.opcode)).getD 0) [] v

/-- JOURNAL ( a w -- status ) -/
def effSysJournal (ok : Bool) : CoreOp := fun c _ s => do
  let (w, s) ← s.popW c
  let (a, s) ← s.popW c
  let v ← (s.core c).loadBytes a w
  let r := s.sysRecord ok v
  r.2.pushW c r.1.code

/-- R55, R420, R422: GPIO_WRITE of the operator. -/
def State.sysGpio (w mask : Nat) (s : State) : Status × State :=
  if !onlyBits s.gpioBonded mask then (.deniedVariant, s)
  else match s.gpioRefusal mask with
    | some st => (st, s)
    | none => (.ok, s.gpioSet w mask)

/-- Pop the 32 bits of GPIO0–GPIO31 as GPIO_READ pushes them: GPIO16–GPIO31 on top (R420, log entry 41). -/
def State.popGpios (c : Nat) (s : State) : TR (Nat × State) := do
  let (h, s) ← s.popW c
  let (l, s) ← s.popW c
  pure (l + 65536 * h, s)

/-- GPIO_WRITE ( w mask -- status ), each of 32 bits -/
def effSysGpioWrite : CoreOp := fun c _ s => do
  let (mask, s) ← s.popGpios c
  let (w, s) ← s.popGpios c
  let r := s.sysGpio w mask
  r.2.pushW c r.1.code

/-- GPIO_READ ( -- w w ): GPIO0–GPIO15, then GPIO16–GPIO31 on top -/
def effSysGpioRead : CoreOp := fun c _ s => do
  let l := Nat.land s.gpio.raw s.gpioBonded
  let s ← s.pushW c (l % 65536)
  s.pushW c (l / 65536)

/-- R420, R486: an event-log record of kind 0x10; its UNIT is not stated. -/
def State.sysLogged (v : Bytes) (s : State) : Status × State :=
  if 16 < v.length then (.outOfRange, s) else (.ok, s.draw.log (Config.freeNat s.freeTick % 256) 0x10 v)

/-- LOG ( a w -- status ) -/
def effSysLog : CoreOp := fun c _ s => do
  let (w, s) ← s.popW c
  let (a, s) ← s.popW c
  let v ← (s.core c).loadBytes a w
  let r := s.sysLogged v
  r.2.pushW c r.1.code

/-- The effect of a SYS service; the outcome of a write to non-volatile memory does not decide a trap. -/
def sysEffect (n : Nat) : Option CoreOp :=
  match n with
  | 1 => some effReplyItem
  | 2 => some effSysParamGet
  | 3 => some (effSysParamSet true)
  | 4 => some (effSysJournal true)
  | 5 => some effSysGpioWrite
  | 6 => some effSysGpioRead
  | 7 => some effSysLog
  | _ => none

/-- The row of a SYS service: where the applet is about to execute SYS with that number. -/
def sysRow (n : Nat) (f : CoreOp) (s : State) : Step :=
  if s.trowelH.inApplet && s.trowelH.imm == n then trowelRow (isOp 0x9B) f 0 s else .next s

/-- REPLY_ITEM (R420). -/
def execReplyItem (s : State) : Step := sysRow 1 effReplyItem s
/-- SYS_PARAM_GET (R420). -/
def execSysParamGet (s : State) : Step := sysRow 2 effSysParamGet s
/-- SYS_PARAM_SET (R420). -/
def execSysParamSet (nvOk : Bool) (s : State) : Step := sysRow 3 (effSysParamSet nvOk) s
/-- SYS_JOURNAL (R420). -/
def execSysJournal (nvOk : Bool) (s : State) : Step := sysRow 4 (effSysJournal nvOk) s
/-- SYS_GPIO_WRITE (R420). -/
def execSysGpioWrite (s : State) : Step := sysRow 5 effSysGpioWrite s
/-- SYS_GPIO_READ (R420). -/
def execSysGpioRead (s : State) : Step := sysRow 6 effSysGpioRead s
/-- SYS_LOG (R420). -/
def execSysLog (s : State) : Step := sysRow 7 effSysLog s

/-! The row that takes a trap (R410) -/

/-- The instruction at PC stops with a trap whatever the state outside the core and the I/O space is:
an absent bank, a reserved opcode, SYS out of place or unknown, a power mode not permitted. -/
def State.plainTrap (c : Nat) (s : State) : Option Nat :=
  let t := s.core c
  if !t.bankPresent t.cbank then some 6
  else if (immBytes t.opcode).isNone then some 1
  else if t.opcode = 0x9B then (if !t.inApplet || !sysService t.imm then some 1 else none)
  else if t.opcode = 0x9E then (if t.pwrMode ≠ 0 && t.inApplet then some 0x0A else none)
  else none

/-- The effect of the instruction at PC, where the model's table of effects has one. -/
def State.effectAt (c : Nat) (s : State) : Option CoreOp :=
  let t := s.core c
  let op := t.opcode
  if op = 0x9B then sysEffect t.imm
  else if within 0x50 0x55 op then
    match op with
    | 0x50 => some effIn | 0x51 => some effOut | 0x52 => some effIna | 0x53 => some effOuta | 0x54 => some effInw
    | _ => some effOutw
  else if 0xF0 ≤ op ∧ op % 4 = 2 then
    if bits 3 2 op = 3 then some (fun _ _ _ => trapOut 7)
    else match t.stack with
      | [] => some (fun _ _ _ => trapOut 3)
      | k :: _ => (cpEffect (bits 3 2 op) k).map onCore
  else coreEffect op

/-- The cause of the trap the instruction at PC takes, if it takes one. -/
def State.trapCause (c : Nat) (s : State) : Option Nat :=
  match s.plainTrap c with
  | some n => some n
  | none => match s.effectAt c with
    | none => none
    | some f => match trowelDo c f s with
      | .error (.trap n) => some n
      | _ => none

/-- TRAP (R410): the instruction at PC traps; otherwise this is not the part's next step. -/
def execTrap (core : Fin 2) (s : State) : Step :=
  if !(s.core core.val).runs then .next s
  else match s.trapCause core.val with
  | some n => .next (s.takeTrap core.val n)
  | none => .next s

end Sys2Proof.Machine
end

