-- ==== Sys2Proof/Machine/Dispatch.lean ====
section
/-! DEFINITION. The dispatch: one arm per command. -/
namespace Sys2Proof.Machine

def exec (i : Instr) (s : State) : Host.Outcome State Fault Refusal :=
  match i with
  | .writeQueue n data => Sys2Proof.Machine.execWriteQueue n data s
  | .readQueue n clocked => Sys2Proof.Machine.execReadQueue n clocked s
  | .readStatus => Sys2Proof.Machine.execReadStatus s
  | .address a => Sys2Proof.Machine.execAddress a s
  | .portReset => Sys2Proof.Machine.execPortReset s
  | .unknownPortCommand raw => Sys2Proof.Machine.execUnknownPortCommand raw s
  | .hpRstN lowNs => Sys2Proof.Machine.execHpRstN lowNs s
  | .hostPortResetDone => Sys2Proof.Machine.execHostPortResetDone s
  | .identityGet => Sys2Proof.Machine.execIdentityGet s
  | .modeSet => Sys2Proof.Machine.execModeSet s
  | .deviceReset => Sys2Proof.Machine.execDeviceReset s
  | .echo => Sys2Proof.Machine.execEcho s
  | .sessionChallenge => Sys2Proof.Machine.execSessionChallenge s
  | .sessionOpen => Sys2Proof.Machine.execSessionOpen s
  | .sessionClose => Sys2Proof.Machine.execSessionClose s
  | .sessionList => Sys2Proof.Machine.execSessionList s
  | .resultRead => Sys2Proof.Machine.execResultRead s
  | .resultRelease => Sys2Proof.Machine.execResultRelease s
  | .portStatusClear => Sys2Proof.Machine.execPortStatusClear s
  | .paramGet => Sys2Proof.Machine.execParamGet s
  | .paramSet nvOk => Sys2Proof.Machine.execParamSet nvOk s
  | .statusGet subsec figures => Sys2Proof.Machine.execStatusGet subsec figures s
  | .countersGet => Sys2Proof.Machine.execCountersGet s
  | .sessionIdleClosed n => Sys2Proof.Machine.execSessionIdleClosed n s
  | .nonceExpiry n => Sys2Proof.Machine.execNonceExpiry n s
  | .authLockoutExpiry => Sys2Proof.Machine.execAuthLockoutExpiry s
  | .appletOpcode payloadAt => Sys2Proof.Machine.execAppletOpcode payloadAt s
  | .queueStatusGet => Sys2Proof.Machine.execQueueStatusGet s
  | .queueFlush => Sys2Proof.Machine.execQueueFlush s
  | .eventRouteSet nvOk => Sys2Proof.Machine.execEventRouteSet nvOk s
  | .eventClear => Sys2Proof.Machine.execEventClear s
  | .dmaProgramLoad nvOk => Sys2Proof.Machine.execDmaProgramLoad nvOk s
  | .dmaStart => Sys2Proof.Machine.execDmaStart s
  | .dmaStop => Sys2Proof.Machine.execDmaStop s
  | .dmaMove ch => Sys2Proof.Machine.execDmaMove ch s
  | .dmaFill ch => Sys2Proof.Machine.execDmaFill ch s
  | .dmaCmp ch => Sys2Proof.Machine.execDmaCmp ch s
  | .dmaLoop ch => Sys2Proof.Machine.execDmaLoop ch s
  | .dmaWaitLine ch => Sys2Proof.Machine.execDmaWaitLine ch s
  | .dmaWaitEvent ch => Sys2Proof.Machine.execDmaWaitEvent ch s
  | .dmaWaitQueueData ch => Sys2Proof.Machine.execDmaWaitQueueData ch s
  | .dmaWaitQueueRoom ch => Sys2Proof.Machine.execDmaWaitQueueRoom ch s
  | .dmaWaitDone ch => Sys2Proof.Machine.execDmaWaitDone ch s
  | .dmaSignalRaise ch => Sys2Proof.Machine.execDmaSignalRaise ch s
  | .dmaSignalCommit ch => Sys2Proof.Machine.execDmaSignalCommit ch s
  | .dmaSignalConsume ch => Sys2Proof.Machine.execDmaSignalConsume ch s
  | .dmaEnd ch => Sys2Proof.Machine.execDmaEnd ch s
  | .dmaBurst ch secded writeError => Sys2Proof.Machine.execDmaBurst ch secded writeError s
  | .dmaDrainDone ch => Sys2Proof.Machine.execDmaDrainDone ch s
  | .gpioWrite => Sys2Proof.Machine.execGpioWrite s
  | .gpioRead => Sys2Proof.Machine.execGpioRead s
  | .gpioEdge level => Sys2Proof.Machine.execGpioEdge level s
  | .resetN lowNs => Sys2Proof.Machine.execResetN lowNs s
  | .powerOnReset asserted => Sys2Proof.Machine.execPowerOnReset asserted s
  | .bootSequence figures => Sys2Proof.Machine.execBootSequence figures s
  | .refInRemeasure refIn => Sys2Proof.Machine.execRefInRemeasure refIn s
  | .startUpDone startUs => Sys2Proof.Machine.execStartUpDone startUs s
  | .startModeEntry => Sys2Proof.Machine.execStartModeEntry s
  | .firstTimeEstimate source estimate errBound => Sys2Proof.Machine.execFirstTimeEstimate source estimate errBound s
  | .holdReady vhold => Sys2Proof.Machine.execHoldReady vhold s
  | .holdReadyClear vhold => Sys2Proof.Machine.execHoldReadyClear vhold s
  | .sampleTick received => Sys2Proof.Machine.execSampleTick received s
  | .underrunHoldExpiry stream => Sys2Proof.Machine.execUnderrunHoldExpiry stream s
  | .codeTick mismatch => Sys2Proof.Machine.execCodeTick mismatch s
  | .correlatorDump ch dump => Sys2Proof.Machine.execCorrelatorDump ch dump s
  | .pullInTimeout ch => Sys2Proof.Machine.execPullInTimeout ch s
  | .lossTimeout ch => Sys2Proof.Machine.execLossTimeout ch s
  | .reacqTimeout ch => Sys2Proof.Machine.execReacqTimeout ch s
  | .channelAssign => Sys2Proof.Machine.execChannelAssign s
  | .channelRelease => Sys2Proof.Machine.execChannelRelease s
  | .navDataDecode ch messages inverted leap => Sys2Proof.Machine.execNavDataDecode ch messages inverted leap s
  | .measurementTick tickError => Sys2Proof.Machine.execMeasurementTick tickError s
  | .measSetReady => Sys2Proof.Machine.execMeasSetReady s
  | .solutionPublished sol => Sys2Proof.Machine.execSolutionPublished sol s
  | .solverLate => Sys2Proof.Machine.execSolverLate s
  | .holdoverEntry => Sys2Proof.Machine.execHoldoverEntry s
  | .stepApply => Sys2Proof.Machine.execStepApply s
  | .stepAskTimeout => Sys2Proof.Machine.execStepAskTimeout s
  | .surveyDone sigma nvOk => Sys2Proof.Machine.execSurveyDone sigma nvOk s
  | .frameTick => Sys2Proof.Machine.execFrameTick s
  | .secondTick rtcSubsec => Sys2Proof.Machine.execSecondTick rtcSubsec s
  | .audioClockResume => Sys2Proof.Machine.execAudioClockResume s
  | .timePulseEdge output => Sys2Proof.Machine.execTimePulseEdge output s
  | .timeMark input falling instant short => Sys2Proof.Machine.execTimeMark input falling instant short s
  | .timeGet => Sys2Proof.Machine.execTimeGet s
  | .positionSet nvOk => Sys2Proof.Machine.execPositionSet nvOk s
  | .surveyStart => Sys2Proof.Machine.execSurveyStart s
  | .stepApprove => Sys2Proof.Machine.execStepApprove s
  | .pulseConfig nvOk => Sys2Proof.Machine.execPulseConfig nvOk s
  | .markConfig nvOk => Sys2Proof.Machine.execMarkConfig nvOk s
  | .antBiasSet nvOk => Sys2Proof.Machine.execAntBiasSet nvOk s
  | .searchStart => Sys2Proof.Machine.execSearchStart s
  | .searchStop => Sys2Proof.Machine.execSearchStop s
  | .assistLoad => Sys2Proof.Machine.execAssistLoad s
  | .assistLoadDone failed leap => Sys2Proof.Machine.execAssistLoadDone failed leap s
  | .autoSearch signal visible lost segments => Sys2Proof.Machine.execAutoSearch signal visible lost segments s
  | .snapshotCaptureDone samples => Sys2Proof.Machine.execSnapshotCaptureDone samples s
  | .lathPass peaks => Sys2Proof.Machine.execLathPass peaks s
  | .handoffResume => Sys2Proof.Machine.execHandoffResume s
  | .searchDone => Sys2Proof.Machine.execSearchDone s
  | .agcUpdate l5 inPhase quad instant => Sys2Proof.Machine.execAgcUpdate l5 inPhase quad instant s
  | .adcClip l5 => Sys2Proof.Machine.execAdcClip l5 s
  | .blankDuty l5 => Sys2Proof.Machine.execBlankDuty l5 s
  | .notchSpectrum l5 lines => Sys2Proof.Machine.execNotchSpectrum l5 lines s
  | .notchRelease l5 notch => Sys2Proof.Machine.execNotchRelease l5 notch s
  | .biasLimit l5 current => Sys2Proof.Machine.execBiasLimit l5 current s
  | .biasShort l5 => Sys2Proof.Machine.execBiasShort l5 s
  | .biasRetry l5 => Sys2Proof.Machine.execBiasRetry l5 s
  | .biasOpen l5 current => Sys2Proof.Machine.execBiasOpen l5 current s
  | .biasRecovery l5 current => Sys2Proof.Machine.execBiasRecovery l5 current s
  | .screedLoadBegin => Sys2Proof.Machine.execScreedLoadBegin s
  | .screedLoadData => Sys2Proof.Machine.execScreedLoadData s
  | .screedLoadEnd => Sys2Proof.Machine.execScreedLoadEnd s
  | .screedLoadLoad => Sys2Proof.Machine.execScreedLoadLoad s
  | .screedLoadDelete => Sys2Proof.Machine.execScreedLoadDelete s
  | .screedLoadDone nvOk => Sys2Proof.Machine.execScreedLoadDone nvOk s
  | .screedCommit => Sys2Proof.Machine.execScreedCommit s
  | .screedCommitCancel => Sys2Proof.Machine.execScreedCommitCancel s
  | .coefWrite nvOk => Sys2Proof.Machine.execCoefWrite nvOk s
  | .coefCopyDone => Sys2Proof.Machine.execCoefCopyDone s
  | .glideStart => Sys2Proof.Machine.execGlideStart s
  | .glideAbort => Sys2Proof.Machine.execGlideAbort s
  | .geometrySet nvOk => Sys2Proof.Machine.execGeometrySet nvOk s
  | .airTempSet => Sys2Proof.Machine.execAirTempSet s
  | .airTempLine uart line => Sys2Proof.Machine.execAirTempLine uart line s
  | .airTempStale => Sys2Proof.Machine.execAirTempStale s
  | .delayDescSet nvOk => Sys2Proof.Machine.execDelayDescSet nvOk s
  | .scrub word uncorrectable => Sys2Proof.Machine.execScrub word uncorrectable s
  | .bankReload => Sys2Proof.Machine.execBankReload s
  | .windowFetchDone desc tap err => Sys2Proof.Machine.execWindowFetchDone desc tap err s
  | .screedNop => Sys2Proof.Machine.execScreedNop s
  | .mov => Sys2Proof.Machine.execMov s
  | .clr => Sys2Proof.Machine.execClr s
  | .screedAdd => Sys2Proof.Machine.execScreedAdd s
  | .screedSub => Sys2Proof.Machine.execScreedSub s
  | .screedNeg => Sys2Proof.Machine.execScreedNeg s
  | .abs => Sys2Proof.Machine.execAbs s
  | .min => Sys2Proof.Machine.execMin s
  | .max => Sys2Proof.Machine.execMax s
  | .ash => Sys2Proof.Machine.execAsh s
  | .screedAnd => Sys2Proof.Machine.execScreedAnd s
  | .screedOr => Sys2Proof.Machine.execScreedOr s
  | .screedXor => Sys2Proof.Machine.execScreedXor s
  | .adda => Sys2Proof.Machine.execAdda s
  | .suba => Sys2Proof.Machine.execSuba s
  | .mul => Sys2Proof.Machine.execMul s
  | .mac => Sys2Proof.Machine.execMac s
  | .msu => Sys2Proof.Machine.execMsu s
  | .mula => Sys2Proof.Machine.execMula s
  | .muls => Sys2Proof.Machine.execMuls s
  | .productLands background => Sys2Proof.Machine.execProductLands background s
  | .cmpeq => Sys2Proof.Machine.execCmpeq s
  | .cmpne => Sys2Proof.Machine.execCmpne s
  | .cmplt => Sys2Proof.Machine.execCmplt s
  | .cmple => Sys2Proof.Machine.execCmple s
  | .cand => Sys2Proof.Machine.execCand s
  | .cor => Sys2Proof.Machine.execCor s
  | .cnot => Sys2Proof.Machine.execCnot s
  | .ftap => Sys2Proof.Machine.execFtap s
  | .screedLoop => Sys2Proof.Machine.execScreedLoop s
  | .rep => Sys2Proof.Machine.execRep s
  | .fgend => Sys2Proof.Machine.execFgend s
  | .evwait => Sys2Proof.Machine.execEvwait s
  | .evwaitSatisfied solver => Sys2Proof.Machine.execEvwaitSatisfied solver s
  | .screedJmp => Sys2Proof.Machine.execScreedJmp s
  | .brany => Sys2Proof.Machine.execBrany s
  | .brall => Sys2Proof.Machine.execBrall s
  | .ldar => Sys2Proof.Machine.execLdar s
  | .adar => Sys2Proof.Machine.execAdar s
  | .setdp => Sys2Proof.Machine.execSetdp s
  | .setmr => Sys2Proof.Machine.execSetmr s
  | .aesCsSet nvOk => Sys2Proof.Machine.execAesCsSet nvOk s
  | .aesCsGet => Sys2Proof.Machine.execAesCsGet s
  | .aesUserRead => Sys2Proof.Machine.execAesUserRead s
  | .aesUserWrite => Sys2Proof.Machine.execAesUserWrite s
  | .tdmStart => Sys2Proof.Machine.execTdmStart s
  | .tdmStop => Sys2Proof.Machine.execTdmStop s
  | .asrcAssign nvOk => Sys2Proof.Machine.execAsrcAssign nvOk s
  | .routeSet nvOk => Sys2Proof.Machine.execRouteSet nvOk s
  | .muteSet nvOk => Sys2Proof.Machine.execMuteSet nvOk s
  | .groupSet nvOk => Sys2Proof.Machine.execGroupSet nvOk s
  | .aes3FrameRx port instant frame => Sys2Proof.Machine.execAes3FrameRx port instant frame s
  | .aes3BlockRx port csA csB => Sys2Proof.Machine.execAes3BlockRx port csA csB s
  | .aesRxLock port rate => Sys2Proof.Machine.execAesRxLock port rate s
  | .aesRxLockLoss port => Sys2Proof.Machine.execAesRxLockLoss port s
  | .tdmFrameRx port instant period slots => Sys2Proof.Machine.execTdmFrameRx port instant period slots s
  | .asrcLock conv ratio => Sys2Proof.Machine.execAsrcLock conv ratio s
  | .asrcUnlock conv => Sys2Proof.Machine.execAsrcUnlock conv s
  | .rfCal => Sys2Proof.Machine.execRfCal s
  | .rfChannelSet nvOk => Sys2Proof.Machine.execRfChannelSet nvOk s
  | .tunerStatusGet => Sys2Proof.Machine.execTunerStatusGet s
  | .locksWrite nvOk => Sys2Proof.Machine.execLocksWrite nvOk s
  | .calStart => Sys2Proof.Machine.execCalStart s
  | .calComplete temp vcoBand => Sys2Proof.Machine.execCalComplete temp vcoBand s
  | .txRequest kind => Sys2Proof.Machine.execTxRequest kind s
  | .transitionStart figures => Sys2Proof.Machine.execTransitionStart figures s
  | .burstEnd vswr forward reflected => Sys2Proof.Machine.execBurstEnd vswr forward reflected s
  | .vswrStop vswr => Sys2Proof.Machine.execVswrStop vswr s
  | .vswrRetry subband => Sys2Proof.Machine.execVswrRetry subband s
  | .radioIdleSleep => Sys2Proof.Machine.execRadioIdleSleep s
  | .tokenBinRoll => Sys2Proof.Machine.execTokenBinRoll s
  | .rxWindowOpen kind => Sys2Proof.Machine.execRxWindowOpen kind s
  | .rxWindowClose => Sys2Proof.Machine.execRxWindowClose s
  | .syncDetect hard front stamp => Sys2Proof.Machine.execSyncDetect hard front stamp s
  | .headerDecode symbols => Sys2Proof.Machine.execHeaderDecode symbols s
  | .codewordDecode samples noise => Sys2Proof.Machine.execCodewordDecode samples noise s
  | .burstDelivered symbols evm scale => Sys2Proof.Machine.execBurstDelivered symbols evm scale s
  | .modemQualityGet => Sys2Proof.Machine.execModemQualityGet s
  | .cellConfigSet nvOk => Sys2Proof.Machine.execCellConfigSet nvOk s
  | .cellStatusGet => Sys2Proof.Machine.execCellStatusGet s
  | .cellCommit => Sys2Proof.Machine.execCellCommit s
  | .cellCommitCancel => Sys2Proof.Machine.execCellCommitCancel s
  | .workerAdmit nvOk => Sys2Proof.Machine.execWorkerAdmit nvOk s
  | .workerRevoke nvOk => Sys2Proof.Machine.execWorkerRevoke nvOk s
  | .beaconRx => Sys2Proof.Machine.execBeaconRx s
  | .beaconLost => Sys2Proof.Machine.execBeaconLost s
  | .downlinkRx => Sys2Proof.Machine.execDownlinkRx s
  | .meas ownRanges mgrRanges weights bound => Sys2Proof.Machine.execMeas ownRanges mgrRanges weights bound s
  | .ctrl => Sys2Proof.Machine.execCtrl s
  | .grant => Sys2Proof.Machine.execGrant s
  | .commit => Sys2Proof.Machine.execCommit s
  | .cellAdmit => Sys2Proof.Machine.execCellAdmit s
  | .report => Sys2Proof.Machine.execReport s
  | .diag => Sys2Proof.Machine.execDiag s
  | .ttManagerBurstRx deviation combined => Sys2Proof.Machine.execTtManagerBurstRx deviation combined s
  | .ttReplyRx => Sys2Proof.Machine.execTtReplyRx s
  | .uplinkRx => Sys2Proof.Machine.execUplinkRx s
  | .cellCommitDone => Sys2Proof.Machine.execCellCommitDone s
  | .wiredBurstRx kind station payload intact start deviation combined => Sys2Proof.Machine.execWiredBurstRx kind station payload intact start deviation combined s
  | .uartBreak => Sys2Proof.Machine.execUartBreak s
  | .breakBegin uart => Sys2Proof.Machine.execBreakBegin uart s
  | .characterReceived uart line => Sys2Proof.Machine.execCharacterReceived uart line s
  | .idleLine uart => Sys2Proof.Machine.execIdleLine uart s
  | .blockFlushIdle uart => Sys2Proof.Machine.execBlockFlushIdle uart s
  | .characterTransmit uart ctsHigh => Sys2Proof.Machine.execCharacterTransmit uart ctsHigh s
  | .blockTx uart => Sys2Proof.Machine.execBlockTx uart s
  | .ustat uart => Sys2Proof.Machine.execUstat uart s
  | .udataRead uart => Sys2Proof.Machine.execUdataRead uart s
  | .udataWrite uart value => Sys2Proof.Machine.execUdataWrite uart value s
  | .pllStatusGet refMeas => Sys2Proof.Machine.execPllStatusGet refMeas s
  | .refGlitch => Sys2Proof.Machine.execRefGlitch s
  | .refEdgesReturn => Sys2Proof.Machine.execRefEdgesReturn s
  | .refLost => Sys2Proof.Machine.execRefLost s
  | .pllUnlock pll => Sys2Proof.Machine.execPllUnlock pll s
  | .pllLock pll => Sys2Proof.Machine.execPllLock pll s
  | .pllUnlockTimeout pll => Sys2Proof.Machine.execPllUnlockTimeout pll s
  | .rtcSetTime nvOk => Sys2Proof.Machine.execRtcSetTime nvOk s
  | .rtcSetZone nvOk => Sys2Proof.Machine.execRtcSetZone nvOk s
  | .rtcGet subsec => Sys2Proof.Machine.execRtcGet subsec s
  | .alarmSet nvOk => Sys2Proof.Machine.execAlarmSet nvOk s
  | .summerTime nvOk => Sys2Proof.Machine.execSummerTime nvOk s
  | .rtcSecond => Sys2Proof.Machine.execRtcSecond s
  | .rtcSupplySwitch vddMv vbatMv => Sys2Proof.Machine.execRtcSupplySwitch vddMv vbatMv s
  | .brownOut lowestMv => Sys2Proof.Machine.execBrownOut lowestMv s
  | .logExport => Sys2Proof.Machine.execLogExport s
  | .logExportEntry => Sys2Proof.Machine.execLogExportEntry s
  | .logExportDone => Sys2Proof.Machine.execLogExportDone s
  | .imageWriteBegin nvOk => Sys2Proof.Machine.execImageWriteBegin nvOk s
  | .imageWriteData nvOk => Sys2Proof.Machine.execImageWriteData nvOk s
  | .imageWriteEnd => Sys2Proof.Machine.execImageWriteEnd s
  | .imageWriteFromFlash flash nvOk => Sys2Proof.Machine.execImageWriteFromFlash flash nvOk s
  | .imageCheckDone nvOk => Sys2Proof.Machine.execImageCheckDone nvOk s
  | .imageActivate nvOk => Sys2Proof.Machine.execImageActivate nvOk s
  | .bootConfirm nvOk => Sys2Proof.Machine.execBootConfirm nvOk s
  | .trialTimeout => Sys2Proof.Machine.execTrialTimeout s
  | .journalRead => Sys2Proof.Machine.execJournalRead s
  | .journalReadPublish => Sys2Proof.Machine.execJournalReadPublish s
  | .sensorRead => Sys2Proof.Machine.execSensorRead s
  | .keyAdd nvOk => Sys2Proof.Machine.execKeyAdd nvOk s
  | .keyRevoke nvOk => Sys2Proof.Machine.execKeyRevoke nvOk s
  | .pinSetEnable nvOk => Sys2Proof.Machine.execPinSetEnable nvOk s
  | .pinSetDisable nvOk => Sys2Proof.Machine.execPinSetDisable nvOk s
  | .testAccessClose nvOk => Sys2Proof.Machine.execTestAccessClose nvOk s
  | .testAccessOpen nvOk => Sys2Proof.Machine.execTestAccessOpen nvOk s
  | .testAccessJtag nvOk => Sys2Proof.Machine.execTestAccessJtag nvOk s
  | .jtagFuseBlow nvOk => Sys2Proof.Machine.execJtagFuseBlow nvOk s
  | .journalRequest nvOk => Sys2Proof.Machine.execJournalRequest nvOk s
  | .journalCommit nvOk => Sys2Proof.Machine.execJournalCommit nvOk s
  | .compactionSlice count => Sys2Proof.Machine.execCompactionSlice count s
  | .eventLogRequest => Sys2Proof.Machine.execEventLogRequest s
  | .logWrite nvOk => Sys2Proof.Machine.execLogWrite nvOk s
  | .sessionProofCheck => Sys2Proof.Machine.execSessionProofCheck s
  | .powerStateConsent => Sys2Proof.Machine.execPowerStateConsent s
  | .heartbeat => Sys2Proof.Machine.execHeartbeat s
  | .updateWork nvOk flash => Sys2Proof.Machine.execUpdateWork nvOk flash s
  | .regionRead => Sys2Proof.Machine.execRegionRead s
  | .deviceResetRequest => Sys2Proof.Machine.execDeviceResetRequest s
  | .sessionTableChange => Sys2Proof.Machine.execSessionTableChange s
  | .locksReloaded => Sys2Proof.Machine.execLocksReloaded s
  | .sensorScan values => Sys2Proof.Machine.execSensorScan values s
  | .watchdogWarn => Sys2Proof.Machine.execWatchdogWarn s
  | .wdH => Sys2Proof.Machine.execWdH s
  | .wdS => Sys2Proof.Machine.execWdS s
  | .hourlyBundle => Sys2Proof.Machine.execHourlyBundle s
  | .powerEnter => Sys2Proof.Machine.execPowerEnter s
  | .watchConfig nvOk => Sys2Proof.Machine.execWatchConfig nvOk s
  | .drainEnd => Sys2Proof.Machine.execDrainEnd s
  | .drainTimeout unit => Sys2Proof.Machine.execDrainTimeout unit s
  | .wake us => Sys2Proof.Machine.execWake us s
  | .watchWindow => Sys2Proof.Machine.execWatchWindow s
  | .watchWindowEnd samples rssi runs => Sys2Proof.Machine.execWatchWindowEnd samples rssi runs s
  | .watchNotReady => Sys2Proof.Machine.execWatchNotReady s
  | .supplySag vdd => Sys2Proof.Machine.execSupplySag vdd s
  | .saveEnd => Sys2Proof.Machine.execSaveEnd s
  | .saveStop done records => Sys2Proof.Machine.execSaveStop done records s
  | .sagReset => Sys2Proof.Machine.execSagReset s
  | .resetCauseGet => Sys2Proof.Machine.execResetCauseGet s
  | .trowelNop core => Sys2Proof.Machine.execTrowelNop core s
  | .lit8 core => Sys2Proof.Machine.execLit8 core s
  | .lit16 core => Sys2Proof.Machine.execLit16 core s
  | .drop core => Sys2Proof.Machine.execDrop core s
  | .dup core => Sys2Proof.Machine.execDup core s
  | .swap core => Sys2Proof.Machine.execSwap core s
  | .over core => Sys2Proof.Machine.execOver core s
  | .rot core => Sys2Proof.Machine.execRot core s
  | .dropw core => Sys2Proof.Machine.execDropw core s
  | .dupw core => Sys2Proof.Machine.execDupw core s
  | .swapw core => Sys2Proof.Machine.execSwapw core s
  | .overw core => Sys2Proof.Machine.execOverw core s
  | .pick core => Sys2Proof.Machine.execPick core s
  | .toR core => Sys2Proof.Machine.execToR core s
  | .rFrom core => Sys2Proof.Machine.execRFrom core s
  | .rFetch core => Sys2Proof.Machine.execRFetch core s
  | .trowelAdd core => Sys2Proof.Machine.execTrowelAdd core s
  | .addc core => Sys2Proof.Machine.execAddc core s
  | .trowelSub core => Sys2Proof.Machine.execTrowelSub core s
  | .subb core => Sys2Proof.Machine.execSubb core s
  | .trowelAnd core => Sys2Proof.Machine.execTrowelAnd core s
  | .trowelOr core => Sys2Proof.Machine.execTrowelOr core s
  | .trowelXor core => Sys2Proof.Machine.execTrowelXor core s
  | .notByte core => Sys2Proof.Machine.execNotByte core s
  | .shl core => Sys2Proof.Machine.execShl core s
  | .shr core => Sys2Proof.Machine.execShr core s
  | .asr core => Sys2Proof.Machine.execAsr core s
  | .inc core => Sys2Proof.Machine.execInc core s
  | .dec core => Sys2Proof.Machine.execDec core s
  | .trowelNeg core => Sys2Proof.Machine.execTrowelNeg core s
  | .mulu core => Sys2Proof.Machine.execMulu core s
  | .addw core => Sys2Proof.Machine.execAddw core s
  | .subw core => Sys2Proof.Machine.execSubw core s
  | .incw core => Sys2Proof.Machine.execIncw core s
  | .decw core => Sys2Proof.Machine.execDecw core s
  | .andw core => Sys2Proof.Machine.execAndw core s
  | .orw core => Sys2Proof.Machine.execOrw core s
  | .xorw core => Sys2Proof.Machine.execXorw core s
  | .shlw core => Sys2Proof.Machine.execShlw core s
  | .shrw core => Sys2Proof.Machine.execShrw core s
  | .ext core => Sys2Proof.Machine.execExt core s
  | .eq core => Sys2Proof.Machine.execEq core s
  | .ne core => Sys2Proof.Machine.execNe core s
  | .ltu core => Sys2Proof.Machine.execLtu core s
  | .leu core => Sys2Proof.Machine.execLeu core s
  | .lts core => Sys2Proof.Machine.execLts core s
  | .les core => Sys2Proof.Machine.execLes core s
  | .zeq core => Sys2Proof.Machine.execZeq core s
  | .eqw core => Sys2Proof.Machine.execEqw core s
  | .ltuw core => Sys2Proof.Machine.execLtuw core s
  | .ltsw core => Sys2Proof.Machine.execLtsw core s
  | .zeqw core => Sys2Proof.Machine.execZeqw core s
  | .ld core => Sys2Proof.Machine.execLd core s
  | .st core => Sys2Proof.Machine.execSt core s
  | .ldw core => Sys2Proof.Machine.execLdw core s
  | .stw core => Sys2Proof.Machine.execStw core s
  | .lda core => Sys2Proof.Machine.execLda core s
  | .sta core => Sys2Proof.Machine.execSta core s
  | .ldaw core => Sys2Proof.Machine.execLdaw core s
  | .staw core => Sys2Proof.Machine.execStaw core s
  | .ldp core => Sys2Proof.Machine.execLdp core s
  | .stp core => Sys2Proof.Machine.execStp core s
  | .ldc core => Sys2Proof.Machine.execLdc core s
  | .ldcf core => Sys2Proof.Machine.execLdcf core s
  | .inIo core => Sys2Proof.Machine.execInIo core s
  | .outIo core => Sys2Proof.Machine.execOutIo core s
  | .ina core => Sys2Proof.Machine.execIna core s
  | .outa core => Sys2Proof.Machine.execOuta core s
  | .inw core => Sys2Proof.Machine.execInw core s
  | .outw core => Sys2Proof.Machine.execOutw core s
  | .bset core => Sys2Proof.Machine.execBset core s
  | .bclr core => Sys2Proof.Machine.execBclr core s
  | .bcpl core => Sys2Proof.Machine.execBcpl core s
  | .bpush core => Sys2Proof.Machine.execBpush core s
  | .bpop core => Sys2Proof.Machine.execBpop core s
  | .bpushi core => Sys2Proof.Machine.execBpushi core s
  | .bpopi core => Sys2Proof.Machine.execBpopi core s
  | .trowelJmp core => Sys2Proof.Machine.execTrowelJmp core s
  | .jr core => Sys2Proof.Machine.execJr core s
  | .jz core => Sys2Proof.Machine.execJz core s
  | .jnz core => Sys2Proof.Machine.execJnz core s
  | .call core => Sys2Proof.Machine.execCall core s
  | .callf core => Sys2Proof.Machine.execCallf core s
  | .ret core => Sys2Proof.Machine.execRet core s
  | .reti core => Sys2Proof.Machine.execReti core s
  | .jmpi core => Sys2Proof.Machine.execJmpi core s
  | .calli core => Sys2Proof.Machine.execCalli core s
  | .jmpf core => Sys2Proof.Machine.execJmpf core s
  | .ei core => Sys2Proof.Machine.execEi core s
  | .di core => Sys2Proof.Machine.execDi core s
  | .waitIdle core => Sys2Proof.Machine.execWaitIdle core s
  | .waitPowerEntry csLow => Sys2Proof.Machine.execWaitPowerEntry csLow s
  | .trowelLoop core => Sys2Proof.Machine.execTrowelLoop core s
  | .lbrk core => Sys2Proof.Machine.execLbrk core s
  | .lcnt core => Sys2Proof.Machine.execLcnt core s
  | .crc16 core => Sys2Proof.Machine.execCrc16 core s
  | .crc32 core => Sys2Proof.Machine.execCrc32 core s
  | .par core => Sys2Proof.Machine.execPar core s
  | .brev core => Sys2Proof.Machine.execBrev core s
  | .brevw core => Sys2Proof.Machine.execBrevw core s
  | .brb1 core => Sys2Proof.Machine.execBrb1 core s
  | .brb0 core => Sys2Proof.Machine.execBrb0 core s
  | .brb1c core => Sys2Proof.Machine.execBrb1c core s
  | .brb0s core => Sys2Proof.Machine.execBrb0s core s
  | .cpset core => Sys2Proof.Machine.execCpset core s
  | .cpget core => Sys2Proof.Machine.execCpget core s
  | .cpwait core => Sys2Proof.Machine.execCpwait core s
  | .sha256Init core => Sys2Proof.Machine.execSha256Init core s
  | .sha256Update core => Sys2Proof.Machine.execSha256Update core s
  | .sha256Final core => Sys2Proof.Machine.execSha256Final core s
  | .ed25519Verify core => Sys2Proof.Machine.execEd25519Verify core s
  | .cp2Add core => Sys2Proof.Machine.execCp2Add core s
  | .cp2Sub core => Sys2Proof.Machine.execCp2Sub core s
  | .cp2Mulu core => Sys2Proof.Machine.execCp2Mulu core s
  | .cp2Muls core => Sys2Proof.Machine.execCp2Muls core s
  | .cp2Divu core => Sys2Proof.Machine.execCp2Divu core s
  | .cp2Cmpu core => Sys2Proof.Machine.execCp2Cmpu core s
  | .cp2Shl core => Sys2Proof.Machine.execCp2Shl core s
  | .cp2Shr core => Sys2Proof.Machine.execCp2Shr core s
  | .coprocessorDone core cp => Sys2Proof.Machine.execCoprocessorDone core cp s
  | .replyItem => Sys2Proof.Machine.execReplyItem s
  | .sysParamGet => Sys2Proof.Machine.execSysParamGet s
  | .sysParamSet nvOk => Sys2Proof.Machine.execSysParamSet nvOk s
  | .sysJournal nvOk => Sys2Proof.Machine.execSysJournal nvOk s
  | .sysGpioWrite => Sys2Proof.Machine.execSysGpioWrite s
  | .sysGpioRead => Sys2Proof.Machine.execSysGpioRead s
  | .sysLog => Sys2Proof.Machine.execSysLog s
  | .vectorTaken => Sys2Proof.Machine.execVectorTaken s
  | .trap core => Sys2Proof.Machine.execTrap core s
  | .handlerTimeLimit => Sys2Proof.Machine.execHandlerTimeLimit s
  | .pushData q value => Sys2Proof.Machine.execPushData q value s
  | .pushLen q len => Sys2Proof.Machine.execPushLen q len s
  | .popData q => Sys2Proof.Machine.execPopData q s
  | .popRelease q value => Sys2Proof.Machine.execPopRelease q value s
  | .stat index value => Sys2Proof.Machine.execStat index value s
  | .swRaise value => Sys2Proof.Machine.execSwRaise value s
  | .qtSnap => Sys2Proof.Machine.execQtSnap s
  | .registerWrite address value => Sys2Proof.Machine.execRegisterWrite address value s
  | .badOpcode => Sys2Proof.Machine.execBadOpcode s
  | .coexGnt level => Sys2Proof.Machine.execCoexGnt level s
  | .breakEnd uart => Sys2Proof.Machine.execBreakEnd uart s

end Sys2Proof.Machine
end

