-- ==== Sys2Proof/Machine/Balls.lean ====
section
/-! DEFINITION. The signal balls: their states by mode (R44–R50, R53, R58–R60) and the levels the part drives. -/
namespace Sys2Proof.Machine

/-- The signal balls of R48 and R49; an index counts within its row. -/
inductive Signal where
  | sclk | csN | io (n : Nat) | hostIrqN | hostRdy | hpRstN | resetN | pfailN
  | qspiSck | qspiCsN | qspiIo (n : Nat) | jtagIn (n : Nat) | jtagTdo | jtagTrstN
  | rfinL1 | rfinL5 | antBiasL1 | antBiasL5 | pulse (n : Nat) | mark (n : Nat) | refIn | ref10mOut
  | xtal32 | rf24 | rf5 | tuneSense | extPaEn | extLnaEn | extSw (n : Nat) | coexReq | coexGnt | coexPri
  | aesRx (n : Nat) | aesTx (n : Nat) | tdmBclk (n : Nat) | tdmFs (n : Nat) | tdmDin (n : Nat) | tdmDout (n : Nat)
  | mclk (n : Nat) | gpio (n : Nat) | txd (n : Nat) | rxd (n : Nat) | rtsN (n : Nat) | ctsN (n : Nat) | de (n : Nat)
deriving DecidableEq, Repr

/-- R44: the codes of a ball's state; and a ball that has no power (R46), or that the package lacks (R58). -/
inductive BallState where
  | z | input | ignored | low | high | hold | act | win | off | unpowered | absent
deriving DecidableEq, Repr

/-- The Reset, Sleep, Watch and Standby columns of one row of R48 and R49. -/
structure BallRow where
  reset : BallState
  sleep : BallState
  watch : BallState
  standby : BallState
deriving DecidableEq, Repr

/-- A row whose three low-power columns agree. -/
def BallRow.same (r l : BallState) : BallRow := { reset := r, sleep := l, watch := l, standby := l }

/-- A row with a Win ball: R44 and R48. -/
def BallRow.window (r l : BallState) : BallRow := { reset := r, sleep := l, watch := .win, standby := l }

/-- R48, R49: the row of a ball. -/
def Signal.row : Signal → BallRow
  | .sclk | .csN | .io _ => .same .input .act
  | .hostIrqN => .same .z .act
  | .hostRdy => .same .low .low
  | .hpRstN | .resetN => .same .input .input
  | .pfailN => .same .z .act
  | .qspiSck => .same .z .low
  | .qspiCsN => .same .z .high
  | .qspiIo _ => .same .z .z
  | .jtagIn _ | .jtagTrstN => .same .input .ignored
  | .jtagTdo => .same .z .z
  | .rfinL1 | .rfinL5 | .antBiasL1 | .antBiasL5 => .same .off .off
  | .pulse _ => .same .low .low
  | .mark _ => .same .ignored .ignored
  | .refIn => { reset := .input, sleep := .off, watch := .win, standby := .input }
  | .ref10mOut => { reset := .low, sleep := .low, watch := .low, standby := .act }
  | .xtal32 => .same .act .act
  | .rf24 | .rf5 => .window .off .off
  | .tuneSense => .same .off .off
  | .extPaEn => .same .low .low
  | .extLnaEn | .extSw _ => .window .low .low
  | .coexReq | .coexPri => .window .low .low
  | .coexGnt => .window .ignored .ignored
  | .aesRx _ => .window .off .off
  | .aesTx _ => .same .z .z
  | .tdmBclk _ | .tdmFs _ | .tdmDin _ | .tdmDout _ => .window .z .z
  | .mclk _ => { reset := .low, sleep := .low, watch := .low, standby := .act }
  | .gpio _ => .same .z .hold
  | .txd _ | .rtsN _ => .same .z .high
  | .rxd _ | .ctsN _ => .same .ignored .ignored
  | .de _ => .same .low .low

/-- R44, R48, R49: the weak pull of a ball; true is a pull-up. -/
def Signal.pull : Signal → Option Bool
  | .csN | .io _ | .hpRstN | .resetN | .qspiCsN | .qspiIo _ | .txd _ | .rxd _ | .rtsN _ => some true
  | .jtagIn n => some (n != 0)
  | .sclk | .qspiSck | .jtagTrstN | .pulse _ | .mark _ | .ref10mOut | .extPaEn | .extLnaEn | .extSw _ | .coexReq | .coexGnt | .coexPri
  | .tdmBclk _ | .tdmFs _ | .tdmDin _ | .tdmDout _ | .mclk _ | .gpio _ | .ctsN _ | .de _ => some false
  | _ => none

/-- A ball of the host port (R45, R62, R68). -/
def Signal.hostPort : Signal → Bool
  | .sclk | .csN | .io _ | .hostIrqN | .hostRdy | .hpRstN => true
  | _ => false

/-- R48, R49, R58, R60: the package has the ball. On a radio-N part the RF balls are bonded to VSS. -/
def State.ballPresent (x : Signal) (s : State) : Bool :=
  let g := decide (s.part.package = .g)
  match x with
  | .aesRx n | .aesTx n => decide (n < if g then 8 else 4)
  | .tdmBclk n | .tdmFs n | .tdmDin n | .tdmDout n => decide (n < if g then 4 else 2)
  | .mclk n => decide (n < if g then 4 else 2)
  | .gpio n => decide (n < if g then 32 else 16)
  | .txd n | .rxd n | .rtsN n | .ctsN n | .de n => decide (n < 4) && s.uartBonded n
  | .rf24 | .rf5 | .tuneSense => s.part.radio
  | .io n | .qspiIo n | .mark n => decide (n < 4)
  | .jtagIn n => decide (n < 3)
  | .pulse n => decide (n < 6)
  | .extSw n => decide (n < 2)
  | _ => true

/-- R59: the tier fuses the ball off: it stays in its Reset state. -/
def State.ballFused (x : Signal) (s : State) : Bool :=
  match x with
  | .aesRx n | .aesTx n => decide (s.aesCount ≤ n)
  | .tdmBclk n | .tdmFs n | .tdmDin n | .tdmDout n => decide (s.tdmCount ≤ n)
  | _ => false

/-- R46: the balls that keep power in Backup, and those of the VHOLD and RTC domains (R52). -/
def Signal.powered : Signal → Bool
  | .xtal32 => true
  | _ => false

/-- R46, R520: Backup: the save is over or runs, and VDD_IO33 is absent (log entry 106). -/
def State.backup (s : State) : Bool := s.power.save.began != 0 && s.rtc.onVbat

/-- R45: the owning unit has not configured the ball since the reset; R530: the recovery port configures the host port alone. -/
def State.ballInReset (x : Signal) (s : State) : Bool :=
  if x.hostPort then !(s.rst.configured || s.rst.recovery) || s.port.resetting else !s.rst.configured

/-- R53, R514: the Watch sequencer uses the ball: the balls of its input port and REF_IN, or those of the radio; COEX_REQ and
COEX_PRI only with coexistence arbitration enabled. -/
def WatchCfg.uses (x : Signal) (coex : Nat) (w : WatchCfg) : Bool :=
  let port := chNo w.input
  match x with
  | .refIn => true
  | .aesRx n => w.source == 0 && chClass w.input == 1 && port / 2 == n
  | .tdmBclk n | .tdmFs n | .tdmDin n => w.source == 0 && chClass w.input == 2 && port / 16 == n
  | .rf24 | .rf5 | .extLnaEn | .extSw _ => w.source == 1
  | .coexReq | .coexPri | .coexGnt => w.source == 1 && coex != 0
  | _ => false

/-- R44, R53: a Win ball acts during a window that uses it; otherwise it keeps its Sleep state. -/
def State.inWindow (x : Signal) (s : State) : Bool :=
  s.power.watchOpen && (match s.watching with | some w => w.uses x s.coexMode | none => false)

/-- R48, R49: the entry of the row for the mode. -/
def BallRow.inMode (m : Mode) (r : BallRow) : BallState :=
  match m with
  | .sleep => r.sleep
  | .watch => r.watch
  | .standby => r.standby
  | _ => .act

/-- R44–R49, R53, R58–R60: the state of a ball. A save clamps the balls as in Sleep (log entry 106). -/
def State.ballState (x : Signal) (s : State) : BallState :=
  if !s.ballPresent x then .absent
  else if s.backup then (if x.powered then .act else if x = .pfailN && s.power.pfailLow then .act else .unpowered)
  else if x = .pfailN && s.power.pfailLow then .act
  else if s.ballFused x || s.ballInReset x then x.row.reset
  else if s.power.save.began != 0 then x.row.sleep
  else match x.row.inMode s.power.mode with
    | .win => if s.inWindow x then .act else x.row.sleep
    | b => b

/-- The level that the part drives at a ball in state Act, where its unit drives one. `now` is the bit of the character, frame or
clock that the ball carries at this moment. -/
def State.actLevel (x : Signal) (now : Bool) (s : State) : Option Bool :=
  match x with
  | .hostRdy => some s.hostRdy
  | .hostIrqN => if s.hostIrqLow then some false else none
  | .pfailN => if s.power.pfailLow then some false else none
  | .pulse n => some (s.pulseLevel n)
  | .ref10mOut => some (s.ref10mOn && now)
  | .mclk n => some (s.mclkHz n != 0 && !s.clocks.held && now)
  | .extPaEn => some s.extPaEn
  | .extLnaEn => some s.extLnaEn
  | .extSw 0 => some s.extSw0
  | .extSw _ => some s.extSw1
  | .coexReq => some s.coexReq
  | .coexPri => some s.coexPri
  | .tdmBclk n | .tdmFs n => if bit 0 (s.param (0x2400 + n)) then some (s.tdmClocks n && !s.clocks.held && now) else none
  | .tdmDout n => some ((s.audio.tdm.getD n {}).wire.isSome && now)
  | .gpio n => if bit n s.gpioDriven then some (bit n s.gpio.out) else none
  | .txd n => some (if s.uartDedicated n then s.wireTxd else s.txdHigh n)
  | .rtsN n => some (s.uart n).rtsHigh
  | .de n => some (s.deHigh n || (s.uartDedicated n && s.wireDe))
  | _ => none

/-- The level that the part drives at a ball; none where it drives none. A Hold ball keeps the direction and level it had (R50). -/
def State.ballLevel (x : Signal) (now : Bool) (s : State) : Option Bool :=
  match s.ballState x with
  | .low => some false
  | .high => some true
  | .act | .hold => s.actLevel x now
  | _ => none

/-- R44, R46: the pull that is present at a ball: in every state except Backup. -/
def State.ballPull (x : Signal) (s : State) : Option Bool := if s.backup || !s.ballPresent x then none else x.pull

/-- The level at a ball: what the part drives, else what a circuit outside drives, else its pull (R44, R49, R61, R62). -/
def State.ballIdle (x : Signal) (now : Bool) (outside : Option Bool) (s : State) : Option Bool :=
  ((s.ballLevel x now).orElse (fun _ => outside)).orElse (fun _ => s.ballPull x)

/-- R62: with one lane the port drives IO1 alone; IO2 and IO3 keep their pulls. -/
def State.laneDriven (n : Nat) (s : State) : Bool := if s.port.lanes = 1 then n == 1 else decide (n < s.port.lanes)

/-- R44: the unit that owns the ball reads it. -/
def State.ballRead (x : Signal) (s : State) : Bool := s.ballState x = .input || s.ballState x = .act

end Sys2Proof.Machine
end

