-- ==== Sys2Proof/Certificates/Slice0/Obligations.lean ====
section
/-! DEFINITION. The statements for the provers, and what they are said in. -/

namespace Sys2Proof.Claims
end Sys2Proof.Claims

open Sys2Proof Sys2Proof.Machine Sys2Proof.Claims

/-! ## Trowel cores (R400–R413) -/

namespace Sys2Proof.Claims

/-- R402: the entries spilled to data RAM, the one spilled last first. -/
def spilled (t : Trowel) : List Nat :=
  (List.range (t.dsSpill - t.dsBase)).map (fun k => t.byteAt (t.dsSpill - 1 - k))

/-- R402: the whole data stack, top first: the hardware entries, then the spilled ones. -/
def dataStack (t : Trowel) : List Nat := t.stack ++ spilled t

/-- R402: a data stack in order: byte entries, spilled only below 32 hardware entries, and the spill registers
of 16 bits around the spilled bytes, within the data space of Trowel-S (R400). -/
def stackWf (t : Trowel) : Bool :=
  t.stack.all (fun b => decide (b < 256)) && decide (t.stack.length ≤ 32) &&
  (decide (t.dsSpill ≤ t.dsBase) || decide (t.stack.length = 32)) &&
  decide (t.dsBase ≤ t.dsSpill) && decide (t.dsSpill ≤ t.dsLimit) && decide (t.dsLimit < 65536) &&
  (!t.steward || decide (t.dsLimit ≤ 32768))

/-- R402: the entries the data stack can hold. -/
def capacity (t : Trowel) : Nat := 32 + (t.dsLimit - t.dsBase)

/-- `u` is `t` after pops: nothing but the hardware entries and DS_SPILL differs. -/
def Popped (t u : Trowel) : Prop := u = { t with stack := u.stack, dsSpill := u.dsSpill }

/-- `v` is `w` after pushes: of memory only the bytes from `w`'s DS_SPILL to `v`'s differ. -/
def Pushed (w v : Trowel) : Prop :=
  v = { w with stack := v.stack, dsSpill := v.dsSpill, data := v.data } ∧
  ∀ x, x < 65536 → (x < w.dsSpill ∨ v.dsSpill ≤ x) → v.byteAt x = w.byteAt x

/-- What R405 says of one instruction: the opcodes it has, and from the core, the immediate and the data
stack: what its operands leave of the stack, what it does to the core, and what it pushes, top first. It
gives none where the operands are missing or the instruction traps. -/
structure CoreRow where
  core : Fin 2
  op : Nat → Bool
  effect : Trowel → Nat → List Nat → Option (List Nat × (Trowel → Trowel) × List Nat)

/-- Where the instruction did not leave its path, the loop levels are compared (R408). -/
def passed (a next bank : Nat) (v : Trowel) : Trowel := if v.pc = next ∧ v.cbank = bank then v.closeLoops a else v

/-- R404: the core is about to execute the row's instruction. -/
def CoreRow.here (r : CoreRow) (t : Trowel) : Bool := t.runs && t.bankPresent t.cbank && r.op t.opcode

/-- The row's instruction completes with the row's effect, and touches nothing else. -/
def CoreRow.Completes (i : Instr) (r : CoreRow) : Prop :=
  ∀ (s : State) (rest out : List Nat) (f : Trowel → Trowel),
    let t := s.core r.core.val
    r.here t = true → stackWf t = true →
    r.effect t t.imm (dataStack t) = some (rest, f, out) → (out ++ rest).length ≤ capacity t →
    ∃ u v : Trowel,
      Popped { t with pc := t.after t.pc } u ∧ dataStack u = rest ∧ stackWf u = true ∧
      Pushed (f u) v ∧ dataStack v = out ++ dataStack (f u) ∧ stackWf v = true ∧
      exec i s = .next (s.setCore r.core.val (passed t.pc (t.after t.pc) t.cbank v))

/-- A byte as a signed value. -/
def s8 (b : Nat) : Int := if b < 128 then (b : Int) else (b : Int) - 256

/-- A word as a signed value. -/
def s16 (w : Nat) : Int := if w < 32768 then (w : Int) else (w : Int) - 65536

/-- A flag (R401). -/
def flag (p : Prop) [Decidable p] : Nat := if p then 1 else 0

/-- A word on the stack: its high byte on top (R401). -/
def wordOut (w : Nat) : List Nat := [w / 256 % 256, w % 256]

/-- Ones among the low `n` bits. -/
def bitCount (n v : Nat) : Nat := ((List.range n).map (fun k => v / 2 ^ k % 2)).sum

/-- The low `n` bits in the opposite order. -/
def mirrored (n v : Nat) : Nat := ((List.range n).map (fun k => v / 2 ^ k % 2 * 2 ^ (n - 1 - k))).sum

/-- An instruction that only pops and pushes. -/
def pure1 (core : Fin 2) (op : Nat) (f : List Nat → Option (List Nat × List Nat)) : Option CoreRow :=
  some { core := core, op := fun o => o == op
         effect := fun _ _ l => (f l).map (fun p => (p.1, (fun t => t), p.2)) }

/-- ( b -- … ) -/
def byte1 (core : Fin 2) (op : Nat) (f : Nat → List Nat) : Option CoreRow :=
  pure1 core op (fun l => match l with | b :: r => some (r, f b) | _ => none)

/-- ( b1 b2 -- … ) -/
def byte2 (core : Fin 2) (op : Nat) (f : Nat → Nat → List Nat) : Option CoreRow :=
  pure1 core op (fun l => match l with | b2 :: b1 :: r => some (r, f b1 b2) | _ => none)

/-- ( w -- … ) -/
def word1 (core : Fin 2) (op : Nat) (f : Nat → List Nat) : Option CoreRow :=
  pure1 core op (fun l => match l with | h :: b :: r => some (r, f (b + 256 * h)) | _ => none)

/-- ( w1 w2 -- … ) -/
def word2 (core : Fin 2) (op : Nat) (f : Nat → Nat → List Nat) : Option CoreRow :=
  pure1 core op (fun l => match l with
    | h2 :: b2 :: h1 :: b1 :: r => some (r, f (b1 + 256 * h1) (b2 + 256 * h2))
    | _ => none)

/-- R405: the stack, arithmetic and logic instructions that only pop and push. -/
def pureRow : Instr → Option CoreRow
  | .trowelNop c => pure1 c 0x00 (fun l => some (l, []))
  | .drop c => byte1 c 0x03 (fun _ => [])
  | .dup c => byte1 c 0x04 (fun b => [b, b])
  | .swap c => byte2 c 0x05 (fun b1 b2 => [b1, b2])
  | .over c => byte2 c 0x06 (fun b1 b2 => [b1, b2, b1])
  | .rot c => pure1 c 0x07 (fun l => match l with | b3 :: b2 :: b1 :: r => some (r, [b1, b3, b2]) | _ => none)
  | .dropw c => word1 c 0x08 (fun _ => [])
  | .dupw c => word1 c 0x09 (fun w => wordOut w ++ wordOut w)
  | .swapw c => word2 c 0x0A (fun w1 w2 => wordOut w1 ++ wordOut w2)
  | .overw c => word2 c 0x0B (fun w1 w2 => wordOut w1 ++ wordOut w2 ++ wordOut w1)
  | .trowelAdd c => byte2 c 0x10 (fun a b => [(a + b) % 256])
  | .addc c => byte2 c 0x11 (fun a b => [(a + b) / 256, (a + b) % 256])
  | .trowelSub c => byte2 c 0x12 (fun a b => [(a + 256 - b) % 256])
  | .subb c => byte2 c 0x13 (fun a b => [flag (a < b), (a + 256 - b) % 256])
  | .trowelAnd c => byte2 c 0x14 (fun a b => [a &&& b])
  | .trowelOr c => byte2 c 0x15 (fun a b => [a ||| b])
  | .trowelXor c => byte2 c 0x16 (fun a b => [a ^^^ b])
  | .notByte c => byte1 c 0x17 (fun a => [255 - a])
  | .shl c => byte1 c 0x18 (fun a => [2 * a % 256])
  | .shr c => byte1 c 0x19 (fun a => [a / 2])
  | .asr c => byte1 c 0x1A (fun a => [a / 2 + 128 * (a / 128)])
  | .inc c => byte1 c 0x1B (fun a => [(a + 1) % 256])
  | .dec c => byte1 c 0x1C (fun a => [(a + 255) % 256])
  | .trowelNeg c => byte1 c 0x1D (fun a => [(256 - a) % 256])
  | .mulu c => byte2 c 0x1E (fun a b => wordOut (a * b))
  | .addw c => word2 c 0x20 (fun a b => wordOut (a + b))
  | .subw c => word2 c 0x21 (fun a b => wordOut (a + 65536 - b))
  | .incw c => word1 c 0x22 (fun a => wordOut (a + 1))
  | .decw c => word1 c 0x23 (fun a => wordOut (a + 65535))
  | .andw c => word2 c 0x24 (fun a b => wordOut (a &&& b))
  | .orw c => word2 c 0x25 (fun a b => wordOut (a ||| b))
  | .xorw c => word2 c 0x26 (fun a b => wordOut (a ^^^ b))
  | .shlw c => word1 c 0x27 (fun a => wordOut (2 * a))
  | .shrw c => word1 c 0x28 (fun a => wordOut (a / 2))
  | .ext c => byte1 c 0x29 (fun a => [if a < 128 then 0 else 255, a])
  | .eq c => byte2 c 0x30 (fun a b => [flag (a = b)])
  | .ne c => byte2 c 0x31 (fun a b => [flag (a ≠ b)])
  | .ltu c => byte2 c 0x32 (fun a b => [flag (a < b)])
  | .leu c => byte2 c 0x33 (fun a b => [flag (a ≤ b)])
  | .lts c => byte2 c 0x34 (fun a b => [flag (s8 a < s8 b)])
  | .les c => byte2 c 0x35 (fun a b => [flag (s8 a ≤ s8 b)])
  | .zeq c => byte1 c 0x36 (fun a => [flag (a = 0)])
  | .eqw c => word2 c 0x38 (fun a b => [flag (a = b)])
  | .ltuw c => word2 c 0x39 (fun a b => [flag (a < b)])
  | .ltsw c => word2 c 0x3A (fun a b => [flag (s16 a < s16 b)])
  | .zeqw c => word1 c 0x3B (fun a => [flag (a = 0)])
  | .par c => byte1 c 0xAA (fun a => [bitCount 8 a % 2])
  | .brev c => byte1 c 0xAB (fun a => [mirrored 8 a])
  | .brevw c => word1 c 0xAC (fun a => wordOut (mirrored 16 a))
  | _ => none

/-- R403: an entry of the return stack. -/
def entry (t : Trowel) (bank addr : Nat) : Nat := (if t.cbank < 6 then 8388608 else 0) + 65536 * bank + addr

/-- R403, R405: literals, PICK, and the moves between the two stacks. -/
def moveRow : Instr → Option CoreRow
  | .lit8 c => some { core := c, op := fun o => o == 0x01, effect := fun _ i l => some (l, (fun t => t), [i]) }
  | .lit16 c => some { core := c, op := fun o => o == 0x02, effect := fun _ i l => some (l, (fun t => t), wordOut i) }
  | .pick c => some { core := c, op := fun o => o == 0x0C, effect := fun _ n l => (l[n]?).map (fun b => (l, (fun t => t), [b])) }
  | .toR c => some { core := c, op := fun o => o == 0x0D, effect := fun t _ l => match l with
      | h :: b :: r => if t.rs.length < 64 then some (r, (fun t => { t with rs := entry t 0 (b + 256 * h) :: t.rs }), []) else none
      | _ => none }
  | .rFrom c => some { core := c, op := fun o => o == 0x0E, effect := fun t _ l => match t.rs with
      | e :: k => if t.inApplet && e.testBit 23 then none else some (l, (fun t => { t with rs := k }), wordOut e)
      | [] => none }
  | .rFetch c => some { core := c, op := fun o => o == 0x0F, effect := fun t _ l => match t.rs with
      | e :: _ => some (l, (fun t => t), wordOut e)
      | [] => none }
  | _ => none

/-- R401, R405, R417: the loads and stores. -/
def memoryRow : Instr → Option CoreRow
  | .ld c => some { core := c, op := fun o => o == 0x40, effect := fun t _ l => match l with
      | h :: b :: r => let a := b + 256 * h; if t.dataOk a then some (r, (fun t => t), [t.byteAt a]) else none
      | _ => none }
  | .st c => some { core := c, op := fun o => o == 0x41, effect := fun t _ l => match l with
      | h :: b :: v :: r => let a := b + 256 * h; if t.dataOk a then some (r, (fun t => t.putByte a v), []) else none
      | _ => none }
  | .ldw c => some { core := c, op := fun o => o == 0x42, effect := fun t _ l => match l with
      | h :: b :: r =>
        let a := b + 256 * h
        if t.dataOk a && t.dataOk ((a + 1) % 65536) then some (r, (fun t => t), [t.byteAt (a + 1), t.byteAt a]) else none
      | _ => none }
  | .stw c => some { core := c, op := fun o => o == 0x43, effect := fun t _ l => match l with
      | h :: b :: v2 :: v1 :: r =>
        let a := b + 256 * h
        if t.dataOk a && t.dataOk ((a + 1) % 65536) then some (r, (fun t => (t.putByte a v1).putByte (a + 1) v2), []) else none
      | _ => none }
  | .lda c => some { core := c, op := fun o => o == 0x44, effect := fun t a l => if t.dataOk a then some (l, (fun t => t), [t.byteAt a]) else none }
  | .sta c => some { core := c, op := fun o => o == 0x45, effect := fun t a l => match l with
      | v :: r => if t.dataOk a then some (r, (fun t => t.putByte a v), []) else none
      | _ => none }
  | .ldaw c => some { core := c, op := fun o => o == 0x46, effect := fun t a l => if t.dataOk a && t.dataOk ((a + 1) % 65536) then some (l, (fun t => t), [t.byteAt (a + 1), t.byteAt a]) else none }
  | .staw c => some { core := c, op := fun o => o == 0x47, effect := fun t a l => match l with
      | v2 :: v1 :: r =>
        if t.dataOk a && t.dataOk ((a + 1) % 65536) then some (r, (fun t => (t.putByte a v1).putByte (a + 1) v2), []) else none
      | _ => none }
  | .ldp c => some { core := c, op := fun o => o == 0x48, effect := fun t _ l => match l with
      | h :: b :: r => let a := b + 256 * h; if t.dataOk a then some (r, (fun t => t), t.byteAt a :: wordOut (a + 1)) else none
      | _ => none }
  | .stp c => some { core := c, op := fun o => o == 0x49, effect := fun t _ l => match l with
      | h :: b :: v :: r => let a := b + 256 * h; if t.dataOk a then some (r, (fun t => t.putByte a v), wordOut (a + 1)) else none
      | _ => none }
  | .ldc c => some { core := c, op := fun o => o == 0x4A, effect := fun t _ l => match l with
      | h :: b :: r => some (r, (fun t => t), [t.codeByte t.cbank (b + 256 * h)])
      | _ => none }
  | .ldcf c => some { core := c, op := fun o => o == 0x4B, effect := fun t _ l => match l with
      | k :: h :: b :: r => if t.bankPresent k && !(t.inApplet && decide (k < 6)) then some (r, (fun t => t), [t.codeByte k (b + 256 * h)]) else none
      | _ => none }
  | _ => none

/-- A bit of bit space. -/
def bitAt (t : Trowel) (n : Nat) : Bool := Table.get false n t.bitSpace

/-- Bit space with one bit written. -/
def putBit (n : Nat) (b : Bool) (t : Trowel) : Trowel := { t with bitSpace := Table.set false n b t.bitSpace }

/-- A branch by a signed byte (R404). -/
def branch (o : Nat) (t : Trowel) : Trowel := { t with pc := (((t.pc : Int) + s8 o) % 65536).toNat }

/-- R406: the offset of the bit-branch family. -/
def bitOffset (op i : Nat) : Nat := op % 16 * 16 + i / 4096

/-- R406: one of the four bit branches. -/
def bitBranchRow (c : Fin 2) (high : Nat) (want : Bool) (put : Option Bool) : Option CoreRow :=
  some { core := c, op := fun o => o / 16 == high, effect := fun t i l =>
    let n := i % 4096
    if !t.bitOk n then none
    else if bitAt t n = want then
      some (l, (fun u => branch (bitOffset t.opcode i) (match put with | some b => putBit n b u | none => u)), [])
    else some (l, (fun u => u), []) }

/-- R406: bit space. -/
def bitRow : Instr → Option CoreRow
  | .bset c => some { core := c, op := fun o => o == 0x58, effect := fun t n l => if n < 4096 && t.bitOk n then some (l, putBit n true, []) else none }
  | .bclr c => some { core := c, op := fun o => o == 0x59, effect := fun t n l => if n < 4096 && t.bitOk n then some (l, putBit n false, []) else none }
  | .bcpl c => some { core := c, op := fun o => o == 0x5A, effect := fun t n l => if n < 4096 && t.bitOk n then some (l, putBit n (!bitAt t n), []) else none }
  | .bpush c => some { core := c, op := fun o => o == 0x5B, effect := fun t n l => if n < 4096 && t.bitOk n then some (l, (fun u => u), [flag (bitAt t n = true)]) else none }
  | .bpop c => some { core := c, op := fun o => o == 0x5C, effect := fun t n l => match l with
      | b :: r => if n < 4096 && t.bitOk n then some (r, putBit n (decide (b % 2 = 1)), []) else none
      | _ => none }
  | .bpushi c => some { core := c, op := fun o => o == 0x5D, effect := fun t _ l => match l with
      | h :: b :: r => let n := (b + 256 * h) % 4096; if t.bitOk n then some (r, (fun u => u), [flag (bitAt t n = true)]) else none
      | _ => none }
  | .bpopi c => some { core := c, op := fun o => o == 0x5E, effect := fun t _ l => match l with
      | h :: b :: v :: r => let n := (b + 256 * h) % 4096; if t.bitOk n then some (r, putBit n (decide (v % 2 = 1)), []) else none
      | _ => none }
  | .brb1 c => bitBranchRow c 0xB true none
  | .brb0 c => bitBranchRow c 0xC false none
  | .brb1c c => bitBranchRow c 0xD true (some false)
  | .brb0s c => bitBranchRow c 0xE false (some true)
  | _ => none

/-- R417: applet code stays in banks 6–7; there is no bank above 7. -/
def farOk (t : Trowel) (k : Nat) : Bool := decide (k < 8) && (!t.inApplet || decide (6 ≤ k))

/-- R405, R409, R417: control flow. RET stands here for every return but that of an applet to the firmware
that called it. -/
def flowRow : Instr → Option CoreRow
  | .trowelJmp c => some { core := c, op := fun o => o == 0x90, effect := fun _ i l => some (l, (fun t => { t with pc := i }), []) }
  | .jr c => some { core := c, op := fun o => o == 0x91, effect := fun _ i l => some (l, branch i, []) }
  | .jz c => some { core := c, op := fun o => o == 0x92, effect := fun _ i l => match l with
      | b :: r => some (r, (fun t => if b = 0 then branch i t else t), [])
      | _ => none }
  | .jnz c => some { core := c, op := fun o => o == 0x93, effect := fun _ i l => match l with
      | b :: r => some (r, (fun t => if b = 0 then t else branch i t), [])
      | _ => none }
  | .call c => some { core := c, op := fun o => o == 0x94, effect := fun t i l => if t.rs.length < 64 then some (l, (fun t => { t with rs := entry t (t.cbank % 8) (t.pc % 65536) :: t.rs, pc := i }), []) else none }
  | .callf c => some { core := c, op := fun o => o == 0x95, effect := fun t i l => match l with
      | k :: r =>
        if farOk t k && decide (t.rs.length < 64) then
          some (r, (fun u => { u with
            rs := entry u (u.cbank % 8) (u.pc % 65536) :: u.rs, pc := i, cbank := k
            calls := if u.cbank < 6 ∧ u.steward = false ∧ 6 ≤ k then (u.rs.length + 1) :: u.calls else u.calls }), [])
        else none
      | _ => none }
  | .ret c => some { core := c, op := fun o => o == 0x96, effect := fun t _ l => match t.rs with
      | e :: k =>
        let home := decide (t.calls.head? = some t.rs.length)
        if t.inApplet && (e.testBit 23 || decide (e / 65536 % 8 < 6) || home) then none
        else some (l, (fun u => { u with rs := k, pc := e % 65536, cbank := e / 65536 % 8, calls := if home then u.calls.tail else u.calls }), [])
      | [] => none }
  | .reti c => some { core := c, op := fun o => o == 0x97, effect := fun t _ l => match t.rs with
      | e :: k =>
        if t.inApplet && (e.testBit 23 || decide (e / 65536 % 8 < 6)) then none
        else some (l, (fun u => { u with
          rs := k, pc := e % 65536, cbank := e / 65536 % 8, isr := if u.isr = 0 then 0 else u.isr - 2 ^ Nat.log2 u.isr }), [])
      | [] => none }
  | .jmpi c => some { core := c, op := fun o => o == 0x98, effect := fun _ _ l => match l with
      | h :: b :: r => some (r, (fun t => { t with pc := b + 256 * h }), [])
      | _ => none }
  | .calli c => some { core := c, op := fun o => o == 0x99, effect := fun t _ l => match l with
      | h :: b :: r =>
        if t.rs.length < 64 then some (r, (fun t => { t with rs := entry t (t.cbank % 8) (t.pc % 65536) :: t.rs, pc := b + 256 * h }), []) else none
      | _ => none }
  | .jmpf c => some { core := c, op := fun o => o == 0x9A, effect := fun t i l => match l with
      | k :: r => if farOk t k then some (r, (fun u => { u with pc := i, cbank := k }), []) else none
      | _ => none }
  | .ei c => some { core := c, op := fun o => o == 0x9C, effect := fun t _ l => if t.inApplet then none else some (l, (fun u => { u with ie := true }), []) }
  | .di c => some { core := c, op := fun o => o == 0x9D, effect := fun t _ l => if t.inApplet then none else some (l, (fun u => { u with ie := false }), []) }
  | _ => none

/-- R407: one step of a CRC register that shifts right, by the bits of the byte. -/
def crcRight (poly width : Nat) (state b : Nat) : Nat :=
  (List.range 8).foldl (fun x _ => (x / 2) ^^^ (if x % 2 = 1 then poly else 0)) (state ^^^ b) % 2 ^ width

/-- R407: one step of the CRC16 register that shifts left. -/
def crcLeft (state b : Nat) : Nat :=
  (List.range 8).foldl (fun x _ => (2 * x % 65536) ^^^ (if 32768 ≤ x then 0x1021 else 0)) (state ^^^ (256 * b))

/-- R407, R408: loops and CRC steps. -/
def loopRow : Instr → Option CoreRow
  | .trowelLoop c => some { core := c, op := fun o => o == 0xA0, effect := fun t e l => match l with
      | h :: b :: r =>
        let n := b + 256 * h
        match idleLevel t.loops with
        | some k => some (r, (fun u => { u with
            loops := modAt k (fun _ => { ls := u.pc, le := e, lc := n, prio := u.prio, armed := decide (n ≠ 0) }) u.loops
            pc := if n = 0 then u.after e else u.pc }), [])
        | none => none
      | _ => none }
  | .lbrk c => some { core := c, op := fun o => o == 0xA1, effect := fun t _ l => match innermost t.loops 3 with
      | some k => some (l, (fun u => { u with loops := modAt k (fun v => { v with armed := false }) u.loops }), [])
      | none => some (l, (fun u => u), []) }
  | .lcnt c => some { core := c, op := fun o => o == 0xA2, effect := fun t _ l => match innermost t.loops 3 with
      | some k => some (l, (fun u => u), wordOut (t.loops.getD k {}).lc)
      | none => some (l, (fun u => u), wordOut 0) }
  | .crc16 c => some { core := c, op := fun o => o == 0xA8, effect := fun t _ l => match l with
      | b :: r =>
        if t.crc16 < 65536 then
          some (r, (fun u => { u with crc16 := if u.reflect then crcRight 0x8408 16 u.crc16 b else crcLeft u.crc16 b }), [])
        else none
      | _ => none }
  | .crc32 c => some { core := c, op := fun o => o == 0xA9, effect := fun t _ l => match l with
      | b :: r => if t.crc32 < 4294967296 then some (r, (fun u => { u with crc32 := crcRight 0xEDB88320 32 u.crc32 b }), []) else none
      | _ => none }
  | _ => none

/-- R411: the registers a CPGO takes: those set while the coprocessor was busy have joined. -/
def goRegs (t : Trowel) (n : Nat) : List Nat := (t.cp n).late.foldl (fun r p => modAt p.1 (fun _ => p.2) r) (t.cp n).regs

/-- R411, R412: a command of coprocessor `n`: its operand ranges, and from the registers and the core its
status and what it writes where. -/
def commandRow (c : Fin 2) (n k : Nat) (ranges : List Nat → List (Nat × Nat))
    (f : List Nat → Trowel → Nat × Option (Nat × Bytes)) : Option CoreRow :=
  some { core := c, op := fun o => o == 0xF2 + 4 * n, effect := fun t _ l => match l with
    | x :: r =>
      let regs := goRegs t n
      if x = k ∧ (t.cp n).busy = false ∧ (ranges regs).all t.rangeOk then
        some (r, (fun u =>
          let p := f regs u
          let w := match p.2 with | some (a, v) => u.putBytes a v | none => u
          w.modCp n (fun q => { q with regs := regs, late := [], busy := true, status := p.1 })), [])
      else none
    | _ => none }

/-- The 32-bit operand at an address of data RAM. -/
def operand (u : Trowel) (a : Nat) : Nat := ofLE (u.bytes a 4)

/-- R412: a command of cp2 over A and B that writes `n` bytes at DST. -/
def arithRow (c : Fin 2) (k n : Nat) (f : Nat → Nat → Nat × Nat) : Option CoreRow :=
  commandRow c 2 k (fun g => [(g.getD 0 0, 4), (g.getD 1 0, 4), (g.getD 2 0, n)])
    (fun g u => let v := f (operand u (g.getD 0 0)) (operand u (g.getD 1 0)); (v.1, some (g.getD 2 0, le n v.2)))

/-- A 32-bit value as a signed one. -/
def s32 (v : Nat) : Int := if v < 2147483648 then (v : Int) else (v : Int) - 4294967296

/-- R411, R412, R567: coprocessors. CPWAIT stands here for a coprocessor that is idle. -/
def coprocessorRow : Instr → Option CoreRow
  | .cpset c => some { core := c, op := fun o => decide (0xF0 ≤ o) && o % 4 == 0, effect := fun t _ l => match l with
      | g :: h :: b :: r =>
        let n := t.opcode / 4 % 4
        if n = 3 then none
        else some (r, (fun u => u.modCp n (fun p =>
          if p.busy then { p with late := p.late ++ [(g % 16, b + 256 * h)] }
          else { p with regs := modAt (g % 16) (fun _ => b + 256 * h) p.regs, late := p.late.filter (fun x => x.1 != g % 16) })), [])
      | _ => none }
  | .cpget c => some { core := c, op := fun o => decide (0xF0 ≤ o) && o % 4 == 1, effect := fun t _ l => match l with
      | g :: r =>
        let n := t.opcode / 4 % 4
        if n = 3 then none else some (r, (fun u => u), wordOut ((t.cp n).regs.getD (g % 16) 0))
      | _ => none }
  | .cpwait c => some { core := c, op := fun o => decide (0xF0 ≤ o) && o % 4 == 3, effect := fun t _ l =>
      let n := t.opcode / 4 % 4
      if n = 3 ∨ (t.cp n).busy = true then none else some (l, (fun u => u), [(t.cp n).status % 256]) }
  | .sha256Init c => commandRow c 0 0 (fun g => [(g.getD 2 0, 104)]) (fun g _ => (0, some (g.getD 2 0, ctxBytes sha256H0 0 [])))
  | .sha256Update c => commandRow c 0 1 (fun g => [(g.getD 0 0, g.getD 1 0), (g.getD 2 0, 104)])
      (fun g u => (0, some (g.getD 2 0, ctxUpdate (u.bytes (g.getD 2 0) 104) (u.bytes (g.getD 0 0) (g.getD 1 0)))))
  | .sha256Final c => commandRow c 0 2 (fun g => [(g.getD 2 0, 104), (g.getD 3 0, 32)])
      (fun g u => (0, some (g.getD 3 0, ctxFinal (u.bytes (g.getD 2 0) 104))))
  | .ed25519Verify c => commandRow c 1 0 (fun g => [(g.getD 0 0, g.getD 1 0), (g.getD 2 0, 32), (g.getD 3 0, 64)])
      (fun g u => (ed25519Verify (u.bytes (g.getD 0 0) (g.getD 1 0)) (u.bytes (g.getD 2 0) 32) (u.bytes (g.getD 3 0) 64), none))
  | .cp2Add c => arithRow c 0 4 (fun a b => ((a + b) / 2 ^ 32, a + b))
  | .cp2Sub c => arithRow c 1 4 (fun a b => (flag (a < b), a + 2 ^ 32 - b))
  | .cp2Mulu c => arithRow c 2 8 (fun a b => (0, a * b))
  | .cp2Muls c => arithRow c 3 8 (fun a b => (0, ((s32 a * s32 b) % 2 ^ 64).toNat))
  | .cp2Cmpu c => arithRow c 5 0 (fun a b => (if a = b then 0 else if a < b then 1 else 2, 0))
  | .cp2Shl c => arithRow c 6 4 (fun a b => (0, a * 2 ^ (b % 32)))
  | .cp2Shr c => arithRow c 7 4 (fun a b => (0, a / 2 ^ (b % 32)))
  | .cp2Divu c => commandRow c 2 4 (fun g => [(g.getD 0 0, 4), (g.getD 1 0, 4), (g.getD 2 0, 8)])
      (fun g u =>
        let a := operand u (g.getD 0 0)
        let b := operand u (g.getD 1 0)
        if b = 0 then (0x80, none) else (0, some (g.getD 2 0, le 4 (a / b) ++ le 4 (a % b))))
  | _ => none

end Sys2Proof.Claims

/-- R401, R402, R405: every stack, arithmetic and logic instruction of either core, at every depth of a data stack
in order, spilled entries included. -/
def Sys2Proof.Claims.TrowelArithmeticCompletes : Prop := ∀ i r, pureRow i = some r → r.Completes i

/-- R402, R403, R405: literals, PICK, >R, R> and R@. -/
def Sys2Proof.Claims.TrowelMovesComplete : Prop := ∀ i r, moveRow i = some r → r.Completes i

/-- R401, R405, R417: loads and stores of data space and code space. -/
def Sys2Proof.Claims.TrowelMemoryCompletes : Prop := ∀ i r, memoryRow i = some r → r.Completes i

/-- R405, R406: bit space and the bit branches. -/
def Sys2Proof.Claims.TrowelBitsComplete : Prop := ∀ i r, bitRow i = some r → r.Completes i

/-- R403, R405, R409, R417: jumps, calls, returns, EI and DI. -/
def Sys2Proof.Claims.TrowelControlFlowCompletes : Prop := ∀ i r, flowRow i = some r → r.Completes i

/-- R407, R408: LOOP, LBRK, LCNT and the CRC steps. -/
def Sys2Proof.Claims.TrowelLoopsAndCrcComplete : Prop := ∀ i r, loopRow i = some r → r.Completes i

/-- R411, R412, R567: coprocessor registers and commands. -/
def Sys2Proof.Claims.TrowelCoprocessorsComplete : Prop := ∀ i r, coprocessorRow i = some r → r.Completes i

/-- R401–R405, R417: the arithmetic, logic, compare, move and memory instructions of Trowel, each on a stack that holds its operands. -/
def Obligations.TrowelDataInstructionsComplete : Prop :=
  TrowelArithmeticCompletes ∧ TrowelMovesComplete ∧ TrowelMemoryCompletes

/-- R403–R409, R411, R412, R417, R567: the bit, control-flow, loop, CRC and coprocessor instructions of Trowel. -/
def Obligations.TrowelControlInstructionsComplete : Prop :=
  TrowelBitsComplete ∧ TrowelControlFlowCompletes ∧ TrowelLoopsAndCrcComplete ∧ TrowelCoprocessorsComplete
/-! ## Trowel-H: I/O space, interrupts, traps, the applet (R409–R421) -/

namespace Sys2Proof.Claims

/-- Trowel-H is about to execute opcode `op`. -/
def atOp (op : Nat) (t : Trowel) : Bool := t.runs && t.bankPresent t.cbank && t.opcode == op

/-- A core with PC past the instruction at it. -/
def passPc (c : Nat) (s : State) : State := s.setCore c { s.core c with pc := (s.core c).after (s.core c).pc }

/-- The instruction that stood at PC of core `c` in `s` has completed with `s'` (R404, R408). -/
def completed (c : Nat) (s s' : State) : State :=
  let t := s.core c
  s'.setCore c (passed t.pc (t.after t.pc) t.cbank (s'.core c))

/-- Trowel-H is about to execute SYS with service `n` from the applet's banks (R418, R420). -/
def atService (n : Nat) (t : Trowel) : Bool := atOp 0x9B t && t.inApplet && t.imm == n

/-- `n` bytes of data space from `a` on. -/
def dataAt (t : Trowel) (a n : Nat) : Bytes := (List.range n).map (fun k => BitVec.ofNat 8 (t.byteAt (a + k)))

/-- R417: the applet may reach every byte of `n` from `a` on. -/
abbrev windowed (a n : Nat) : Prop := ∀ k, k < n → 0xC000 ≤ (a + k) % 65536

/-- Trowel-H past its SYS, with `rest` left of the stack. -/
def served (rest : List Nat) (s : State) : State :=
  { s with trowelH := { s.trowelH with pc := s.trowelH.after s.trowelH.pc, stack := rest } }

/-- R401, R420: the status OK as a word on the data stack. -/
def answered (s : State) : State := { s with trowelH := { s.trowelH with stack := 0 :: 0 :: s.trowelH.stack } }

end Sys2Proof.Claims

/-- R405, R414, R417: the I/O instructions of Trowel-H read and write the I/O space with what they pop; an access the
running code may make is completed, and nothing else happens. -/
def Sys2Proof.Claims.TrowelIoInstructionsComplete : Prop :=
  ∀ (s s1 s2 s3 : State) (a b v w h : Nat),
    let t := s.trowelH
    let p := passPc 0 s
    (atOp 0x50 t = true → p.popW 0 = .ok (a, s1) → s1.instrRead 0 a = .ok (v, s2) → s2.pushB 0 v = .ok s3 →
      exec (.inIo 0) s = .next (completed 0 s s3)) ∧
    (atOp 0x51 t = true → p.popW 0 = .ok (a, s1) → s1.popB 0 = .ok (b, s2) → s2.instrWrite 0 a b = .ok s3 →
      exec (.outIo 0) s = .next (completed 0 s s3)) ∧
    (atOp 0x52 t = true → p.instrRead 0 t.imm = .ok (v, s1) → s1.pushB 0 v = .ok s2 →
      exec (.ina 0) s = .next (completed 0 s s2)) ∧
    (atOp 0x53 t = true → p.popB 0 = .ok (b, s1) → s1.instrWrite 0 t.imm b = .ok s2 →
      exec (.outa 0) s = .next (completed 0 s s2)) ∧
    (atOp 0x54 t = true → p.instrRead 0 t.imm = .ok (v, s1) → s1.instrRead 0 (t.imm + 1) = .ok (h, s2) →
      s2.pushW 0 (v + 256 * h) = .ok s3 → exec (.inw 0) s = .next (completed 0 s s3)) ∧
    (atOp 0x55 t = true → p.popW 0 = .ok (w, s1) → s1.instrWrite 0 t.imm (w % 256) = .ok s2 →
      s2.instrWrite 0 (t.imm + 1) (w / 256) = .ok s3 → exec (.outw 0) s = .next (completed 0 s s3))

/-- R414–R416: what the I/O space reads as, and that of these reads only POP_DATA has an effect. -/
def Sys2Proof.Claims.IoSpaceReadsAsMapped : Prop :=
  ∀ (s : State), let t := s.trowelH
    s.ioRead 0x0000 = .ok (128 * flag (t.inApplet = true) + 64 * flag (t.trapActive = true) +
      32 * flag (t.wake = true) + t.cbank, s) ∧
    s.ioRead 0x0002 = .ok (t.stack.length, s) ∧
    s.ioRead 0x0004 = .ok (t.dsSpill % 256, s) ∧ s.ioRead 0x0005 = .ok (t.dsSpill / 256 % 256, s) ∧
    s.ioRead 0x0006 = .ok (t.dsBase % 256, s) ∧ s.ioRead 0x0007 = .ok (t.dsBase / 256 % 256, s) ∧
    s.ioRead 0x0008 = .ok (t.dsLimit % 256, s) ∧ s.ioRead 0x0009 = .ok (t.dsLimit / 256 % 256, s) ∧
    s.ioRead 0x000A = .ok (t.rs.length, s) ∧
    s.ioRead 0x000C = .ok (128 * flag (t.ie = true), s) ∧
    s.ioRead 0x000D = .ok (t.isr, s) ∧
    (∃ v, s.ioRead 0x000E = .ok (v, s) ∧ ∀ n, n < 8 → v.testBit n = s.vectorPending n) ∧
    s.ioRead 0x0010 = .ok (t.trapCause, s) ∧ s.ioRead 0x0011 = .ok (t.trapBank, s) ∧
    s.ioRead 0x0012 = .ok (t.trapPc % 256, s) ∧ s.ioRead 0x0013 = .ok (t.trapPc / 256 % 256, s) ∧
    s.ioRead 0x0018 = .ok (t.pwrMode, s) ∧
    s.ioRead 0x0019 = .ok (128 * flag (t.pwrValid = true) + t.pwrResult, s) ∧
    s.ioRead 0x001A = .ok (t.pwrRefuser, s) ∧
    (∀ l, l < 3 → let v := t.loops.getD l {}
      s.ioRead (0x20 + 8 * l) = .ok (v.ls % 256, s) ∧ s.ioRead (0x21 + 8 * l) = .ok (v.ls / 256 % 256, s) ∧
      s.ioRead (0x22 + 8 * l) = .ok (v.le % 256, s) ∧ s.ioRead (0x23 + 8 * l) = .ok (v.le / 256 % 256, s) ∧
      s.ioRead (0x24 + 8 * l) = .ok (v.lc % 256, s) ∧ s.ioRead (0x25 + 8 * l) = .ok (v.lc / 256 % 256, s) ∧
      s.ioRead (0x26 + 8 * l) = .ok (128 * flag (v.armed = true) + v.prio, s)) ∧
    s.ioRead 0x0038 = .ok (t.crc16 % 256, s) ∧ s.ioRead 0x0039 = .ok (t.crc16 / 256 % 256, s) ∧
    s.ioRead 0x003A = .ok (flag (t.reflect = true), s) ∧
    (∀ k, k < 4 → s.ioRead (0x3C + k) = .ok (t.crc32 / 256 ^ k % 256, s)) ∧
    s.ioRead 0x0040 = .ok (0x70, s) ∧
    (∀ k, k < 10 → s.ioRead (0x51 + k) = .ok ((t.qtSnap.getD k 0).toNat, s)) ∧
    (∀ k, k < 16 → ∃ v, s.ioRead (0x100 + k) = .ok (v, s) ∧ ∀ n, n < 8 → v.testBit n = (s.event (8 * k + n)).stat) ∧
    (∀ n, n < 128 → s.ioRead (0x200 + 2 * n) = .ok ((s.event n).cfg % 256, s) ∧
      s.ioRead (0x201 + 2 * n) = .ok ((s.event n).cfg / 256 % 256, s)) ∧
    (∀ n k, n < 128 → k < 4 → s.ioRead (0x400 + 4 * n + k) = .ok ((s.event n).occur / 256 ^ k % 256, s)) ∧
    (∀ q, q < 32 → let a := 0x1000 + 32 * q
      (∀ k, k < 2 → s.ioRead (a + 4 + k) = .ok ((match (s.queue q).entries with | e :: _ => e.data.length | [] => 0) / 256 ^ k % 256, s)) ∧
      s.ioRead (a + 6) = .ok ((s.queue q).nextByte, s.modQueue q Queue.popAdvance) ∧
      (∀ k, k < 2 → s.ioRead (a + 8 + k) = .ok ((s.queue q).entries.length / 256 ^ k % 256, s)) ∧
      (∀ k, k < 2 → s.ioRead (a + 10 + k) = .ok ((queueDepth q - (s.queue q).entries.length) / 256 ^ k % 256, s))) ∧
    (∀ a, 0x2000 ≤ a → a < 0xF000 → s.ioRead a = .error (.unpublished a))

/-- R11, R109, R113, R414, R415: a write of one byte by firmware to a register without a row of its own. -/
def Sys2Proof.Claims.RegisterWriteActsAsMapped : Prop :=
  ∀ (s : State) (v : Byte), let t := s.trowelH
    exec (.registerWrite 0x0000 v) s = .next (if v.toNat.testBit 6 then { s with trowelH := { t with trapActive := false } } else s) ∧
    exec (.registerWrite 0x000C v) s = .next { s with trowelH := { t with ie := v.toNat.testBit 7 } } ∧
    exec (.registerWrite 0x000D v) s = .next s ∧ exec (.registerWrite 0x000E v) s = .next s ∧
    exec (.registerWrite 0x0018 v) s = .next { s with trowelH := { t with pwrMode := v.toNat % 4 } } ∧
    exec (.registerWrite 0x0019 v) s = .next (if v.toNat.testBit 7 then { s with trowelH := { t with pwrValid := false } } else s) ∧
    exec (.registerWrite 0x003A v) s = .next { s with trowelH := { t with reflect := v.toNat.testBit 0 } } ∧
    (∀ b, t.dsBase = b → b < 65536 →
      exec (.registerWrite 0x0006 v) s = .next { s with trowelH := { t with dsBase := b / 256 * 256 + v.toNat } } ∧
      exec (.registerWrite 0x0007 v) s = .next { s with trowelH := { t with dsBase := v.toNat * 256 + b % 256 } }) ∧
    (∀ b, t.dsLimit = b → b < 65536 →
      exec (.registerWrite 0x0008 v) s = .next { s with trowelH := { t with dsLimit := b / 256 * 256 + v.toNat } } ∧
      exec (.registerWrite 0x0009 v) s = .next { s with trowelH := { t with dsLimit := v.toNat * 256 + b % 256 } }) ∧
    (∀ b, t.dsSpill = b → b < 65536 →
      exec (.registerWrite 0x0004 v) s = .next { s with trowelH := { t with dsSpill := b / 256 * 256 + v.toNat } } ∧
      exec (.registerWrite 0x0005 v) s = .next { s with trowelH := { t with dsSpill := v.toNat * 256 + b % 256 } }) ∧
    (∀ b, t.crc16 = b → b < 65536 →
      exec (.registerWrite 0x0038 v) s = .next { s with trowelH := { t with crc16 := b / 256 * 256 + v.toNat } } ∧
      exec (.registerWrite 0x0039 v) s = .next { s with trowelH := { t with crc16 := v.toNat * 256 + b % 256 } }) ∧
    exec (.registerWrite 0x0050 v) s = .next { s with trowelH := { t with qtSnap := qtBytes s.qt } } ∧
    (∀ n : Nat, n < 128 → ∃ u, exec (.registerWrite (BitVec.ofNat 16 (0x200 + 2 * n + 1)) v) s = .next u ∧
      ((s.event n).cfg < 65536 → n < s.events.length → (s.event n).stat = false →
        (u.event n).cfg = v.toNat * 256 + (s.event n).cfg % 256 ∧ u = s.modEvent n (fun e => { e with cfg := (u.event n).cfg }))) ∧
    (∀ a : BitVec 16, 0xF000 ≤ a.toNat → exec (.registerWrite a v) s = .next s) ∧
    (∀ a : BitVec 16, 0x2000 ≤ a.toNat → a.toNat < 0xF000 → exec (.registerWrite a v) s = .refused (.unpublishedRegister a.toNat))

/-- R416: the four ports of a queue, STAT, SW_RAISE and QT_SNAP (R109, R414). -/
def Sys2Proof.Claims.PortRegistersAct : Prop :=
  ∀ (s : State) (q : Fin 32) (v : Byte) (len : BitVec 16) (k : Fin 16),
    let x := s.queue q.val
    (q.val < s.queues.length → x.cell.length < queueCell q.val →
      ∃ u, exec (.pushData q v) s = .next u ∧ (u.queue q.val) = { x with cell := x.cell ++ [v] } ∧
        ∀ m, m ≠ q.val → u.queue m = s.queue m) ∧
    (queueCell q.val ≤ x.cell.length → exec (.pushData q v) s = .next s) ∧
    (0 < len.toNat → len.toNat ≤ queueCell q.val → len.toNat ≤ x.cell.length →
      (waitQueue q.val = false ∨ s.hasRoom q.val = true) →
      exec (.pushLen q len) s =
        .next ((s.modQueue q.val (fun y => { y with cell := [] })).offerAny q.val (x.cell.take len.toNat))) ∧
    ((len.toNat = 0 ∨ queueCell q.val < len.toNat ∨ x.cell.length < len.toNat) →
      exec (.pushLen q len) s =
        .next (((s.modQueue q.val (fun y => { y with cell := [] })).modQueue q.val Queue.reject).dropEvents q.val)) ∧
    (∀ e r, x.entries = e :: r → x.popPos < e.data.length →
      exec (.popData q) s = .next (s.modQueue q.val (fun y => { y with popPos := y.popPos + 1 }))) ∧
    (q.val ≠ 1 → exec (.popRelease q 1) s = .next (s.consume q.val)) ∧
    (q.val = 1 → exec (.popRelease q 1) s = .next s.consumeReply) ∧
    (v ≠ 1 → exec (.popRelease q v) s = .next s) ∧
    (∃ u, exec (.stat k v) s = .next u ∧ u = { s with events := u.events } ∧ u.events.length = s.events.length ∧
      ∀ n, n < s.events.length → u.event n =
        (if n / 8 = k.val ∧ v.toNat.testBit (n % 8) then { s.event n with stat := false } else s.event n)) ∧
    (∀ n, n < 8 → exec (.swRaise (BitVec.ofNat 8 (2 ^ n))) s = .next (s.occurFree (120 + n))) ∧
    exec (.swRaise 0) s = .next s ∧
    exec .qtSnap s = .next { s with trowelH := { s.trowelH with qtSnap := qtBytes s.qt } }

/-- R408, R409, R413: a vector is taken at an instruction boundary, the highest one above every ISR bit, once the WAIT that it ends has
completed; WAIT with MODE 0 ends where such a vector is pending and gates the clock where none is. -/
def Sys2Proof.Claims.VectorsAndWaitComplete : Prop :=
  ∀ (s : State) (v : Nat), let t := s.trowelH
    (t.loaded = true → t.halted = false → t.ie = true → (t.waiting = false ∨ t.pwrMode = 0) → t.rs.length < 64 →
      v < 8 → s.takable v = true → (∀ n, v < n → n < 8 → s.takable n = false) →
      let u := if t.waiting then passed t.pc (t.after t.pc) t.cbank { t with pc := t.after t.pc, waiting := false } else t
      exec .vectorTaken s = .next { s with trowelH := { u with
        rs := entry u (u.cbank % 8) (u.pc % 65536) :: u.rs, isr := u.isr + 2 ^ v, cbank := 0, pc := 8 + 4 * v } }) ∧
    (t.loaded = true → t.halted = false → t.bankPresent t.cbank = true → t.opcode = 0x9E → t.pwrMode = 0 → v < 8 → s.takable v = true →
      exec (.waitIdle 0) s =
        .next { s with trowelH := passed t.pc (t.after t.pc) t.cbank { t with pc := t.after t.pc, waiting := false } }) ∧
    (t.loaded = true → t.halted = false → t.bankPresent t.cbank = true → t.opcode = 0x9E → t.pwrMode = 0 → t.pc < 65536 →
      (∀ n, n < 8 → s.takable n = false) →
      ∃ u, exec (.waitIdle 0) s = .next { s with trowelH := u } ∧ u.waiting = true ∧ u.pc = t.pc)

/-- R410: taking a trap: the core pushes the faulting instruction's address, sets TRAP_ACTIVE, writes TRAP_CAUSE, TRAP_BANK and
TRAP_PC, and goes on at bank 0, 0x0004; a second trap halts the core; a trap of applet code also
stops the applet (R421). -/
def Sys2Proof.Claims.TrapEntryIsAsDescribed : Prop :=
  ∀ (core : Fin 2) (s : State) (n : Nat), let t := s.core core.val
    t.runs = true → s.trapCause core.val = some n → t.rs.length < 64 →
    (t.trapActive = false →
      let u := s.setCore core.val { t with
        rs := entry t (t.cbank % 8) (t.pc % 65536) :: t.rs
        trapActive := true, trapCause := n, trapBank := t.cbank, trapPc := t.pc, cbank := 0, pc := 4 }
      exec (.trap core) s = .next (if t.inApplet then u.stopApplet n else u)) ∧
    (t.trapActive = true → exec (.trap core) s = .next (s.setCore core.val { t with halted := true }))

/-- R402, R410: an instruction that needs an operand takes an underflow trap on an empty stack and has no effect of its own. -/
def Sys2Proof.Claims.EmptyStackTraps : Prop :=
  ∀ (i : Instr) (c : Fin 2) (op : Nat) (s : State),
    (i, op) ∈ [(.drop c, 0x03), (.swap c, 0x05), (.rot c, 0x07), (.dropw c, 0x08), (.trowelAdd c, 0x10), (.addc c, 0x11),
      (.mulu c, 0x1E), (.addw c, 0x20), (.eq c, 0x30), (.zeqw c, 0x3B), (.ld c, 0x40), (.st c, 0x41), (.sta c, 0x45), (.jz c, 0x92),
      (.callf c, 0x95), (.jmpi c, 0x98), (.trowelLoop c, 0xA0), (.crc16 c, 0xA8), (.crc32 c, 0xA9), (.bpushi c, 0x5D)] →
    (s.core c.val).runs = true → (s.core c.val).bankPresent (s.core c.val).cbank = true → (s.core c.val).opcode = op →
    (s.core c.val).stack = [] →
    exec i s = .next (s.takeTrap c.val 3) ∧ exec (.trap c) s = .next (s.takeTrap c.val 3)

/-- R420: the SYS services of the applet. -/
def Sys2Proof.Claims.ServicesComplete : Prop :=
  ∀ (s s1 s2 s3 : State) (a w id mask : Nat) (v : Bytes) (t' : Trowel) (ok : Bool),
    let t := s.trowelH
    let p := passPc 0 s
    (atService 1 t = true → p.popW 0 = .ok (id, s1) → s1.popW 0 = .ok (w, s2) → s2.popW 0 = .ok (a, s3) →
      s3.trowelH.loadBytes a w = .ok v →
      exec .replyItem s =
        .next (completed 0 s { s3 with executing := s3.executing.map (Executing.addItem { id := id, value := v }) })) ∧
    (atService 2 t = true → p.popW 0 = .ok (id, s1) → s1.popW 0 = .ok (a, s2) → s2.sysGetStatus id = .ok →
      s2.trowelH.storeBytes a (s2.paramItem id (s2.shownParam id)).value = .ok t' →
      State.pushW 0 Status.ok.code { s2 with trowelH := t' } = .ok s3 →
      exec .sysParamGet s = .next (completed 0 s s3)) ∧
    (atService 3 t = true → p.popW 0 = .ok (id, s1) → s1.popW 0 = .ok (a, s2) →
      s2.trowelH.loadBytes a (paramBytes id) = .ok v → (s2.sysSet ok id v).1 = .ok →
      (s2.sysSet ok id v).2.pushW 0 Status.ok.code = .ok s3 →
      exec (.sysParamSet ok) s = .next (completed 0 s s3)) ∧
    (atService 4 t = true → p.popW 0 = .ok (w, s1) → s1.popW 0 = .ok (a, s2) → s2.trowelH.loadBytes a w = .ok v →
      1 ≤ w → w ≤ 32 → (s2.sysRecord ok v).1 = .ok → (s2.sysRecord ok v).2.pushW 0 Status.ok.code = .ok s3 →
      exec (.sysJournal ok) s = .next (completed 0 s s3)) ∧
    (atService 5 t = true → p.popGpios 0 = .ok (mask, s1) → s1.popGpios 0 = .ok (w, s2) → onlyBits s2.gpioBonded mask = true →
      s2.gpioRefusal mask = none →
      (s2.gpioSet w mask).pushW 0 Status.ok.code = .ok s3 →
      exec .sysGpioWrite s = .next (completed 0 s s3)) ∧
    (atService 6 t = true → p.pushW 0 ((s.gpio.raw &&& s.gpioBonded) % 65536) = .ok s1 →
      s1.pushW 0 ((s.gpio.raw &&& s.gpioBonded) / 65536) = .ok s2 →
      exec .sysGpioRead s = .next (completed 0 s s2)) ∧
    (atService 7 t = true → p.popW 0 = .ok (w, s1) → s1.popW 0 = .ok (a, s2) → s2.trowelH.loadBytes a w = .ok v → w ≤ 16 →
      (s2.draw.log (Config.freeNat s2.freeTick % 256) 0x10 v).pushW 0 Status.ok.code = .ok s3 →
      exec .sysLog s = .next (completed 0 s s3))

/-- R419, R421: a registered opcode calls its handler, with its limit; a handler that exceeds the limit stops the applet with cause
0x0B and its command replies INTERNAL_FAULT; COPROCESSOR_DONE ends a command (R411). -/
def Sys2Proof.Claims.AppletHandlersComplete : Prop :=
  (∀ (s : State) (e : Nat × Nat × Nat × Nat × Bool) (a : BitVec 16), s.appletEntry s.headOpcode = some e → s.trowelH.mayCall = true →
    exec (.appletOpcode a) s = .next ((appletCommand e a.toNat).run s)) ∧
  (∀ (c : Cmd) (bank handler : Nat) (a limit : Nat) (s : State),
    (c.callHandler bank handler a limit s).deferred = true ∧
    (c.callHandler bank handler a limit s).state = { s with
      trowelH := (s.trowelH.putBytes a (itemBytes c.items)).callApplet bank handler s.applet.spill [a, (itemBytes c.items).length]
      executing := some {
        opcode := c.opcode, ticket := c.ticket s, role := c.role, keyId := c.keyId, due := s.up + limit, depth := s.trowelH.rs.length + 1 } }) ∧
  (∀ (s : State) (x : Executing), s.executing = some x → x.due ≤ s.up → s.applet.running = true →
    ∃ u, exec .handlerTimeLimit s = .next u ∧ u.executing = none ∧ u.applet.running = false) ∧
  (∀ (s : State) (c : Fin 2) (n : Fin 3), let t := s.core c.val
    exec (.coprocessorDone c n) s = .next (s.setCore c.val { t with cps := modAt n.val (fun p => { p with busy := false }) t.cps }))

/-- R417, R419: RET of an applet to the firmware that called it: the entry below leaves the return stack, and firmware replies to
the command whose handler it was; a RET of another call of the firmware replies to none. -/
def Sys2Proof.Claims.AppletReturnsToFirmware : Prop :=
  ∀ (s : State) (e : Nat) (r : List Nat), let t := s.trowelH
    atOp 0x96 t = true → t.inApplet = true → t.rs = e :: r → t.calls.head? = some t.rs.length → e / 65536 % 8 < 6 →
    let u : State := { s with trowelH := { t with rs := r, pc := e % 65536, cbank := e / 65536 % 8, calls := t.calls.tail } }
    (∀ x, s.executing = some x → x.depth = t.rs.length → exec (.ret 0) s = .next u.handlerReturns) ∧
    ((∀ x, s.executing = some x → x.depth ≠ t.rs.length) → exec (.ret 0) s = .next u)

/-- R11, R405, R414–R417: the I/O instructions of Trowel-H, and what the registers they reach read as and do. -/
def Obligations.TrowelIoComplete : Prop :=
  TrowelIoInstructionsComplete ∧ IoSpaceReadsAsMapped ∧ RegisterWriteActsAsMapped

/-- R109, R409, R413, R414, R416: the queue ports, STAT, SW_RAISE and QT_SNAP, the vectors, and WAIT. -/
def Obligations.PortsVectorsAndWaitComplete : Prop :=
  PortRegistersAct ∧ VectorsAndWaitComplete

/-- R402, R410: taking a trap, and the trap of an empty stack. -/
def Obligations.TrapsActAsDescribed : Prop :=
  TrapEntryIsAsDescribed ∧ EmptyStackTraps

/-- R417, R419–R421: the services, the handlers of applets, and the return to firmware. -/
def Obligations.AppletsComplete : Prop :=
  ServicesComplete ∧ AppletHandlersComplete ∧ AppletReturnsToFirmware

/-- R401, R402, R417, R420: every SYS service of a running applet completes, on a data stack none of which is spilled (R402), with operands that the applet may reach (R417). -/
def Obligations.AppletServicesAnswer : Prop :=
  ∀ (s : State) (al ah bl bh cl ch dl dh : Nat) (rest : List Nat) (nvOk : Bool),
    let t := s.trowelH
    let a := al + 256 * ah
    let b := bl + 256 * bh
    let c := cl + 256 * ch
    t.dsSpill ≤ t.dsBase → rest.length ≤ 28 →
    (atService 1 t = true → t.stack = ch :: cl :: bh :: bl :: ah :: al :: rest → windowed a b →
      exec .replyItem s = .next (completed 0 s { served rest s with
        executing := s.executing.map (Executing.addItem { id := c, value := dataAt t a b }) })) ∧
    (atService 2 t = true → t.stack = bh :: bl :: ah :: al :: rest → s.sysGetStatus b = .ok →
      let v := (s.paramItem b (s.shownParam b)).value
      windowed a v.length →
      exec .sysParamGet s = .next (completed 0 s (answered
        { served rest s with trowelH := (served rest s).trowelH.putBytes a v }))) ∧
    (atService 3 t = true → t.stack = bh :: bl :: ah :: al :: rest → windowed a (paramBytes b) →
      let r := (served rest s).sysSet nvOk b (dataAt t a (paramBytes b))
      r.1 = .ok → r.2.trowelH.stack.length ≤ 28 →
      exec (.sysParamSet nvOk) s = .next (completed 0 s (answered r.2))) ∧
    (atService 4 t = true → t.stack = bh :: bl :: ah :: al :: rest → windowed a b → 1 ≤ b → b ≤ 32 → s.power.holdReady = true →
      let r := (served rest s).sysRecord nvOk (dataAt t a b)
      r.1 = .ok → r.2.trowelH.stack.length ≤ 28 →
      exec (.sysJournal nvOk) s = .next (completed 0 s (answered r.2))) ∧
    (atService 5 t = true → t.stack = dh :: dl :: ch :: cl :: bh :: bl :: ah :: al :: rest →
      let mask := c + 65536 * (dl + 256 * dh)
      onlyBits s.gpioBonded mask = true → s.gpioRefusal mask = none →
      let r := (served rest s).gpioSet (a + 65536 * b) mask
      r.trowelH.stack.length ≤ 28 →
      exec .sysGpioWrite s = .next (completed 0 s (answered r))) ∧
    (atService 6 t = true → t.stack = rest →
      let l := s.gpio.raw &&& s.gpioBonded
      exec .sysGpioRead s = .next (completed 0 s (served
        (l / 65536 / 256 % 256 :: l / 65536 % 256 :: l % 65536 / 256 :: l % 65536 % 256 :: rest) s))) ∧
    (atService 7 t = true → t.stack = bh :: bl :: ah :: al :: rest → windowed a b → b ≤ 16 →
      let u := served rest s
      let r := u.draw.log (Config.freeNat s.freeTick % 256) 0x10 (dataAt t a b)
      r.trowelH.stack.length ≤ 28 →
      exec .sysLog s = .next (completed 0 s (answered r)))
/-! ## Screed (R199–R253) -/

namespace Sys2Proof.Claims

/-- Program `who` (0 foreground, 1 customer background, 2 solver) is to issue the instruction `i` of opcode `op`, and none of
its operands faults once the products due have landed (R206, R243, R251). -/
def Issues (op who : Nat) (i : SIns) (s : State) : Prop :=
  s.issuer = some who ∧ s.fetchIns who = some i ∧ i.op = op ∧ (s.landDue who (s.sctx who).slot).badPosition who i = none

/-- R199, R203, R234, R237, R238, R245: an instruction issues: the products due land, clamped tap reads count, `f` gives its
effect, then come the post-steps, the count of its slots, and the next instruction, at `target` where it branches. -/
def issued (who : Nat) (i : SIns) (slots : Nat) (f : State → State) (target : State → Option Nat) (s : State) : State :=
  let s1 := s.landDue who (s.sctx who).slot
  let lanes := if 0x50 ≤ i.op then [0] else s1.sLanes who i
  let s2 := s1.countClamps lanes ((i.operands.filter (fun p => p.1 != 0)).map (·.2))
  let s3 := (f s2).modSctx who (fun c => c.postSteps (i.operands.map (·.2)))
  (s3.countSlots who slots).sequence who (target s2)

/-- A 33-bit result narrowed with d = 0 (R241): clamped and counted, or its low 32 bits. -/
def narrow33 (wrap : Bool) (v : Int) : Int × Bool :=
  if -2147483648 ≤ v ∧ v ≤ 2147483647 then (v, false)
  else if wrap then ((v + 2147483648) % 4294967296 - 2147483648, false)
  else (if v < 0 then -2147483648 else 2147483647, true)

/-- A bitwise operation on two signed words. -/
def bitwise (g : Nat → Nat → Nat) (a b : Int) : Int :=
  let v := g (a % 4294967296).toNat (b % 4294967296).toNat
  if v < 2147483648 then (v : Int) else (v : Int) - 4294967296

/-- R240–R242: the instructions whose result in a lane is a function of two sources: the opcode, whether the sources are taken
on the common scale of 2⁻⁶², and the value with whether it was clamped. -/
def laneRow : Instr → Option (Nat × Bool × (SIns → Int → Int → Int × Bool))
  | .clr => some (0x02, false, fun _ _ _ => (0, false))
  | .screedAdd => some (0x10, false, fun i a b => narrow33 i.wrap (a + b))
  | .screedSub => some (0x11, false, fun i a b => narrow33 i.wrap (a - b))
  | .screedNeg => some (0x12, false, fun i a _ => narrow33 i.wrap (-a))
  | .abs => some (0x13, false, fun i a _ => narrow33 i.wrap (if a < 0 then -a else a))
  | .min => some (0x14, false, fun _ a b => (if a ≤ b then a else b, false))
  | .max => some (0x15, false, fun _ a b => (if a ≤ b then b else a, false))
  | .screedAnd => some (0x17, false, fun _ a b => (bitwise (· &&& ·) a b, false))
  | .screedOr => some (0x18, false, fun _ a b => (bitwise (· ||| ·) a b, false))
  | .screedXor => some (0x19, false, fun _ a b => (bitwise (· ^^^ ·) a b, false))
  | .adda => some (0x1A, false, fun _ a b => (a + b, false))
  | .suba => some (0x1B, false, fun _ a b => (a - b, false))
  | .cmpeq => some (0x30, true, fun _ a b => (flag (a = b), false))
  | .cmpne => some (0x31, true, fun _ a b => (flag (a ≠ b), false))
  | .cmplt => some (0x32, true, fun _ a b => (flag (a < b), false))
  | .cmple => some (0x33, true, fun _ a b => (flag (a ≤ b), false))
  | .cand => some (0x34, false, fun _ a b => (flag (a ≠ 0 ∧ b ≠ 0), false))
  | .cor => some (0x35, false, fun _ a b => (flag (a ≠ 0 ∨ b ≠ 0), false))
  | .cnot => some (0x36, false, fun _ a _ => (flag (a = 0), false))
  | _ => none

/-- A source of one lane. -/
def sourceOf (wide : Bool) (who l x : Nat) (s : State) : Int := if wide then s.sourceWide who l x else s.source who l x

/-- R237: each lane that takes part writes its destination, every value computed before any is written; a clamp counts (R203). -/
def writeLanes (who : Nat) (i : SIns) (g : Nat → Int × Bool) (s : State) : State :=
  (s.sLanes who i).foldl (fun u l => (u.putDest who l i.d (s.sctx who) (g l).1).satIf l (g l).2) s

/-- R200, R243: the multiplier instructions. -/
def productRow : Instr → Option Nat
  | .mul => some 0x20
  | .mac => some 0x21
  | .msu => some 0x22
  | .mula => some 0x23
  | .muls => some 0x24
  | _ => none

/-- A branch's target (R248): a signed offset of words from the branch. -/
def branchTo (pc : Nat) (i : SIns) : Nat :=
  let o : Int := ((i.d % 4096 : Nat) : Int)
  (((pc : Int) + (if o < 2048 then o else o - 4096)) % 32768).toNat

/-- The lanes in which a C register is 1. -/
def condLanes (who n : Nat) (s : State) : List Nat := s.laneList.filter (fun l => (s.sctx who).cond l n)

end Sys2Proof.Claims

/-- R199, R237, R240–R242: the instructions that compute one value in each lane, in every operand form and under every lane
mask: each lane that takes part writes the value the table gives, and the next instruction follows. -/
def Sys2Proof.Claims.ScreedLaneInstructionsComplete : Prop :=
  ∀ (c : Instr) (op : Nat) (wide : Bool) (g : SIns → Int → Int → Int × Bool) (who : Nat) (i : SIns) (s : State),
    laneRow c = some (op, wide, g) → Issues op who i s →
    exec c s = .next (issued who i 1
      (fun u => writeLanes who i (fun l => g i (sourceOf wide who l i.a u) (sourceOf wide who l i.b u)) u) (fun _ => none) s)

/-- R200, R243: a multiplier instruction writes nothing at issue; its exact products, one for each lane that takes part, join
the products in flight and are due in slot n + 3. -/
def Sys2Proof.Claims.ScreedProductsIssue : Prop :=
  ∀ (c : Instr) (op who : Nat) (i : SIns) (s : State),
    productRow c = some op → Issues op who i s →
    exec c s = .next (issued who i 1
      (fun u => u.modSctx who (fun x => { x with flight := x.flight ++
        [{ due := (u.sctx who).slot + 3, op := i.op, reg := i.d % 4096, mod := i.m
           lanes := (u.sLanes who i).map (fun l => (l, u.source who l i.a * u.source who l i.b)) }] })) (fun _ => none) s)

/-- R200, R240, R244: what a product does in a lane when it lands: MUL writes P; MAC, MSU and MULA write the accumulator, MAC and
MSU from what it holds then; MULS writes V narrowed; and PRODUCT_LANDS lands the oldest product whose slot has come. -/
def Sys2Proof.Claims.ScreedProductsLand : Prop :=
  ∀ (who l : Nat) (v : Int) (p : Product) (s : State),
    let aligned := if p.mod.testBit 2 then v * 8 else v
    let acc := signed 72 (Table.get 0 (l * 8 + p.reg % 8) (s.sctx who).acc)
    (p.op = 0x20 → s.landLane who p (l, v) = s.putP who l p.reg v) ∧
    (p.op = 0x21 → s.landLane who p (l, v) = s.putAcc who l p.reg (acc + aligned)) ∧
    (p.op = 0x22 → s.landLane who p (l, v) = s.putAcc who l p.reg (acc - aligned)) ∧
    (p.op = 0x23 → s.landLane who p (l, v) = s.putAcc who l p.reg aligned) ∧
    (p.op = 0x24 →
      let i : SIns := { op := p.op, d := 0, a := 0, b := 0, m := p.mod }
      s.landLane who p (l, v) =
        (s.putV who l p.reg (narrow i.floor i.wrap i.depth aligned).1).satIf l (narrow i.floor i.wrap i.depth aligned).2) ∧
    (∀ (b : Bool) (r : List Product), (s.sctx (if b then 1 else 0)).flight = p :: r → p.due ≤ (s.sctx (if b then 1 else 0)).slot →
      exec (.productLands b) s = .next (p.lanes.foldl (fun u x => u.landLane (if b then 1 else 0) p x)
        (s.modSctx (if b then 1 else 0) (fun c => { c with flight := r }))))

/-- R202: narrowing to 32 bits: the store shift, rounding half up or floor, then saturation or the low 32 bits. -/
def Obligations.NarrowingRoundsAndClamps : Prop :=
  ∀ (floor : Bool) (d : Nat) (v : Int), 0 < d →
    let x : Int := if floor then v / 2 ^ d else (v + 2 ^ (d - 1)) / 2 ^ d
    (narrow floor false d v).1 = max (-2147483648) (min 2147483647 x) ∧
    ((narrow floor false d v).2 = true ↔ x < -2147483648 ∨ 2147483647 < x) ∧
    (narrow floor true d v).1 % 4294967296 = x % 4294967296 ∧
    -2147483648 ≤ (narrow floor true d v).1 ∧ (narrow floor true d v).1 ≤ 2147483647 ∧
    (narrow floor true d v).2 = false

/-- R201: accumulation wraps modulo 2⁷², and a wrap adds 1 to the lane's GUARD_OVF counter and saturates nothing. -/
def Obligations.AccumulatorsWrapModulo72Bits : Prop :=
  ∀ (who l n : Nat) (v : Int) (s : State), who < 3 → l < 16 → n < 8 →
    let u := s.putAcc who l n v
    let held := Table.get 0 (l * 8 + n) (u.sctx who).acc
    held = (v % 2 ^ 72).toNat ∧
    u.counter 0x20 (7 + 2 * l) =
      (if -(2 ^ 71) ≤ v ∧ v < 2 ^ 71 then s.counter 0x20 (7 + 2 * l) else (s.counter 0x20 (7 + 2 * l) + 1) % 2 ^ 32) ∧
    (∀ k, k ≠ 7 + 2 * l → u.counter 0x20 k = s.counter 0x20 k) ∧ u.screed.satMask = s.screed.satMask

/-- R240, R241, R249: NOP, MOV, ASH and FTAP. -/
def Sys2Proof.Claims.ScreedMovesAndTapsComplete : Prop :=
  ∀ (who : Nat) (i : SIns) (s : State),
    (Issues 0x00 who i s → exec .screedNop s = .next (issued who i 1 (fun u => u) (fun _ => none) s)) ∧
    (Issues 0x01 who i s → sMode i.d = 8 →
      exec .mov s = .next (issued who i 1 (fun u => writeLanes who i (fun l => (u.sourceWide who l i.a, false)) u) (fun _ => none) s)) ∧
    (Issues 0x01 who i s → sMode i.d ≠ 8 → (sMode i.a = 7 ∨ sMode i.a = 8) →
      exec .mov s = .next (issued who i 1
        (fun u => writeLanes who i (fun l => narrow i.floor i.wrap i.depth (u.source who l i.a)) u) (fun _ => none) s)) ∧
    (Issues 0x01 who i s → sMode i.d ≠ 8 → sMode i.a ≠ 7 → sMode i.a ≠ 8 →
      exec .mov s = .next (issued who i 1 (fun u => writeLanes who i (fun l => (u.source who l i.a, false)) u) (fun _ => none) s)) ∧
    (Issues 0x16 who i s →
      exec .ash s = .next (issued who i 1 (fun u => writeLanes who i (fun l =>
        let b := max (-31) (min 31 (if sMode i.b = 9 then signed 12 (i.b % 4096) else u.source who l i.b))
        if 0 ≤ b then narrow33 i.wrap (u.source who l i.a * 2 ^ b.toNat)
        else narrow i.floor i.wrap (-b).toNat (u.source who l i.a)) u) (fun _ => none) s)) ∧
    (Issues 0x40 who i s →
      exec .ftap s = .next (issued who i 16 (fun u =>
        (u.sLanes who i).foldl (fun w l =>
          let y := u.ftapLane i.cf l i.a
          let r := if sMode i.d = 8 then (y, false) else narrow i.floor i.wrap i.depth y
          (w.putDest who l i.d (u.sctx who) r.1).satIf l r.2) (u.landAll who)) (fun _ => none) s))

/-- R236, R240, R245, R248: the scalar and control instructions. -/
def Sys2Proof.Claims.ScreedControlCompletes : Prop :=
  ∀ (who : Nat) (i : SIns) (s : State),
    let imm := sMode i.a = 9
    (Issues 0x50 who i s →
      let pc := (s.sprog who).pc
      let le := pc + i.d % 1024
      let data := fun (u : State) => (u.source who 0 i.a % 65536).toNat
      let n := fun (u : State) => if imm then i.a % 4096 else min (data u) (i.b % 4096)
      exec .screedLoop s = .next (issued who i 1
        (fun u => (if ¬imm ∧ i.b % 4096 < data u then u.screedFault who 4 else u).modSctx who (fun c =>
          { c with loops := modAt (i.d / 1024 % 4) (fun _ => { ls := (pc + 1) % 32768, le := le % 32768, lc := n u }) c.loops }))
        (fun u => if n u = 0 then some (le + 1) else some (pc + 1)) s)) ∧
    (Issues 0x54 who i s → (who = 1 → (s.sprog 1).pc < 0x7400 + s.screed.custBank.words.length) →
      exec .screedJmp s = .next (issued who i 2 (fun u => u) (fun _ => some (branchTo (s.sprog who).pc i)) s)) ∧
    (Issues 0x54 1 i s → 0x7400 + s.screed.custBank.words.length ≤ (s.sprog 1).pc →
      exec .screedJmp s = .next (issued 1 i 2 (fun u => u) (fun _ => some 0x7400) s)) ∧
    (Issues 0x55 who i s → (who = 1 → (s.sprog 1).pc < 0x7400 + s.screed.custBank.words.length) →
      exec .brany s = .next (issued who i 2 (fun u => u)
        (fun u => if condLanes who (i.a % 8) u = [] then none else some (branchTo (s.sprog who).pc i)) s)) ∧
    (Issues 0x56 who i s → (who = 1 → (s.sprog 1).pc < 0x7400 + s.screed.custBank.words.length) →
      exec .brall s = .next (issued who i 2 (fun u => u)
        (fun u => if condLanes who (i.a % 8) u = u.laneList then some (branchTo (s.sprog who).pc i) else none) s)) ∧
    (Issues 0x58 who i s →
      exec .ldar s = .next (issued who i 1 (fun u =>
        let v := if imm then ((i.a % 4096 : Nat) : Int) else u.source who 0 i.a
        u.modSctx who (fun c => { c with a := modAt (i.d % 16) (fun _ => (v % 262144).toNat) c.a })) (fun _ => none) s)) ∧
    (Issues 0x59 who i s →
      exec .adar s = .next (issued who i 1 (fun u =>
        let v := if imm then signed 12 (i.a % 4096) else u.source who 0 i.a
        u.modSctx who (fun c => { c with a := modAt (i.d % 16) (fun x => (((x : Int) + v) % 262144).toNat) c.a })) (fun _ => none) s)) ∧
    (Issues 0x5A who i s →
      exec .setdp s = .next (issued who i 1 (fun u =>
        let v := if imm then ((i.a % 4096 : Nat) : Int) else u.source who 0 i.a
        u.modSctx who (fun c => { c with dpage := (v % 8).toNat })) (fun _ => none) s)) ∧
    (Issues 0x5B who i s →
      exec .setmr s = .next (issued who i 1 (fun u =>
        let v := if imm then i.a % 4096 else (u.source who 0 i.a % 4294967296).toNat
        { u with screed := { u.screed with maxrep := if v = 0 then 1 else min v 64 } }) (fun _ => none) s))

/-- R205, R207, R246, R248: REP, FGEND, EVWAIT and the end of a wait. -/
def Sys2Proof.Claims.ScreedSequencesComplete : Prop :=
  ∀ (who n : Nat) (i : SIns) (s : State),
    (Issues 0x51 who i s →
      let full := fun (k : Nat) => if k = 0 then 4096 else k
      let s1 := (s.landDue who (s.sctx who).slot).countClamps [0] [i.a]
      let data := (s1.source who 0 i.a % 65536).toNat
      let most := full (i.b % 4096)
      let asked := if sMode i.a = 9 then full (i.a % 4096) else min data most
      let count := if who = 0 then asked else min asked s1.screed.maxrep
      let cut := sMode i.a ≠ 9 ∧ (most < data ∨ count < asked)
      let s2 := ((if cut then s1.screedFault who 4 else s1).modSctx who (fun c => c.postSteps [i.a])).countSlots who 1
      let s3 := (s2.modSprog who (fun p => { p with pc := (p.pc + 1) % 32768, rep := count })).checkFetch who
      exec .rep s = .next (if count = 0 then (s3.stepPast who true).checkFetch who else s3)) ∧
    (s.issuer = some 0 → (∀ j, s.fetchIns 0 = some j → j.op = 0x52) → (s.fetchIns 0).isSome = true →
      exec .fgend s = .next (((s.landDue 0 s.screed.f.slot).countSlots 0 1).endPass)) ∧
    (s.issuer = some 0 → s.fetchIns 0 = none →
      exec .fgend s = .next ((((s.screedFault 0 3).landDue 0 (s.screedFault 0 3).screed.f.slot).countSlots 0 1).endPass)) ∧
    (s.issuer = some who → who ≠ 0 → s.fetchIns who = some i → i.op = 0x53 →
      let s1 := (s.landDue who (s.sctx who).slot).countSlots who 1
      let e := s1.event (i.a % 4096 % 128)
      exec .evwait s = .next (if e.stat = true ∧ e.toScreed = true then (s1.clearStat (i.a % 4096 % 128)).sequence who none
        else s1.modSprog who (fun p => { p with wait := some (i.a % 4096 % 128) }))) ∧
    (∀ b : Bool, let w := if b then 2 else 1
      (s.sprog w).wait = some n → (s.event n).stat = true → (s.event n).toScreed = true →
      exec (.evwaitSatisfied b) s = .next (((s.clearStat n).modSprog w (fun p => { p with wait := none })).sequence w none))

/-- R251, R252: an instruction with a bad operand does nothing in any lane: the fault occurs, its slots count and the program goes
on with the next word. -/
def Sys2Proof.Claims.ScreedBadOperandDoesNothing : Prop :=
  ∀ (c : Instr) (op : Nat) (wide : Bool) (g : SIns → Int → Int → Int × Bool) (who pos : Nat) (i : SIns) (s : State),
    laneRow c = some (op, wide, g) → s.issuer = some who → s.fetchIns who = some i → i.op = op →
    let u := s.landDue who (s.sctx who).slot
    u.badPosition who i = some pos →
    exec c s = .next (((u.occur 75 who (le 2 (u.sprog who).pc ++ le 1 pos ++ zeros 1 ++ le 8 u.screed.index)).countSlots who 1).sequence
      who none)

/-- R217, R221, R251, R257, R261, R275: what the streamer, the scrubber, the loader and the temperature line report. -/
def Sys2Proof.Claims.ScreedEventsComplete : Prop :=
  ∀ (s : State) (ok : Bool) (w : LoadWork) (r : List LoadWork) (u : Fin 4) (line : Bytes) (v : Int) (d : Fin 64) (t : Fin 4) (word : ScrubWord),
    (s.screed.loads = w :: r →
      let x := State.loadWork w ok { s with screed := { s.screed with loads := r } }
      exec (.screedLoadDone ok) s = .next (x.2.2.complete 0x2010 w.ticket x.1 x.2.1)) ∧
    (s.screed.loads = w :: r → w.part = 0 → s.libUsed + 8 * w.words.length ≤ 1048576 →
      exec (.screedLoadDone ok) s = .next (State.complete 0x2010 w.ticket .ok [] { s with screed := { s.screed with
        loads := r, staging := some { target := w.target, entry := w.entry, total := w.words.length } } })) ∧
    (s.screed.copying = true →
      exec .coefCopyDone s = .next { s with screed := { s.screed with copying := false, coefPending := s.screed.coefActive } }) ∧
    (s.param 0x2003 = u.val + 1 → parseTemp line = some v →
      exec (.airTempLine u line) s = .next { s with screed := { s.screed with
        airTemp := Table.insert (u.val + 1) (v, s.up) s.screed.airTemp } }) ∧
    (s.param 0x2003 = u.val + 1 → parseTemp line = none → exec (.airTempLine u line) s = .next (s.bump 0x20 42)) ∧
    ((∀ x, s.airTempOf = some x → x.2 + s.param 0x2005 * qtSec < s.up) →
      exec .airTempStale s = .next { s with screed := { s.screed with airNow := none, staleTemp := true } }) ∧
    (s.power.mode.serves = true → (scrubPlace word).2.1 < s.laneCount →
      let p := scrubPlace word
      exec (.scrub word false) s = .next ((s.bump 0x20 2).occur 73 p.1 (le 1 p.2.1 ++ zeros 1 ++ le 4 p.2.2)) ∧
      exec (.scrub word true) s = .next (((s.uncorrectable word).bump 0x20 3).occur 74 p.1 (le 1 p.2.1 ++ zeros 1 ++ le 4 p.2.2))) ∧
    (s.screed.reloads = [s.screed.activeB] → s.screed.bgReload = 0 →
      ∃ x, exec .bankReload s = .next x ∧ x.screed.halted = false ∧ x.screed.active.words = s.libWords s.screed.active.entry ∧
        x.screed.idle = s.screed.idle) ∧
    (s.screed.fetching.contains (4 * d.val + t.val) = true → s.screed.fetched (4 * d.val + t.val) = false →
      exec (.windowFetchDone d t none) s = .next (State.bump 0x21 2 { s with screed := { s.screed with
        winNext := s.screed.winNext ++ s.laneList.map (fun l => s.fetchLane d.val t.val l) } }))

/-- R275: the line of a temperature sensor: T, a sign, one or two digits, a point, two digits, CR, LF. -/
def Sys2Proof.Claims.TemperatureLineIsParsed : Prop :=
  ∀ a b c d : Fin 10, ∀ minus : Bool,
    let ch := fun (n : Nat) => BitVec.ofNat 8 (0x30 + n)
    let sg : Byte := if minus then 0x2D else 0x2B
    let v : Int := 1000 * a.val + 100 * b.val + 10 * c.val + d.val
    let w : Int := 100 * b.val + 10 * c.val + d.val
    parseTemp [0x54, sg, ch a.val, ch b.val, 0x2E, ch c.val, ch d.val, 0x0D, 0x0A] = some (if minus then -v else v) ∧
    parseTemp [0x54, sg, ch b.val, 0x2E, ch c.val, ch d.val, 0x0D, 0x0A] = some (if minus then -w else w)

/-- R112, R184, R207–R212, R393: a sample tick: what the wired cell sends before it goes out, background REPs drain or the overrun is
handled, the tick's figures are kept, time reaches the tick's instant, the strobe loads the audio PLL, and the switch cycle takes its actions in the order of R208. -/
def Obligations.SampleTickTakesItsActionsInOrder : Prop :=
  ∀ (received : Nat) (s : State), s.sampleTicks = true →
    (s.wireUp (s.indexInstant s.nextIndex)).sampleTicks = true →
    exec (.sampleTick received) s = .next (s.ascending (fun s =>
      let s0 := s.wireUp (s.indexInstant s.nextIndex)
      let n := s0.nextIndex
      let past := s0.screed.passOpen
      let s1 := ((if past then s0 else s0.drainBackground).overrun.endSaturation).noteSlots (if past then 0 else received)
      let s2 := ((s1.advance (s1.indexInstant n)).release .sampleTick).loadAudio
      let s3 := State.takeAnchor n { s2 with audio := { s2.audio with outHeld := past } }
      let s4 := s3.emitTick
      let s5 := State.bump64 0x20 0 1 { s4 with screed := { s4.screed with index := n, ticked := true, forced := none } }
      let s6 := s5.audioTick.presentInputs n
      s6.takeCommits.glideTick.streamerTick.jumpTicks.startPass.afterSwitch n))

/-- R208, R209: the foreground begins at word 0 of the active bank; with no program the staged words are 0. -/
def Obligations.ForegroundBeginsAtWordZero : Prop :=
  ∀ (s : State),
    (s.screed.active.loaded = true → s.screed.halted = false →
      s.startPass.screed.passOpen = true ∧ s.startPass.screed.fg = { on := true, pc := s.screed.fgBase }) ∧
    (s.screed.active.loaded = false → s.startPass.screed.passOpen = false ∧ s.startPass.screed.staged = [])

/-- R199, R237, R240–R242, R249, R251, R252: the lane, move and tap instructions of Screed, and an operand that does not exist. -/
def Obligations.ScreedDataInstructionsComplete : Prop :=
  ScreedLaneInstructionsComplete ∧ ScreedMovesAndTapsComplete ∧ ScreedBadOperandDoesNothing

/-- R200, R240, R243, R244: multiplications issue, and land in their registers. -/
def Obligations.ScreedProductsComplete : Prop :=
  ScreedProductsIssue ∧ ScreedProductsLand

/-- R205, R207, R236, R240, R245, R246, R248: control flow and the sequences of Screed. -/
def Obligations.ScreedFlowComplete : Prop :=
  ScreedControlCompletes ∧ ScreedSequencesComplete

/-- R217, R221, R251, R257, R261, R275: loads, copies, the air temperature, scrubbing and reloading. -/
def Obligations.ScreedUnitEventsComplete : Prop :=
  ScreedEventsComplete ∧ TemperatureLineIsParsed
/-! ## Host port and commands (R62–R95) -/

namespace Sys2Proof.Claims

/-- The row of the opcode directory behind each command of the host (R87, R89); the four generic commands and UART_BREAK take the
unit that the packet at the head of Q00 names. -/
def commandOf (s : State) : Instr → Option CmdSpec
  | .identityGet => some identityGet
  | .modeSet => some modeSet
  | .deviceReset => some deviceResetCommand
  | .echo => some echo
  | .sessionChallenge => some sessionChallenge
  | .sessionOpen => some sessionOpen
  | .sessionClose => some sessionClose
  | .sessionList => some sessionList
  | .resultRead => some resultRead
  | .resultRelease => some resultRelease
  | .portStatusClear => some portStatusClear
  | .queueStatusGet => some queueStatusGet
  | .queueFlush => some queueFlush
  | .eventRouteSet nvOk => some (eventRouteSet nvOk)
  | .eventClear => some eventClear
  | .dmaProgramLoad nvOk => some (dmaProgramLoad nvOk)
  | .dmaStart => some dmaStart
  | .dmaStop => some dmaStop
  | .gpioWrite => some gpioWrite
  | .gpioRead => some gpioRead
  | .channelAssign => some channelAssign
  | .channelRelease => some channelRelease
  | .timeGet => some timeGet
  | .positionSet nvOk => some (positionSet nvOk)
  | .surveyStart => some surveyStart
  | .stepApprove => some stepApprove
  | .pulseConfig nvOk => some (pulseConfig nvOk)
  | .markConfig nvOk => some (markConfig nvOk)
  | .antBiasSet nvOk => some (antBiasSet nvOk)
  | .searchStart => some searchStart
  | .searchStop => some searchStop
  | .assistLoad => some assistLoad
  | .screedLoadBegin => some screedLoadBegin
  | .screedLoadData => some screedLoadData
  | .screedLoadEnd => some screedLoadEnd
  | .screedLoadLoad => some screedLoadLoad
  | .screedLoadDelete => some screedLoadDelete
  | .screedCommit => some screedCommit
  | .screedCommitCancel => some screedCommitCancel
  | .coefWrite nvOk => some (coefWrite nvOk)
  | .glideStart => some (glideCommand false)
  | .glideAbort => some (glideCommand true)
  | .geometrySet nvOk => some (geometrySet nvOk)
  | .airTempSet => some airTempSet
  | .delayDescSet nvOk => some (delayDescSet nvOk)
  | .aesCsSet nvOk => some (aesCsSet nvOk)
  | .aesCsGet => some aesCsGet
  | .aesUserRead => some aesUserRead
  | .aesUserWrite => some aesUserWrite
  | .tdmStart => some tdmStart
  | .tdmStop => some tdmStop
  | .asrcAssign nvOk => some (asrcAssign nvOk)
  | .routeSet nvOk => some (routeSet nvOk)
  | .muteSet nvOk => some (muteSet nvOk)
  | .groupSet nvOk => some (groupSet nvOk)
  | .rfCal => some rfCal
  | .rfChannelSet nvOk => some (rfChannelSet nvOk)
  | .tunerStatusGet => some tunerStatusGet
  | .locksWrite nvOk => some (locksWrite nvOk)
  | .modemQualityGet => some modemQualityGet
  | .cellConfigSet nvOk => some (cellConfigSet nvOk)
  | .cellStatusGet => some cellStatusGet
  | .cellCommit => some cellCommit
  | .cellCommitCancel => some cellCommitCancel
  | .workerAdmit nvOk => some (workerAdmit nvOk)
  | .workerRevoke nvOk => some (workerRevoke nvOk)
  | .pllStatusGet refMeas => some (pllStatusGet refMeas.toNat)
  | .rtcSetTime nvOk => some (rtcSetTime nvOk)
  | .rtcSetZone nvOk => some (rtcSetZone nvOk)
  | .rtcGet subsec => some (rtcGet subsec.val)
  | .alarmSet nvOk => some (alarmSet nvOk)
  | .summerTime nvOk => some (summerTime nvOk)
  | .logExport => some logExport
  | .imageWriteBegin nvOk => some (imageWrite (fun p => p == 0 || decide (3 < p)) nvOk [])
  | .imageWriteData nvOk => some (imageWrite (· == 1) nvOk [])
  | .imageWriteEnd => some (imageWrite (· == 2) true [])
  | .imageWriteFromFlash flash nvOk => some (imageWrite (· == 3) nvOk flash)
  | .imageActivate nvOk => some (imageActivate nvOk)
  | .bootConfirm nvOk => some (bootConfirm nvOk)
  | .journalRead => some journalRead
  | .sensorRead => some sensorRead
  | .keyAdd nvOk => some (keyAdd nvOk)
  | .keyRevoke nvOk => some (keyRevoke nvOk)
  | .pinSetEnable nvOk => some (pinSet (· != 0) nvOk)
  | .pinSetDisable nvOk => some (pinSet (· == 0) nvOk)
  | .testAccessClose nvOk => some (testAccess (fun a => a == 0 || decide (3 < a)) nvOk)
  | .testAccessOpen nvOk => some (testAccess (· == 1) nvOk)
  | .testAccessJtag nvOk => some (testAccess (· == 2) nvOk)
  | .jtagFuseBlow nvOk => some (testAccess (· == 3) nvOk)
  | .powerEnter => some powerEnter
  | .watchConfig nvOk => some (watchConfig nvOk)
  | .resetCauseGet => some resetCauseGet
  | .paramGet => if directoryUnits.contains s.headUnit then some (paramGetOf s.headUnit) else none
  | .paramSet nvOk => if directoryUnits.contains s.headUnit then some (paramSetOf s.headUnit nvOk) else none
  | .statusGet subsec refMeas =>
    if directoryUnits.contains s.headUnit then some (statusGetOf s.headUnit subsec.val refMeas.refMeas.toNat) else none
  | .countersGet => if directoryUnits.contains s.headUnit then some (countersGetOf s.headUnit) else none
  | .uartBreak => some (uartBreak (s.headUnit % 4))
  | _ => none

/-- R76 checks 1–3 and 6: the interpreter takes commands, and the packet at the head of Q00 is this row's, sound and of the
expected shape. -/
def Sound (k : CmdSpec) (p : Packet) (items : List Item) (s : State) : Prop :=
  s.hostRdy = true ∧ s.executing = none ∧
  (∃ e r, (s.queue 0).entries = e :: r ∧ p = parsePacket e.data) ∧
  p.crcOk = true ∧ p.version = 1 ∧ p.flags = 0 ∧ p.opcode = k.opcode ∧
  parseItems p.payload = some items ∧ k.selects items = true ∧ k.shape items = true

/-- R76 check 4: the session is open; SESSION_OPEN names a reserved ID (R91). -/
def SessionStands (p : Packet) (s : State) : Prop :=
  (if p.opcode = 0x0111 then s.reserved p.session else s.sessionOpen p.session) = true

/-- R439: STATUS_GET takes the levels of CTS_N in the clock of its reply; no other command brings anything from outside. -/
def seen (i : Instr) (s : State) : State := match i with | .statusGet _ f => s.seeCts f.ctsHigh | _ => s

/-- The packet has left Q00, and the idle time of its session restarts (R82). -/
def taken (p : Packet) (s : State) : State := (s.modQueue 0 (Queue.pop 16)).touch p.session

/-- The command as executed: SESSION_OPEN has no role yet. -/
def commandAs (p : Packet) (items : List Item) (s : State) : Cmd :=
  { opcode := p.opcode, seq := p.seq, session := p.session
    role := if p.opcode = 0x0111 then 0 else (s.session p.session).role, keyId := (s.session p.session).keyId, items := items }

/-- R83: this SEQ executes. -/
def Fresh (p : Packet) (s : State) : Prop :=
  (s.session p.session).baseline = none ∨ ∃ b, (s.session p.session).baseline = some b ∧ p.seq = (b + 1) % 65536

/-- Checks 7–10 of R76 as the row's own fields give them; a row that makes its own checks makes them in its body (R88). -/
def Allowed (k : CmdSpec) (c : Cmd) (s : State) : Prop :=
  k.ownChecks = true ∨
  (k.absent s c.items = false ∧ k.role ≤ c.role ∧ k.roleOf c.items ≤ c.role ∧
   (c.session = 0 → s.nv.pin = none ∨ pinExempt c.opcode = true) ∧ k.locked s c.items = false ∧ k.naming s c = none ∧
   (s.rst.recovery = true → recoveryOpcode c.opcode = true) ∧ (k.maintenance = true → s.power.mode = .maintenance) ∧
   (k.journals = true → s.power.holdReady = true))

/-- A refusal at the packet's checks: the reply carries STATUS alone, and nothing else changes (R76). -/
def refused (p : Packet) (st : Status) (s : State) : State := s.putReply 1 p.opcode p.seq p.session (le 2 st.code) .none

/-- R89: opcode, role (0 none, 1 operator, 2 installer, 3 maker), whether the reply follows a journal commit, and whether the
command is available only in Maintenance, for the rows whose role and reply do not depend on the request. -/
def directoryRow : Instr → Option (Nat × Nat × Bool × Bool)
  | .identityGet => some (0x0010, 1, false, false)
  | .deviceReset => some (0x0012, 2, false, false)
  | .echo => some (0x0013, 1, false, false)
  | .sessionChallenge => some (0x0110, 1, false, false)
  | .sessionOpen => some (0x0111, 0, false, false)
  | .sessionClose => some (0x0112, 1, false, false)
  | .sessionList => some (0x0113, 1, false, false)
  | .resultRead => some (0x0114, 1, false, false)
  | .resultRelease => some (0x0115, 1, false, false)
  | .portStatusClear => some (0x0116, 1, false, false)
  | .queueStatusGet => some (0x0210, 1, false, false)
  | .queueFlush => some (0x0211, 2, false, false)
  | .eventRouteSet _ => some (0x0310, 2, true, false)
  | .eventClear => some (0x0311, 1, false, false)
  | .dmaProgramLoad _ => some (0x0410, 2, true, false)
  | .dmaStart => some (0x0411, 2, false, false)
  | .dmaStop => some (0x0412, 2, false, false)
  | .antBiasSet _ => some (0x1010, 2, true, false)
  | .searchStart => some (0x1110, 1, false, false)
  | .searchStop => some (0x1111, 1, false, false)
  | .assistLoad => some (0x1112, 1, false, false)
  | .channelAssign => some (0x1210, 1, false, false)
  | .channelRelease => some (0x1211, 1, false, false)
  | .timeGet => some (0x1310, 1, false, false)
  | .positionSet _ => some (0x1311, 2, true, false)
  | .surveyStart => some (0x1312, 2, false, false)
  | .stepApprove => some (0x1313, 2, false, false)
  | .pulseConfig _ => some (0x1314, 2, true, false)
  | .markConfig _ => some (0x1315, 1, true, false)
  | .screedCommit => some (0x2011, 1, false, false)
  | .coefWrite _ => some (0x2012, 1, true, false)
  | .glideStart => some (0x2013, 1, false, false)
  | .geometrySet _ => some (0x2014, 2, true, false)
  | .airTempSet => some (0x2015, 1, false, false)
  | .delayDescSet _ => some (0x2110, 2, true, false)
  | .asrcAssign _ => some (0x2210, 2, true, false)
  | .aesCsSet _ => some (0x2310, 2, true, false)
  | .aesCsGet => some (0x2311, 1, false, false)
  | .aesUserRead => some (0x2312, 1, false, false)
  | .aesUserWrite => some (0x2313, 1, false, false)
  | .tdmStart => some (0x2410, 1, false, false)
  | .tdmStop => some (0x2411, 1, false, false)
  | .routeSet _ => some (0x2510, 2, true, false)
  | .muteSet _ => some (0x2511, 1, true, false)
  | .groupSet _ => some (0x2512, 2, true, false)
  | .rfCal => some (0x3010, 1, false, false)
  | .rfChannelSet _ => some (0x3011, 2, true, false)
  | .tunerStatusGet => some (0x3012, 1, false, false)
  | .locksWrite _ => some (0x3013, 3, true, true)
  | .modemQualityGet => some (0x3110, 1, false, false)
  | .cellConfigSet _ => some (0x3210, 2, true, false)
  | .cellStatusGet => some (0x3211, 1, false, false)
  | .cellCommit => some (0x3212, 1, false, false)
  | .workerAdmit _ => some (0x3213, 2, true, false)
  | .gpioWrite => some (0x4810, 1, false, false)
  | .gpioRead => some (0x4811, 1, false, false)
  | .pllStatusGet _ => some (0x5010, 1, false, false)
  | .rtcSetTime _ => some (0x5110, 2, true, false)
  | .rtcGet _ => some (0x5111, 1, false, false)
  | .alarmSet _ => some (0x5112, 1, true, false)
  | .summerTime _ => some (0x5113, 1, true, false)
  | .logExport => some (0x6010, 1, false, false)
  | .imageActivate _ => some (0x6111, 2, true, true)
  | .bootConfirm _ => some (0x6112, 2, true, false)
  | .journalRead => some (0x6113, 1, false, false)
  | .sensorRead => some (0x6210, 1, false, false)
  | .keyAdd _ => some (0x6310, 3, true, true)
  | .pinSetEnable _ => some (0x6311, 3, true, false)
  | .powerEnter => some (0x7010, 1, false, false)
  | .watchConfig _ => some (0x7011, 2, true, false)
  | .resetCauseGet => some (0x7110, 1, false, false)
  | .testAccessOpen _ => some (0x7210, 3, true, true)
  | _ => none

end Sys2Proof.Claims

/-- R76, R77: a command whose packet is sound, whose session stands, whose SEQ is fresh and which checks 7–10 let through executes:
its own effect is its body's, and its reply and baseline follow (R75, R83). Every command of the host. -/
def Obligations.HostCommandsComplete : Prop :=
  ∀ (i : Instr) (k : CmdSpec) (p : Packet) (items : List Item) (s : State), commandOf s i = some k →
    Sound k p items s → SessionStands p s → Fresh p s →
    let c := commandAs p items s
    let u := taken p (seen i s)
    Allowed k c u → ((k.body c u).status = .ok ∨ (k.body c u).status = .accepted) →
    exec i s = .next ((State.finish c (k.body c u)).spendNonce p.opcode p.session)

/-- R411, R419, R421: a registered opcode whose packet passes the checks of R76 calls its handler, with the payload's address and
length and the limit that FLAGS gives it, and its SEQ becomes the baseline; a handler past its limit is abandoned and the applet
stops; a coprocessor's completion ends its command. -/
def Obligations.AppletCommandsComplete : Prop :=
  (∀ (s : State) (e : Nat × Nat × Nat × Nat × Bool) (a : BitVec 16) (p : Packet) (items : List Item),
    s.appletEntry s.headOpcode = some e → s.trowelH.mayCall = true →
    let k := appletCommand e a.toNat
    let c := commandAs p items s
    let u := taken p s
    Sound k p items s → SessionStands p s → Fresh p s → Allowed k c u →
    exec (.appletOpcode a) s = .next ((({ u with
        trowelH := (u.trowelH.putBytes a.toNat (itemBytes items)).callApplet e.2.2.1 e.2.2.2.1 u.applet.spill
          [a.toNat, (itemBytes items).length]
        executing := some { opcode := p.opcode, ticket := c.ticket u, role := c.role, keyId := c.keyId
                            depth := u.trowelH.rs.length + 1
                            due := s.up + (if e.2.2.2.2 then 58000000 else 18000000) * 65536 } } : State).modSession p.session
      (fun x => { x with baseline := some p.seq, storedOp := p.opcode, stored := [] })).spendNonce p.opcode p.session)) ∧
  (∀ (s : State) (x : Executing), s.executing = some x → x.due ≤ s.up → s.applet.running = true →
    ∃ u, exec .handlerTimeLimit s = .next u ∧ u.executing = none ∧ u.applet.running = false) ∧
  (∀ (s : State) (c : Fin 2) (n : Fin 3), let t := s.core c.val
    exec (.coprocessorDone c n) s = .next (s.setCore c.val { t with cps := modAt n.val (fun p => { p with busy := false }) t.cps }))

/-- R76: the checks come in their order, and a command refused by one of them executes nothing: the packet leaves Q00, its reply
carries the status, and only the idle time of a session that stands restarts. -/
def Obligations.PacketChecksRefuseInOrder : Prop :=
  ∀ (i : Instr) (k : CmdSpec) (e : QEntry) (r : List QEntry) (s : State), commandOf s i = some k →
    s.hostRdy = true → s.executing = none → (s.queue 0).entries = e :: r →
    let p := parsePacket e.data
    let u := (seen i s).modQueue 0 (Queue.pop 16)
    p.crcOk = true → p.opcode = k.opcode →
    (parseItems p.payload = none → k.selects [] = true → p.version = 1 → p.flags = 0 → exec i s = .next (refused p .badLength u)) ∧
    (∀ items, parseItems p.payload = some items → k.selects items = true →
      (p.version ≠ 1 → exec i s = .next (refused p .badVersion u)) ∧
      (p.version = 1 → p.flags ≠ 0 → exec i s = .next (refused p .badParam u)) ∧
      (p.version = 1 → p.flags = 0 → k.shape items = false → k.badShape items = [] → exec i s = .next (refused p .badLength u)) ∧
      (p.version = 1 → p.flags = 0 → k.shape items = true → ¬ SessionStands p s → exec i s = .next (refused p .noSession u)))

/-- R83: the sequence baseline: a SEQ that is neither the baseline nor the one after it is refused; the baseline itself gets the
stored reply again with REPEAT set and nothing executes; a fresh SEQ executes, becomes the baseline, and its reply is stored. -/
def Obligations.SequenceBaselineIsKept : Prop :=
  ∀ (i : Instr) (k : CmdSpec) (p : Packet) (items : List Item) (s : State), commandOf s i = some k →
    Sound k p items s → SessionStands p s →
    let x := s.session p.session
    let c := commandAs p items s
    let u := taken p (seen i s)
    (∀ b, x.baseline = some b → p.seq ≠ (b + 1) % 65536 → p.seq ≠ b → exec i s = .next (refused p .seqError u)) ∧
    (x.baseline = some p.seq →
      exec i s = .next (u.putReply 5 x.storedOp p.seq p.session x.stored .none)) ∧
    (Fresh p s →
      let r := k.execute c u
      exec i s = .next ((State.finish c r).spendNonce p.opcode p.session) ∧
      (r.status.executed = true → r.deferred = false → r.opened = false → r.closing = false → r.state.sessionOpen p.session = true →
        let reply := le 2 r.status.code ++ itemBytes r.items
        State.finish c r = (r.state.putReply (if r.again then 5 else 1) p.opcode p.seq p.session reply r.tag).modSession p.session
          (fun y => { y with baseline := some p.seq, storedOp := p.opcode, stored := reply })) ∧
      (r.status.executed = false → r.deferred = false → r.closing = false →
        State.finish c r = r.state.putReply (if r.again then 5 else 1) p.opcode p.seq p.session (le 2 r.status.code ++ itemBytes r.items) r.tag))

/-- R76: after the packet checks, the first of checks 7–10 that fails gives the status, and nothing is executed: a unit, channel or
port absent from the part, the role, a session restricted by the PIN, a lock, what the request names, and then mode and HOLD_READY. -/
def Obligations.AccessChecksRefuseInOrder : Prop :=
  ∀ (k : CmdSpec) (c : Cmd) (s : State), k.ownChecks = false →
    let r := k.execute c s
    (k.absent s c.items = true → r = refuse .deniedVariant s) ∧
    (k.absent s c.items = false → (c.role < k.role ∨ c.role < k.roleOf c.items) → r = refuse .deniedRole s) ∧
    (k.absent s c.items = false → k.role ≤ c.role → k.roleOf c.items ≤ c.role →
      c.session = 0 → s.nv.pin.isSome = true → pinExempt c.opcode = false → r = refuse .deniedRole s) ∧
    (k.absent s c.items = false → k.role ≤ c.role → k.roleOf c.items ≤ c.role → (c.session = 0 → s.nv.pin = none) →
      k.locked s c.items = true → r = refuse .deniedLock s) ∧
    (k.absent s c.items = false → k.role ≤ c.role → k.roleOf c.items ≤ c.role → (c.session = 0 → s.nv.pin = none) →
      k.locked s c.items = false → k.naming s c = none →
      ((s.rst.recovery = true ∧ recoveryOpcode c.opcode = false) ∨ (k.maintenance = true ∧ s.power.mode ≠ .maintenance) ∨
        (k.journals = true ∧ s.power.holdReady = false)) → r = refuse .notReady s)

/-- R89: the opcode directory: opcode and role of every command whose role does not depend on the request, and which of them wait
for a journal commit and which for Maintenance. -/
def Obligations.DirectoryGivesRolesAndConditions : Prop :=
  ∀ (i : Instr) (s : State) (op role : Nat) (j m : Bool), directoryRow i = some (op, role, j, m) →
    ∃ k, commandOf s i = some k ∧ k.opcode = op ∧ k.role = role ∧ k.journals = j ∧ k.maintenance = m ∧ opcodeDefined op = true

/-- R75, R80, R98: a reply put in Q01 stands at its end as one packet, with the command's credit. -/
def Obligations.RepliesStandInQ01 : Prop :=
  ∀ (flags op seq session : Nat) (payload : Bytes) (tag : ReplyTag) (s : State),
    s.hasRoom 1 = true → 1 < s.queues.length → payload.length ≤ 4095 →
    let d := packet flags op seq session payload
    let u := s.putReply flags op seq session payload tag
    (u.queue 1).entries = (s.queue 1).entries ++ [{ data := d, credit := true, tag := tag }] ∧
    (u.queue 1).produced = ((s.queue 1).produced + 1) % 4294967296

/-- R66: what a READ_QUEUE transaction returns and when it consumes the entry. -/
def Obligations.ReadQueueReturnsTheHeadEntry : Prop :=
  ∀ (n : Fin 32) (clocked : Nat) (s : State), s.portServes = true →
    let shown := fun (b : Bytes) => { s with port := { s.port with hostOut := b.take clocked ++ zeros (clocked - b.length) } }
    (∀ e r, s.hostMayRead n.val = true → (s.queue n.val).entries = e :: r → 1 ≤ e.data.length →
      let str := le 2 e.data.length ++ e.data
      (clocked < str.length → exec (.readQueue n clocked) s = .next (shown str)) ∧
      (str.length ≤ clocked → n.val = 1 → exec (.readQueue n clocked) s = .next (shown str).consumeReply) ∧
      (str.length ≤ clocked → n.val ≠ 1 → exec (.readQueue n clocked) s = .next ((shown str).consume n.val))) ∧
    (((s.queue n.val).entries = [] ∨ s.hostMayRead n.val = false) → exec (.readQueue n clocked) s = .next (shown (le 2 0)))

/-- The cycles in which a host sends a command byte and data on `lanes` lanes (R62). -/
def hostTransaction (lanes cmd : Nat) (data : Bytes) : PortCycles :=
  { sclkHigh := false, cycles := (transactionCycles lanes cmd (data.map (·.toNat))).map (BitVec.ofNat 4) }

/-- R62, R63, R65, R67, R69, R95: the other transactions of the port and the reset pin. -/
def Obligations.PortTransactionsComplete : Prop :=
  ∀ (s : State) (n : Fin 32) (b : Bytes) (a : Byte) (low : Nat) (x : PortCycles),
    (s.portServes = true → n.val ≠ 0 → b ≠ [] → s.hostMayWrite n.val = true →
      exec (.writeQueue n b) s = .next (s.offerAny n.val b)) ∧
    (s.portServes = true → n.val ≠ 0 → b ≠ [] → s.hostMayWrite n.val = false →
      exec (.writeQueue n b) s = .next ((s.modQueue n.val Queue.reject).dropEvents n.val)) ∧
    (s.portServes = true → s.creditsHeld ≠ 0 → b.headD 0 = 0x5A → b.length = 12 + fieldAt 6 2 b % 4096 →
      exec (.writeQueue 0 b) s = .next (s.offer 0 { data := b, credit := true })) ∧
    (s.portServes = true → b ≠ [] → b.headD 0 ≠ 0x5A → exec (.writeQueue 0 b) s = .next s.discardPacket) ∧
    (s.port.resetting = false → (s.power.mode.serves = true ∨ s.power.mode = .standby) →
      exec .readStatus s = .next { s with port := { s.port with hostOut := le 4 s.statusWord } }) ∧
    (s.power.mode.low = true → s.port.resetting = false → s.port.wakeAddr ≠ 0 → a.toNat = s.port.wakeAddr →
      exec (.address a) s = .next (s.latchWake 0)) ∧
    (s.power.mode.low = true → (s.port.wakeAddr = 0 ∨ a.toNat ≠ s.port.wakeAddr) → exec (.address a) s = .next s) ∧
    (s.portServes = true → exec .portReset s = .next (s.startHostReset 1)) ∧
    (s.portServes = true → 8 ≤ x.cycles.length →
      unknownTransaction (laneByte 1 true ((x.cycles.map (·.toNat)).take 8)) s.port.lanes (x.cycles.length - 8)
        (laneBytes s.port.lanes (x.cycles.length - 8) ((x.cycles.map (·.toNat)).drop 8)) = true →
      exec (.unknownPortCommand x) s = .next s.framingError) ∧
    (s.port.lanes = 1 ∨ s.port.lanes = 2 ∨ s.port.lanes = 4 →
      exec (.unknownPortCommand (hostTransaction s.port.lanes (0x20 + n.val) b)) s = exec (.writeQueue n b) s) ∧
    (1000 ≤ low → s.rst.inReset = false → s.power.mode.low = false → s.portServes = true →
      exec (.hpRstN low) s = .next (s.startHostReset 0)) ∧
    (low ≤ 100 → exec (.hpRstN low) s = .next s) ∧
    (s.port.resetting = true → exec .hostPortResetDone s = .next s.hostReset)

/-- R95: what a host-port reset leaves: HP_LANES, HP_IRQ_MASK and FRAMING at their defaults, RESET_SEEN set,
Q00 and Q01 empty, sessions 1–15 closed and session 0 without a baseline. -/
def Obligations.HostPortResetLeavesDefaults : Prop :=
  ∀ (s : State), s.port.resetting = true → (∀ e ∈ (s.queue 1).entries, e.tag = .none) →
    ∃ u, exec .hostPortResetDone s = .next u ∧ u.port.resetting = false ∧ u.port.lanes = 1 ∧ u.port.irqMask = 3 ∧ u.port.framing = 0 ∧
      u.port.resetSeen = true ∧ u.port.epoch = s.port.epoch + 1 ∧
      (u.queue 0).entries = [] ∧ (u.queue 1).entries = [] ∧
      (∀ n, 1 ≤ n → n < 16 → n < s.sessions.length → (u.session n).state = .free) ∧ (u.session 0).baseline = none ∧
      (∀ y ∈ u.slots, y.owner = none)

/-- R82, R91: an idle session closes with EV010, an unused reserved ID becomes free, and the lockout ends. -/
def Obligations.SessionsExpire : Prop :=
  ∀ (s : State) (n : Fin 16), let x := s.session n.val
    (n.val ≠ 0 → x.state = .opened → s.power.mode.low = false →
      exec (.sessionIdleClosed n) s =
        .next ((s.closeSession n.val 4).occur 10 n.val (le 1 x.role ++ zeros 1 ++ le 2 x.keyId ++ le 4 x.idleLimit))) ∧
    (x.state = .reserved → exec (.nonceExpiry n) s = .next (s.modSession n.val (fun _ => {}))) ∧
    exec .authLockoutExpiry s = .next { s with lockout := false }

/-- R76, R83, R87: a packet whose CRC fails, and one whose opcode nothing defines. -/
def Obligations.BadPacketsAreAnswered : Prop :=
  ∀ (e : QEntry) (r : List QEntry) (s : State), s.hostRdy = true → s.executing = none → (s.queue 0).entries = e :: r →
    let p := parsePacket e.data
    let u := s.modQueue 0 (Queue.pop 16)
    (p.crcOk = false → exec .badOpcode s =
      .next (refused p .crcFail { u with port := { u.port with crcFails := wrap32 (u.port.crcFails + 1) } })) ∧
    (∀ items, p.crcOk = true → opcodeDefined p.opcode = false → s.appletOpcode p.opcode = false → p.version = 1 → p.flags = 0 →
      parseItems p.payload = some items → s.sessionOpen p.session = true → Fresh p s →
      exec .badOpcode s = .next (refused p .badOpcode (taken p s)))

/-- R90–R93: what the System and Hawk commands do once they execute. -/
def Obligations.SessionCommandsAct : Prop :=
  ∀ (c : Cmd) (s : State) (n : Nat),
    (echo.body c s = { status := .ok, items := c.items, state := s }) ∧
    (deviceResetCommand.body c s = { status := .ok, tag := .deviceReset 0x03, state := s }) ∧
    (identityGet.body c s = reply 0x0010 (s.identity c.role) s) ∧
    (s.lockout = false → s.sessionsUsed < 7 → s.freeSession = some n →
      sessionChallenge.body c s = reply 0x0110 (le 1 n ++ zeros 1 ++ le 2 10000 ++ freeBytes 32 s.freeTick)
        { s.modSession n (fun _ => { state := .reserved, nonce := freeBytes 32 s.freeTick }) with freeTick := s.freeTick + 32 }) ∧
    ((s.lockout = true ∨ 7 ≤ s.sessionsUsed) → sessionChallenge.body c s = refuse .busy s) ∧
    (openFields c = none → s.proofPasses c.session c.value = true →
      (sessionOpen.body c s).status = .ok ∧ (sessionOpen.body c s).opened = true ∧
      (sessionOpen.body c s).state = s.mailed.openSession c.session (c.u 0 1) (c.u 2 2) (min (c.u 4 4) (s.param 0x0104))) ∧
    (openFields c = none → s.proofPasses c.session c.value = false →
      sessionOpen.body c s = { status := .authFail, state := s.mailed.authFailed c.session (c.u 0 1) (c.u 2 2) }) ∧
    (c.session ≠ 0 → sessionClose.body c s = { status := .ok, closing := true, state := s }) ∧
    (c.session = 0 → sessionClose.body c s = refuse .badParam s) ∧
    (c.u 0 1 ≤ 31 → (s.slot (c.u 0 1)).ready = true → (s.slot (c.u 0 1)).owner = some c.session → c.u 1 3 = 0 →
      c.u 4 4 = (s.slot (c.u 0 1)).seq →
      resultRelease.body c s = done { s with slots := modAt (c.u 0 1) (Slot.release (c.u 0 1)) s.slots }) ∧
    (s.gpioRefusal (c.u 4 4) = none → gpioWrite.body c s = done (s.gpioSet (c.u 0 4) (c.u 4 4))) ∧
    (queueFlush.body c s = done (s.flushQueue (c.u 0 1))) ∧
    (∀ n, n < s.events.length → n < 128 → ((eventClear.body c s).state.event n) =
      (if (fieldAt (4 * (n / 32)) 4 c.value).testBit (n % 32) then { s.event n with stat := false } else s.event n))

/-! ## DMA (R114–R121) and UARTs (R423–R440) -/

namespace Sys2Proof.Claims

/-- R116, R118: channel `n` is at an instruction of operation `op`, runs, and has no transfer in progress. -/
def DmaAt (n op : Nat) (s : State) : Prop :=
  s.power.mode.serves = true ∧ (s.dmaCh n).phase = .running ∧ (s.dmaCh n).xfer = none ∧ (s.dmaCh n).at_ / 2 ^ 60 % 16 = op

/-- The program of channel `n` goes on at word `k`. -/
def dmaGoes (n k : Nat) (s : State) : State := s.modDma n (fun c => { c with pc := k, phase := .running })

/-- R116: the transfer that an instruction sets up; CONTINUE takes the addresses where the same instruction stopped. -/
def dmaTransfer (c : DmaChannel) : DmaXfer :=
  let w := c.at_
  let a := dmaWord c.program (c.pc + 1)
  let p := (a % 2 ^ 32, a / 2 ^ 32 % 2 ^ 32)
  let q := if w.testBit 46 then Table.get p c.pc c.resume else p
  { op := w / 2 ^ 60 % 16, src := q.1, dst := q.2
    const := if w / 2 ^ 60 % 16 = 1 then 0 else dmaWord c.program (c.pc + 2), burstsLeft := w % 2 ^ 24 }

/-- R116, R120: whether the condition of a WAIT holds, what it takes when it ends, and the state in which the channel waits. -/
def waitRow (w : Nat) : Instr → Option (Nat × (State → Bool) × (State → State) × DmaPhase)
  | .dmaWaitLine _ => some (0, State.lineAsserted (w / 2 ^ 51 % 64), State.takeLine (w / 2 ^ 51 % 64), .waitLine)
  | .dmaWaitEvent _ => some (1, fun s => (s.event (w % 2 ^ 24)).stat, State.clearStat (w % 2 ^ 24), .waitEvent)
  | .dmaWaitQueueData _ => some (2, fun s => !(s.queue (w % 2 ^ 24)).entries.isEmpty, (fun s => s), .waitQueue)
  | .dmaWaitQueueRoom _ => some (3, fun s => s.hasRoom (w % 2 ^ 24), (fun s => s), .waitQueue)
  | _ => none

/-- The channel a command of the DMA engine names. -/
def dmaChannelOf : Instr → Option (Fin 16)
  | .dmaWaitLine n | .dmaWaitEvent n | .dmaWaitQueueData n | .dmaWaitQueueRoom n => some n
  | _ => none

/-- UART `n` takes in this state the frame that began at `t` (R393, R428, R435, R440). -/
def receives (n t : Nat) (s : State) : Bool := s.uartRuns n && cfgRxEn (s.uart n).rxCfg && !s.echoMuted n t

end Sys2Proof.Claims

/-- R115, R116, R118: the DMA instructions that set up a transfer, LOOP and END. -/
def Sys2Proof.Claims.DmaInstructionsComplete : Prop :=
  ∀ (n : Fin 16) (s : State),
    let c := s.dmaCh n.val
    let w := c.at_
    let line := w / 2 ^ 51 % 64
    let paced := w.testBit 57 && !s.lineAsserted line
    let count0 := if c.armed0 then c.count0 else w / 2 ^ 24 % 65536
    let count1 := if c.armed1 then c.count1 else w / 2 ^ 24 % 65536
    (DmaAt n.val 1 s → c.pc ≤ 62 → exec (.dmaMove n) s = .next (s.modDma n.val (fun x =>
      { x with xfer := some (dmaTransfer c), phase := if paced then .waitLine else .running }))) ∧
    (DmaAt n.val 2 s → c.pc ≤ 61 → exec (.dmaFill n) s = .next (s.modDma n.val (fun x =>
      { x with xfer := some (dmaTransfer c), phase := if paced then .waitLine else .running }))) ∧
    (DmaAt n.val 3 s → c.pc ≤ 61 → exec (.dmaCmp n) s = .next (s.modDma n.val (fun x =>
      { x with xfer := some (dmaTransfer c), phase := .running }))) ∧
    (DmaAt n.val 4 s → w.testBit 43 = false → count0 ≠ 0 →
      exec (.dmaLoop n) s = .next (dmaGoes n.val (w % 64) (s.modDma n.val (fun x => { x with armed0 := true, count0 := count0 - 1 })))) ∧
    (DmaAt n.val 4 s → w.testBit 43 = true → count1 ≠ 0 →
      exec (.dmaLoop n) s = .next (dmaGoes n.val (w % 64) (s.modDma n.val (fun x => { x with armed1 := true, count1 := count1 - 1 })))) ∧
    (DmaAt n.val 4 s → c.pc ≤ 62 → w.testBit 43 = false → count0 = 0 →
      exec (.dmaLoop n) s = .next (dmaGoes n.val (c.pc + 1) (s.modDma n.val (fun x => { x with armed0 := false, count0 := 0 })))) ∧
    (DmaAt n.val 4 s → c.pc ≤ 62 → w.testBit 43 = true → count1 = 0 →
      exec (.dmaLoop n) s = .next (dmaGoes n.val (c.pc + 1) (s.modDma n.val (fun x => { x with armed1 := false, count1 := 0 })))) ∧
    (DmaAt n.val 0 s → c.outstanding = 0 → exec (.dmaEnd n) s = .next (s.dmaFinish n.val .done)) ∧
    (DmaAt n.val 0 s → c.outstanding ≠ 0 →
      exec (.dmaEnd n) s = .next (s.modDma n.val (fun x => { x with phase := .draining, drainTo := .done, xfer := none })))

/-- R115, R116, R120: a WAIT whose condition holds takes its request or flag and goes on; one whose condition does not hold leaves
the channel waiting, and DMA_WAIT_DONE ends the wait when it does. -/
def Sys2Proof.Claims.DmaWaitsComplete : Prop :=
  ∀ (i : Instr) (n : Fin 16) (s : State) (kind : Nat) (met : State → Bool) (take : State → State) (phase : DmaPhase),
    let c := s.dmaCh n.val
    let w := c.at_
    dmaChannelOf i = some n → waitRow w i = some (kind, met, take, phase) → w / 2 ^ 40 % 8 = kind →
    (DmaAt n.val 5 s → met s = true → c.pc ≤ 62 → exec i s = .next (dmaGoes n.val (c.pc + 1) (take s))) ∧
    (DmaAt n.val 5 s → met s = false → exec i s = .next (s.modDma n.val (fun x => { x with phase := phase }))) ∧
    (s.power.mode.serves = true → c.phase = phase → c.xfer = none → met s = true → c.pc ≤ 62 →
      exec (.dmaWaitDone n) s = .next (dmaGoes n.val (c.pc + 1) (take s)))

/-- R116, R118: SIGNAL raises a software source, commits a producer cell or consumes an entry, once the channel's writes are
answered; and the last write responses end the drain. -/
def Sys2Proof.Claims.DmaSignalsComplete : Prop :=
  ∀ (n : Fin 16) (s : State),
    let c := s.dmaCh n.val
    let w := c.at_
    let k := w % 2 ^ 24
    let len := w / 2 ^ 24 % 65536
    (DmaAt n.val 6 s → w / 2 ^ 40 % 8 = 0 → c.outstanding = 0 → c.pc ≤ 62 →
      exec (.dmaSignalRaise n) s = .next (dmaGoes n.val (c.pc + 1) (s.occurFree k))) ∧
    (DmaAt n.val 6 s → w / 2 ^ 40 % 8 = 1 → c.outstanding = 0 → c.pc ≤ 62 → 1 ≤ len → len ≤ queueCell k → s.dmaPush k = true →
      len ≤ (s.queue k).cell.length →
      exec (.dmaSignalCommit n) s = .next (dmaGoes n.val (c.pc + 1)
        ((s.modQueue k (fun q => { q with cell := [] })).offerAny k ((s.queue k).cell.take len)))) ∧
    (DmaAt n.val 6 s → w / 2 ^ 40 % 8 = 2 → c.outstanding = 0 → c.pc ≤ 62 → s.dmaPop k = true →
      exec (.dmaSignalConsume n) s = .next (dmaGoes n.val (c.pc + 1) (s.consume k))) ∧
    (c.outstanding ≠ 0 → c.phase = .draining → exec (.dmaDrainDone n) s = .next (s.dmaFinish n.val c.drainTo)) ∧
    (c.outstanding ≠ 0 → c.phase ≠ .draining → exec (.dmaDrainDone n) s = .next (s.modDma n.val (fun x => { x with outstanding := 0 })))

/-- R117: a granted burst without a fault moves all its beats, then the addresses move on. -/
def Sys2Proof.Claims.DmaBurstCompletes : Prop :=
  ∀ (n : Fin 16) (x : DmaXfer) (s : State),
    let c := s.dmaCh n.val
    let w := c.at_
    let s1 := { s with dma := { s.dma with lastGranted := modAt c.priority (fun _ => n.val) s.dma.lastGranted } }
    let s2 := if (x.op = 1 ∨ x.op = 2) ∧ w.testBit 57 then s1.takeLine (w / 2 ^ 51 % 64) else s1
    let s3 := if x.op = 1 ∨ x.op = 2 then s2.modDma n.val (fun y => { y with outstanding := y.outstanding + 1 }) else s2
    s.power.mode.serves = true → s.granted = some n.val → c.xfer = some x → s2.xferFault w x = none →
    exec (.dmaBurst n none false) s =
      .next (((List.range (w / 2 ^ 47 % 16 + 1)).foldl (fun u i => u.dmaBeat n.val w x i) s3).afterBurst n.val w x)

/-- R117: the arbiter grants a ready channel of the highest priority. -/
def Obligations.ArbiterGrantsTheHighestPriority : Prop :=
  ∀ (n m : Nat) (s : State), s.granted = some n → m < 16 → s.burstReady m = true → (s.dmaCh m).priority ≤ 3 →
    n < 16 ∧ s.burstReady n = true ∧ (s.dmaCh m).priority ≤ (s.dmaCh n).priority

/-- R114, R116: one beat of a MOVE within data RAM copies eight bytes and leaves every other byte as it was. -/
def Sys2Proof.Claims.DmaBeatCopiesDataRam : Prop :=
  ∀ (n w a b : Nat) (x : DmaXfer) (s : State), a + 8 ≤ 65536 → b + 8 ≤ 65536 → x.op = 1 →
    x.src = 0x02000000 + a → x.dst = 0x02000000 + b →
    let u := s.dmaBeat n w x 0
    (∀ k, k < 8 → Table.get 0 (b + k) u.trowelH.data = Table.get 0 (a + k) s.trowelH.data) ∧
    (∀ k, (k < b ∨ b + 8 ≤ k) → Table.get 0 k u.trowelH.data = Table.get 0 k s.trowelH.data)

/-- R424, R426, R428: the receiver takes the level at the fabric clock nearest to 8/16 of a bit for the start, which must be low, and
at 24/16 of a bit and every bit after that for the data, parity and stop bits. -/
def Sys2Proof.Claims.FramesAreSampledMidBit : Prop :=
  ∀ (cfg div raw : Nat) (stop : Bool) (levels : List Bool), cfg.testBit 27 = false →
    let at_ := fun (k : Nat) => levels.getD ((k * div + 8) / 16) true
    let n := cfgDataBits cfg + (if cfgParity cfg = 0 then 0 else 1)
    (uartFrame cfg div levels = .noise ↔ at_ 8 = true) ∧
    (uartFrame cfg div levels = .frame raw stop →
      raw < 2 ^ n ∧ (∀ k, k < n → raw.testBit k = at_ (24 + 16 * k)) ∧ stop = at_ (24 + 16 * n))

/-- R425, R426, R428–R433, R439: what the receiver of a UART does. -/
def Sys2Proof.Claims.UartReceiverCompletes : Prop :=
  ∀ (n : Fin 4) (s : State) (x : UartLine) (raw : Nat) (stop : Bool),
    let u := s.uart n.val
    let c := s.uartParam n.val 0
    let t := s.latchRx n.val x.began
    let sampled := uartFrame (t.uart n.val).rxCfg (t.uart n.val).rxDiv x.levels
    (receives n.val x.began t = true → sampled = .noise → exec (.characterReceived n x) s = .next (t.bump (0x40 + n.val) 6)) ∧
    (receives n.val x.began t = true → sampled = .frame raw stop →
      exec (.characterReceived n x) s = .next (t.frameEnd n.val raw stop)) ∧
    (s.uartRuns n.val = true → u.idleDone = false → cfgMark c = 2 → cfgRxEn c = true →
      let t := (s.modUart n.val (fun x => { x.raise 32 with idleDone := true })).bump (0x40 + n.val) 9
      exec (.idleLine n) s = .next (if blockReceives c then t.blockCommit n.val else t)) ∧
    (s.uartRuns n.val = true → blockReceives c = true → u.block / 256 % 256 ≠ 0 →
      exec (.blockFlushIdle n) s = .next (s.blockCommit n.val))

/-- R423, R428, R429, R433, R438, R439: a sound character of a frame without address matching is stored with its flags; a full FIFO
loses it, counts it and flags OE; where the block logic serves the receiver it takes what the FIFO holds, before and after. -/
def Sys2Proof.Claims.SoundCharacterIsStored : Prop :=
  ∀ (n : Fin 4) (s : State) (raw : Nat),
    let c := (s.uart n.val).rxCfg
    let t := s.modUart n.val (fun x => { x with idleDone := false })
    cfgAddrMatch c = false → cfgParity c = 0 → n.val < s.uarts.length →
    let ch := raw % 2 ^ cfgDataBits c
    ((s.uart n.val).rx.length < 64 → blockReceives c = false →
      s.frameEnd n.val raw true =
        ((t.modUart n.val (fun x => { x with rx := x.rx ++ [ch], flow := s.uartParam n.val 3 })).bump (0x40 + n.val) 0).updateRts n.val) ∧
    (64 ≤ (s.uart n.val).rx.length → blockReceives c = false →
      s.frameEnd n.val raw true =
        ((t.modUart n.val (fun x => x.raise 2)).bump (0x40 + n.val) 4).uartEvent n.val 1 ch) ∧
    (blockReceives c = true →
      let d := (t.blockDrain n.val).modUart n.val (fun x => { x with rx := x.rx ++ [ch], flow := s.uartParam n.val 3 })
      s.frameEnd n.val raw true = ((d.bump (0x40 + n.val) 0).blockDrain n.val).updateRts n.val)

/-- R425, R429, R430, R433–R435, R437: what the transmitter does, the two registers of the Trowel-H side, and breaks. -/
def Sys2Proof.Claims.UartTransmitterCompletes : Prop :=
  ∀ (n : Fin 4) (s : State) (cts : Bool) (v : BitVec 16) (ch : Nat) (r : List Nat),
    let u := s.uart n.val
    let cfg := s.uartParam n.val 0
    let de := s.uartParam n.val 4
    let lead := fun (div : Nat) => if cfg.testBit 24 then de % 256 * div * 20480 else 0
    let begun := fun (div : Nat) (x : Uart) => if x.de then { x with edgeAt := s.up, de := cfg.testBit 24 } else
      { x with edgeAt := s.up + lead div, de := cfg.testBit 24, deLag := de / 256 % 256 * div * 20480 }
    let ended := fun (x : Uart) => { x with de := false, deFall := if x.de then some (s.up + x.deLag) else x.deFall }
    let left := fun (x : Uart) => if x.shifter.isSome then some s.up else x.sentAt
    (s.uartRuns n.val = true → u.brk = 0 → u.tx = ch :: r → cfgTxEn cfg = true → (cfg.testBit 23 = false ∨ cts = false) →
      n.val < s.uarts.length →
      exec (.characterTransmit n cts) s = .next ((s.modUart n.val (fun x => { begun (s.uartParam n.val 1) x with
        ctsHigh := cts, tx := r, shifter := some ch, txMode := cfg, sentAt := left x, txCfg := cfg
        txDiv := s.uartParam n.val 1 })).bump (0x40 + n.val) 1)) ∧
    (s.uartRuns n.val = true → u.brk ≠ 2 → u.tx = [] → n.val < s.uarts.length →
      exec (.characterTransmit n cts) s = .next (s.modUart n.val (fun x => { ended x with
        ctsHigh := cts, shifter := none, txMode := cfg, sentAt := left x }))) ∧
    (∀ e q, s.uartRuns n.val = true → cfgTxServe u.txMode = 1 → cfgQdir cfg = 1 → cfgDataBits cfg ≠ 9 → (s.queue (24 + n.val)).entries = e :: q →
      e.data ≠ [] → u.moved = 0 → e.data.length + u.tx.length ≤ 64 → n.val < s.uarts.length →
      ∃ t, exec (.blockTx n) s = .next t ∧ (t.uart n.val).tx = u.tx ++ e.data.map (fun b => b.toNat) ∧ (t.uart n.val).moved = 0 ∧
        t = (s.modUart n.val (fun _ => t.uart n.val)).consume (24 + n.val)) ∧
    exec (.ustat n) s = .next (s.modUart n.val (fun x => { x with out := x.statusWord, seen := some x.flags })) ∧
    (cfgRxServe cfg = 2 →
      exec (.udataRead n) s = .next ((s.modUart n.val Uart.clearSeen).modUart n.val (fun x => { x with out := 0 }))) ∧
    (cfgRxServe cfg ≠ 2 →
      exec (.udataRead n) s =
        .next (((s.modUart n.val Uart.clearSeen).modUart n.val (fun x => { x with out := x.rx.headD 0, rx := x.rx.tail })).updateRts n.val)) ∧
    (u.tx.length < 64 → n.val < s.uarts.length →
      exec (.udataWrite n v) s = .next (s.modUart n.val (fun x => { x with tx := x.tx ++ [v.toNat % 512] }))) ∧
    (64 ≤ u.tx.length → exec (.udataWrite n v) s = .next s) ∧
    (u.brk = 1 → n.val < s.uarts.length → exec (.breakBegin n) s =
      .next (s.modUart n.val (fun x => { begun u.txDiv x with brk := 2, shifter := none, txMode := cfg }))) ∧
    (u.brk = 2 → u.tx = [] → n.val < s.uarts.length →
      exec (.breakEnd n) s = .next (s.modUart n.val (fun x => { ended x with brk := 0, brkBits := 0, txMode := cfg, sentAt := some s.up }))) ∧
    (u.brk = 2 → u.tx ≠ [] → n.val < s.uarts.length →
      exec (.breakEnd n) s = .next (s.modUart n.val (fun x => { x with brk := 0, brkBits := 0, txMode := cfg, sentAt := some s.up })))

/-- R115, R116, R118, R120: the instructions of DMA programs. -/
def Obligations.DmaProgramsComplete : Prop :=
  DmaInstructionsComplete ∧ DmaWaitsComplete ∧ DmaSignalsComplete

/-- R114, R116, R117: a burst, and a beat within data RAM. -/
def Obligations.DmaBurstsMoveData : Prop :=
  DmaBurstCompletes ∧ DmaBeatCopiesDataRam

/-- R423–R440: receiver, transmitter and registers of the UARTs. -/
def Obligations.UartRowsComplete : Prop :=
  FramesAreSampledMidBit ∧ UartReceiverCompletes ∧ SoundCharacterIsStored ∧ UartTransmitterCompletes
/-! ## Power, reset, start-up, clocks and ticks (R15, R24, R51, R441–R469, R505–R532) -/

namespace Sys2Proof.Claims

/-- R516, R518: a state in which a save runs, of the kind given. -/
def Saving (kind : Nat) (s : State) : Prop := s.power.save.running = true ∧ s.power.save.began = kind

/-- R508: the refusal of an entry at WAIT, in the order of its conditions. -/
def waitConditions (mode : Nat) (csLow : Bool) (e : PowerEntry) (s : State) : List (Bool × Nat × Nat) :=
  [ (decide (e.stage ≠ 1) || decide (e.target.code ≠ mode) ||
      !(match s.steward.consentAt with | some t => decide (s.up ≤ t + 150 * qtMs) | none => false), 5, 0x60),
    (!e.replyConsumed || !(s.queue 0).entries.isEmpty || csLow, 6, 0x01),
    (s.dma.channels.any (fun c => [DmaPhase.running, .waitLine, .waitEvent, .waitQueue, .draining].contains c.phase), 7, 0x04),
    (decide (s.radio.state = 6), 8, 0x30) ]

/-- R508: the conditions of consent, in their order. -/
def consentConditions (s : State) : List (Bool × Nat) :=
  [ (!s.power.holdReady, 1),
    ((match s.nv.journal.compaction with | some c => decide (c.stage = 2) | none => false) || s.steward.imageWork.isSome ||
      s.steward.logExport.isSome || s.power.save.running, 2),
    (s.nv.boot.trial.isSome || decide (s.steward.testAccess ≠ 0), 3),
    (s.steward.sensors.any (fun x => decide (x.state ≠ 0)), 4) ]

/-- The first of a list whose condition holds. -/
def firstOf {α : Type} : List (Bool × α) → Option α
  | [] => none
  | (b, x) :: r => if b then some x else firstOf r

/-- R529: the machine in the reset whose boot may begin. -/
def Booting (step : Nat) (s : State) : Prop :=
  s.rst.inReset = true ∧ s.rst.thermalHold = false ∧ s.rst.por = false ∧ s.rst.bootStep = step

/-- R442, R452, R454: PLL `k` is in the state given. -/
def PllIn (k state : Nat) (s : State) : Prop := k < s.clocks.plls.length ∧ s.pllState k = state

end Sys2Proof.Claims

/-- R515, R516, R518, R520, R521, R526: HOLD_READY, a supply sag, the end or stop of its save, a RESET_N that is still low then, and
the reset after it. -/
def Obligations.SupplyLossRowsComplete : Prop :=
  ∀ (v : BitVec 16) (d : Fin 6) (n : Nat) (s : State),
    (s.power.save.began = 0 → 3100 ≤ v.toNat → s.power.holdReady = false → (s.rst.inReset = true → s.rst.cause = 1) →
      exec (.holdReady v) s = .next (({ s with power := { s.power with holdReady := true, vhold := v.toNat } }).occur 5 1 (le 2 v.toNat))) ∧
    (v.toNat < 3000 → s.power.holdReady = true → s.power.save.began = 0 →
      exec (.holdReadyClear v) s =
        .next (({ s with power := { s.power with holdReady := false, vhold := v.toNat } }).occur 5 0 (le 2 v.toNat))) ∧
    (s.power.save.began = 0 → v.toNat < 2950 →
      ∃ t, exec (.supplySag v) s = .next t ∧ t.power.mode = .backup ∧ t.power.ready = false ∧ t.power.pfailLow = true ∧
        t.power.entry = none ∧ t.trowelH.loaded = false ∧ t.power.save.running = true ∧ t.power.save.vdd = v.toNat ∧
        t.power.save.mode = s.power.mode ∧ t.power.vddIo33 = v.toNat ∧
        t.power.save.began = (if s.power.mode.low then 3 else if s.power.holdReady then 1 else 2)) ∧
    (s.power.save.began = 0 → 2950 ≤ v.toNat → exec (.supplySag v) s = .next s) ∧
    (∀ k, Saving k s → s.power.save.resetLow ≤ s.up →
      ∃ t, exec .saveEnd s = .next t ∧ t.power.save.running = false ∧ t.power.save.ended = true ∧ t.power.save.stopped = false ∧
        t.power.pfailLow = false) ∧
    (∀ k, Saving k s → s.power.save.resetLow ≤ s.up →
      ∃ t, exec (.saveStop d n) s = .next t ∧ t.power.save.running = false ∧ t.power.save.ended = true ∧
        t.power.save.stopped = decide (d.val < 3) ∧ t.power.pfailLow = false ∧ (k ≠ 2 → t.nv.bundle.valid = false)) ∧
    (∀ k, Saving k s → s.up < s.power.save.resetLow →
      ∃ t, exec .saveEnd s = .next t ∧ t.rst.inReset = true ∧ t.power.save.running = false ∧ t.power.pfailLow = false ∧
        (s.rst.inReset = false → t.rst.cause = 2)) ∧
    (s.power.save.ended = true → exec .sagReset s = .next (s.startReset 0x0D))

/-- R508: consent and WAIT refuse an entry for the first of their conditions that holds, and otherwise the entry goes on. -/
def Obligations.PowerEntryIsRefusedInOrder : Prop :=
  ∀ (s : State) (e : PowerEntry) (csLow : Bool), s.power.entry = some e →
    (e.stage = 0 → ∀ c, firstOf (consentConditions s) = some c → exec .powerStateConsent s = .next (s.mailed.endEntry 1 c 0x60)) ∧
    (e.stage = 0 → firstOf (consentConditions s) = none → exec .powerStateConsent s = .next (s.mailed.consent e)) ∧
    (∀ c, s.trowelH.waitsForPower = true → s.trowelH.inApplet = false →
      firstOf (waitConditions s.trowelH.pwrMode csLow e s) = some c →
      exec (.waitPowerEntry csLow) s =
        .next (({ s with trowelH := { s.trowelH with waiting := true } }).endEntry 1 c.1 c.2)) ∧
    (s.trowelH.waitsForPower = true → s.trowelH.inApplet = false →
      firstOf (waitConditions s.trowelH.pwrMode csLow e s) = none →
      exec (.waitPowerEntry csLow) s = .next { s with
        trowelH := { s.trowelH with waiting := true }, power := { s.power with entry := some { e with stage := 2 } } }) ∧
    (s.trowelH.waitsForPower = false → e.stage = 1 → (s.entryPrepared e = true ∨ s.entryLate e = true) →
      firstOf (waitConditions e.target.code csLow e s) = none →
      exec (.waitPowerEntry csLow) s = .next { s with
        trowelH := { s.trowelH with pwrMode := e.target.code }, power := { s.power with entry := some { e with stage := 2 } } })

/-- R506–R509, R511–R514: the end of an entry, waking, and the windows of Watch. -/
def Obligations.LowPowerRowsComplete : Prop :=
  ∀ (s : State) (unit : BitVec 8) (us : BitVec 32) (samples : List (BitVec 32)) (rssi : BitVec 16) (runs : List (BitVec 64)),
    (∀ e, s.power.entry = some e → e.stage = 2 → e.target.low = true →
      ∃ t, exec .drainEnd s = .next t ∧ t.power.mode = e.target ∧ t.power.entry = none ∧ t.power.ready = false ∧
        t.gpio.held = true ∧ t.nv = s.nv ∧ t.rtc = s.rtc ∧ (∀ n, n < 32 → (t.queue n).entries = []) ∧ t.plumb = State.reset.plumb ∧
        (e.target ≠ .standby → t.trowelS.code = [])) ∧
    (∀ e, s.power.entry = some e → e.stage = 2 →
      exec (.drainTimeout unit) s = .next (s.endEntry 2 9 unit.toNat)) ∧
    (∀ e r c f, s.power.entry = some e → (r = 1 ∨ r = 2) →
      (s.endEntry r c f).power.entry = none ∧ (s.endEntry r c f).power.lastResult = r ∧ (s.endEntry r c f).power.lastCondition = c ∧
      (s.endEntry r c f).power.lastRefuser = f ∧ (s.endEntry r c f).power.mode = s.power.mode) ∧
    (s.power.mode.low = true → s.power.wakeLatched ≠ 0 →
      ∃ t, exec (.wake us) s = .next t ∧ t.power.mode = s.power.returnMode ∧ t.power.ready = true ∧ t.power.wakeLatched = 0 ∧
        t.power.lastWakeMask = s.power.wakeLatched ∧ t.gpio.held = false ∧ t.trowelH.wake = true) ∧
    (∀ w, s.power.mode = .watch → s.nv.config.watch = some w → s.power.watchOpen = false → w.source = 0 →
      exec .watchWindow s =
        .next ((({ s with power := { s.power with watchOpen := true, watchDue := false } }).bump 0x70 13).startPll 1)) ∧
    (∀ w, s.power.mode = .watch → s.nv.config.watch = some w → s.power.watchOpen = false → w.source ≠ 0 →
      ∃ t, exec .watchWindow s = .next t ∧ t.power.watchOpen = true ∧
        t.radio.state = (if s.radio.calibrated = true ∧ s.radio.cal = none then 4 else 6)) ∧
    (∀ w, s.power.mode = .watch → s.nv.config.watch = some w → s.power.watchOpen = true →
      exec .watchWindow s = .next { s with power := { s.power with watchDue := true } }) ∧
    (∀ w, s.power.mode = .watch → s.nv.config.watch = some w → s.power.watchOpen = true → s.power.watchDue = true → w.source = 0 →
      ∃ t, exec .watchNotReady s = .next t ∧ t.power.watchOpen = (decide (w.count ≠ 0)) ∧ t.power.watchDue = decide (w.count = 0)) ∧
    (∀ w, s.power.mode = .watch → s.nv.config.watch = some w → s.power.watchOpen = true → s.power.watchDue = false →
      ∃ t, exec (.watchWindowEnd samples rssi runs) s = .next t ∧ t.power.watchOpen = false ∧
        t.power.watchRun = (if w.met (samples.map (fun x => signed 32 x.toNat)) (signed 16 rssi.toNat) (s.watchSync runs) = true then
          (if w.count ≤ s.power.watchRun + 1 then 0 else s.power.watchRun + 1)
          else 0)) ∧
    (∀ w, s.power.mode = .watch → s.nv.config.watch = some w → s.power.watchOpen = true → s.power.watchDue = false → w.source = 0 →
      ∃ t, exec .watchNotReady s = .next t ∧ t.power.watchOpen = false ∧ t.power.watchRun = 0)

/-- R15, R51, R174, R441, R525–R532: resets, the boot sequence and start-up. -/
def Obligations.BootRowsComplete : Prop :=
  ∀ (s : State) (low : Nat) (ref us : BitVec 32) (good : Bool) (x : State),
    (pulseActs 10000 2000 low s.freeTick = true → s.power.save.running = false → (s.power.save.began = 0 ∨ s.rtc.onVbat = false) →
      exec (.resetN low) s = .next ((if pulseDraws 10000 2000 low = true then s.draw else s).startReset 2)) ∧
    (s.power.save.running = false → exec (.powerOnReset true) s =
      .next { s.startReset 1 with rst := { (s.startReset 1).rst with por := true } }) ∧
    (∀ b, s.power.save.running = true → exec (.powerOnReset b) s = .next { s with rst := { s.rst with por := b } }) ∧
    (s.power.save.running = false → exec (.powerOnReset false) s = .next { s with rst := { s.rst with por := false } }) ∧
    (∀ c, (s.startReset c).rst.inReset = true ∧ (s.startReset c).rst.bootStep = 0 ∧ (s.startReset c).power.mode = .backup ∧
      (s.startReset c).power.ready = false ∧ (s.startReset c).part = s.part ∧ (s.startReset c).pending = s.pending ∧
      (s.startReset c).rtc = s.rtc ∧ (s.startReset c).sessions = State.reset.sessions ∧
      (s.startReset c).screed = State.reset.screed ∧ (s.startReset c).plumb = State.reset.plumb ∧
      (s.startReset c).counters = State.reset.counters ∧ (s.startReset c).trowelH = State.reset.trowelH ∧
      (s.rst.inReset = false → (s.startReset c).rst.cause = c)) ∧
    (Booting 0 s → x = (s.brownOutCheck.recoverJournal).checkLocks good → refNear ref.toNat (x.committed 0x5000) = true →
      exec (.bootSequence { refIn := ref, locksGood := good }) s = .next (x.bootPlls (x.committed 0x5000) false)) ∧
    (Booting 0 s → x = (s.brownOutCheck.recoverJournal).checkLocks good → refNear ref.toNat (x.committed 0x5000) = false →
      10000000 ≤ ref.toNat → ref.toNat ≤ 52000000 →
      exec (.bootSequence { refIn := ref, locksGood := good }) s = .next (x.bootPlls ((ref.toNat + 500) / 1000 * 1000) true)) ∧
    (Booting 0 s → x = (s.brownOutCheck.recoverJournal).checkLocks good → refNear ref.toNat (x.committed 0x5000) = false →
      (ref.toNat < 10000000 ∨ 52000000 < ref.toNat) →
      exec (.bootSequence { refIn := ref, locksGood := good }) s = .next { x with rst := { x.rst with refWait := true, bootStep := 3 } }) ∧
    (s.bootReady = true → s.rst.refWait = true → refNear ref.toNat (s.committed 0x5000) = true →
      exec (.refInRemeasure ref) s = .next (s.bootPlls (s.committed 0x5000) false)) ∧
    (Booting 8 s →
      ∃ t, exec (.startUpDone us) s = .next t ∧ t.power.mode = .timing ∧ t.power.ready = true ∧ t.rst.inReset = false ∧
        t.rst.startUs = us.toNat ∧ t.rst.bootStep = 9 ∧ t.rst.startPending = (modeOf s.rst.startMode).run) ∧
    (s.rst.startPending = true → s.power.holdReady = true → s.power.mode = .timing → s.power.ready = true →
      (modeOf s.rst.startMode ≠ .runManager ∨ s.part.tier = .a) →
      exec .startModeEntry s = .next (s.startReplaced.changeMode (modeOf s.rst.startMode) 2)) ∧
    (s.rst.startPending = true → s.power.holdReady = true → s.power.mode = .timing → s.power.ready = true →
      modeOf s.rst.startMode = .runManager → s.part.tier ≠ .a →
      exec .startModeEntry s = .next (s.startReplaced.logAny 0x00)) ∧
    (∀ src est b, s.wantsEstimate src = true → src ≠ 5 →
      exec (.firstTimeEstimate src est b) s = .next (s.firstEstimate src est b).advanceStart) ∧
    (∀ est b d, s.wantsEstimate 5 = true → s.cell.beaconEst = some d →
      exec (.firstTimeEstimate 5 est b) s = .next (s.firstEstimate 5 ((s.qt : Int) + d).toNat b).advanceStart) ∧
    (s.clocks.held = true →
      ∃ t, exec .audioClockResume s = .next t ∧ t.clocks.held = false ∧ t.clocks.plls.length = s.clocks.plls.length ∧
        (1 < s.clocks.plls.length → (s.pll 1).state = 4 → (t.pll 1).state = 2 ∧ (t.pll 1).vco = audioVco (s.param 0x2000)))

/-- R442, R452, R453: the reference monitor and the lock detectors of the PLLs. -/
def Sys2Proof.Claims.ClockRowsComplete : Prop :=
  ∀ (s : State) (k : Fin 4),
    (s.clocks.glitch = false → exec .refGlitch s =
      .next (({ s with clocks := { s.clocks with glitch := true, plls := s.clocks.plls.map Pll.freeze } }).bump 0x50 15)) ∧
    (s.clocks.glitch = true → exec .refEdgesReturn s =
      .next { s with clocks := { s.clocks with glitch := false, plls := s.clocks.plls.map Pll.thaw } }) ∧
    (∀ p : Pll, p.state ≠ 5 → p.freeze.thaw.state = p.state) ∧
    (s.clocks.glitch = true → exec .refLost s = .next ((s.logFree 0x50 8).stewardReset 7)) ∧
    (PllIn k.val 2 s → k.val ≠ 0 → exec (.pllUnlock k) s =
      .next (((s.modPll k.val (fun p => { p with state := 3 })).bump 0x50 (3 * k.val)).occurFree 110)) ∧
    (PllIn 0 2 s → exec (.pllUnlock 0) s =
      .next ((((s.modPll 0 (fun p => { p with state := 3 })).bump 0x50 0).occurFree 110).stewardReset 8)) ∧
    (PllIn k.val 3 s → exec (.pllLock k) s =
      .next (((s.modPll k.val (fun p => { p with state := 2 })).bump 0x50 (3 * k.val + 1)).occurFree 111)) ∧
    (PllIn k.val 3 s → exec (.pllUnlockTimeout k) s = .next (s.stewardReset (8 + k.val)))

/-- R24, R159, R178, R184, R197: the ticks and the solver. `tickRuns` says whether the mode has the tick and its turn has come (R26). -/
def Sys2Proof.Claims.TickRowsComplete : Prop :=
  ∀ (s : State) (loop : Int) (sol : Solution) (sub : Fin 32768),
    (s.tickRuns 2 ((s.plumb.mtIdx + 1) * s.mtPeriod) = true →
      ∃ t, exec (.measurementTick loop) s = .next t ∧ t.plumb.mtIdx = s.plumb.mtIdx + 1) ∧
    (s.tickRuns 0 ((s.plumb.secIdx + 1) * qtSec) = true → ∃ t, exec (.secondTick sub) s = .next t ∧ t.plumb.secIdx = s.plumb.secIdx + 1) ∧
    (s.tickRuns 1 (s.nextFrameTick * qtFrame) = true → (s.power.mode.run = true ∨ s.power.mode = .maintenance) →
      ∃ t, exec .frameTick s = .next t ∧ t.plumb.frameIdx = s.nextFrameTick) ∧
    (s.solves sol = true → exec (.solutionPublished sol) s = .next (s.takeSolution sol).geometryTargets.advanceStart) ∧
    (s.solves sol = false → s.solvesPlace sol = true → exec (.solutionPublished sol) s = .next (s.takeEpoch sol).geometryTargets) ∧
    (let n := (s.latchedSeq + 2 ^ 32 - 2) % 4294967296;
      s.power.mode.serves = true → s.plumb.state ≠ 7 → n ≠ 0 →
      1 ≤ (n + 2 ^ 32 - s.plumb.solSeq) % 2 ^ 32 → (n + 2 ^ 32 - s.plumb.solSeq) % 2 ^ 32 ≤ 2 ^ 31 → s.plumb.lateSeq ≠ some n →
      exec .solverLate s = .next ((({ s with plumb := { s.plumb with lateSeq := some n } }).bump 0x13 5).occur 69 0 (le 4 n)))

/-- R56, R304, R458, R459, R466, R469, R511: GPIO edges, the end of a hold, and the RTC's supply and seconds. -/
def Sys2Proof.Claims.RtcAndPinRowsComplete : Prop :=
  ∀ (s : State) (new : BitVec 32) (vdd vbat : Nat) (st : BitVec 8),
    (let u := { s with gpio := { s.gpio with ext := new.toNat } }
      let w := if s.wakeable && s.gpioWakes s.gpio.ext new.toNat then u.latchWake 5 else u
      let g := w.gpio.sample w.gpioBalls (w.param 0x4805) w.up
      (w.gpioRuns = false → exec (.gpioEdge new) s = .next w) ∧
      (w.gpioRuns = true →
        exec (.gpioEdge new) s = .next ((({ w with gpio := g } : State).edgeSource 108 0 s.gpio.level g.level).edgeSource 109 16 s.gpio.level
          g.level))) ∧
    ((s.inStream st.toNat).run ≠ 0 → (s.groupOf st.toNat).fill = 1 → (s.groupOf st.toNat).holdMs ≠ 0 → (s.inStream st.toNat).fade = none →
      s.rampTicks (s.groupOf st.toNat).holdMs ≤ (s.inStream st.toNat).run →
      exec (.underrunHoldExpiry st) s = .next (s.setInStream { s.inStream st.toNat with fade := some (0, s.rampTicks 10) })) ∧
    (s.rtc.onVbat = false → (vdd ≤ vbat + 50 ∨ vdd ≤ 2700) → s.power.mode ≠ .backup →
      exec (.rtcSupplySwitch vdd vbat) s = .next (({ s with rtc := { s.rtc with onVbat := true } }).bump 0x51 6)) ∧
    (s.rtc.onVbat = true → vbat + 100 < vdd → 2800 < vdd →
      exec (.rtcSupplySwitch vdd vbat) s = .next { s with rtc := { s.rtc with onVbat := false } }) ∧
    (s.rtc.onVbat = true → (vdd ≤ vbat + 100 ∨ vdd ≤ 2800) → exec (.rtcSupplySwitch vdd vbat) s = .next s) ∧
    (vdd ≤ 1500 → exec (.brownOut vdd) s = .next { s with rtc := { s.rtc with brownOut := true } }) ∧
    (1600 ≤ vdd → exec (.brownOut vdd) s = .next s) ∧
    (s.rtc.hold = true → s.rtc.pendingZone = none →
      exec .rtcSecond s = .next (({ s with rtc := { s.rtc with hold := false } }).evalAlarms s.rtc.localSec)) ∧
    (s.rtc.hold = false → s.rtc.pendingZone = none → s.rtc.localSec + 1 < calendarSpan →
      exec .rtcSecond s =
        .next (({ s with rtc := { s.rtc with localSec := s.rtc.localSec + 1 } }).evalAlarms (s.rtc.localSec + 1))) ∧
    (∀ k, k < 2 → ((s.alarm k).enabled = false ∨ (s.alarm k).lastRaised = some s.rtc.localSec) → s.evalAlarm s.rtc.localSec k = s)

/-- R24, R56, R159, R178, R304, R442–R469: clocks, ticks, pins and the real-time clock. -/
def Obligations.TimeRowsComplete : Prop :=
  ClockRowsComplete ∧ TickRowsComplete ∧ RtcAndPinRowsComplete
/-! ## Plumb's steps and marks (R173–R189) and the Steward (R474–R500) -/

namespace Sys2Proof.Claims

/-- R475: the request at the head of Q30 is `m`, well formed, of the kind given; `t` is the state with it taken. -/
def Asked (kind : Nat) (m : Mail) (s t : State) : Prop :=
  s.mail = some m ∧ m.ok = true ∧ m.kind = kind ∧ t = s.takeMail m

/-- R475: the fields of a journal request's body: OLD and NEW. -/
def askedOld (b : Bytes) : Bytes := slice 8 (fieldAt 4 2 b) b
def askedNew (b : Bytes) : Bytes := slice (8 + fieldAt 4 2 b) (fieldAt 6 2 b) b

/-- R475: a journal request whose form is right. -/
def askedForm (b : Bytes) : Bool :=
  decide (8 ≤ b.length) && decide (b.length = 8 + fieldAt 4 2 b + fieldAt 6 2 b) && decide (fieldAt 4 2 b ≤ 4096) &&
  decide (fieldAt 6 2 b ≤ 4096) && decide (fieldAt 1 1 b = 0)

/-- The kinds of the mailbox rows and the rows that serve them (R475). -/
def mailRowOf : Instr → Option Nat
  | .journalRequest _ => some 1
  | .eventLogRequest => some 2
  | .sessionProofCheck => some 3
  | .updateWork _ _ => some 6
  | .regionRead => some 7
  | .deviceResetRequest => some 8
  | _ => none

end Sys2Proof.Claims

/-- R173, R176, R180, R181, R187–R189, R192: holdover, steps, surveys, pulse edges and time marks. -/
def Obligations.TimebaseRowsComplete : Prop :=
  ∀ (s : State) (sigma : Nat) (ok : Bool) (o : Fin 6) (m : Fin 4) (f : Bool) (inst : Nat),
    (2 ≤ s.plumb.state → s.plumb.state ≤ 4 → s.plumb.usableAt + s.param 0x1308 * qtMs ≤ s.up →
      ∃ t, exec .holdoverEntry s = .next t ∧ (t.plumb.state = 5 ∨ t.plumb.state = 6) ∧ t.plumb.source = 0 ∧
        t.plumb.audioSteer = clampSteer (-s.plumb.refFreq)) ∧
    (∀ p k, s.plumb.step = some p → p.applyAt = some k →
      let d := p.delta.getD (-s.plumb.offset)
      ∃ t, exec .stepApply s = .next t ∧ t.plumb.step = none ∧ t.plumb.offset = s.plumb.offset + d ∧
        t.qt = (((k * qtSec : Nat) : Int) + d).toNat ∧ t.plumb.secIdx = t.qt / qtSec ∧ t.plumb.codeIdx = t.qt / qtMs) ∧
    (∀ p, s.plumb.step = some p → p.policy = 1 → p.applyAt = none → p.deadline ≤ s.up →
      exec .stepAskTimeout s =
        .next (({ s with plumb := { s.plumb with step := none, slewAll := true, slewing := decide (s.plumb.state = 4) } }).bump 0x13 1)) ∧
    (∀ y, s.plumb.survey = some y → y.target ≠ 0 → sigma ≤ y.target → 0 < y.epochs →
      exec (.surveyDone sigma ok) s = .next (s.storeSurvey y sigma ok)) ∧
    (∀ y, s.plumb.survey = some y → (y.target = 0 ∨ y.target < sigma ∨ y.epochs = 0) → y.duration ≠ 0 →
      y.startAt + y.duration * qtSec ≤ s.up → exec (.surveyDone sigma ok) s = .next (s.endSurvey y sigma .outOfRange)) ∧
    (∀ e : Nat, (s.pulse o.val).enabled = true → s.plumb.state ≠ 0 → s.power.mode.serves = true →
      (s.pulse o.val).next_ s.plumb.utcOffset = (e : Int) → s.stepInstant ≠ some e → (s.advance e).squelched (s.pulse o.val) = false →
      exec (.timePulseEdge o) s = .next ((s.advance e).modPulse o.val (fun p => { p with
        last := e, edge := some ((s.advance e).up, p.cfg.width, bit 2 p.cfg.flags)
        edgeOld := if p.inPulse (s.advance e).up = true then p.edge else none }))) ∧
    (s.power.mode.serves = true → bit (b01 f) (s.mark m.val).flags = true → (s.mark m.val).last = none →
      exec (.timeMark m f inst false) s = .next ((s.advance (inst * 2048)).stampMark m.val (b01 f)
        (((inst : Int) - (s.mark m.val).delay) * 2048).toNat
        ((s.advance (inst * 2048)).up - ((s.advance (inst * 2048)).qt - inst * 2048)))) ∧
    (∀ p : Pulse, 0 < p.cfg.period → (p.last : Int) < p.next_ s.plumb.utcOffset ∧
      p.next_ s.plumb.utcOffset ≤ (p.last : Int) + ((p.cfg.period * 65536 : Nat) : Int))

/-- R474, R475: the mailbox is served in order: a row of another kind leaves the request at the head of Q30 as it is, and a request
that is malformed, or of a kind that does not exist, is answered with BAD_PARAM, counted and logged. -/
def Obligations.MailboxIsServedInOrder : Prop :=
  ∀ (i : Instr) (k : Nat) (m : Mail) (s : State), mailRowOf i = some k → s.steward.append = none → s.steward.asked = [] →
    s.mail = some m →
    (m.ok = true → mailKind m.kind = true → m.kind ≠ k → exec i s = .next s) ∧
    ((m.ok = false ∨ mailKind m.kind = false) → exec i s = .next ((s.takeMail m).refuseMail m .badParam)) ∧
    (∃ u, exec i s = .next u)

/-- R475–R482: what a journal request is answered with, and its two writes. -/
def Sys2Proof.Claims.JournalRowsComplete : Prop :=
  ∀ (s t : State) (m : Mail) (ok : Bool) (role key need : Nat),
    let old := askedOld m.body
    let new := askedNew m.body
    let id := fieldAt 2 2 m.body
    (∀ r, s.steward.append = none → s.steward.asked = [] → Asked 1 m s t → t.ownOf m = some r →
      exec (.journalRequest ok) s = .next (t.serveOwn ok r)) ∧
    (s.steward.append = none → s.steward.asked = [] → Asked 1 m s t → t.ownOf m = none → askedForm m.body = true →
      t.stewardSession (fieldAt 0 1 m.body) = some (role, key) → requestRole id new = some need →
      (role < need → exec (.journalRequest ok) s = .next (t.refuseMail m .deniedRole)) ∧
      (need ≤ role → t.requestLocked id new = true → exec (.journalRequest ok) s = .next (t.refuseMail m .deniedLock)) ∧
      (need ≤ role → t.requestLocked id new = false → t.power.holdReady = false →
        exec (.journalRequest ok) s = .next (t.answer m .notReady [])) ∧
      (need ≤ role → t.requestLocked id new = false → t.power.holdReady = true → t.journalRoom old new = false →
        exec (.journalRequest ok) s = .next (t.answer m .nvFull [])) ∧
      (need ≤ role → t.requestLocked id new = false → t.power.holdReady = true → t.journalRoom old new = true → ok = true →
        exec (.journalRequest ok) s =
          .next { t with steward := { t.steward with append := some (t.journalRecord (requestKind id) role key id old new, some m.seq) } })) ∧
    (∀ r q, s.steward.append = some (r, some q) →
      let a := { s with steward := { s.steward with append := none } }
      exec (.journalCommit true) s = .next (((a.appendRecord r).takeRecord r).notify 0x8001 q (le 2 0)) ∧
      exec (.journalCommit false) s = .next (a.nvFault.notify 0x8001 q (le 2 Status.nvFault.code))) ∧
    (∀ r, s.steward.append = some (r, none) →
      exec (.journalCommit true) s =
        .next ((({ s with steward := { s.steward with append := none } } : State).appendRecord r).takeRecord r)) ∧
    (∀ c n, s.nv.journal.compaction = some c → c.stage = 1 → s.nv.journal.pressed = false →
      exec (.compactionSlice n) s = .next (s.verifiedWrite (State.snapshotSlice n c))) ∧
    (∀ c n, s.nv.journal.compaction = some c → c.stage = 1 → s.nv.journal.pressed = true →
      exec (.compactionSlice n) s = .next (s.verifiedWrite (State.snapshotSlice c.todo.length c))) ∧
    (∀ c n, s.nv.journal.compaction = some c → c.stage ≠ 1 → s.steward.append = none →
      exec (.compactionSlice n) s = .next (s.verifiedWrite (State.switchSegment c))) ∧
    (∀ n, s.nv.journal.compaction = none → s.nv.journal.due = true → s.power.holdReady = true → s.rst.inReset = false →
      exec (.compactionSlice n) s = .next (s.verifiedWrite State.beginCompaction)) ∧
    (∀ f : State → State, s.verifiedWrite f = if s.readBack.1 = true then f s.readBack.2 else s.readBack.2.nvFault) ∧
    (∀ w r, s.steward.journalReads = w :: r →
      ∃ u b, exec .journalReadPublish s = .next u ∧ u.steward.journalReads = r ∧
        u = ({ s with steward := { s.steward with journalReads := r } } : State).publish w.slot b ∧ b.length ≤ 16384)

/-- R486–R488: the log's requests, its writes, and an export. -/
def Sys2Proof.Claims.LogRowsComplete : Prop :=
  ∀ (s t : State) (m : Mail),
    (Asked 2 m s t → m.body.length = 18 → exec .eventLogRequest s =
      .next ((t.log (fieldAt 0 1 m.body) (fieldAt 1 1 m.body % 128) (slice 2 16 m.body)).answer m .ok [])) ∧
    (∀ r rest, s.steward.logQueue = r :: rest → s.steward.gaps = [] →
      exec (.logWrite true) s = .next (({ s with
        steward := { s.steward with logQueue := rest }
        nv := { s.nv with log := { s.nv.log with records := ringPut [r] s.nv.log.records } } }).bump 0x61 3)) ∧
    (∀ x, s.steward.logExport = some x → s.exportRest x ≠ [] → s.hasRoom 5 = true →
      ∃ u y, exec .logExportEntry s = .next u ∧ u.steward.logExport = some y ∧
        y.exported = x.exported + min 32 (s.exportRest x).length ∧ x.next < y.next) ∧
    (∀ x, s.steward.logExport = some x → s.exportRest x = [] →
      exec .logExportDone s = .next (({ s with steward := { s.steward with logExport := none } }).complete 0x6010 x.ticket .ok
        [{ id := 0x6010, value := le 4 x.first ++ le 4 x.last ++ le 4 x.exported ++ le 1 (b01 x.truncated) }]))

/-- R326, R475, R478, R489–R491, R493–R497, R519, R525: sessions, watchdogs, resets on request, sensors and images. -/
def Obligations.StewardRowsComplete : Prop :=
  ∀ (s t : State) (m : Mail) (ok : Bool) (flash : Bytes) (vals : List (BitVec 16)),
    (Asked 3 m s t → m.body.length = 73 → fieldAt 0 1 m.body ≤ 15 → t.reserved (fieldAt 0 1 m.body) = true →
      t.proofPasses (fieldAt 0 1 m.body) (m.body.drop 1) = false →
      exec .sessionProofCheck s = .next ((t.authFailed (fieldAt 0 1 m.body) (fieldAt 1 1 m.body) (fieldAt 3 2 m.body)).answer m .authFail [])) ∧
    (Asked 3 m s t → m.body.length = 73 → fieldAt 0 1 m.body ≤ 15 → t.reserved (fieldAt 0 1 m.body) = true →
      t.proofPasses (fieldAt 0 1 m.body) (m.body.drop 1) = true →
      ∃ u, exec .sessionProofCheck s = .next u ∧
        u.steward.sessions = t.steward.sessions ++ [(fieldAt 0 1 m.body, fieldAt 1 1 m.body, fieldAt 3 2 m.body)]) ∧
    (∀ e r, (s.queue 29).entries = e :: r → fieldAt 0 2 e.data = 0x4001 → 1 ≤ fieldAt 8 1 e.data → fieldAt 8 1 e.data ≤ 15 →
      exec .sessionTableChange s = .next ((s.consume 29).modSession (fieldAt 8 1 e.data) (fun _ =>
        { state := .opened, role := fieldAt 9 1 e.data, keyId := fieldAt 10 2 e.data, idleLimit := (s.consume 29).param 0x0104, idleFrom := (s.consume 29).up }))) ∧
    exec .locksReloaded s = .next (s.loadLocks.notify 0x4002 0 []) ∧
    (s.mail = none → s.trowelH.halted = false →
      exec .heartbeat s = .next ({ s with steward := { s.steward with warned := false } } : State).mailed) ∧
    (Asked 5 m s t → m.body = [] → exec .heartbeat s = .next (({ t with steward := { t.steward with warned := false } }).answer m .ok [])) ∧
    (s.watchdogsRun = true → s.steward.warned = false →
      exec .watchdogWarn s = .next ((({ s with steward := { s.steward with warned := true } }).bump 0x60 0).occur 119 0 (le 2 250))) ∧
    (s.watchdogsRun = true → exec .wdH s = .next ((s.logFree 0x60 6).stewardReset 4)) ∧
    (s.rst.inReset = false → s.steward.watchdogsSuspended = false → s.power.mode ≠ .backup → exec .wdS s = .next (s.startReset 5)) ∧
    (s.power.mode.serves = true → s.power.mode ≠ .maintenance → s.power.ready = true →
      exec .hourlyBundle s = .next (s.writeBundle 0 0 0)) ∧
    (Asked 7 m s t → m.body.length = 12 → fieldAt 1 3 m.body = 0 → fieldAt 8 4 m.body ≤ 8254 →
      exec .regionRead s = .next (({ t with freeTick := t.freeTick + fieldAt 8 4 m.body }).answer m .ok
        (freeBytes (fieldAt 8 4 m.body) t.freeTick))) ∧
    (Asked 8 m s t → m.body.length = 1 → exec .deviceResetRequest s = .next (t.stewardReset (requestCause (fieldAt 0 1 m.body)))) ∧
    (∀ a, (s.power.mode ≠ .backup ∨ s.rst.thermalHold = true) →
      a = (List.range 26).foldl (fun u n => u.scanSensor n ((vals.map BitVec.toNat).getD n 0x8000)) s → a.power.mode.serves = false →
      exec (.sensorScan vals) s = .next ({ a with
        steward := { a.steward with scanSeq := wrap32 (a.steward.scanSeq + 1) }
        power := { a.power with vhold := (a.sensor 20).value.toNat, vddIo33 := (a.sensor 11).value.toNat } } : State).thermal) ∧
    (∀ n raw, n < s.steward.sensors.length → ((s.scanSensor n raw).sensor n).value = s.sensorValue n raw) ∧
    (∀ n k raw, k ≠ n → (s.scanSensor n raw).sensor k = s.sensor k) ∧
    (∀ w, s.steward.imageWork = some w →
      let r := ({ s with steward := { s.steward with imageWork := none } } : State).imageCheck w.target ok
      exec (.imageCheckDone ok) s = .next (r.2.complete 0x6110 w.ticket r.1 [])) ∧
    (s.steward.trialRunning = true → s.nv.boot.trial ≠ none → s.steward.trialEnd ≤ s.up →
      ∃ u, exec .trialTimeout s = .next u ∧ u.nv.boot.trial = none ∧ u.rst.inReset = true) ∧
    (Asked 6 m s t → ∀ i, parseItems m.body = some [i] → i.id = 0x6112 → i.value = [] → t.power.holdReady = true → t.runningTrial = none →
      exec (.updateWork ok flash) s = .next (t.answer m .notReady [])) ∧
    (Asked 6 m s t → ∀ i target slot, parseItems m.body = some [i] → i.id = 0x6112 → i.value = [] → t.power.holdReady = true →
      t.runningTrial = some (target, slot) → t.up < t.steward.trialEnd →
      (t.nv.journal.used + recordBytes [] (le 1 target ++ le 1 slot ++ slice 12 2 (t.image target slot).content) ≤
        segmentBytes - segmentReserve) →
      let r := t.confirm true { opcode := 0x6112, seq := m.seq, session := 0, role := 0, keyId := 0, items := [i] }
      exec (.updateWork true flash) s = .next (r.2.answer m .ok []) ∧ r.2.nv.boot.trial = none ∧ r.2.steward.trialRunning = false ∧
        (target = 0 → r.2.nv.boot.activeH = slot) ∧ (target ≠ 0 → r.2.nv.boot.activeS = slot))

/-- R475–R488: the journal, its compaction, the log and its export. -/
def Obligations.JournalAndLogRowsComplete : Prop :=
  JournalRowsComplete ∧ LogRowsComplete
/-! ## GNSS front-end, Lath, tracking channels and audio ports (R122–R168, R282–R297) -/

namespace Sys2Proof.Claims

/-- R130: Lath runs search `x`. -/
def Running (x : Search) (s : State) : Prop := s.gnss.run = some x ∧ s.power.mode.serves = true

/-- R153: channel `n` is on the part, in a mode that tracks, in state `k`. -/
def ChanIn (n k : Nat) (s : State) : Prop :=
  s.power.mode.serves = true ∧ n < s.track.chans.length ∧ (s.chan n).state = k

/-- R284: port `n` receives AES3. -/
def Locked (n : Nat) (s : State) : Prop := s.aesReceives n = true ∧ (s.aesPort n).locked = true ∧ n < s.audio.aes.length

end Sys2Proof.Claims

/-- R125, R127–R129: gain, clipping, blanking, notches and antenna bias of a band. -/
def Obligations.FrontEndRowsComplete : Prop :=
  ∀ (s : State) (l5 : Bool) (i q : List Int) (inst : Nat) (lines : List SpectrumLine) (k : Fin 4) (cur : BitVec 16),
    let b := s.band l5
    (s.bandRuns l5 = true →
      let samples := i.zip q
      let f := (s.advance inst).frontSum l5 samples
      ∃ t, exec (.agcUpdate l5 i q inst) s = .next t ∧ (t.band l5).clipSamples = b.clipSamples + samples.length ∧
        (t.band l5).dutySamples = b.dutySamples + samples.length ∧ (t.band l5).clipCount = b.clipCount + f.sat ∧
        (t.band l5).dutyCount = b.dutyCount + f.pulse + f.tx ∧ f.pulse + f.tx + f.used = samples.length ∧
        (t.band l5).gain = f.gain b.gain ∧ (t.band l5).stream = f.out.reverse ∧ t.band (!l5) = s.band (!l5)) ∧
    (∀ x : Int, -127 ≤ saturate x ∧ saturate x ≤ 127) ∧
    (s.bandRuns l5 = true → 818400 ≤ b.clipSamples → b.clipLimit * (2 * b.clipSamples) < b.clipCount * 10000 →
      exec (.adcClip l5) s = .next ((s.modBand l5 (fun b => { b with clipSamples := 0, clipCount := 0 })).occur 43 (b01 l5)
        (le 2 (b.clipCount * 10000 / (2 * b.clipSamples))))) ∧
    (s.bandRuns l5 = true → 818400 ≤ b.clipSamples → b.clipCount * 10000 ≤ b.clipLimit * (2 * b.clipSamples) →
      exec (.adcClip l5) s = .next (s.modBand l5 (fun b => { b with clipSamples := 0, clipCount := 0 }))) ∧
    (s.bandRuns l5 = true → 8184000 ≤ b.dutySamples → b.dutyLimit * b.dutySamples < b.dutyCount * 100 →
      exec (.blankDuty l5) s = .next ((s.modBand l5 (fun b => { b with dutySamples := 0, dutyCount := 0 })).occur 42 (b01 l5)
        (le 2 (b.dutyCount * 10000 / b.dutySamples)))) ∧
    (s.bandRuns l5 = true → s.notchMode l5 = 2 → exec (.notchSpectrum l5 lines) s =
      .next (s.modBand l5 (fun b => { b with notches := fixedNotches (s.param (0x1003 + b01 l5)), homeless := [] }))) ∧
    (s.bandRuns l5 = true → s.notchMode l5 = 0 → exec (.notchSpectrum l5 lines) s =
      .next (s.modBand l5 (fun b => { b with notches := List.replicate 4 {}, homeless := [] }))) ∧
    (∀ l : SpectrumLine, s.bandRuns l5 = true → s.notchMode l5 = 1 → 10 * s.param 0x1002 ≤ l.jn.toNat → b.notches = [{}, {}, {}, {}] →
      ∃ t, exec (.notchSpectrum l5 [l]) s = .next t ∧
        (t.band l5).notches = [{ line := some l.id, offset := l.offset, jn := l.jn.toNat }, {}, {}, {}]) ∧
    (∀ id since, s.bandRuns l5 = true → s.notchMode l5 = 1 → (b.notches.getD k.val {}).line = some id →
      (b.notches.getD k.val {}).lowSince = some since → since + qtSec ≤ s.up →
      exec (.notchRelease l5 k) s = .next (s.releaseNotch l5 k.val)) ∧
    (s.biasOn l5 = true → s.biasLimit10 l5 < cur.toNat → exec (.biasLimit l5 cur) s =
      .next (s.modBand l5 (fun b => { b with current := s.biasLimit10 l5, limitSince := some (b.limitSince.getD s.up) }))) ∧
    (s.biasOn l5 = true → cur.toNat ≤ s.biasLimit10 l5 → exec (.biasLimit l5 cur) s =
      .next (s.modBand l5 (fun b => { b with
        current := cur.toNat, limitSince := if cur.toNat < s.biasLimit10 l5 then none else b.limitSince }))) ∧
    (∀ since, b.limitSince = some since → s.biasOn l5 = true → since + 5 * qtMs ≤ s.up →
      exec (.biasShort l5) s = .next (((s.modBand l5 (fun b => { b with
        shortAt := some (s.up, s.param 0x100E), limitSince := none, short := true, current := 0 })).bump64 0x10 (6 * b01 l5 + 5) 1).occur
        (37 + 2 * b01 l5) 1 (le 2 b.current))) ∧
    (∀ at_ retry, b.shortAt = some (at_, retry) → retry ≠ 0 → at_ + retry * qtSec ≤ s.up →
      exec (.biasRetry l5) s = .next (s.modBand l5 (fun b => { b with shortAt := none }))) ∧
    (s.biasOn l5 = true → b.open_ = false → cur.toNat < 10 * s.param 0x100D →
      exec (.biasOpen l5 cur) s = .next ((((s.biasSeen l5 cur.toNat).modBand l5 (fun b => { b with open_ := true })).bump64 0x10
        (6 * b01 l5 + 5) 1).occur (36 + 2 * b01 l5) 1 (le 2 cur.toNat))) ∧
    (s.biasOn l5 = true → b.short = true → b.open_ = false → cur.toNat < s.biasLimit10 l5 →
      exec (.biasRecovery l5 cur) s = .next (((s.biasSeen l5 cur.toNat).modBand l5
        (fun b => { b with short := false })).occur (37 + 2 * b01 l5) 0 (le 2 cur.toNat)))

/-- R130–R140: searches, snapshots, passes, hand-offs and assistance. -/
def Obligations.LathRowsComplete : Prop :=
  ∀ (s : State) (x : Search) (samples : List (Int × Int)) (peaks : List LathPeak) (g : BitVec 8) (vis lost : List (BitVec 8)) (seg : BitVec 16),
    let p := s.snapshotOf x (tickAfter s.qt)
    let a := s.advance (p.1 + x.coh * qtMs)
    let v := a.snapshotBlank (signalL5 x.signal) p.1 x.coh samples
    (∀ items t r, s.gnss.assists = (items, t) :: r →
      exec (.assistLoadDone [] none) s = .next ((items.foldl (fun u v => u.storeNav (navOfItem v))
        ({ s with gnss := { s.gnss with assists := r } } : State)).complete 0x1112 t .ok [])) ∧
    (s.autoAllowed g.toNat = true →
      ∃ u y, exec (.autoSearch g vis lost seg) s = .next u ∧ u.gnss.run = some y ∧ y.signal = g.toNat ∧ y.host = none ∧ y.started = true ∧
        y.excludeTracked = true ∧ (y.mode = 1 ↔ s.startClass = 2)) ∧
    (Running x s → x.wants = true → p.2 * samples.length < v.2 * 100 → x.rejects + 1 < 16 →
      exec (.snapshotCaptureDone samples) s = .next (((a.bump 0x11 6).modRun
        (fun _ => { x with rejects := x.rejects + 1, snapAt := none })).placeSnapshot (tickAfter a.qt))) ∧
    (Running x s → x.wants = true → p.2 * samples.length < v.2 * 100 → 16 ≤ x.rejects + 1 →
      ∃ u y, exec (.snapshotCaptureDone samples) s = .next u ∧ u.gnss.run = some y ∧ y.done = true ∧ ∀ v, v ∈ y.svs → v.state ≠ 4) ∧
    (Running x s → x.wants = true → v.2 * 100 ≤ p.2 * samples.length →
      exec (.snapshotCaptureDone samples) s =
        .next ((({ a with gnss := { a.gnss with area := storeSnapshot p.1 v.1 a.gnss.area } } : State).modRun (fun _ =>
          x.accept p.1 (a.param 0x1102))).placeSnapshot (tickAfter (a.qt - 1)))) ∧
    (∀ start th, (x.accept start th).rejects = 0 ∧
      (x.verify = true → (x.accept start th).verifyAt = some start ∧ (x.accept start th).snapshots = x.snapshots) ∧
      (x.verify = false → (x.accept start th).snapshots = x.snapshots + 1 ∧ (x.accept start th).lastSnap = start)) ∧
    (∀ c first, first ≤ s.snapshotStart c first ∧ s.snapshotStart c first < first + 20 * qtMs) ∧
    (Running x s → x.started = true → x.done = false → s.gnss.held.length < 4 → x.verify = false → x.passesDone < x.snapshots * x.passes →
      exec (.lathPass peaks) s = .next ((s.bump 0x11 1).searchPass x peaks)) ∧
    (Running x s → x.started = true → x.done = false → s.gnss.held.length < 4 → x.verify = true → x.verifyAt ≠ none →
      exec (.lathPass peaks) s = .next ((s.bump 0x11 1).verifyPass x peaks)) ∧
    (Running x s → 4 ≤ s.gnss.held.length → exec (.lathPass peaks) s = .next s) ∧
    (∀ h r, s.gnss.held = h :: r → s.hasRoom 28 = true →
      exec .handoffResume s = .next (({ s with gnss := { s.gnss with held := r } }).storeHandoff h)) ∧
    (s.gnss.run = some x → x.done = true → x.host = none → s.gnss.queue = [] →
      exec .searchDone s = .next ((({ s with gnss := { s.gnss with run := none } }).bump 0x11 0).occur 44 0xFF (le 1 x.signal ++ le 1 x.found))) ∧
    (∀ t n, s.gnss.run = some x → x.done = true → x.host = some (t, n) → s.gnss.queue = [] →
      exec .searchDone s =
        .next (((((({ s with gnss := { s.gnss with run := none } }).bump 0x11 0).publish n (x.result s.up)).occur 44 n
          (le 1 x.signal ++ le 1 x.found)).complete 0x1110 t .ok [{ id := 0x1110, value := le 1 n ++ le 1 x.found }])))

/-- R146, R150, R153, R158, R161, R162: dumps, the code tick, the timeouts, navigation data and the set of an MT. -/
def Obligations.TrackRowsComplete : Prop :=
  ∀ (s : State) (n : Fin 128) (d : Dump) (mis : BitVec 128) (msgs : List (Fin 3 × Bytes)),
    (∀ k, 1 ≤ k → k ≤ 5 → ChanIn n.val k s →
      let c := s.chan n.val
      let pos := c.pos + c.coh / cohPrimary c.signal
      let taps := c.settle s.up
      let next := if k = 4 then s.cohSynced c.signal else c.cohNext
      ∃ t, exec (.correlatorDump n d) s = .next t ∧ (t.chan n.val).dumps = c.dumps ++
          [{ ms := c.coh, pos := pos, dllSpacing := taps.dllSpacing, veSpacing := taps.veSpacing, dump := s.blankDump taps d }] ∧
        (t.chan n.val).pos = pos ∧ ((t.chan n.val).coh = c.coh ∨ (t.chan n.val).coh = next) ∧ (t.chan n.val).state = c.state ∧
        (t.chan n.val).carrier = c.carrier ∧ (t.chan n.val).code = c.code ∧ ∀ j, j ≠ n.val → t.chan j = s.chan j) ∧
    (s.tickRuns 3 ((s.plumb.codeIdx + 1) * qtMs) = true → ∃ t, exec (.codeTick mis) s = .next t ∧ t.plumb.codeIdx = s.plumb.codeIdx + 1) ∧
    (ChanIn n.val 1 s → (s.chan n.val).since + 200 * qtMs ≤ s.up →
      exec (.pullInTimeout n) s = .next ((s.bump 0x12 3).chanLoss n.val 2)) ∧
    (∀ k, 2 ≤ k → k ≤ 4 → ChanIn n.val k s → s.param 0x120D ≠ 0 → ∀ since, (s.chan n.val).lowSince = some since →
      since + s.param 0x120C * qtMs ≤ s.up →
      ∃ t, exec (.lossTimeout n) s = .next t ∧ (t.chan n.val).state = 5 ∧ (t.chan n.val).sync = 0 ∧ (t.chan n.val).since = s.up ∧
        (t.chan n.val).reacqMs = s.param 0x120D ∧ (∀ j, j ≠ n.val → t.chan j = s.chan j)) ∧
    (ChanIn n.val 5 s → (s.chan n.val).since + (s.chan n.val).reacqMs * qtMs ≤ s.up →
      exec (.reacqTimeout n) s = .next (s.chanLoss n.val 0)) ∧
    (∀ r, n.val < s.track.chans.length → (s.chanLoss n.val r).chan n.val = {}) ∧
    (∀ k, 3 ≤ k → k ≤ 4 → ChanIn n.val k s →
      exec (.navDataDecode n msgs none none) s = .next ((msgs.foldl (fun u m =>
        u.storeNav { signal := (s.chan n.val).signal, sv := (s.chan n.val).sv, kind := m.1.val, data := m.2 }) s).modChan n.val
          (fun c => { c with symbols := [] }))) ∧
    (∀ l, s.track.latch = some l → s.power.mode ≠ .runManager → s.power.mode ≠ .runWorker →
      let q := wrap32 (s.track.setSeq + 1)
      let a : State := { s with track := { s.track with setSeq := q, latch := none, words := l.words } }
      exec .measSetReady s = .next (((a.offer 3 { data := l.entry q }).publish 0 (l.entry q)).occur 52 0 (le 4 q ++ le 1 l.records.length))) ∧
    (∀ k h, 1 ≤ k → k ≤ 4 → ChanIn n.val k s → h.dump.blanked < 9000 → (s.estimate n.val h.ms h.dump).lossOf n.val h.dump = false →
      ((s.useDump n.val h).chan n.val).lowSince = none) ∧
    (∀ k h, 1 ≤ k → k ≤ 5 → ChanIn n.val k s → 9000 ≤ h.dump.blanked →
      let u := (s.useDump n.val h).chan n.val
      let c := s.chan n.val
      u.carrier = c.carrier ∧ u.code = c.code ∧ u.doppler = c.doppler ∧ u.codeRate = c.codeRate ∧ u.cn0 = c.cn0 ∧ u.state = c.state ∧
        u.slips = c.slips ∧ u.lockFrom = c.lockFrom)

/-- R282–R296: what the receivers of the audio ports and the converters do. -/
def Obligations.AudioRowsComplete : Prop :=
  ∀ (s : State) (n : Fin 8) (p : Fin 4) (inst period : Nat) (f : AesFrame) (a b : Bytes) (rate : BitVec 32) (slots : List (BitVec 32)),
    (s.aesReceives n.val = true → (s.aesPort n.val).locked = false → 32000 ≤ rate.toNat → rate.toNat ≤ 192000 →
      ∃ k, exec (.aesRxLock n rate) s =
        .next ((s.modAes n.val (fun p => { p with locked := true, rate := rate.toNat, blockSeq := 0 })).occur 82 n.val (le 1 k ++ le 4 rate.toNat)) ∧
        (k = 1 ∨ k = 2)) ∧
    (s.power.mode.serves = true → (s.aesPort n.val).locked = true → n.val < s.audio.aes.length →
      exec (.aesRxLockLoss n) s = .next (((s.modAes n.val (fun p => { p with locked := false })).bump 0x23 (6 * n.val + 5)).occur 82 n.val
        (le 1 0 ++ le 4 (s.aesPort n.val).rate))) ∧
    (Locked n.val s → csPasses (padTo 24 a) = true → csPasses (padTo 24 b) = true →
      ∃ t, exec (.aes3BlockRx n a b) s = .next t ∧ (t.aesPort n.val).csA = padTo 24 a ∧ (t.aesPort n.val).csB = padTo 24 b ∧
        (t.aesPort n.val).blockSeq = wrap32 ((s.aesPort n.val).blockSeq + 1) ∧ (t.aesPort n.val).crcGood = true) ∧
    (Locked n.val s → csPasses (padTo 24 a) = false → csPasses (padTo 24 b) = false →
      ∃ t, exec (.aes3BlockRx n a b) s = .next t ∧ (t.aesPort n.val).csA = (s.aesPort n.val).csA ∧
        (t.aesPort n.val).csB = (s.aesPort n.val).csB ∧ (t.aesPort n.val).blockSeq = wrap32 (s.aesPort n.val).blockSeq) ∧
    (Locked n.val s → f.parityA = false → f.parityB = false → f.validityA = false → f.validityB = false →
      ∃ t, exec (.aes3FrameRx n inst f) s = .next t ∧ (t.aesPort n.val).goodA = f.wordA.toNat * 256 ∧
        (t.aesPort n.val).goodB = f.wordB.toNat * 256) ∧
    (s.power.mode.serves = true → p.val < s.tdmCount → (s.tdmPort p.val).rx.on = true → (s.tdmPort p.val).tx.on = false →
      bit 0 (s.param (0x2400 + p.val)) = false → period ≠ 32 * tdmSlotCount (bits 2 1 (s.param (0x2400 + p.val))) (s.param 0x2000) →
      ∃ t, exec (.tdmFrameRx p inst period slots) s = .next t ∧ t.audio.ins = s.audio.ins) ∧
    (let cfg := s.param (0x2400 + p.val)
     let count := tdmSlotCount (bits 2 1 cfg) (s.param 0x2000)
     let a := (s.advance inst).modTdm p.val (fun p => { p with period := period })
     let a := if bit 0 cfg = true then a else a.slaveFrame p.val (inst * a.fs / qtSec - bits 15 8 cfg)
     let i := a.frameIndex inst 2
     s.power.mode.serves = true → p.val < s.tdmCount → (s.tdmPort p.val).rx.on = true → (a.tdmPort p.val).rx = (s.tdmPort p.val).rx →
      (bit 0 cfg = true ∨ period = 32 * count) →
      (s.tdmPort p.val).rx.s0 ≤ i → a.tdmBound p.val = false →
      exec (.tdmFrameRx p inst period slots) s = .next (a.storeFrame (0x10 + p.val) i ((List.range 16).map (fun k =>
        if k < count ∧ bit k (bits 15 0 (a.param (0x2404 + p.val))) = true then slotWord (bit 5 cfg) (slots.getD k 0).toNat else 0)))) ∧
    (s.power.mode.serves = true → n.val < s.asrcCount → s.inputThere (s.audio.asrc.getD n.val {}) = true → (s.audio.asrc.getD n.val {}).locked = false →
      ratioLegal rate.toNat = true →
      exec (.asrcLock n rate) s = .next (((s.setConverter n.val true rate.toNat).bump 0x22 (2 * n.val)).occur 80 n.val (le 4 rate.toNat))) ∧
    (s.power.mode.serves = true → (s.audio.asrc.getD n.val {}).locked = true →
      exec (.asrcUnlock n) s = .next (((s.setConverter n.val false (s.audio.asrc.getD n.val {}).ratio).bump 0x22 (2 * n.val + 1)).occur 81 n.val
        (le 4 (s.audio.asrc.getD n.val {}).ratio)))
/-! ## Link radio, modem and cell (R312–R399) -/

namespace Sys2Proof.Claims

/-- R320: the accepted burst at the head of the schedule, not yet on the air, at its transition. -/
def Next (x : Burst) (r : List Burst) (s : State) : Prop := s.radio.bursts = x :: r ∧ x.onAir = false

/-- R349: the modem is in receive state `k` with the window `w`. -/
def Windowed (w : RxWindow) (k : Nat) (s : State) : Prop := s.modem.window = some w ∧ s.modem.rx = k

/-- The message of a type that waits, and the state without it. -/
def Waits (kind : Nat) (m : CellMessage) (s t : State) : Prop := s.takeMessage kind = some (m, t)

/-- The message at the head of a queue of the unit, and the state with it taken. -/
def Heads (n kind st : Nat) (b : Bytes) (s t : State) : Prop := s.takeQueued n kind = some (st, b, t)

end Sys2Proof.Claims

/-- R314, R316, R317, R324, R325, R329, R332, R333: states, calibration, tokens, mismatch and coexistence of the radio. -/
def Obligations.RadioRowsComplete : Prop :=
  ∀ (s : State) (temp vswr fwd refl : BitVec 16) (vco : BitVec 8) (sub : Fin 3) (gnt : Bool),
    (s.part.radio = true → s.radio.cal ≠ none → s.radio.state ≠ 6 → s.radio.state ≠ 5 → (s.radio.immediate = true ∨ s.idleGap = true) →
      s.power.mode.serves = true → s.calAllowed = true → s.modem.window = none →
      ∃ t, exec .calStart s = .next t ∧ t.radio.state = 6 ∧ s.up + 260 * qtUs ≤ t.radio.readyAt ∧ t.modem.window = none) ∧
    (s.radio.state = 6 → s.radio.calTicket = none → s.power.mode ≠ .watch →
      let mode := radioPfd s.clocks.refHz (radioVco s.radio.plan)
      let m := (s.tuneRadio mode).measureDc
      exec (.calComplete temp vco) s =
        .next ((({ m with radio := { m.radio with
          state := 3, calibrated := true, calTemp := signed 16 temp.toNat, vcoBand := vco.toNat, cal := none, immediate := false
          calTicket := none, pfd := Table.insert m.radio.plan.key mode m.radio.pfd } } : State).bump 0x30 (9 + s.radio.cal.getD 0)).occur 88
          (s.radio.cal.getD 0) (leInt 2 (signed 16 temp.toNat) ++ le 1 vco.toNat))) ∧
    (2 ≤ s.radio.state → s.radio.state ≤ 4 → s.radio.bursts = [] → s.modem.window = none → s.radio.cal = none →
      exec .radioIdleSleep s = .next { s with radio := { s.radio with state := 1 } }) ∧
    (∃ t, exec .tokenBinRoll s = .next t ∧ t.radio.minute = t.qt / (60 * qtSec) ∧ (s.radio.minute + 1) * (60 * qtSec) ≤ t.qt ∧
      (t.radio.bands.length = s.radio.bands.length) ∧
      (t.radio.minute = s.radio.minute + 1 → ∀ n, (s.band_ n).bins.length = 61 → n < s.radio.bands.length →
        (t.band_ n).bins = 0 :: (s.band_ n).bins.take 60)) ∧
    (s.part.radio = true → ∃ t, exec (.coexGnt gnt) s = .next t ∧ t.radio.coexGnt = gnt ∧
      t.extBlank = (s.radioOn && bit 2 (s.radioParam 0x3007) && !gnt && !s.coexReq)) ∧
    ((s.band_ sub.val).state = 2 → (s.band_ sub.val).retry ≠ 0 → (s.band_ sub.val).stoppedAt + (s.band_ sub.val).retry * qtSec ≤ s.up →
      exec (.vswrRetry sub) s = .next (s.modSubBand sub.val (fun b => { b with probe := true }))) ∧
    (∀ x r, s.radio.bursts = x :: r → x.onAir = true → x.cut = false → 600 < vswr.toNat → x.subband < s.radio.bands.length →
      ∃ t, exec (.vswrStop vswr) s = .next t ∧ (t.band_ x.subband).state = 2 ∧ (t.band_ x.subband).stoppedAt = s.up ∧
        t.radio.bursts = { x with cut := true } :: r) ∧
    (∀ x r, s.radio.bursts = x :: r → x.onAir = true →
      ∃ t, exec (.burstEnd vswr fwd refl) s = .next t ∧ t.radio.bursts = r ∧
        (s.radio.state = 5 → s.radio.plan.key = s.radio.tuned → t.radio.state = 3) ∧
        (x.rampAt - x.guard, t.up + x.guard) ∈ t.radio.blanks ∧
        (x.tuner = 0 → x.subband < s.radio.bands.length → (t.band_ x.subband).vswr = vswr.toNat ∧
          (t.band_ x.subband).forward = signed 16 fwd.toNat ∧ (t.band_ x.subband).reflected = signed 16 refl.toNat))

/-- R318, R320, R321, R325, R331: a burst is requested, refused by the first of its checks, or goes on the air. -/
def Obligations.BurstsAreCheckedInOrder : Prop :=
  ∀ (s : State) (kind : Fin 5) (rate need : Nat) (fig : TransitionFigures) (x : Burst) (r : List Burst),
    let sub := s.radio.plan.subband
    let ready := s.chainReady
    ((s.lockedOut rate = true ∨ s.burstPower (s.band_ sub).probe = none) → s.admission_ rate need = some 4) ∧
    (s.lockedOut rate = false → s.burstPower (s.band_ sub).probe ≠ none → (s.band_ sub).state = 2 → (s.band_ sub).probe = false →
      s.admission_ rate need = some 3) ∧
    (s.lockedOut rate = false → s.burstPower (s.band_ sub).probe ≠ none → ((s.band_ sub).state ≠ 2 ∨ (s.band_ sub).probe = true) →
      s.tokenLevel sub < ((s.reserved_ sub + need : Nat) : Int) → s.admission_ rate need = some 2) ∧
    (s.lockedOut rate = false → s.burstPower (s.band_ sub).probe ≠ none → ((s.band_ sub).state ≠ 2 ∨ (s.band_ sub).probe = true) →
      ((s.reserved_ sub + need : Nat) : Int) ≤ s.tokenLevel sub → ((s.pll 3).state = 3 ∨ s.up + s.param 0x3001 * qtUs < ready) →
      s.admission_ rate need = some 1) ∧
    (s.lockedOut rate = false → s.burstPower (s.band_ sub).probe ≠ none → ((s.band_ sub).state ≠ 2 ∨ (s.band_ sub).probe = true) →
      ((s.reserved_ sub + need : Nat) : Int) ≤ s.tokenLevel sub → (s.pll 3).state ≠ 3 →
      ready ≤ s.up + s.param 0x3001 * qtUs → s.admission_ rate need = none) ∧
    (∀ probe p, s.burstPower probe = some p →
      -40 ≤ p ∧ p ≤ hardwareMax sub ∧ p ≤ capOf (s.locksOf sub) s.radio.plan.gain ∧ (probe = true → p = -40)) ∧
    (s.part.radio = true → s.wired = false → (s.nextBurst kind.val).2 ≤ frameOf s.qt + 1 →
      s.sends kind.val (s.nextBurst kind.val).1 (s.nextBurst kind.val).2 = true →
      ∃ t, exec (.txRequest kind) s = .next t ∧
        t.radio.lastB = some (burstInstant kind.val (s.nextBurst kind.val).1 (s.nextBurst kind.val).2)) ∧
    (Next x r s → s.coexMode ≠ 0 → s.radio.coexGnt = false →
      exec (.transitionStart fig) s = .next (((s.advance (s.transitionOf x)).dropBurst x).refuseBurst 5 x.start)) ∧
    (Next x r s → (s.coexMode = 0 ∨ s.radio.coexGnt = true) → (s.advance (s.transitionOf x)).listens x = true →
      (s.locksOf x.subband).lbtThresh * 10 < signed 16 fig.power.toNat →
      exec (.transitionStart fig) s = .next ((s.advance (s.transitionOf x)).lbtBlocked x (signed 16 fig.power.toNat))) ∧
    (Next x r s → (s.coexMode = 0 ∨ s.radio.coexGnt = true) →
      ((s.advance (s.transitionOf x)).listens x = false ∨ signed 16 fig.power.toNat ≤ (s.locksOf x.subband).lbtThresh * 10) →
      (s.advance (s.transitionOf x)).mismatchAllows x = false →
      exec (.transitionStart fig) s = .next (((s.advance (s.transitionOf x)).dropBurst x).refuseBurst 3 x.start)) ∧
    (Next x r s → (s.coexMode = 0 ∨ s.radio.coexGnt = true) →
      ((s.advance (s.transitionOf x)).listens x = false ∨ signed 16 fig.power.toNat ≤ (s.locksOf x.subband).lbtThresh * 10) →
      (s.advance (s.transitionOf x)).mismatchAllows x = true →
      exec (.transitionStart fig) s = .next ((s.advance (s.transitionOf x)).startBurst x (signed 16 fig.dieTemp.toNat) fig.vddPa.toNat)) ∧
    (∀ (t : State) (c : Int) (v : Nat), x.power + t.paCorrection x c v ≤ capOf (t.locksOf x.subband) x.plan.gain)

/-- R343, R347, R349–R351, R355, R357, R361: windows, sync, headers, codewords and delivery. How a soft value weighs and the number formats
are the model's choice (log entries 134, 143). -/
def Obligations.ModemRowsComplete : Prop :=
  ∀ (s : State) (kind : Fin 5) (hard : BitVec 64) (front : RxFront) (stamp noise : Nat) (h : HeaderSymbols) (scale : BitVec 32)
    (samples : List (Int × Int)) (x : PayloadSymbols) (evm : BitVec 16) (payload : Bytes) (w : RxWindow) (b : RxBurst)
    (before rest : List RxBurst),
    (∀ u fr l, s.mayListen = true → s.modem.window = none → s.plumb.estimated = true → s.slotsAhead kind.val = (u, fr) :: l →
      exec (.rxWindowOpen kind) s = .next (((s.advance (fr * qtFrame + (slotSpan kind.val u).1 * qtUs)).wakeRadio).openWindow kind.val
        ((s.expects kind.val u fr).getD 0) fr (fr * qtFrame + (slotSpan kind.val u).2 * qtUs))) ∧
    (s.modem.window = some w →
      ∃ t, exec .rxWindowClose s = .next t ∧ t.modem.window = none ∧ t.modem.rx = 0 ∧ t.modem.frozen = false) ∧
    (Windowed w 1 s → syncErrors hard.toNat (s.param 0x3101) ≤ s.param 0x3100 → stamp + symbolSpan (s.rxRate w.kind) 140 ≤ w.close →
      ∃ t y, exec (.syncDetect hard front stamp) s = .next t ∧ t.modem.rx = 2 ∧ t.modem.frozen = true ∧
        t.modem.gain = front.powers.foldl agcStep s.modem.gain ∧ t.modem.current = some y ∧ y.eq.ff.length = 24 ∧ y.eq.fb.length = 16 ∧
        y.errs = syncErrors hard.toNat (s.param 0x3101) ∧ y.stamp = syncStamp (s.rxRate w.kind) stamp ∧ y.rssi = rssiOf front.powers ∧
        y.station = w.station) ∧
    (Windowed w 1 s → s.param 0x3100 < syncErrors hard.toNat (s.param 0x3101) → exec (.syncDetect hard front stamp) s = .next s) ∧
    (s.modem.window = some w → s.modem.current = some b → h.samples.length = 304 →
      let y := s.headerSoft h b
      let last := { y.2 with mcs := bits 3 0 h.header.toNat, length := bits 23 8 h.header.toNat }.endAt (s.rxRate b.kind)
      mostLikely (bitsOf 32 h.header.toNat) y.1 = true →
      (headerOk h.header.toNat = false →
        exec (.headerDecode h) s = .next ((({ s with modem := { s.modem with current := some y.2 } } : State).resumeSearch.bump 0x31 3).decodeFail
          0 (bits 3 0 h.header.toNat) 0 y.2)) ∧
      (headerOk h.header.toNat = true → w.close < last →
        exec (.headerDecode h) s = .next ((({ s with modem := { s.modem with current := some y.2 } } : State).resumeSearch.bump 0x31 4).decodeFail
          2 (bits 3 0 h.header.toNat) 0 y.2)) ∧
      (headerOk h.header.toNat = true → last ≤ w.close → s.modem.buffers.length < 2 →
        ∃ t, exec (.headerDecode h) s = .next t ∧ t.modem.rx = 3 ∧ t.modem.rxEnd = last ∧ t.modem.buffers = s.modem.buffers ++ [{ y.2 with
          mcs := bits 3 0 h.header.toNat, length := bits 23 8 h.header.toNat, seed := bits 7 4 h.header.toNat
          codewords := codewordCount (bits 3 0 h.header.toNat) (bits 23 8 h.header.toNat) }])) ∧
    (decodeNext s.modem.buffers = some (before, b, rest) → samples.length = 4 * (b.ahead b.needs).length →
      let y := s.ratios samples noise b
      let d := ldpcDecode (mcsCode b.mcs) (b.infoBits b.decoded) (s.param 0x3103) (y.1.take b.sentBits)
      let c := { y.2 with
        llr := y.1.drop b.sentBits, decoded := y.2.decoded + 1, iterations := y.2.iterations + d.2
        failed := if y.2.fails d.1 then y.2.failed ++ [y.2.decoded] else y.2.failed, info := y.2.info ++ d.1.take (y.2.infoBits y.2.decoded) }
      let u := (({ s with modem := { s.modem with buffers := before ++ c :: rest } } : State).bump 0x31 5).bumpBy 0x31 7 d.2
      (b.fails d.1 = true → exec (.codewordDecode samples noise) s = .next (u.bump 0x31 6)) ∧
      (b.fails d.1 = false → exec (.codewordDecode samples noise) s = .next u)) ∧
    (∀ c n most llr, (ldpcDecode c n most llr).2 ≤ most ∧
      ((ldpcDecode c n most llr).2 < most → syndromeFails c n (ldpcDecode c n most llr).1 = false)) ∧
    (s.modem.buffers = b :: rest → x.samples.length = 4 * (b.ahead b.convSymbols).length →
      let y := s.hear b.convSymbols x.samples b
      b.codewords ≤ b.decoded → y.2.payload (y.1.map (soft4 scale.toNat)) x.payload = some payload →
      evmFits (signed 16 evm.toNat) y.2.eq.error y.2.eq.reference = true →
      ∃ t, exec (.burstDelivered x evm scale) s = .next t ∧ t.modem.buffers = rest ∧ t.modem.lastStation = some b.station ∧
        t.modem.delivered = s.modem.delivered ++ [y.2.frame_ payload (signed 16 evm.toNat)]) ∧
    (∀ e : Int, b.quality e ≤ 255 ∧ (b.failed ≠ [] ↔ b.quality e = 0))

/-- R372–R375, R381–R384, R391, R393, R394: what the unit does with the bursts delivered to it. -/
def Sys2Proof.Claims.CellBurstsComplete : Prop :=
  ∀ (s t : State) (x : RxFrame) (dev comb start : Nat) (st : BitVec 6) (payload : Bytes),
    (s.cellRole = 2 → s.takeDelivered 0 = some (x, t) → exec .beaconRx s = .next (t.takeBeacon x 0)) ∧
    (s.cellRole = 2 → s.cell.lost = false → s.param 0x3200 ≤ s.cell.missed →
      ∃ u, exec .beaconLost s = .next u ∧ u.cell.lost = true ∧ ((s.member 0).state = 1 → (u.member 0).state = 2)) ∧
    (s.cellRole = 2 → s.takeDelivered 1 = some (x, t) → exec .downlinkRx s = .next (t.takeDownlinkBurst x)) ∧
    (s.cellRole = 2 → s.takeDelivered 2 = some (x, t) →
      exec (.ttManagerBurstRx dev comb) s = .next (t.takeTtManager x (burstInstant 2 0 x.frame + 16 * qtUs) dev comb)) ∧
    (s.cellRole = 1 → s.takeDelivered 3 = some (x, t) → exec .ttReplyRx s = .next (t.takeTtReply x (burstInstant 3 0 x.frame + 16 * qtUs))) ∧
    (s.cellRole = 1 → s.takeDelivered 4 = some (x, t) → exec .uplinkRx s = .next (t.takeUplink x)) ∧
    (s.wired = true → s.cellRole = 1 →
      ∃ y, exec (.wiredBurstRx 4 st payload true start dev comb) s =
        .next ((({ s.advance start with freeTick := s.freeTick + 1 }).wireUp start).takeUplink y) ∧ y.station = st.toNat ∧ y.payload = payload ∧
        y.frame = frameOf start ∧ y.failed = []) ∧
    (∀ lead, crcPayload x.payload = false → s.takeBeacon x lead = s.bump 0x32 2) ∧
    (∀ lead, crcPayload x.payload = true → fieldAt 0 2 x.payload ≠ s.cell.cfg.cellId → s.takeBeacon x lead = s.bump 0x32 4) ∧
    (s.wired = false → crcPayload x.payload = true → fieldAt 0 1 x.payload = 1 → fieldAt 2 1 x.payload ≠ 0 →
      fieldAt 2 1 x.payload = ttWorker x.frame → s.admittedStation (fieldAt 2 1 x.payload) = true →
      ∀ t3, ((s.takeTtReply x t3).member (fieldAt 2 1 x.payload)).x = (signedAt 4 8 x.payload - ((x.stamp : Int) - t3)) / 2)

/-- R376–R380, R384, R386, R388, R390, R398: the messages of a cell and the end of its commit. That the outcome counts the manager's own end
and waits for a present worker, and how common-view arcs weigh, is the model's choice (log entry 144). -/
def Sys2Proof.Claims.CellMessagesComplete : Prop :=
  ∀ (s t : State) (m : CellMessage) (st : Nat) (b : Bytes) (ownR mgrR ws : List Nat) (bound : BitVec 32),
    (s.cellRole = 2 → Waits 1 m s t → t.cell.cvSets.find? (fun x => qtBytes x.1 == slice 4 10 m.body) = none →
      exec (.meas ownR mgrR ws bound) s = .next t) ∧
    (∀ inst set, s.cellRole = 2 → Waits 1 m s t → t.cell.cvSets.find? (fun x => qtBytes x.1 == slice 4 10 m.body) = some (inst, set) →
      let old := if t.cell.cvSeq = some (fieldAt 0 4 m.body) then t.cell.cvPairs else []
      let new := cvPairs (t.cell.twoWayX.getD 0) set ownR mgrR ws m.body
      let u : State := { t with cell := { t.cell with cvSeq := some (fieldAt 0 4 m.body), cvPairs := old ++ new } }
      let fixed := (old ++ new).filterMap (u.cvFix (old ++ new))
      let v : State := { u with cell := { u.cell with cvArcs := fixed.map (·.2), cvPairs := [], cvSeq := none } }
      (fieldAt 14 1 m.body + 1 ≠ fieldAt 15 1 m.body → exec (.meas ownR mgrR ws bound) s = .next u) ∧
      (fieldAt 14 1 m.body + 1 = fieldAt 15 1 m.body → (fixed.length < 4 ∨ v.baselineOk = false) →
        exec (.meas ownR mgrR ws bound) s = .next v) ∧
      (fieldAt 14 1 m.body + 1 = fieldAt 15 1 m.body → 4 ≤ fixed.length → v.baselineOk = true →
        exec (.meas ownR mgrR ws bound) s =
          .next ((v.bump 0x32 11).offerResult 3 (min fixed.length 255) false (cvMean fixed) bound.toNat 0 inst))) ∧
    (Waits 2 m s t →
      let a := t.takeAck m.from_ (fieldAt 1 1 m.body) (fieldAt 2 1 m.body)
      let p := a.member m.from_
      let n := (p.limitOut + 256 - fieldAt 0 1 m.body) % 256
      (p.state = 1 → fieldAt 0 1 m.body = p.expect → 1 ≤ n → n ≤ 128 → exec .ctrl s = .next ((a.modMember m.from_ (fun p =>
        { p with expect := (p.expect + 1) % 256 })).offerOmba 22 m.from_ (frameOf a.qt) true (m.body.drop 4))) ∧
      (fieldAt 0 1 m.body ≠ p.expect → exec .ctrl s = .next a)) ∧
    (Heads 19 3 st b s t → exec .grant s = .next (t.takeAck 0 (fieldAt 1 1 b) (fieldAt 0 1 b))) ∧
    (Heads 19 4 st b s t → bit 7 (fieldAt 1 1 b) = false → t.newCommitId (fieldAt 0 1 b) = true →
      exec .commit s = .next (t.applyCellCommit (fieldAt 0 1 b) (fieldAt 1 1 b % 128) (fieldAt 4 8 b))) ∧
    (Heads 19 4 st b s t → bit 7 (fieldAt 1 1 b) = true → t.newCommitId (fieldAt 0 1 b) = false → t.cell.commitState = 1 →
      exec .commit s = .next t.withdrawCellCommits) ∧
    (Heads 19 5 st b s t →
      ∃ l, exec .cellAdmit s = .next { t with cell := { t.cell with permits := l } } ∧
        (fieldAt 0 1 b ∈ l ↔ fieldAt 1 1 b = 1 ∧ fieldAt 4 8 b = Config.serial.toNat) ∧
        ∀ n, n ≠ fieldAt 0 1 b → (n ∈ l ↔ n ∈ t.cell.permits)) ∧
    (Heads 20 6 st b s t → exec .report s = .next (((t.modMember st (fun m => { m with
      timeState := fieldAt 8 1 b, lqDl := fieldAt 11 1 b, commitId := fieldAt 22 1 b, commitState := fieldAt 23 1 b })).noteReport st
        (fieldAt 22 1 b) (fieldAt 23 1 b)).takeAck st (fieldAt 21 1 b) (fieldAt 20 1 b))) ∧
    (Waits 7 m s t → exec .diag s = .next (t.offerOmba 23 m.from_ (frameOf t.qt) false (ombaMessage 7 t.ownStation m.body))) ∧
    (∀ c, s.cell.commits.find? (fun c => c.waits && s.commitEnded c) = some c → s.cellRole = 1 →
      ∃ l d, exec .cellCommitDone s = .next (({ s with cell := { s.cell with commits := l } } : State).occur 100 c.id d) ∧
        d.length = 12 ∧ slice 4 8 d = le 8 c.index ∧ l = s.cell.commits.map (fun d => if d = c then { d with waits := false } else d)) ∧
    (∀ i f, (f (s.member i)).station = i → (s.modMember i f).member i = f (s.member i))

/-- R372–R398: what the cell does with its bursts and messages. -/
def Obligations.CellRowsComplete : Prop :=
  CellBurstsComplete ∧ CellMessagesComplete

/-! ## Signal balls (R44–R53, R60) -/

/-- R45, R46, R48, R49, R53, R60: the state of every ball, and what the part drives there: the Reset column from the start of any device or
power-on reset, Act in the modes that serve, the host port's balls in a host-port reset, Win balls in Watch, and open-drain lines. -/
def Obligations.BallsTakeStatedStates : Prop :=
  ∀ (x : Signal) (s : State) (cause : Nat) (now : Bool),
    (s.ballPresent x = true → (s.startReset cause).ballState x = x.row.reset) ∧
    (s.ballPresent x = true → s.backup = false → s.ballFused x = false → s.power.save.began = 0 → s.power.mode.serves = true →
      s.rst.configured = true → (x.hostPort = false ∨ s.port.resetting = false) → s.ballState x = .act) ∧
    (s.ballPresent x = true → s.backup = false → s.port.resetting = true → x.hostPort = true → s.ballState x = x.row.reset) ∧
    (∀ b, x.hostPort = false → ({ s with port := { s.port with resetting := b } } : State).ballState x = s.ballState x) ∧
    (s.ballPresent x = true → s.backup = false → s.ballFused x = false → s.ballInReset x = false → s.power.save.began = 0 →
      s.power.mode = .watch → x.row.watch = .win →
      s.ballState x = if s.inWindow x = true then .act else x.row.sleep) ∧
    (s.coexMode = 0 → (x = .coexReq ∨ x = .coexPri) → s.inWindow x = false) ∧
    (s.power.mode = .watch → s.ballLevel .extPaEn now ≠ some true) ∧
    (s.ballPresent x = true → s.backup = true → x ≠ .xtal32 → x ≠ .pfailN → s.ballState x = .unpowered) ∧
    (s.part.radio = false → (x = .extPaEn ∨ x = .extLnaEn ∨ (∃ n, x = .extSw n) ∨ x = .coexReq ∨ x = .coexPri) →
      s.ballLevel x now ≠ some true) ∧
    ((x = .hostIrqN ∨ x = .pfailN) → s.ballLevel x now ≠ some true)
/-! ## The whole block: its queue of commands, its reset, and what every step keeps (R14, R20, R36–R38, R326, R327, R477, R480, R498) -/

namespace Sys2Proof.Claims

/-- R38: entries produced are those consumed, those stored and those counted as drops, modulo 2³². -/
def balanced (q : Queue) : Prop := q.produced % 2 ^ 32 = (q.consumed + q.entries.length + q.drops) % 2 ^ 32

/-- R38 of all 32 queues. -/
def QueuesBalance (s : State) : Prop := s.queues.length = 32 ∧ ∀ q ∈ s.queues, balanced q

/-- R327: what the locks of one sub-band may hold; a sub-band whose locks permit nothing, as a part leaves the factory (R326),
holds no more than the defaults. -/
def locksLegal (n : Nat) (l : Locks) : Bool :=
  decide (l.rates ≤ 7) && decide (l.margin ≤ 12) && decide (l.maxCond ≤ hardwareMax n) && decide (-40 ≤ l.maxEirp) && decide (l.maxEirp ≤ 144) &&
  decide (-100 ≤ l.minGain) && decide (l.minGain ≤ 300) && decide (l.duty ≤ 10000) && decide (-100 ≤ l.lbtThresh) &&
  decide (l.lbtThresh ≤ -40) && decide (l.channels < 2 ^ channelsOf n) && (!l.permitted || decide (1 ≤ l.duty))

/-- R312, R327: the locks of the three sub-bands. -/
def LocksLegal (s : State) : Prop := s.nv.locks.length = 3 ∧ ∀ n, n < 3 → locksLegal n (s.nv.locks.getD n {}) = true

/-- What only named commands write (R20, R326, R477, R480, R498). -/
def SameLocks (s t : State) : Prop := t.nv.locks = s.nv.locks ∧ t.nv.locksValid = s.nv.locksValid
def SameKeys (s t : State) : Prop := t.nv.keys = s.nv.keys
def SamePin (s t : State) : Prop := t.nv.pin = s.nv.pin
def SameFuse (s t : State) : Prop := t.nv.boot.jtagBlown = s.nv.boot.jtagBlown

/-- LOCKS_WRITE (R327). -/
def writesLocks : Instr → Bool
  | .locksWrite _ => true
  | _ => false

/-- KEY_ADD and KEY_REVOKE (R478, R479). -/
def writesKeys : Instr → Bool
  | .keyAdd _ => true
  | .keyRevoke _ => true
  | _ => false

/-- PIN_SET (R480). -/
def writesPin : Instr → Bool
  | .pinSetEnable _ => true
  | .pinSetDisable _ => true
  | _ => false

/-- JTAG_FUSE_BLOW (R498). -/
def blowsFuse : Instr → Bool
  | .jtagFuseBlow _ => true
  | _ => false

/-- R475, R482, R501: the journal records whose content a command takes into the NV array: JOURNAL_COMMIT the one whose request it answers,
a boot those that were committed on the way into the reset. -/
def recordsTaken (i : Instr) (s : State) : List JournalRecord :=
  match i with
  | .journalCommit _ => (s.steward.append.map (·.1)).toList
  | .bootSequence _ => s.nv.late
  | .refInRemeasure _ => s.nv.late
  | _ => []

/-- No such record has a part that `p` accepts (R481). -/
def NonePart (p : Nat × Nat × Bytes → Bool) (l : List JournalRecord) : Prop := ∀ r ∈ l, ∀ x ∈ r.parts, p x = false

/-- The rows through which a Trowel core reaches the I/O space (R405, R414), and the core. -/
def reachesIo : Instr → Option Nat
  | .inIo c => some c.val
  | .outIo c => some c.val
  | .ina c => some c.val
  | .outa c => some c.val
  | .inw c => some c.val
  | .outw c => some c.val
  | .registerWrite _ _ => some 0
  | _ => none

/-- What a device or power-on reset leaves (R38, R94, R109, R110, R204, R228, R422, R440). -/
def LeftByReset (t : State) : Prop :=
  (∀ n, n < 32 → (t.queue n).entries = [] ∧ (t.queue n).produced = 0 ∧ (t.queue n).consumed = 0 ∧ (t.queue n).drops = 0) ∧
  (∀ n, n < 128 → (t.event n).stat = false ∧ (t.event n).occur = 0 ∧ bit 4 (t.event n).cfg = true ∧ bits 15 8 (t.event n).cfg = 0 ∧
    ((t.event n).enabled = false ↔ (16 ≤ n ∧ n ≤ 31) ∨ n = 52 ∨ (56 ≤ n ∧ n ≤ 59) ∨ (64 ≤ n ∧ n ≤ 67) ∨ n = 94 ∨ n = 96 ∨ n = 101 ∨ 120 ≤ n)) ∧
  t.port.lanes = 1 ∧ t.port.irqMask = 3 ∧ t.port.resetSeen = true ∧
  (∀ x, x = t.screed.f ∨ x = t.screed.b →
    x.v = [] ∧ x.acc = [] ∧ x.p = [] ∧ x.c = [] ∧ x.a = List.replicate 16 0 ∧ x.dpage = 0 ∧ x.loops = List.replicate 4 { ls := 0, le := 0, lc := 0 }) ∧
  t.screed.fg.pc = 0 ∧ t.screed.maxrep = 64 ∧ t.screed.bankA.loaded = false ∧ t.screed.bankB.loaded = false ∧
  (∀ u ∈ t.uarts, u.rx = [] ∧ u.tx = [] ∧ u.shifter = none) ∧
  (∀ c, c = t.trowelH ∨ c = t.trowelS →
    c.stack = [] ∧ c.rs = [] ∧ c.ie = false ∧ (∀ l ∈ c.loops, l.armed = false) ∧ c.pwrMode = 0 ∧ c.crc16 = 0 ∧ c.crc32 = 0) ∧
  t.trowelH.cbank = 0 ∧ t.trowelH.pc = 0 ∧ t.executing = none ∧ t.rst.inReset = true

end Sys2Proof.Claims

/-- A step takes the command at the front of the queue and runs it on the rest: for every command and every state. -/
def Obligations.StepRunsFrontCommand : Prop :=
  ∀ (c : Instr) (r : List Instr) (s : State), s.pending = c :: r → step s = exec c { s with pending := r }

/-- The model's own choice (log entry 1): with no command waiting the block idles. -/
def Obligations.EmptyQueueIdles : Prop := ∀ s : State, s.pending = [] → step s = .next s

/-- R38, R94, R109, R110, R204, R228, R422, R440: the state right after reset, and the state that the start of any device or power-on
reset leaves, from every state and for every cause. -/
def Obligations.ResetLeavesStatedValues : Prop := LeftByReset State.reset ∧ ∀ (cause : Nat) (s : State), LeftByReset (s.startReset cause)

/-- R38, R326: the invariants below hold right after reset. -/
def Obligations.InvariantsHoldAtReset : Prop := QueuesBalance State.reset ∧ LocksLegal State.reset

/-- R38: the counts of every queue keep their identity over every step: offers that are stored or dropped, consumption, flushes,
host-port resets, low-power modes and resets. -/
def Obligations.EveryStepKeepsQueueCounts : Prop :=
  ∀ s t : State, QueuesBalance s → step s = .next t → QueuesBalance t

/-- R326, R327: the lock region holds values within the ranges of R327 after every step. -/
def Obligations.EveryStepKeepsLocksLegal : Prop :=
  ∀ s t : State, LocksLegal s → step s = .next t → LocksLegal t

/-- R20, R326, R477, R480, R481, R498: no command but the named ones writes the locks, the keys, the PIN or the JTAG fuse, where it takes no
journal record of a lock write (KIND 10), of the key store (KIND 11) or of the fuse (0x7210); the fuse, once blown, stays blown; and no
command changes the part or the queue of commands. -/
def Obligations.ProtectedStateHasOneWriter : Prop :=
  ∀ (i : Instr) (s t : State), exec i s = .next t →
    t.part = s.part ∧ t.pending = s.pending ∧
    (writesLocks i = false → NonePart (fun x => x.1 == 10) (recordsTaken i s) → SameLocks s t) ∧
    (writesKeys i = false → NonePart (fun x => x.1 == 11) (recordsTaken i s) → SameKeys s t) ∧
    (writesPin i = false → SamePin s t) ∧
    (blowsFuse i = false → NonePart (fun x => x.1 == 1 && x.2.1 == 0x7210) (recordsTaken i s) → SameFuse s t) ∧ (s.nv.boot.jtagBlown = true → t.nv.boot.jtagBlown = true)

/-- R400, R414: the only steps without a next state are accesses of a Trowel core to registers that R414 does not publish; every other
command completes from every state. -/
def Obligations.OnlyUnpublishedRegistersStop : Prop :=
  ∀ (i : Instr) (s : State),
    (∃ t, exec i s = .next t) ∨
    (∃ c a, reachesIo i = some c ∧ (c = 1 ∨ (0x2000 ≤ a ∧ a ≤ 0xEFFF)) ∧ exec i s = .refused (.unpublishedRegister a))

/-- R37: an output whose stream has begun and runs emits one sample a tick, whatever index a re-anchor gives it, and that tick is counted in exactly one of HELD, FILLED, REANCHOR_REPEAT and
COMPUTED, the first that fits in this order; a stream that does not run counts nothing. -/
def Obligations.EverySampleIsCountedOnce : Prop :=
  ∀ (o : AudioOut) (s : State),
    let p := s.emitOut o
    let w := s.outWord (o.muteTick s.audio.outIndex (s.rampTicks (s.rampOf o.dst).1) (s.rampOf o.dst).2)
    (p.on = true → (p.begun = true ∨ p.s0 ≤ s.audio.outIndex) →
      p.held = (if w.2.1 then wrap64 (o.held + 1) else o.held) ∧
      p.filled = (if !w.2.1 && w.2.2 then wrap64 (o.filled + 1) else o.filled) ∧
      p.repeated = (if !w.2.1 && !w.2.2 && s.audio.outRepeat then wrap64 (o.repeated + 1) else o.repeated) ∧
      p.computed = (if !w.2.1 && !w.2.2 && !s.audio.outRepeat then wrap64 (o.computed + 1) else o.computed)) ∧
    ((p.on = false ∨ p.begun = false) →
      p.held = o.held ∧ p.filled = o.filled ∧ p.repeated = o.repeated ∧ p.computed = o.computed)

/-- R88, R93, R94, R101: the bodies of these commands change nothing at all but the count of free values drawn: what they read, they leave. -/
def Obligations.ReadingCommandsChangeNothing : Prop :=
  ∀ (c : Cmd) (s : State) (unit subsec meas : Nat) (k : CmdSpec),
    k ∈ [identityGet, echo, sessionList, gpioRead, timeGet, aesCsGet, tunerStatusGet, modemQualityGet, cellStatusGet, pllStatusGet meas,
      rtcGet subsec, sensorRead, resetCauseGet, paramGetOf unit, statusGetOf unit subsec meas] →
    (k.body c s).state = { s with freeTick := (k.body c s).state.freeTick }
end

