-- ==== Sys2Proof/Laws/Table.lean ====
section
/-! SUPPORT. The laws of the sparse tables: what a read gives after a write, and that every write keeps the canonical form. -/
namespace Sys2Proof.Machine.Table

variable {α : Type}

@[simp] theorem get_nil (d : α) (k : Nat) : get d k [] = d := rfl

theorem get_erase (d : α) (k m : Nat) (t : Table α) : get d m (erase k t) = if m = k then d else get d m t := by
  induction t with
  | nil => simp [erase, get]
  | cons p r ih =>
    obtain ⟨j, v⟩ := p
    by_cases hj : j = k
    · subst hj
      by_cases hm : m = j
      · subst hm; simp [erase, ih]
      · simp [erase, ih, get, hm, Ne.symm hm]
    · by_cases hm : m = k
      · subst hm; simp [erase, get, hj, ih]
      · simp [erase, get, hj, ih, hm]

theorem get_insert (d : α) (k m : Nat) (v : α) (t : Table α) : get d m (insert k v t) = if m = k then v else get d m t := by
  induction t with
  | nil => simp only [insert, get]; split <;> split <;> simp_all
  | cons p r ih =>
    obtain ⟨j, w⟩ := p
    unfold insert
    split
    · simp only [get]
      by_cases hm : m = k
      · subst hm; simp
      · simp [hm, Ne.symm hm]
    · split
      · rename_i h
        subst h
        simp only [get]
        by_cases hm : m = k
        · subst hm; simp
        · simp [hm, Ne.symm hm]
      · rename_i h1 h2
        simp only [get, ih]
        by_cases hm : m = k
        · subst hm; simp [Ne.symm h2]
        · simp [hm]

/-- A read after a write. -/
theorem get_set [DecidableEq α] (d : α) (k m : Nat) (v : α) (t : Table α) : get d m (set d k v t) = if m = k then v else get d m t := by
  unfold set
  split
  · rename_i h
    subst h
    exact get_erase _ k m t
  · exact get_insert d k m v t

@[simp] theorem get_set_self [DecidableEq α] (d : α) (k : Nat) (v : α) (t : Table α) : get d k (set d k v t) = v := by simp [get_set]

theorem get_set_ne [DecidableEq α] (d : α) {k m : Nat} (h : m ≠ k) (v : α) (t : Table α) : get d m (set d k v t) = get d m t := by
  simp [get_set, h]

/-- A read outside consecutive writes. -/
theorem get_setList_ne [DecidableEq α] (d : α) (m : Nat) (l : List α) (k : Nat) (t : Table α) (h : m < k ∨ k + l.length ≤ m) :
    get d m (setList d k l t) = get d m t := by
  induction l generalizing k t with
  | nil => rfl
  | cons v r ih =>
    rw [setList, ih, get_set_ne]
    · simp only [List.length_cons] at h; omega
    · simp only [List.length_cons] at h; omega

/-- A read among consecutive writes. -/
theorem get_setList [DecidableEq α] (d : α) (l : List α) (k i : Nat) (t : Table α) (h : i < l.length) :
    get d (k + i) (setList d k l t) = l[i] := by
  induction l generalizing k t i with
  | nil => simp at h
  | cons v r ih =>
    cases i with
    | zero => rw [setList, get_setList_ne _ _ _ _ _ (by omega)]; simp
    | succ i =>
      rw [setList, show k + (i + 1) = k + 1 + i by omega, ih]
      · simp
      · simpa using h

/-! The canonical form -/

theorem above_erase (a k : Nat) (t : Table α) (h : above a t = true) : above a (erase k t) = true := by
  induction t with
  | nil => rfl
  | cons p r ih =>
    obtain ⟨j, w⟩ := p
    simp only [above, List.all_cons, Bool.and_eq_true] at h
    unfold erase
    split
    · exact ih h.2
    · simp only [above, List.all_cons, Bool.and_eq_true]
      exact ⟨h.1, ih h.2⟩

theorem above_insert (a k : Nat) (v : α) (t : Table α) (hk : a < k) (h : above a t = true) : above a (insert k v t) = true := by
  induction t with
  | nil => simp [insert, above, hk]
  | cons p r ih =>
    obtain ⟨j, w⟩ := p
    have h' := h
    simp only [above, List.all_cons, Bool.and_eq_true] at h
    unfold insert
    split
    · simp only [above, List.all_cons, Bool.and_eq_true]
      exact ⟨by simpa using hk, by simpa [above] using h'⟩
    · split
      · simp only [above, List.all_cons, Bool.and_eq_true]
        exact ⟨by simpa using hk, h.2⟩
      · simp only [above, List.all_cons, Bool.and_eq_true]
        exact ⟨h.1, ih h.2⟩

theorem above_mono {a b : Nat} (hab : a < b) (t : Table α) (h : above b t = true) : above a t = true := by
  simp only [above, List.all_eq_true, decide_eq_true_eq] at *
  exact fun p hp => Nat.lt_trans hab (h p hp)

theorem wf_erase [DecidableEq α] (d : α) (k : Nat) (t : Table α) (h : wf d t = true) : wf d (erase k t) = true := by
  induction t with
  | nil => rfl
  | cons p r ih =>
    obtain ⟨j, w⟩ := p
    simp only [wf, Bool.and_eq_true] at h
    unfold erase
    split
    · exact ih h.2
    · simp only [wf, Bool.and_eq_true]
      exact ⟨⟨above_erase j k r h.1.1, h.1.2⟩, ih h.2⟩

theorem wf_insert [DecidableEq α] (d : α) (k : Nat) (v : α) (hv : v ≠ d) (t : Table α) (h : wf d t = true) :
    wf d (insert k v t) = true := by
  induction t with
  | nil => simp [insert, wf, above, hv]
  | cons p r ih =>
    obtain ⟨j, w⟩ := p
    have h' := h
    simp only [wf, Bool.and_eq_true] at h
    unfold insert
    split
    · rename_i hk
      have e : wf d ((k, v) :: (j, w) :: r) = (above k ((j, w) :: r) && !decide (v = d) && wf d ((j, w) :: r)) := rfl
      rw [e, h']
      have a : above k ((j, w) :: r) = true := by
        have := above_mono hk r h.1.1
        simp only [above, List.all_cons, Bool.and_eq_true, decide_eq_true_eq] at *
        exact ⟨hk, this⟩
      simp [a, hv]
    · split
      · rename_i hk
        subst hk
        simp only [wf, Bool.and_eq_true]
        exact ⟨⟨h.1.1, by simpa using hv⟩, h.2⟩
      · rename_i h1 h2
        simp only [wf, Bool.and_eq_true]
        exact ⟨⟨above_insert j k v r (by omega) h.1.1, h.1.2⟩, ih h.2⟩

/-- A write keeps the canonical form. -/
theorem wf_set [DecidableEq α] (d : α) (k : Nat) (v : α) (t : Table α) (h : wf d t = true) : wf d (set d k v t) = true := by
  unfold set
  split
  · exact wf_erase d k t h
  · rename_i hv
    exact wf_insert d k v hv t h

/-- Consecutive writes keep the canonical form. -/
theorem wf_setList [DecidableEq α] (d : α) (l : List α) (k : Nat) (t : Table α) (h : wf d t = true) : wf d (setList d k l t) = true := by
  induction l generalizing k t with
  | nil => exact h
  | cons v r ih => exact ih (k + 1) _ (wf_set d k v t h)

@[simp] theorem length_getList (d : α) (k n : Nat) (t : Table α) : (getList d k n t).length = n := by
  induction n generalizing k with
  | zero => rfl
  | succ n ih => simp [getList, ih]

end Sys2Proof.Machine.Table
end

