-- ==== Sys2Proof/Laws/Memory.lean ====
section
/-! SUPPORT. The memories of the Trowel cores and of Screed keep their canonical form, and what a read gives after a write. -/
namespace Sys2Proof.Machine

/-- The data RAM and the bit space of a core are in canonical form. -/
def Trowel.memWf (t : Trowel) : Prop := Table.wf 0 t.data = true ∧ Table.wf false t.bitSpace = true

theorem Trowel.putByte_memWf (t : Trowel) (a v : Nat) (h : t.memWf) : (t.putByte a v).memWf := ⟨Table.wf_set _ _ _ _ h.1, h.2⟩

theorem Trowel.putBytes_memWf (a : Nat) (b : Bytes) (t : Trowel) (h : t.memWf) : (t.putBytes a b).memWf := by
  induction b generalizing a t with
  | nil => exact h
  | cons x r ih => exact ih _ _ (t.putByte_memWf _ _ h)

theorem Trowel.store_memWf {a v : Nat} {t u : Trowel} (h : t.memWf) (e : t.store a v = .ok u) : u.memWf := by
  unfold Trowel.store at e
  split at e
  · cases e; exact t.putByte_memWf _ _ h
  · cases e

theorem Trowel.setBit_memWf {n : Nat} {b : Bool} {t u : Trowel} (h : t.memWf) (e : t.setBit n b = .ok u) : u.memWf := by
  unfold Trowel.setBit at e
  split at e
  · cases e; exact ⟨h.1, Table.wf_set _ _ _ _ h.2⟩
  · cases e

theorem Trowel.push_memWf {b : Nat} {t u : Trowel} (h : t.memWf) (e : t.push b = .ok u) : u.memWf := by
  unfold Trowel.push at e
  split at e
  · cases e; exact h
  · split at e
    · cases e
    · split at e
      · cases e
      · cases e; exact t.putByte_memWf _ _ h

theorem Trowel.pop_memWf {b : Nat} {t u : Trowel} (h : t.memWf) (e : t.pop = .ok (b, u)) : u.memWf := by
  unfold Trowel.pop at e
  split at e
  · cases e
  · split at e <;> (cases e; exact h)

/-- A byte read after a byte is stored. -/
theorem Trowel.byteAt_putByte (t : Trowel) (a v x : Nat) :
    (t.putByte a v).byteAt x = if x % 65536 = a % 65536 then v % 256 else t.byteAt x := by
  unfold Trowel.byteAt Trowel.putByte
  rw [Table.get_set]
  split <;> simp

/-- Data memory of Screed is in canonical form. -/
def State.dataWf (s : State) : Prop := Table.wf 0 s.screed.data = true

theorem State.setData_dataWf (lane w v : Nat) (s : State) (h : s.dataWf) : (s.setData lane w v).dataWf := Table.wf_set _ _ _ _ h

theorem State.dataWord_setData (lane w v : Nat) (s : State) : (s.setData lane w v).screed.data = Table.set 0 (dataKey lane w) (v % 2 ^ 32) s.screed.data :=
  (rfl)

/-- The DMA engine's write to data RAM keeps its form. -/
theorem State.dmaRam_memWf (a v : Nat) (s : State) (h : s.trowelH.memWf) :
    Trowel.memWf { s.trowelH with data := Table.setList 0 a (le 8 v) s.trowelH.data } := ⟨Table.wf_setList _ _ _ _ h.1, h.2⟩

theorem reset_memWf : State.reset.trowelH.memWf ∧ State.reset.trowelS.memWf ∧ State.reset.dataWf :=
  ⟨⟨rfl, rfl⟩, ⟨rfl, rfl⟩, rfl⟩

end Sys2Proof.Machine
end

