-- ==== Sys2Proof/Laws/State.lean ====
section
/-! SUPPORT. One lemma for each field of State under each named update: the fields an update does not touch are unchanged. -/
namespace Sys2Proof.Machine

@[simp] theorem State.modQueue_part (n : Nat) (f : Queue → Queue) (s : State) : (s.modQueue n f).part = s.part := (rfl)
@[simp] theorem State.modQueue_pending (n : Nat) (f : Queue → Queue) (s : State) : (s.modQueue n f).pending = s.pending := (rfl)
@[simp] theorem State.modQueue_freeTick (n : Nat) (f : Queue → Queue) (s : State) : (s.modQueue n f).freeTick = s.freeTick := (rfl)
@[simp] theorem State.modQueue_qt (n : Nat) (f : Queue → Queue) (s : State) : (s.modQueue n f).qt = s.qt := (rfl)
@[simp] theorem State.modQueue_up (n : Nat) (f : Queue → Queue) (s : State) : (s.modQueue n f).up = s.up := (rfl)
@[simp] theorem State.modQueue_port (n : Nat) (f : Queue → Queue) (s : State) : (s.modQueue n f).port = s.port := (rfl)
@[simp] theorem State.modQueue_sessions (n : Nat) (f : Queue → Queue) (s : State) : (s.modQueue n f).sessions = s.sessions := (rfl)
@[simp] theorem State.modQueue_authFails (n : Nat) (f : Queue → Queue) (s : State) : (s.modQueue n f).authFails = s.authFails := (rfl)
@[simp] theorem State.modQueue_lockout (n : Nat) (f : Queue → Queue) (s : State) : (s.modQueue n f).lockout = s.lockout := (rfl)
@[simp] theorem State.modQueue_slots (n : Nat) (f : Queue → Queue) (s : State) : (s.modQueue n f).slots = s.slots := (rfl)
@[simp] theorem State.modQueue_executing (n : Nat) (f : Queue → Queue) (s : State) : (s.modQueue n f).executing = s.executing := (rfl)
@[simp] theorem State.modQueue_events (n : Nat) (f : Queue → Queue) (s : State) : (s.modQueue n f).events = s.events := (rfl)
@[simp] theorem State.modQueue_counters (n : Nat) (f : Queue → Queue) (s : State) : (s.modQueue n f).counters = s.counters := (rfl)
@[simp] theorem State.modQueue_inForce (n : Nat) (f : Queue → Queue) (s : State) : (s.modQueue n f).inForce = s.inForce := (rfl)
@[simp] theorem State.modQueue_waiting (n : Nat) (f : Queue → Queue) (s : State) : (s.modQueue n f).waiting = s.waiting := (rfl)
@[simp] theorem State.modQueue_dma (n : Nat) (f : Queue → Queue) (s : State) : (s.modQueue n f).dma = s.dma := (rfl)
@[simp] theorem State.modQueue_gpio (n : Nat) (f : Queue → Queue) (s : State) : (s.modQueue n f).gpio = s.gpio := (rfl)
@[simp] theorem State.modQueue_steward (n : Nat) (f : Queue → Queue) (s : State) : (s.modQueue n f).steward = s.steward := (rfl)
@[simp] theorem State.modQueue_nv (n : Nat) (f : Queue → Queue) (s : State) : (s.modQueue n f).nv = s.nv := (rfl)
@[simp] theorem State.modQueue_power (n : Nat) (f : Queue → Queue) (s : State) : (s.modQueue n f).power = s.power := (rfl)
@[simp] theorem State.modQueue_rst (n : Nat) (f : Queue → Queue) (s : State) : (s.modQueue n f).rst = s.rst := (rfl)
@[simp] theorem State.modQueue_rtc (n : Nat) (f : Queue → Queue) (s : State) : (s.modQueue n f).rtc = s.rtc := (rfl)
@[simp] theorem State.modQueue_plumb (n : Nat) (f : Queue → Queue) (s : State) : (s.modQueue n f).plumb = s.plumb := (rfl)
@[simp] theorem State.modQueue_gnss (n : Nat) (f : Queue → Queue) (s : State) : (s.modQueue n f).gnss = s.gnss := (rfl)
@[simp] theorem State.modQueue_track (n : Nat) (f : Queue → Queue) (s : State) : (s.modQueue n f).track = s.track := (rfl)
@[simp] theorem State.modQueue_screed (n : Nat) (f : Queue → Queue) (s : State) : (s.modQueue n f).screed = s.screed := (rfl)
@[simp] theorem State.modQueue_audio (n : Nat) (f : Queue → Queue) (s : State) : (s.modQueue n f).audio = s.audio := (rfl)
@[simp] theorem State.modQueue_radio (n : Nat) (f : Queue → Queue) (s : State) : (s.modQueue n f).radio = s.radio := (rfl)
@[simp] theorem State.modQueue_modem (n : Nat) (f : Queue → Queue) (s : State) : (s.modQueue n f).modem = s.modem := (rfl)
@[simp] theorem State.modQueue_cell (n : Nat) (f : Queue → Queue) (s : State) : (s.modQueue n f).cell = s.cell := (rfl)
@[simp] theorem State.modQueue_clocks (n : Nat) (f : Queue → Queue) (s : State) : (s.modQueue n f).clocks = s.clocks := (rfl)
@[simp] theorem State.modQueue_uarts (n : Nat) (f : Queue → Queue) (s : State) : (s.modQueue n f).uarts = s.uarts := (rfl)
@[simp] theorem State.modQueue_trowelH (n : Nat) (f : Queue → Queue) (s : State) : (s.modQueue n f).trowelH = s.trowelH := (rfl)
@[simp] theorem State.modQueue_trowelS (n : Nat) (f : Queue → Queue) (s : State) : (s.modQueue n f).trowelS = s.trowelS := (rfl)
@[simp] theorem State.modQueue_applet (n : Nat) (f : Queue → Queue) (s : State) : (s.modQueue n f).applet = s.applet := (rfl)

@[simp] theorem State.modEvent_part (n : Nat) (f : EventSource → EventSource) (s : State) : (s.modEvent n f).part = s.part := (rfl)
@[simp] theorem State.modEvent_pending (n : Nat) (f : EventSource → EventSource) (s : State) : (s.modEvent n f).pending = s.pending := (rfl)
@[simp] theorem State.modEvent_freeTick (n : Nat) (f : EventSource → EventSource) (s : State) : (s.modEvent n f).freeTick = s.freeTick := (rfl)
@[simp] theorem State.modEvent_qt (n : Nat) (f : EventSource → EventSource) (s : State) : (s.modEvent n f).qt = s.qt := (rfl)
@[simp] theorem State.modEvent_up (n : Nat) (f : EventSource → EventSource) (s : State) : (s.modEvent n f).up = s.up := (rfl)
@[simp] theorem State.modEvent_port (n : Nat) (f : EventSource → EventSource) (s : State) : (s.modEvent n f).port = s.port := (rfl)
@[simp] theorem State.modEvent_sessions (n : Nat) (f : EventSource → EventSource) (s : State) : (s.modEvent n f).sessions = s.sessions := (rfl)
@[simp] theorem State.modEvent_authFails (n : Nat) (f : EventSource → EventSource) (s : State) : (s.modEvent n f).authFails = s.authFails := (rfl)
@[simp] theorem State.modEvent_lockout (n : Nat) (f : EventSource → EventSource) (s : State) : (s.modEvent n f).lockout = s.lockout := (rfl)
@[simp] theorem State.modEvent_slots (n : Nat) (f : EventSource → EventSource) (s : State) : (s.modEvent n f).slots = s.slots := (rfl)
@[simp] theorem State.modEvent_executing (n : Nat) (f : EventSource → EventSource) (s : State) : (s.modEvent n f).executing = s.executing := (rfl)
@[simp] theorem State.modEvent_queues (n : Nat) (f : EventSource → EventSource) (s : State) : (s.modEvent n f).queues = s.queues := (rfl)
@[simp] theorem State.modEvent_counters (n : Nat) (f : EventSource → EventSource) (s : State) : (s.modEvent n f).counters = s.counters := (rfl)
@[simp] theorem State.modEvent_inForce (n : Nat) (f : EventSource → EventSource) (s : State) : (s.modEvent n f).inForce = s.inForce := (rfl)
@[simp] theorem State.modEvent_waiting (n : Nat) (f : EventSource → EventSource) (s : State) : (s.modEvent n f).waiting = s.waiting := (rfl)
@[simp] theorem State.modEvent_dma (n : Nat) (f : EventSource → EventSource) (s : State) : (s.modEvent n f).dma = s.dma := (rfl)
@[simp] theorem State.modEvent_gpio (n : Nat) (f : EventSource → EventSource) (s : State) : (s.modEvent n f).gpio = s.gpio := (rfl)
@[simp] theorem State.modEvent_steward (n : Nat) (f : EventSource → EventSource) (s : State) : (s.modEvent n f).steward = s.steward := (rfl)
@[simp] theorem State.modEvent_nv (n : Nat) (f : EventSource → EventSource) (s : State) : (s.modEvent n f).nv = s.nv := (rfl)
@[simp] theorem State.modEvent_power (n : Nat) (f : EventSource → EventSource) (s : State) : (s.modEvent n f).power = s.power := (rfl)
@[simp] theorem State.modEvent_rst (n : Nat) (f : EventSource → EventSource) (s : State) : (s.modEvent n f).rst = s.rst := (rfl)
@[simp] theorem State.modEvent_rtc (n : Nat) (f : EventSource → EventSource) (s : State) : (s.modEvent n f).rtc = s.rtc := (rfl)
@[simp] theorem State.modEvent_plumb (n : Nat) (f : EventSource → EventSource) (s : State) : (s.modEvent n f).plumb = s.plumb := (rfl)
@[simp] theorem State.modEvent_gnss (n : Nat) (f : EventSource → EventSource) (s : State) : (s.modEvent n f).gnss = s.gnss := (rfl)
@[simp] theorem State.modEvent_track (n : Nat) (f : EventSource → EventSource) (s : State) : (s.modEvent n f).track = s.track := (rfl)
@[simp] theorem State.modEvent_screed (n : Nat) (f : EventSource → EventSource) (s : State) : (s.modEvent n f).screed = s.screed := (rfl)
@[simp] theorem State.modEvent_audio (n : Nat) (f : EventSource → EventSource) (s : State) : (s.modEvent n f).audio = s.audio := (rfl)
@[simp] theorem State.modEvent_radio (n : Nat) (f : EventSource → EventSource) (s : State) : (s.modEvent n f).radio = s.radio := (rfl)
@[simp] theorem State.modEvent_modem (n : Nat) (f : EventSource → EventSource) (s : State) : (s.modEvent n f).modem = s.modem := (rfl)
@[simp] theorem State.modEvent_cell (n : Nat) (f : EventSource → EventSource) (s : State) : (s.modEvent n f).cell = s.cell := (rfl)
@[simp] theorem State.modEvent_clocks (n : Nat) (f : EventSource → EventSource) (s : State) : (s.modEvent n f).clocks = s.clocks := (rfl)
@[simp] theorem State.modEvent_uarts (n : Nat) (f : EventSource → EventSource) (s : State) : (s.modEvent n f).uarts = s.uarts := (rfl)
@[simp] theorem State.modEvent_trowelH (n : Nat) (f : EventSource → EventSource) (s : State) : (s.modEvent n f).trowelH = s.trowelH := (rfl)
@[simp] theorem State.modEvent_trowelS (n : Nat) (f : EventSource → EventSource) (s : State) : (s.modEvent n f).trowelS = s.trowelS := (rfl)
@[simp] theorem State.modEvent_applet (n : Nat) (f : EventSource → EventSource) (s : State) : (s.modEvent n f).applet = s.applet := (rfl)

@[simp] theorem State.draw_part (s : State) : (s.draw).part = s.part := (rfl)
@[simp] theorem State.draw_pending (s : State) : (s.draw).pending = s.pending := (rfl)
@[simp] theorem State.draw_qt (s : State) : (s.draw).qt = s.qt := (rfl)
@[simp] theorem State.draw_up (s : State) : (s.draw).up = s.up := (rfl)
@[simp] theorem State.draw_port (s : State) : (s.draw).port = s.port := (rfl)
@[simp] theorem State.draw_sessions (s : State) : (s.draw).sessions = s.sessions := (rfl)
@[simp] theorem State.draw_authFails (s : State) : (s.draw).authFails = s.authFails := (rfl)
@[simp] theorem State.draw_lockout (s : State) : (s.draw).lockout = s.lockout := (rfl)
@[simp] theorem State.draw_slots (s : State) : (s.draw).slots = s.slots := (rfl)
@[simp] theorem State.draw_executing (s : State) : (s.draw).executing = s.executing := (rfl)
@[simp] theorem State.draw_queues (s : State) : (s.draw).queues = s.queues := (rfl)
@[simp] theorem State.draw_events (s : State) : (s.draw).events = s.events := (rfl)
@[simp] theorem State.draw_counters (s : State) : (s.draw).counters = s.counters := (rfl)
@[simp] theorem State.draw_inForce (s : State) : (s.draw).inForce = s.inForce := (rfl)
@[simp] theorem State.draw_waiting (s : State) : (s.draw).waiting = s.waiting := (rfl)
@[simp] theorem State.draw_dma (s : State) : (s.draw).dma = s.dma := (rfl)
@[simp] theorem State.draw_gpio (s : State) : (s.draw).gpio = s.gpio := (rfl)
@[simp] theorem State.draw_steward (s : State) : (s.draw).steward = s.steward := (rfl)
@[simp] theorem State.draw_nv (s : State) : (s.draw).nv = s.nv := (rfl)
@[simp] theorem State.draw_power (s : State) : (s.draw).power = s.power := (rfl)
@[simp] theorem State.draw_rst (s : State) : (s.draw).rst = s.rst := (rfl)
@[simp] theorem State.draw_rtc (s : State) : (s.draw).rtc = s.rtc := (rfl)
@[simp] theorem State.draw_plumb (s : State) : (s.draw).plumb = s.plumb := (rfl)
@[simp] theorem State.draw_gnss (s : State) : (s.draw).gnss = s.gnss := (rfl)
@[simp] theorem State.draw_track (s : State) : (s.draw).track = s.track := (rfl)
@[simp] theorem State.draw_screed (s : State) : (s.draw).screed = s.screed := (rfl)
@[simp] theorem State.draw_audio (s : State) : (s.draw).audio = s.audio := (rfl)
@[simp] theorem State.draw_radio (s : State) : (s.draw).radio = s.radio := (rfl)
@[simp] theorem State.draw_modem (s : State) : (s.draw).modem = s.modem := (rfl)
@[simp] theorem State.draw_cell (s : State) : (s.draw).cell = s.cell := (rfl)
@[simp] theorem State.draw_clocks (s : State) : (s.draw).clocks = s.clocks := (rfl)
@[simp] theorem State.draw_uarts (s : State) : (s.draw).uarts = s.uarts := (rfl)
@[simp] theorem State.draw_trowelH (s : State) : (s.draw).trowelH = s.trowelH := (rfl)
@[simp] theorem State.draw_trowelS (s : State) : (s.draw).trowelS = s.trowelS := (rfl)
@[simp] theorem State.draw_applet (s : State) : (s.draw).applet = s.applet := (rfl)

@[simp] theorem State.bumpBy_part (unit i n : Nat) (s : State) : (s.bumpBy unit i n).part = s.part := (rfl)
@[simp] theorem State.bumpBy_pending (unit i n : Nat) (s : State) : (s.bumpBy unit i n).pending = s.pending := (rfl)
@[simp] theorem State.bumpBy_freeTick (unit i n : Nat) (s : State) : (s.bumpBy unit i n).freeTick = s.freeTick := (rfl)
@[simp] theorem State.bumpBy_qt (unit i n : Nat) (s : State) : (s.bumpBy unit i n).qt = s.qt := (rfl)
@[simp] theorem State.bumpBy_up (unit i n : Nat) (s : State) : (s.bumpBy unit i n).up = s.up := (rfl)
@[simp] theorem State.bumpBy_port (unit i n : Nat) (s : State) : (s.bumpBy unit i n).port = s.port := (rfl)
@[simp] theorem State.bumpBy_sessions (unit i n : Nat) (s : State) : (s.bumpBy unit i n).sessions = s.sessions := (rfl)
@[simp] theorem State.bumpBy_authFails (unit i n : Nat) (s : State) : (s.bumpBy unit i n).authFails = s.authFails := (rfl)
@[simp] theorem State.bumpBy_lockout (unit i n : Nat) (s : State) : (s.bumpBy unit i n).lockout = s.lockout := (rfl)
@[simp] theorem State.bumpBy_slots (unit i n : Nat) (s : State) : (s.bumpBy unit i n).slots = s.slots := (rfl)
@[simp] theorem State.bumpBy_executing (unit i n : Nat) (s : State) : (s.bumpBy unit i n).executing = s.executing := (rfl)
@[simp] theorem State.bumpBy_queues (unit i n : Nat) (s : State) : (s.bumpBy unit i n).queues = s.queues := (rfl)
@[simp] theorem State.bumpBy_events (unit i n : Nat) (s : State) : (s.bumpBy unit i n).events = s.events := (rfl)
@[simp] theorem State.bumpBy_inForce (unit i n : Nat) (s : State) : (s.bumpBy unit i n).inForce = s.inForce := (rfl)
@[simp] theorem State.bumpBy_waiting (unit i n : Nat) (s : State) : (s.bumpBy unit i n).waiting = s.waiting := (rfl)
@[simp] theorem State.bumpBy_dma (unit i n : Nat) (s : State) : (s.bumpBy unit i n).dma = s.dma := (rfl)
@[simp] theorem State.bumpBy_gpio (unit i n : Nat) (s : State) : (s.bumpBy unit i n).gpio = s.gpio := (rfl)
@[simp] theorem State.bumpBy_steward (unit i n : Nat) (s : State) : (s.bumpBy unit i n).steward = s.steward := (rfl)
@[simp] theorem State.bumpBy_nv (unit i n : Nat) (s : State) : (s.bumpBy unit i n).nv = s.nv := (rfl)
@[simp] theorem State.bumpBy_power (unit i n : Nat) (s : State) : (s.bumpBy unit i n).power = s.power := (rfl)
@[simp] theorem State.bumpBy_rst (unit i n : Nat) (s : State) : (s.bumpBy unit i n).rst = s.rst := (rfl)
@[simp] theorem State.bumpBy_rtc (unit i n : Nat) (s : State) : (s.bumpBy unit i n).rtc = s.rtc := (rfl)
@[simp] theorem State.bumpBy_plumb (unit i n : Nat) (s : State) : (s.bumpBy unit i n).plumb = s.plumb := (rfl)
@[simp] theorem State.bumpBy_gnss (unit i n : Nat) (s : State) : (s.bumpBy unit i n).gnss = s.gnss := (rfl)
@[simp] theorem State.bumpBy_track (unit i n : Nat) (s : State) : (s.bumpBy unit i n).track = s.track := (rfl)
@[simp] theorem State.bumpBy_screed (unit i n : Nat) (s : State) : (s.bumpBy unit i n).screed = s.screed := (rfl)
@[simp] theorem State.bumpBy_audio (unit i n : Nat) (s : State) : (s.bumpBy unit i n).audio = s.audio := (rfl)
@[simp] theorem State.bumpBy_radio (unit i n : Nat) (s : State) : (s.bumpBy unit i n).radio = s.radio := (rfl)
@[simp] theorem State.bumpBy_modem (unit i n : Nat) (s : State) : (s.bumpBy unit i n).modem = s.modem := (rfl)
@[simp] theorem State.bumpBy_cell (unit i n : Nat) (s : State) : (s.bumpBy unit i n).cell = s.cell := (rfl)
@[simp] theorem State.bumpBy_clocks (unit i n : Nat) (s : State) : (s.bumpBy unit i n).clocks = s.clocks := (rfl)
@[simp] theorem State.bumpBy_uarts (unit i n : Nat) (s : State) : (s.bumpBy unit i n).uarts = s.uarts := (rfl)
@[simp] theorem State.bumpBy_trowelH (unit i n : Nat) (s : State) : (s.bumpBy unit i n).trowelH = s.trowelH := (rfl)
@[simp] theorem State.bumpBy_trowelS (unit i n : Nat) (s : State) : (s.bumpBy unit i n).trowelS = s.trowelS := (rfl)
@[simp] theorem State.bumpBy_applet (unit i n : Nat) (s : State) : (s.bumpBy unit i n).applet = s.applet := (rfl)

@[simp] theorem State.bump_part (unit i : Nat) (s : State) : (s.bump unit i).part = s.part := (rfl)
@[simp] theorem State.bump_pending (unit i : Nat) (s : State) : (s.bump unit i).pending = s.pending := (rfl)
@[simp] theorem State.bump_freeTick (unit i : Nat) (s : State) : (s.bump unit i).freeTick = s.freeTick := (rfl)
@[simp] theorem State.bump_qt (unit i : Nat) (s : State) : (s.bump unit i).qt = s.qt := (rfl)
@[simp] theorem State.bump_up (unit i : Nat) (s : State) : (s.bump unit i).up = s.up := (rfl)
@[simp] theorem State.bump_port (unit i : Nat) (s : State) : (s.bump unit i).port = s.port := (rfl)
@[simp] theorem State.bump_sessions (unit i : Nat) (s : State) : (s.bump unit i).sessions = s.sessions := (rfl)
@[simp] theorem State.bump_authFails (unit i : Nat) (s : State) : (s.bump unit i).authFails = s.authFails := (rfl)
@[simp] theorem State.bump_lockout (unit i : Nat) (s : State) : (s.bump unit i).lockout = s.lockout := (rfl)
@[simp] theorem State.bump_slots (unit i : Nat) (s : State) : (s.bump unit i).slots = s.slots := (rfl)
@[simp] theorem State.bump_executing (unit i : Nat) (s : State) : (s.bump unit i).executing = s.executing := (rfl)
@[simp] theorem State.bump_queues (unit i : Nat) (s : State) : (s.bump unit i).queues = s.queues := (rfl)
@[simp] theorem State.bump_events (unit i : Nat) (s : State) : (s.bump unit i).events = s.events := (rfl)
@[simp] theorem State.bump_inForce (unit i : Nat) (s : State) : (s.bump unit i).inForce = s.inForce := (rfl)
@[simp] theorem State.bump_waiting (unit i : Nat) (s : State) : (s.bump unit i).waiting = s.waiting := (rfl)
@[simp] theorem State.bump_dma (unit i : Nat) (s : State) : (s.bump unit i).dma = s.dma := (rfl)
@[simp] theorem State.bump_gpio (unit i : Nat) (s : State) : (s.bump unit i).gpio = s.gpio := (rfl)
@[simp] theorem State.bump_steward (unit i : Nat) (s : State) : (s.bump unit i).steward = s.steward := (rfl)
@[simp] theorem State.bump_nv (unit i : Nat) (s : State) : (s.bump unit i).nv = s.nv := (rfl)
@[simp] theorem State.bump_power (unit i : Nat) (s : State) : (s.bump unit i).power = s.power := (rfl)
@[simp] theorem State.bump_rst (unit i : Nat) (s : State) : (s.bump unit i).rst = s.rst := (rfl)
@[simp] theorem State.bump_rtc (unit i : Nat) (s : State) : (s.bump unit i).rtc = s.rtc := (rfl)
@[simp] theorem State.bump_plumb (unit i : Nat) (s : State) : (s.bump unit i).plumb = s.plumb := (rfl)
@[simp] theorem State.bump_gnss (unit i : Nat) (s : State) : (s.bump unit i).gnss = s.gnss := (rfl)
@[simp] theorem State.bump_track (unit i : Nat) (s : State) : (s.bump unit i).track = s.track := (rfl)
@[simp] theorem State.bump_screed (unit i : Nat) (s : State) : (s.bump unit i).screed = s.screed := (rfl)
@[simp] theorem State.bump_audio (unit i : Nat) (s : State) : (s.bump unit i).audio = s.audio := (rfl)
@[simp] theorem State.bump_radio (unit i : Nat) (s : State) : (s.bump unit i).radio = s.radio := (rfl)
@[simp] theorem State.bump_modem (unit i : Nat) (s : State) : (s.bump unit i).modem = s.modem := (rfl)
@[simp] theorem State.bump_cell (unit i : Nat) (s : State) : (s.bump unit i).cell = s.cell := (rfl)
@[simp] theorem State.bump_clocks (unit i : Nat) (s : State) : (s.bump unit i).clocks = s.clocks := (rfl)
@[simp] theorem State.bump_uarts (unit i : Nat) (s : State) : (s.bump unit i).uarts = s.uarts := (rfl)
@[simp] theorem State.bump_trowelH (unit i : Nat) (s : State) : (s.bump unit i).trowelH = s.trowelH := (rfl)
@[simp] theorem State.bump_trowelS (unit i : Nat) (s : State) : (s.bump unit i).trowelS = s.trowelS := (rfl)
@[simp] theorem State.bump_applet (unit i : Nat) (s : State) : (s.bump unit i).applet = s.applet := (rfl)

@[simp] theorem State.bump64_part (unit i n : Nat) (s : State) : (s.bump64 unit i n).part = s.part := (rfl)
@[simp] theorem State.bump64_pending (unit i n : Nat) (s : State) : (s.bump64 unit i n).pending = s.pending := (rfl)
@[simp] theorem State.bump64_freeTick (unit i n : Nat) (s : State) : (s.bump64 unit i n).freeTick = s.freeTick := (rfl)
@[simp] theorem State.bump64_qt (unit i n : Nat) (s : State) : (s.bump64 unit i n).qt = s.qt := (rfl)
@[simp] theorem State.bump64_up (unit i n : Nat) (s : State) : (s.bump64 unit i n).up = s.up := (rfl)
@[simp] theorem State.bump64_port (unit i n : Nat) (s : State) : (s.bump64 unit i n).port = s.port := (rfl)
@[simp] theorem State.bump64_sessions (unit i n : Nat) (s : State) : (s.bump64 unit i n).sessions = s.sessions := (rfl)
@[simp] theorem State.bump64_authFails (unit i n : Nat) (s : State) : (s.bump64 unit i n).authFails = s.authFails := (rfl)
@[simp] theorem State.bump64_lockout (unit i n : Nat) (s : State) : (s.bump64 unit i n).lockout = s.lockout := (rfl)
@[simp] theorem State.bump64_slots (unit i n : Nat) (s : State) : (s.bump64 unit i n).slots = s.slots := (rfl)
@[simp] theorem State.bump64_executing (unit i n : Nat) (s : State) : (s.bump64 unit i n).executing = s.executing := (rfl)
@[simp] theorem State.bump64_queues (unit i n : Nat) (s : State) : (s.bump64 unit i n).queues = s.queues := (rfl)
@[simp] theorem State.bump64_events (unit i n : Nat) (s : State) : (s.bump64 unit i n).events = s.events := (rfl)
@[simp] theorem State.bump64_inForce (unit i n : Nat) (s : State) : (s.bump64 unit i n).inForce = s.inForce := (rfl)
@[simp] theorem State.bump64_waiting (unit i n : Nat) (s : State) : (s.bump64 unit i n).waiting = s.waiting := (rfl)
@[simp] theorem State.bump64_dma (unit i n : Nat) (s : State) : (s.bump64 unit i n).dma = s.dma := (rfl)
@[simp] theorem State.bump64_gpio (unit i n : Nat) (s : State) : (s.bump64 unit i n).gpio = s.gpio := (rfl)
@[simp] theorem State.bump64_steward (unit i n : Nat) (s : State) : (s.bump64 unit i n).steward = s.steward := (rfl)
@[simp] theorem State.bump64_nv (unit i n : Nat) (s : State) : (s.bump64 unit i n).nv = s.nv := (rfl)
@[simp] theorem State.bump64_power (unit i n : Nat) (s : State) : (s.bump64 unit i n).power = s.power := (rfl)
@[simp] theorem State.bump64_rst (unit i n : Nat) (s : State) : (s.bump64 unit i n).rst = s.rst := (rfl)
@[simp] theorem State.bump64_rtc (unit i n : Nat) (s : State) : (s.bump64 unit i n).rtc = s.rtc := (rfl)
@[simp] theorem State.bump64_plumb (unit i n : Nat) (s : State) : (s.bump64 unit i n).plumb = s.plumb := (rfl)
@[simp] theorem State.bump64_gnss (unit i n : Nat) (s : State) : (s.bump64 unit i n).gnss = s.gnss := (rfl)
@[simp] theorem State.bump64_track (unit i n : Nat) (s : State) : (s.bump64 unit i n).track = s.track := (rfl)
@[simp] theorem State.bump64_screed (unit i n : Nat) (s : State) : (s.bump64 unit i n).screed = s.screed := (rfl)
@[simp] theorem State.bump64_audio (unit i n : Nat) (s : State) : (s.bump64 unit i n).audio = s.audio := (rfl)
@[simp] theorem State.bump64_radio (unit i n : Nat) (s : State) : (s.bump64 unit i n).radio = s.radio := (rfl)
@[simp] theorem State.bump64_modem (unit i n : Nat) (s : State) : (s.bump64 unit i n).modem = s.modem := (rfl)
@[simp] theorem State.bump64_cell (unit i n : Nat) (s : State) : (s.bump64 unit i n).cell = s.cell := (rfl)
@[simp] theorem State.bump64_clocks (unit i n : Nat) (s : State) : (s.bump64 unit i n).clocks = s.clocks := (rfl)
@[simp] theorem State.bump64_uarts (unit i n : Nat) (s : State) : (s.bump64 unit i n).uarts = s.uarts := (rfl)
@[simp] theorem State.bump64_trowelH (unit i n : Nat) (s : State) : (s.bump64 unit i n).trowelH = s.trowelH := (rfl)
@[simp] theorem State.bump64_trowelS (unit i n : Nat) (s : State) : (s.bump64 unit i n).trowelS = s.trowelS := (rfl)
@[simp] theorem State.bump64_applet (unit i n : Nat) (s : State) : (s.bump64 unit i n).applet = s.applet := (rfl)

@[simp] theorem State.setPortErr_part (s : State) : (s.setPortErr).part = s.part := (rfl)
@[simp] theorem State.setPortErr_pending (s : State) : (s.setPortErr).pending = s.pending := (rfl)
@[simp] theorem State.setPortErr_freeTick (s : State) : (s.setPortErr).freeTick = s.freeTick := (rfl)
@[simp] theorem State.setPortErr_qt (s : State) : (s.setPortErr).qt = s.qt := (rfl)
@[simp] theorem State.setPortErr_up (s : State) : (s.setPortErr).up = s.up := (rfl)
@[simp] theorem State.setPortErr_sessions (s : State) : (s.setPortErr).sessions = s.sessions := (rfl)
@[simp] theorem State.setPortErr_authFails (s : State) : (s.setPortErr).authFails = s.authFails := (rfl)
@[simp] theorem State.setPortErr_lockout (s : State) : (s.setPortErr).lockout = s.lockout := (rfl)
@[simp] theorem State.setPortErr_slots (s : State) : (s.setPortErr).slots = s.slots := (rfl)
@[simp] theorem State.setPortErr_executing (s : State) : (s.setPortErr).executing = s.executing := (rfl)
@[simp] theorem State.setPortErr_queues (s : State) : (s.setPortErr).queues = s.queues := (rfl)
@[simp] theorem State.setPortErr_events (s : State) : (s.setPortErr).events = s.events := (rfl)
@[simp] theorem State.setPortErr_counters (s : State) : (s.setPortErr).counters = s.counters := (rfl)
@[simp] theorem State.setPortErr_inForce (s : State) : (s.setPortErr).inForce = s.inForce := (rfl)
@[simp] theorem State.setPortErr_waiting (s : State) : (s.setPortErr).waiting = s.waiting := (rfl)
@[simp] theorem State.setPortErr_dma (s : State) : (s.setPortErr).dma = s.dma := (rfl)
@[simp] theorem State.setPortErr_gpio (s : State) : (s.setPortErr).gpio = s.gpio := (rfl)
@[simp] theorem State.setPortErr_steward (s : State) : (s.setPortErr).steward = s.steward := (rfl)
@[simp] theorem State.setPortErr_nv (s : State) : (s.setPortErr).nv = s.nv := (rfl)
@[simp] theorem State.setPortErr_power (s : State) : (s.setPortErr).power = s.power := (rfl)
@[simp] theorem State.setPortErr_rst (s : State) : (s.setPortErr).rst = s.rst := (rfl)
@[simp] theorem State.setPortErr_rtc (s : State) : (s.setPortErr).rtc = s.rtc := (rfl)
@[simp] theorem State.setPortErr_plumb (s : State) : (s.setPortErr).plumb = s.plumb := (rfl)
@[simp] theorem State.setPortErr_gnss (s : State) : (s.setPortErr).gnss = s.gnss := (rfl)
@[simp] theorem State.setPortErr_track (s : State) : (s.setPortErr).track = s.track := (rfl)
@[simp] theorem State.setPortErr_screed (s : State) : (s.setPortErr).screed = s.screed := (rfl)
@[simp] theorem State.setPortErr_audio (s : State) : (s.setPortErr).audio = s.audio := (rfl)
@[simp] theorem State.setPortErr_radio (s : State) : (s.setPortErr).radio = s.radio := (rfl)
@[simp] theorem State.setPortErr_modem (s : State) : (s.setPortErr).modem = s.modem := (rfl)
@[simp] theorem State.setPortErr_cell (s : State) : (s.setPortErr).cell = s.cell := (rfl)
@[simp] theorem State.setPortErr_clocks (s : State) : (s.setPortErr).clocks = s.clocks := (rfl)
@[simp] theorem State.setPortErr_uarts (s : State) : (s.setPortErr).uarts = s.uarts := (rfl)
@[simp] theorem State.setPortErr_trowelH (s : State) : (s.setPortErr).trowelH = s.trowelH := (rfl)
@[simp] theorem State.setPortErr_trowelS (s : State) : (s.setPortErr).trowelS = s.trowelS := (rfl)
@[simp] theorem State.setPortErr_applet (s : State) : (s.setPortErr).applet = s.applet := (rfl)

@[simp] theorem State.modSession_part (n : Nat) (f : Session → Session) (s : State) : (s.modSession n f).part = s.part := (rfl)
@[simp] theorem State.modSession_pending (n : Nat) (f : Session → Session) (s : State) : (s.modSession n f).pending = s.pending := (rfl)
@[simp] theorem State.modSession_freeTick (n : Nat) (f : Session → Session) (s : State) : (s.modSession n f).freeTick = s.freeTick := (rfl)
@[simp] theorem State.modSession_qt (n : Nat) (f : Session → Session) (s : State) : (s.modSession n f).qt = s.qt := (rfl)
@[simp] theorem State.modSession_up (n : Nat) (f : Session → Session) (s : State) : (s.modSession n f).up = s.up := (rfl)
@[simp] theorem State.modSession_port (n : Nat) (f : Session → Session) (s : State) : (s.modSession n f).port = s.port := (rfl)
@[simp] theorem State.modSession_authFails (n : Nat) (f : Session → Session) (s : State) : (s.modSession n f).authFails = s.authFails := (rfl)
@[simp] theorem State.modSession_lockout (n : Nat) (f : Session → Session) (s : State) : (s.modSession n f).lockout = s.lockout := (rfl)
@[simp] theorem State.modSession_slots (n : Nat) (f : Session → Session) (s : State) : (s.modSession n f).slots = s.slots := (rfl)
@[simp] theorem State.modSession_executing (n : Nat) (f : Session → Session) (s : State) : (s.modSession n f).executing = s.executing := (rfl)
@[simp] theorem State.modSession_queues (n : Nat) (f : Session → Session) (s : State) : (s.modSession n f).queues = s.queues := (rfl)
@[simp] theorem State.modSession_events (n : Nat) (f : Session → Session) (s : State) : (s.modSession n f).events = s.events := (rfl)
@[simp] theorem State.modSession_counters (n : Nat) (f : Session → Session) (s : State) : (s.modSession n f).counters = s.counters := (rfl)
@[simp] theorem State.modSession_inForce (n : Nat) (f : Session → Session) (s : State) : (s.modSession n f).inForce = s.inForce := (rfl)
@[simp] theorem State.modSession_waiting (n : Nat) (f : Session → Session) (s : State) : (s.modSession n f).waiting = s.waiting := (rfl)
@[simp] theorem State.modSession_dma (n : Nat) (f : Session → Session) (s : State) : (s.modSession n f).dma = s.dma := (rfl)
@[simp] theorem State.modSession_gpio (n : Nat) (f : Session → Session) (s : State) : (s.modSession n f).gpio = s.gpio := (rfl)
@[simp] theorem State.modSession_steward (n : Nat) (f : Session → Session) (s : State) : (s.modSession n f).steward = s.steward := (rfl)
@[simp] theorem State.modSession_nv (n : Nat) (f : Session → Session) (s : State) : (s.modSession n f).nv = s.nv := (rfl)
@[simp] theorem State.modSession_power (n : Nat) (f : Session → Session) (s : State) : (s.modSession n f).power = s.power := (rfl)
@[simp] theorem State.modSession_rst (n : Nat) (f : Session → Session) (s : State) : (s.modSession n f).rst = s.rst := (rfl)
@[simp] theorem State.modSession_rtc (n : Nat) (f : Session → Session) (s : State) : (s.modSession n f).rtc = s.rtc := (rfl)
@[simp] theorem State.modSession_plumb (n : Nat) (f : Session → Session) (s : State) : (s.modSession n f).plumb = s.plumb := (rfl)
@[simp] theorem State.modSession_gnss (n : Nat) (f : Session → Session) (s : State) : (s.modSession n f).gnss = s.gnss := (rfl)
@[simp] theorem State.modSession_track (n : Nat) (f : Session → Session) (s : State) : (s.modSession n f).track = s.track := (rfl)
@[simp] theorem State.modSession_screed (n : Nat) (f : Session → Session) (s : State) : (s.modSession n f).screed = s.screed := (rfl)
@[simp] theorem State.modSession_audio (n : Nat) (f : Session → Session) (s : State) : (s.modSession n f).audio = s.audio := (rfl)
@[simp] theorem State.modSession_radio (n : Nat) (f : Session → Session) (s : State) : (s.modSession n f).radio = s.radio := (rfl)
@[simp] theorem State.modSession_modem (n : Nat) (f : Session → Session) (s : State) : (s.modSession n f).modem = s.modem := (rfl)
@[simp] theorem State.modSession_cell (n : Nat) (f : Session → Session) (s : State) : (s.modSession n f).cell = s.cell := (rfl)
@[simp] theorem State.modSession_clocks (n : Nat) (f : Session → Session) (s : State) : (s.modSession n f).clocks = s.clocks := (rfl)
@[simp] theorem State.modSession_uarts (n : Nat) (f : Session → Session) (s : State) : (s.modSession n f).uarts = s.uarts := (rfl)
@[simp] theorem State.modSession_trowelH (n : Nat) (f : Session → Session) (s : State) : (s.modSession n f).trowelH = s.trowelH := (rfl)
@[simp] theorem State.modSession_trowelS (n : Nat) (f : Session → Session) (s : State) : (s.modSession n f).trowelS = s.trowelS := (rfl)
@[simp] theorem State.modSession_applet (n : Nat) (f : Session → Session) (s : State) : (s.modSession n f).applet = s.applet := (rfl)

@[simp] theorem State.modDma_part (n : Nat) (f : DmaChannel → DmaChannel) (s : State) : (s.modDma n f).part = s.part := (rfl)
@[simp] theorem State.modDma_pending (n : Nat) (f : DmaChannel → DmaChannel) (s : State) : (s.modDma n f).pending = s.pending := (rfl)
@[simp] theorem State.modDma_freeTick (n : Nat) (f : DmaChannel → DmaChannel) (s : State) : (s.modDma n f).freeTick = s.freeTick := (rfl)
@[simp] theorem State.modDma_qt (n : Nat) (f : DmaChannel → DmaChannel) (s : State) : (s.modDma n f).qt = s.qt := (rfl)
@[simp] theorem State.modDma_up (n : Nat) (f : DmaChannel → DmaChannel) (s : State) : (s.modDma n f).up = s.up := (rfl)
@[simp] theorem State.modDma_port (n : Nat) (f : DmaChannel → DmaChannel) (s : State) : (s.modDma n f).port = s.port := (rfl)
@[simp] theorem State.modDma_sessions (n : Nat) (f : DmaChannel → DmaChannel) (s : State) : (s.modDma n f).sessions = s.sessions := (rfl)
@[simp] theorem State.modDma_authFails (n : Nat) (f : DmaChannel → DmaChannel) (s : State) : (s.modDma n f).authFails = s.authFails := (rfl)
@[simp] theorem State.modDma_lockout (n : Nat) (f : DmaChannel → DmaChannel) (s : State) : (s.modDma n f).lockout = s.lockout := (rfl)
@[simp] theorem State.modDma_slots (n : Nat) (f : DmaChannel → DmaChannel) (s : State) : (s.modDma n f).slots = s.slots := (rfl)
@[simp] theorem State.modDma_executing (n : Nat) (f : DmaChannel → DmaChannel) (s : State) : (s.modDma n f).executing = s.executing := (rfl)
@[simp] theorem State.modDma_queues (n : Nat) (f : DmaChannel → DmaChannel) (s : State) : (s.modDma n f).queues = s.queues := (rfl)
@[simp] theorem State.modDma_events (n : Nat) (f : DmaChannel → DmaChannel) (s : State) : (s.modDma n f).events = s.events := (rfl)
@[simp] theorem State.modDma_counters (n : Nat) (f : DmaChannel → DmaChannel) (s : State) : (s.modDma n f).counters = s.counters := (rfl)
@[simp] theorem State.modDma_inForce (n : Nat) (f : DmaChannel → DmaChannel) (s : State) : (s.modDma n f).inForce = s.inForce := (rfl)
@[simp] theorem State.modDma_waiting (n : Nat) (f : DmaChannel → DmaChannel) (s : State) : (s.modDma n f).waiting = s.waiting := (rfl)
@[simp] theorem State.modDma_gpio (n : Nat) (f : DmaChannel → DmaChannel) (s : State) : (s.modDma n f).gpio = s.gpio := (rfl)
@[simp] theorem State.modDma_steward (n : Nat) (f : DmaChannel → DmaChannel) (s : State) : (s.modDma n f).steward = s.steward := (rfl)
@[simp] theorem State.modDma_nv (n : Nat) (f : DmaChannel → DmaChannel) (s : State) : (s.modDma n f).nv = s.nv := (rfl)
@[simp] theorem State.modDma_power (n : Nat) (f : DmaChannel → DmaChannel) (s : State) : (s.modDma n f).power = s.power := (rfl)
@[simp] theorem State.modDma_rst (n : Nat) (f : DmaChannel → DmaChannel) (s : State) : (s.modDma n f).rst = s.rst := (rfl)
@[simp] theorem State.modDma_rtc (n : Nat) (f : DmaChannel → DmaChannel) (s : State) : (s.modDma n f).rtc = s.rtc := (rfl)
@[simp] theorem State.modDma_plumb (n : Nat) (f : DmaChannel → DmaChannel) (s : State) : (s.modDma n f).plumb = s.plumb := (rfl)
@[simp] theorem State.modDma_gnss (n : Nat) (f : DmaChannel → DmaChannel) (s : State) : (s.modDma n f).gnss = s.gnss := (rfl)
@[simp] theorem State.modDma_track (n : Nat) (f : DmaChannel → DmaChannel) (s : State) : (s.modDma n f).track = s.track := (rfl)
@[simp] theorem State.modDma_screed (n : Nat) (f : DmaChannel → DmaChannel) (s : State) : (s.modDma n f).screed = s.screed := (rfl)
@[simp] theorem State.modDma_audio (n : Nat) (f : DmaChannel → DmaChannel) (s : State) : (s.modDma n f).audio = s.audio := (rfl)
@[simp] theorem State.modDma_radio (n : Nat) (f : DmaChannel → DmaChannel) (s : State) : (s.modDma n f).radio = s.radio := (rfl)
@[simp] theorem State.modDma_modem (n : Nat) (f : DmaChannel → DmaChannel) (s : State) : (s.modDma n f).modem = s.modem := (rfl)
@[simp] theorem State.modDma_cell (n : Nat) (f : DmaChannel → DmaChannel) (s : State) : (s.modDma n f).cell = s.cell := (rfl)
@[simp] theorem State.modDma_clocks (n : Nat) (f : DmaChannel → DmaChannel) (s : State) : (s.modDma n f).clocks = s.clocks := (rfl)
@[simp] theorem State.modDma_uarts (n : Nat) (f : DmaChannel → DmaChannel) (s : State) : (s.modDma n f).uarts = s.uarts := (rfl)
@[simp] theorem State.modDma_trowelH (n : Nat) (f : DmaChannel → DmaChannel) (s : State) : (s.modDma n f).trowelH = s.trowelH := (rfl)
@[simp] theorem State.modDma_trowelS (n : Nat) (f : DmaChannel → DmaChannel) (s : State) : (s.modDma n f).trowelS = s.trowelS := (rfl)
@[simp] theorem State.modDma_applet (n : Nat) (f : DmaChannel → DmaChannel) (s : State) : (s.modDma n f).applet = s.applet := (rfl)

@[simp] theorem State.modBand_part (l5 : Bool) (f : GnssBand → GnssBand) (s : State) : (s.modBand l5 f).part = s.part := by
  unfold State.modBand
  split <;> rfl
@[simp] theorem State.modBand_pending (l5 : Bool) (f : GnssBand → GnssBand) (s : State) : (s.modBand l5 f).pending = s.pending := by
  unfold State.modBand
  split <;> rfl
@[simp] theorem State.modBand_freeTick (l5 : Bool) (f : GnssBand → GnssBand) (s : State) : (s.modBand l5 f).freeTick = s.freeTick := by
  unfold State.modBand
  split <;> rfl
@[simp] theorem State.modBand_qt (l5 : Bool) (f : GnssBand → GnssBand) (s : State) : (s.modBand l5 f).qt = s.qt := by
  unfold State.modBand
  split <;> rfl
@[simp] theorem State.modBand_up (l5 : Bool) (f : GnssBand → GnssBand) (s : State) : (s.modBand l5 f).up = s.up := by
  unfold State.modBand
  split <;> rfl
@[simp] theorem State.modBand_port (l5 : Bool) (f : GnssBand → GnssBand) (s : State) : (s.modBand l5 f).port = s.port := by
  unfold State.modBand
  split <;> rfl
@[simp] theorem State.modBand_sessions (l5 : Bool) (f : GnssBand → GnssBand) (s : State) : (s.modBand l5 f).sessions = s.sessions := by
  unfold State.modBand
  split <;> rfl
@[simp] theorem State.modBand_authFails (l5 : Bool) (f : GnssBand → GnssBand) (s : State) : (s.modBand l5 f).authFails = s.authFails := by
  unfold State.modBand
  split <;> rfl
@[simp] theorem State.modBand_lockout (l5 : Bool) (f : GnssBand → GnssBand) (s : State) : (s.modBand l5 f).lockout = s.lockout := by
  unfold State.modBand
  split <;> rfl
@[simp] theorem State.modBand_slots (l5 : Bool) (f : GnssBand → GnssBand) (s : State) : (s.modBand l5 f).slots = s.slots := by
  unfold State.modBand
  split <;> rfl
@[simp] theorem State.modBand_executing (l5 : Bool) (f : GnssBand → GnssBand) (s : State) : (s.modBand l5 f).executing = s.executing := by
  unfold State.modBand
  split <;> rfl
@[simp] theorem State.modBand_queues (l5 : Bool) (f : GnssBand → GnssBand) (s : State) : (s.modBand l5 f).queues = s.queues := by
  unfold State.modBand
  split <;> rfl
@[simp] theorem State.modBand_events (l5 : Bool) (f : GnssBand → GnssBand) (s : State) : (s.modBand l5 f).events = s.events := by
  unfold State.modBand
  split <;> rfl
@[simp] theorem State.modBand_counters (l5 : Bool) (f : GnssBand → GnssBand) (s : State) : (s.modBand l5 f).counters = s.counters := by
  unfold State.modBand
  split <;> rfl
@[simp] theorem State.modBand_inForce (l5 : Bool) (f : GnssBand → GnssBand) (s : State) : (s.modBand l5 f).inForce = s.inForce := by
  unfold State.modBand
  split <;> rfl
@[simp] theorem State.modBand_waiting (l5 : Bool) (f : GnssBand → GnssBand) (s : State) : (s.modBand l5 f).waiting = s.waiting := by
  unfold State.modBand
  split <;> rfl
@[simp] theorem State.modBand_dma (l5 : Bool) (f : GnssBand → GnssBand) (s : State) : (s.modBand l5 f).dma = s.dma := by
  unfold State.modBand
  split <;> rfl
@[simp] theorem State.modBand_gpio (l5 : Bool) (f : GnssBand → GnssBand) (s : State) : (s.modBand l5 f).gpio = s.gpio := by
  unfold State.modBand
  split <;> rfl
@[simp] theorem State.modBand_steward (l5 : Bool) (f : GnssBand → GnssBand) (s : State) : (s.modBand l5 f).steward = s.steward := by
  unfold State.modBand
  split <;> rfl
@[simp] theorem State.modBand_nv (l5 : Bool) (f : GnssBand → GnssBand) (s : State) : (s.modBand l5 f).nv = s.nv := by
  unfold State.modBand
  split <;> rfl
@[simp] theorem State.modBand_power (l5 : Bool) (f : GnssBand → GnssBand) (s : State) : (s.modBand l5 f).power = s.power := by
  unfold State.modBand
  split <;> rfl
@[simp] theorem State.modBand_rst (l5 : Bool) (f : GnssBand → GnssBand) (s : State) : (s.modBand l5 f).rst = s.rst := by
  unfold State.modBand
  split <;> rfl
@[simp] theorem State.modBand_rtc (l5 : Bool) (f : GnssBand → GnssBand) (s : State) : (s.modBand l5 f).rtc = s.rtc := by
  unfold State.modBand
  split <;> rfl
@[simp] theorem State.modBand_plumb (l5 : Bool) (f : GnssBand → GnssBand) (s : State) : (s.modBand l5 f).plumb = s.plumb := by
  unfold State.modBand
  split <;> rfl
@[simp] theorem State.modBand_track (l5 : Bool) (f : GnssBand → GnssBand) (s : State) : (s.modBand l5 f).track = s.track := by
  unfold State.modBand
  split <;> rfl
@[simp] theorem State.modBand_screed (l5 : Bool) (f : GnssBand → GnssBand) (s : State) : (s.modBand l5 f).screed = s.screed := by
  unfold State.modBand
  split <;> rfl
@[simp] theorem State.modBand_audio (l5 : Bool) (f : GnssBand → GnssBand) (s : State) : (s.modBand l5 f).audio = s.audio := by
  unfold State.modBand
  split <;> rfl
@[simp] theorem State.modBand_radio (l5 : Bool) (f : GnssBand → GnssBand) (s : State) : (s.modBand l5 f).radio = s.radio := by
  unfold State.modBand
  split <;> rfl
@[simp] theorem State.modBand_modem (l5 : Bool) (f : GnssBand → GnssBand) (s : State) : (s.modBand l5 f).modem = s.modem := by
  unfold State.modBand
  split <;> rfl
@[simp] theorem State.modBand_cell (l5 : Bool) (f : GnssBand → GnssBand) (s : State) : (s.modBand l5 f).cell = s.cell := by
  unfold State.modBand
  split <;> rfl
@[simp] theorem State.modBand_clocks (l5 : Bool) (f : GnssBand → GnssBand) (s : State) : (s.modBand l5 f).clocks = s.clocks := by
  unfold State.modBand
  split <;> rfl
@[simp] theorem State.modBand_uarts (l5 : Bool) (f : GnssBand → GnssBand) (s : State) : (s.modBand l5 f).uarts = s.uarts := by
  unfold State.modBand
  split <;> rfl
@[simp] theorem State.modBand_trowelH (l5 : Bool) (f : GnssBand → GnssBand) (s : State) : (s.modBand l5 f).trowelH = s.trowelH := by
  unfold State.modBand
  split <;> rfl
@[simp] theorem State.modBand_trowelS (l5 : Bool) (f : GnssBand → GnssBand) (s : State) : (s.modBand l5 f).trowelS = s.trowelS := by
  unfold State.modBand
  split <;> rfl
@[simp] theorem State.modBand_applet (l5 : Bool) (f : GnssBand → GnssBand) (s : State) : (s.modBand l5 f).applet = s.applet := by
  unfold State.modBand
  split <;> rfl

@[simp] theorem State.modChan_part (n : Nat) (f : Chan → Chan) (s : State) : (s.modChan n f).part = s.part := (rfl)
@[simp] theorem State.modChan_pending (n : Nat) (f : Chan → Chan) (s : State) : (s.modChan n f).pending = s.pending := (rfl)
@[simp] theorem State.modChan_freeTick (n : Nat) (f : Chan → Chan) (s : State) : (s.modChan n f).freeTick = s.freeTick := (rfl)
@[simp] theorem State.modChan_qt (n : Nat) (f : Chan → Chan) (s : State) : (s.modChan n f).qt = s.qt := (rfl)
@[simp] theorem State.modChan_up (n : Nat) (f : Chan → Chan) (s : State) : (s.modChan n f).up = s.up := (rfl)
@[simp] theorem State.modChan_port (n : Nat) (f : Chan → Chan) (s : State) : (s.modChan n f).port = s.port := (rfl)
@[simp] theorem State.modChan_sessions (n : Nat) (f : Chan → Chan) (s : State) : (s.modChan n f).sessions = s.sessions := (rfl)
@[simp] theorem State.modChan_authFails (n : Nat) (f : Chan → Chan) (s : State) : (s.modChan n f).authFails = s.authFails := (rfl)
@[simp] theorem State.modChan_lockout (n : Nat) (f : Chan → Chan) (s : State) : (s.modChan n f).lockout = s.lockout := (rfl)
@[simp] theorem State.modChan_slots (n : Nat) (f : Chan → Chan) (s : State) : (s.modChan n f).slots = s.slots := (rfl)
@[simp] theorem State.modChan_executing (n : Nat) (f : Chan → Chan) (s : State) : (s.modChan n f).executing = s.executing := (rfl)
@[simp] theorem State.modChan_queues (n : Nat) (f : Chan → Chan) (s : State) : (s.modChan n f).queues = s.queues := (rfl)
@[simp] theorem State.modChan_events (n : Nat) (f : Chan → Chan) (s : State) : (s.modChan n f).events = s.events := (rfl)
@[simp] theorem State.modChan_counters (n : Nat) (f : Chan → Chan) (s : State) : (s.modChan n f).counters = s.counters := (rfl)
@[simp] theorem State.modChan_inForce (n : Nat) (f : Chan → Chan) (s : State) : (s.modChan n f).inForce = s.inForce := (rfl)
@[simp] theorem State.modChan_waiting (n : Nat) (f : Chan → Chan) (s : State) : (s.modChan n f).waiting = s.waiting := (rfl)
@[simp] theorem State.modChan_dma (n : Nat) (f : Chan → Chan) (s : State) : (s.modChan n f).dma = s.dma := (rfl)
@[simp] theorem State.modChan_gpio (n : Nat) (f : Chan → Chan) (s : State) : (s.modChan n f).gpio = s.gpio := (rfl)
@[simp] theorem State.modChan_steward (n : Nat) (f : Chan → Chan) (s : State) : (s.modChan n f).steward = s.steward := (rfl)
@[simp] theorem State.modChan_nv (n : Nat) (f : Chan → Chan) (s : State) : (s.modChan n f).nv = s.nv := (rfl)
@[simp] theorem State.modChan_power (n : Nat) (f : Chan → Chan) (s : State) : (s.modChan n f).power = s.power := (rfl)
@[simp] theorem State.modChan_rst (n : Nat) (f : Chan → Chan) (s : State) : (s.modChan n f).rst = s.rst := (rfl)
@[simp] theorem State.modChan_rtc (n : Nat) (f : Chan → Chan) (s : State) : (s.modChan n f).rtc = s.rtc := (rfl)
@[simp] theorem State.modChan_plumb (n : Nat) (f : Chan → Chan) (s : State) : (s.modChan n f).plumb = s.plumb := (rfl)
@[simp] theorem State.modChan_gnss (n : Nat) (f : Chan → Chan) (s : State) : (s.modChan n f).gnss = s.gnss := (rfl)
@[simp] theorem State.modChan_screed (n : Nat) (f : Chan → Chan) (s : State) : (s.modChan n f).screed = s.screed := (rfl)
@[simp] theorem State.modChan_audio (n : Nat) (f : Chan → Chan) (s : State) : (s.modChan n f).audio = s.audio := (rfl)
@[simp] theorem State.modChan_radio (n : Nat) (f : Chan → Chan) (s : State) : (s.modChan n f).radio = s.radio := (rfl)
@[simp] theorem State.modChan_modem (n : Nat) (f : Chan → Chan) (s : State) : (s.modChan n f).modem = s.modem := (rfl)
@[simp] theorem State.modChan_cell (n : Nat) (f : Chan → Chan) (s : State) : (s.modChan n f).cell = s.cell := (rfl)
@[simp] theorem State.modChan_clocks (n : Nat) (f : Chan → Chan) (s : State) : (s.modChan n f).clocks = s.clocks := (rfl)
@[simp] theorem State.modChan_uarts (n : Nat) (f : Chan → Chan) (s : State) : (s.modChan n f).uarts = s.uarts := (rfl)
@[simp] theorem State.modChan_trowelH (n : Nat) (f : Chan → Chan) (s : State) : (s.modChan n f).trowelH = s.trowelH := (rfl)
@[simp] theorem State.modChan_trowelS (n : Nat) (f : Chan → Chan) (s : State) : (s.modChan n f).trowelS = s.trowelS := (rfl)
@[simp] theorem State.modChan_applet (n : Nat) (f : Chan → Chan) (s : State) : (s.modChan n f).applet = s.applet := (rfl)

@[simp] theorem State.modSctx_part (who : Nat) (f : ScreedCtx → ScreedCtx) (s : State) : (s.modSctx who f).part = s.part := by
  unfold State.modSctx
  split <;> rfl
@[simp] theorem State.modSctx_pending (who : Nat) (f : ScreedCtx → ScreedCtx) (s : State) : (s.modSctx who f).pending = s.pending := by
  unfold State.modSctx
  split <;> rfl
@[simp] theorem State.modSctx_freeTick (who : Nat) (f : ScreedCtx → ScreedCtx) (s : State) : (s.modSctx who f).freeTick = s.freeTick := by
  unfold State.modSctx
  split <;> rfl
@[simp] theorem State.modSctx_qt (who : Nat) (f : ScreedCtx → ScreedCtx) (s : State) : (s.modSctx who f).qt = s.qt := by
  unfold State.modSctx
  split <;> rfl
@[simp] theorem State.modSctx_up (who : Nat) (f : ScreedCtx → ScreedCtx) (s : State) : (s.modSctx who f).up = s.up := by
  unfold State.modSctx
  split <;> rfl
@[simp] theorem State.modSctx_port (who : Nat) (f : ScreedCtx → ScreedCtx) (s : State) : (s.modSctx who f).port = s.port := by
  unfold State.modSctx
  split <;> rfl
@[simp] theorem State.modSctx_sessions (who : Nat) (f : ScreedCtx → ScreedCtx) (s : State) : (s.modSctx who f).sessions = s.sessions := by
  unfold State.modSctx
  split <;> rfl
@[simp] theorem State.modSctx_authFails (who : Nat) (f : ScreedCtx → ScreedCtx) (s : State) : (s.modSctx who f).authFails = s.authFails := by
  unfold State.modSctx
  split <;> rfl
@[simp] theorem State.modSctx_lockout (who : Nat) (f : ScreedCtx → ScreedCtx) (s : State) : (s.modSctx who f).lockout = s.lockout := by
  unfold State.modSctx
  split <;> rfl
@[simp] theorem State.modSctx_slots (who : Nat) (f : ScreedCtx → ScreedCtx) (s : State) : (s.modSctx who f).slots = s.slots := by
  unfold State.modSctx
  split <;> rfl
@[simp] theorem State.modSctx_executing (who : Nat) (f : ScreedCtx → ScreedCtx) (s : State) : (s.modSctx who f).executing = s.executing := by
  unfold State.modSctx
  split <;> rfl
@[simp] theorem State.modSctx_queues (who : Nat) (f : ScreedCtx → ScreedCtx) (s : State) : (s.modSctx who f).queues = s.queues := by
  unfold State.modSctx
  split <;> rfl
@[simp] theorem State.modSctx_events (who : Nat) (f : ScreedCtx → ScreedCtx) (s : State) : (s.modSctx who f).events = s.events := by
  unfold State.modSctx
  split <;> rfl
@[simp] theorem State.modSctx_counters (who : Nat) (f : ScreedCtx → ScreedCtx) (s : State) : (s.modSctx who f).counters = s.counters := by
  unfold State.modSctx
  split <;> rfl
@[simp] theorem State.modSctx_inForce (who : Nat) (f : ScreedCtx → ScreedCtx) (s : State) : (s.modSctx who f).inForce = s.inForce := by
  unfold State.modSctx
  split <;> rfl
@[simp] theorem State.modSctx_waiting (who : Nat) (f : ScreedCtx → ScreedCtx) (s : State) : (s.modSctx who f).waiting = s.waiting := by
  unfold State.modSctx
  split <;> rfl
@[simp] theorem State.modSctx_dma (who : Nat) (f : ScreedCtx → ScreedCtx) (s : State) : (s.modSctx who f).dma = s.dma := by
  unfold State.modSctx
  split <;> rfl
@[simp] theorem State.modSctx_gpio (who : Nat) (f : ScreedCtx → ScreedCtx) (s : State) : (s.modSctx who f).gpio = s.gpio := by
  unfold State.modSctx
  split <;> rfl
@[simp] theorem State.modSctx_steward (who : Nat) (f : ScreedCtx → ScreedCtx) (s : State) : (s.modSctx who f).steward = s.steward := by
  unfold State.modSctx
  split <;> rfl
@[simp] theorem State.modSctx_nv (who : Nat) (f : ScreedCtx → ScreedCtx) (s : State) : (s.modSctx who f).nv = s.nv := by
  unfold State.modSctx
  split <;> rfl
@[simp] theorem State.modSctx_power (who : Nat) (f : ScreedCtx → ScreedCtx) (s : State) : (s.modSctx who f).power = s.power := by
  unfold State.modSctx
  split <;> rfl
@[simp] theorem State.modSctx_rst (who : Nat) (f : ScreedCtx → ScreedCtx) (s : State) : (s.modSctx who f).rst = s.rst := by
  unfold State.modSctx
  split <;> rfl
@[simp] theorem State.modSctx_rtc (who : Nat) (f : ScreedCtx → ScreedCtx) (s : State) : (s.modSctx who f).rtc = s.rtc := by
  unfold State.modSctx
  split <;> rfl
@[simp] theorem State.modSctx_plumb (who : Nat) (f : ScreedCtx → ScreedCtx) (s : State) : (s.modSctx who f).plumb = s.plumb := by
  unfold State.modSctx
  split <;> rfl
@[simp] theorem State.modSctx_gnss (who : Nat) (f : ScreedCtx → ScreedCtx) (s : State) : (s.modSctx who f).gnss = s.gnss := by
  unfold State.modSctx
  split <;> rfl
@[simp] theorem State.modSctx_track (who : Nat) (f : ScreedCtx → ScreedCtx) (s : State) : (s.modSctx who f).track = s.track := by
  unfold State.modSctx
  split <;> rfl
@[simp] theorem State.modSctx_audio (who : Nat) (f : ScreedCtx → ScreedCtx) (s : State) : (s.modSctx who f).audio = s.audio := by
  unfold State.modSctx
  split <;> rfl
@[simp] theorem State.modSctx_radio (who : Nat) (f : ScreedCtx → ScreedCtx) (s : State) : (s.modSctx who f).radio = s.radio := by
  unfold State.modSctx
  split <;> rfl
@[simp] theorem State.modSctx_modem (who : Nat) (f : ScreedCtx → ScreedCtx) (s : State) : (s.modSctx who f).modem = s.modem := by
  unfold State.modSctx
  split <;> rfl
@[simp] theorem State.modSctx_cell (who : Nat) (f : ScreedCtx → ScreedCtx) (s : State) : (s.modSctx who f).cell = s.cell := by
  unfold State.modSctx
  split <;> rfl
@[simp] theorem State.modSctx_clocks (who : Nat) (f : ScreedCtx → ScreedCtx) (s : State) : (s.modSctx who f).clocks = s.clocks := by
  unfold State.modSctx
  split <;> rfl
@[simp] theorem State.modSctx_uarts (who : Nat) (f : ScreedCtx → ScreedCtx) (s : State) : (s.modSctx who f).uarts = s.uarts := by
  unfold State.modSctx
  split <;> rfl
@[simp] theorem State.modSctx_trowelH (who : Nat) (f : ScreedCtx → ScreedCtx) (s : State) : (s.modSctx who f).trowelH = s.trowelH := by
  unfold State.modSctx
  split <;> rfl
@[simp] theorem State.modSctx_trowelS (who : Nat) (f : ScreedCtx → ScreedCtx) (s : State) : (s.modSctx who f).trowelS = s.trowelS := by
  unfold State.modSctx
  split <;> rfl
@[simp] theorem State.modSctx_applet (who : Nat) (f : ScreedCtx → ScreedCtx) (s : State) : (s.modSctx who f).applet = s.applet := by
  unfold State.modSctx
  split <;> rfl

@[simp] theorem State.setData_part (lane w v : Nat) (s : State) : (s.setData lane w v).part = s.part := (rfl)
@[simp] theorem State.setData_pending (lane w v : Nat) (s : State) : (s.setData lane w v).pending = s.pending := (rfl)
@[simp] theorem State.setData_freeTick (lane w v : Nat) (s : State) : (s.setData lane w v).freeTick = s.freeTick := (rfl)
@[simp] theorem State.setData_qt (lane w v : Nat) (s : State) : (s.setData lane w v).qt = s.qt := (rfl)
@[simp] theorem State.setData_up (lane w v : Nat) (s : State) : (s.setData lane w v).up = s.up := (rfl)
@[simp] theorem State.setData_port (lane w v : Nat) (s : State) : (s.setData lane w v).port = s.port := (rfl)
@[simp] theorem State.setData_sessions (lane w v : Nat) (s : State) : (s.setData lane w v).sessions = s.sessions := (rfl)
@[simp] theorem State.setData_authFails (lane w v : Nat) (s : State) : (s.setData lane w v).authFails = s.authFails := (rfl)
@[simp] theorem State.setData_lockout (lane w v : Nat) (s : State) : (s.setData lane w v).lockout = s.lockout := (rfl)
@[simp] theorem State.setData_slots (lane w v : Nat) (s : State) : (s.setData lane w v).slots = s.slots := (rfl)
@[simp] theorem State.setData_executing (lane w v : Nat) (s : State) : (s.setData lane w v).executing = s.executing := (rfl)
@[simp] theorem State.setData_queues (lane w v : Nat) (s : State) : (s.setData lane w v).queues = s.queues := (rfl)
@[simp] theorem State.setData_events (lane w v : Nat) (s : State) : (s.setData lane w v).events = s.events := (rfl)
@[simp] theorem State.setData_counters (lane w v : Nat) (s : State) : (s.setData lane w v).counters = s.counters := (rfl)
@[simp] theorem State.setData_inForce (lane w v : Nat) (s : State) : (s.setData lane w v).inForce = s.inForce := (rfl)
@[simp] theorem State.setData_waiting (lane w v : Nat) (s : State) : (s.setData lane w v).waiting = s.waiting := (rfl)
@[simp] theorem State.setData_dma (lane w v : Nat) (s : State) : (s.setData lane w v).dma = s.dma := (rfl)
@[simp] theorem State.setData_gpio (lane w v : Nat) (s : State) : (s.setData lane w v).gpio = s.gpio := (rfl)
@[simp] theorem State.setData_steward (lane w v : Nat) (s : State) : (s.setData lane w v).steward = s.steward := (rfl)
@[simp] theorem State.setData_nv (lane w v : Nat) (s : State) : (s.setData lane w v).nv = s.nv := (rfl)
@[simp] theorem State.setData_power (lane w v : Nat) (s : State) : (s.setData lane w v).power = s.power := (rfl)
@[simp] theorem State.setData_rst (lane w v : Nat) (s : State) : (s.setData lane w v).rst = s.rst := (rfl)
@[simp] theorem State.setData_rtc (lane w v : Nat) (s : State) : (s.setData lane w v).rtc = s.rtc := (rfl)
@[simp] theorem State.setData_plumb (lane w v : Nat) (s : State) : (s.setData lane w v).plumb = s.plumb := (rfl)
@[simp] theorem State.setData_gnss (lane w v : Nat) (s : State) : (s.setData lane w v).gnss = s.gnss := (rfl)
@[simp] theorem State.setData_track (lane w v : Nat) (s : State) : (s.setData lane w v).track = s.track := (rfl)
@[simp] theorem State.setData_audio (lane w v : Nat) (s : State) : (s.setData lane w v).audio = s.audio := (rfl)
@[simp] theorem State.setData_radio (lane w v : Nat) (s : State) : (s.setData lane w v).radio = s.radio := (rfl)
@[simp] theorem State.setData_modem (lane w v : Nat) (s : State) : (s.setData lane w v).modem = s.modem := (rfl)
@[simp] theorem State.setData_cell (lane w v : Nat) (s : State) : (s.setData lane w v).cell = s.cell := (rfl)
@[simp] theorem State.setData_clocks (lane w v : Nat) (s : State) : (s.setData lane w v).clocks = s.clocks := (rfl)
@[simp] theorem State.setData_uarts (lane w v : Nat) (s : State) : (s.setData lane w v).uarts = s.uarts := (rfl)
@[simp] theorem State.setData_trowelH (lane w v : Nat) (s : State) : (s.setData lane w v).trowelH = s.trowelH := (rfl)
@[simp] theorem State.setData_trowelS (lane w v : Nat) (s : State) : (s.setData lane w v).trowelS = s.trowelS := (rfl)
@[simp] theorem State.setData_applet (lane w v : Nat) (s : State) : (s.setData lane w v).applet = s.applet := (rfl)

@[simp] theorem State.modGlide_part (n : Nat) (f : Glide → Glide) (s : State) : (s.modGlide n f).part = s.part := (rfl)
@[simp] theorem State.modGlide_pending (n : Nat) (f : Glide → Glide) (s : State) : (s.modGlide n f).pending = s.pending := (rfl)
@[simp] theorem State.modGlide_freeTick (n : Nat) (f : Glide → Glide) (s : State) : (s.modGlide n f).freeTick = s.freeTick := (rfl)
@[simp] theorem State.modGlide_qt (n : Nat) (f : Glide → Glide) (s : State) : (s.modGlide n f).qt = s.qt := (rfl)
@[simp] theorem State.modGlide_up (n : Nat) (f : Glide → Glide) (s : State) : (s.modGlide n f).up = s.up := (rfl)
@[simp] theorem State.modGlide_port (n : Nat) (f : Glide → Glide) (s : State) : (s.modGlide n f).port = s.port := (rfl)
@[simp] theorem State.modGlide_sessions (n : Nat) (f : Glide → Glide) (s : State) : (s.modGlide n f).sessions = s.sessions := (rfl)
@[simp] theorem State.modGlide_authFails (n : Nat) (f : Glide → Glide) (s : State) : (s.modGlide n f).authFails = s.authFails := (rfl)
@[simp] theorem State.modGlide_lockout (n : Nat) (f : Glide → Glide) (s : State) : (s.modGlide n f).lockout = s.lockout := (rfl)
@[simp] theorem State.modGlide_slots (n : Nat) (f : Glide → Glide) (s : State) : (s.modGlide n f).slots = s.slots := (rfl)
@[simp] theorem State.modGlide_executing (n : Nat) (f : Glide → Glide) (s : State) : (s.modGlide n f).executing = s.executing := (rfl)
@[simp] theorem State.modGlide_queues (n : Nat) (f : Glide → Glide) (s : State) : (s.modGlide n f).queues = s.queues := (rfl)
@[simp] theorem State.modGlide_events (n : Nat) (f : Glide → Glide) (s : State) : (s.modGlide n f).events = s.events := (rfl)
@[simp] theorem State.modGlide_counters (n : Nat) (f : Glide → Glide) (s : State) : (s.modGlide n f).counters = s.counters := (rfl)
@[simp] theorem State.modGlide_inForce (n : Nat) (f : Glide → Glide) (s : State) : (s.modGlide n f).inForce = s.inForce := (rfl)
@[simp] theorem State.modGlide_waiting (n : Nat) (f : Glide → Glide) (s : State) : (s.modGlide n f).waiting = s.waiting := (rfl)
@[simp] theorem State.modGlide_dma (n : Nat) (f : Glide → Glide) (s : State) : (s.modGlide n f).dma = s.dma := (rfl)
@[simp] theorem State.modGlide_gpio (n : Nat) (f : Glide → Glide) (s : State) : (s.modGlide n f).gpio = s.gpio := (rfl)
@[simp] theorem State.modGlide_steward (n : Nat) (f : Glide → Glide) (s : State) : (s.modGlide n f).steward = s.steward := (rfl)
@[simp] theorem State.modGlide_nv (n : Nat) (f : Glide → Glide) (s : State) : (s.modGlide n f).nv = s.nv := (rfl)
@[simp] theorem State.modGlide_power (n : Nat) (f : Glide → Glide) (s : State) : (s.modGlide n f).power = s.power := (rfl)
@[simp] theorem State.modGlide_rst (n : Nat) (f : Glide → Glide) (s : State) : (s.modGlide n f).rst = s.rst := (rfl)
@[simp] theorem State.modGlide_rtc (n : Nat) (f : Glide → Glide) (s : State) : (s.modGlide n f).rtc = s.rtc := (rfl)
@[simp] theorem State.modGlide_plumb (n : Nat) (f : Glide → Glide) (s : State) : (s.modGlide n f).plumb = s.plumb := (rfl)
@[simp] theorem State.modGlide_gnss (n : Nat) (f : Glide → Glide) (s : State) : (s.modGlide n f).gnss = s.gnss := (rfl)
@[simp] theorem State.modGlide_track (n : Nat) (f : Glide → Glide) (s : State) : (s.modGlide n f).track = s.track := (rfl)
@[simp] theorem State.modGlide_audio (n : Nat) (f : Glide → Glide) (s : State) : (s.modGlide n f).audio = s.audio := (rfl)
@[simp] theorem State.modGlide_radio (n : Nat) (f : Glide → Glide) (s : State) : (s.modGlide n f).radio = s.radio := (rfl)
@[simp] theorem State.modGlide_modem (n : Nat) (f : Glide → Glide) (s : State) : (s.modGlide n f).modem = s.modem := (rfl)
@[simp] theorem State.modGlide_cell (n : Nat) (f : Glide → Glide) (s : State) : (s.modGlide n f).cell = s.cell := (rfl)
@[simp] theorem State.modGlide_clocks (n : Nat) (f : Glide → Glide) (s : State) : (s.modGlide n f).clocks = s.clocks := (rfl)
@[simp] theorem State.modGlide_uarts (n : Nat) (f : Glide → Glide) (s : State) : (s.modGlide n f).uarts = s.uarts := (rfl)
@[simp] theorem State.modGlide_trowelH (n : Nat) (f : Glide → Glide) (s : State) : (s.modGlide n f).trowelH = s.trowelH := (rfl)
@[simp] theorem State.modGlide_trowelS (n : Nat) (f : Glide → Glide) (s : State) : (s.modGlide n f).trowelS = s.trowelS := (rfl)
@[simp] theorem State.modGlide_applet (n : Nat) (f : Glide → Glide) (s : State) : (s.modGlide n f).applet = s.applet := (rfl)

@[simp] theorem State.modAes_part (n : Nat) (f : AesPort → AesPort) (s : State) : (s.modAes n f).part = s.part := (rfl)
@[simp] theorem State.modAes_pending (n : Nat) (f : AesPort → AesPort) (s : State) : (s.modAes n f).pending = s.pending := (rfl)
@[simp] theorem State.modAes_freeTick (n : Nat) (f : AesPort → AesPort) (s : State) : (s.modAes n f).freeTick = s.freeTick := (rfl)
@[simp] theorem State.modAes_qt (n : Nat) (f : AesPort → AesPort) (s : State) : (s.modAes n f).qt = s.qt := (rfl)
@[simp] theorem State.modAes_up (n : Nat) (f : AesPort → AesPort) (s : State) : (s.modAes n f).up = s.up := (rfl)
@[simp] theorem State.modAes_port (n : Nat) (f : AesPort → AesPort) (s : State) : (s.modAes n f).port = s.port := (rfl)
@[simp] theorem State.modAes_sessions (n : Nat) (f : AesPort → AesPort) (s : State) : (s.modAes n f).sessions = s.sessions := (rfl)
@[simp] theorem State.modAes_authFails (n : Nat) (f : AesPort → AesPort) (s : State) : (s.modAes n f).authFails = s.authFails := (rfl)
@[simp] theorem State.modAes_lockout (n : Nat) (f : AesPort → AesPort) (s : State) : (s.modAes n f).lockout = s.lockout := (rfl)
@[simp] theorem State.modAes_slots (n : Nat) (f : AesPort → AesPort) (s : State) : (s.modAes n f).slots = s.slots := (rfl)
@[simp] theorem State.modAes_executing (n : Nat) (f : AesPort → AesPort) (s : State) : (s.modAes n f).executing = s.executing := (rfl)
@[simp] theorem State.modAes_queues (n : Nat) (f : AesPort → AesPort) (s : State) : (s.modAes n f).queues = s.queues := (rfl)
@[simp] theorem State.modAes_events (n : Nat) (f : AesPort → AesPort) (s : State) : (s.modAes n f).events = s.events := (rfl)
@[simp] theorem State.modAes_counters (n : Nat) (f : AesPort → AesPort) (s : State) : (s.modAes n f).counters = s.counters := (rfl)
@[simp] theorem State.modAes_inForce (n : Nat) (f : AesPort → AesPort) (s : State) : (s.modAes n f).inForce = s.inForce := (rfl)
@[simp] theorem State.modAes_waiting (n : Nat) (f : AesPort → AesPort) (s : State) : (s.modAes n f).waiting = s.waiting := (rfl)
@[simp] theorem State.modAes_dma (n : Nat) (f : AesPort → AesPort) (s : State) : (s.modAes n f).dma = s.dma := (rfl)
@[simp] theorem State.modAes_gpio (n : Nat) (f : AesPort → AesPort) (s : State) : (s.modAes n f).gpio = s.gpio := (rfl)
@[simp] theorem State.modAes_steward (n : Nat) (f : AesPort → AesPort) (s : State) : (s.modAes n f).steward = s.steward := (rfl)
@[simp] theorem State.modAes_nv (n : Nat) (f : AesPort → AesPort) (s : State) : (s.modAes n f).nv = s.nv := (rfl)
@[simp] theorem State.modAes_power (n : Nat) (f : AesPort → AesPort) (s : State) : (s.modAes n f).power = s.power := (rfl)
@[simp] theorem State.modAes_rst (n : Nat) (f : AesPort → AesPort) (s : State) : (s.modAes n f).rst = s.rst := (rfl)
@[simp] theorem State.modAes_rtc (n : Nat) (f : AesPort → AesPort) (s : State) : (s.modAes n f).rtc = s.rtc := (rfl)
@[simp] theorem State.modAes_plumb (n : Nat) (f : AesPort → AesPort) (s : State) : (s.modAes n f).plumb = s.plumb := (rfl)
@[simp] theorem State.modAes_gnss (n : Nat) (f : AesPort → AesPort) (s : State) : (s.modAes n f).gnss = s.gnss := (rfl)
@[simp] theorem State.modAes_track (n : Nat) (f : AesPort → AesPort) (s : State) : (s.modAes n f).track = s.track := (rfl)
@[simp] theorem State.modAes_screed (n : Nat) (f : AesPort → AesPort) (s : State) : (s.modAes n f).screed = s.screed := (rfl)
@[simp] theorem State.modAes_radio (n : Nat) (f : AesPort → AesPort) (s : State) : (s.modAes n f).radio = s.radio := (rfl)
@[simp] theorem State.modAes_modem (n : Nat) (f : AesPort → AesPort) (s : State) : (s.modAes n f).modem = s.modem := (rfl)
@[simp] theorem State.modAes_cell (n : Nat) (f : AesPort → AesPort) (s : State) : (s.modAes n f).cell = s.cell := (rfl)
@[simp] theorem State.modAes_clocks (n : Nat) (f : AesPort → AesPort) (s : State) : (s.modAes n f).clocks = s.clocks := (rfl)
@[simp] theorem State.modAes_uarts (n : Nat) (f : AesPort → AesPort) (s : State) : (s.modAes n f).uarts = s.uarts := (rfl)
@[simp] theorem State.modAes_trowelH (n : Nat) (f : AesPort → AesPort) (s : State) : (s.modAes n f).trowelH = s.trowelH := (rfl)
@[simp] theorem State.modAes_trowelS (n : Nat) (f : AesPort → AesPort) (s : State) : (s.modAes n f).trowelS = s.trowelS := (rfl)
@[simp] theorem State.modAes_applet (n : Nat) (f : AesPort → AesPort) (s : State) : (s.modAes n f).applet = s.applet := (rfl)

@[simp] theorem State.modTdm_part (n : Nat) (f : TdmPort → TdmPort) (s : State) : (s.modTdm n f).part = s.part := (rfl)
@[simp] theorem State.modTdm_pending (n : Nat) (f : TdmPort → TdmPort) (s : State) : (s.modTdm n f).pending = s.pending := (rfl)
@[simp] theorem State.modTdm_freeTick (n : Nat) (f : TdmPort → TdmPort) (s : State) : (s.modTdm n f).freeTick = s.freeTick := (rfl)
@[simp] theorem State.modTdm_qt (n : Nat) (f : TdmPort → TdmPort) (s : State) : (s.modTdm n f).qt = s.qt := (rfl)
@[simp] theorem State.modTdm_up (n : Nat) (f : TdmPort → TdmPort) (s : State) : (s.modTdm n f).up = s.up := (rfl)
@[simp] theorem State.modTdm_port (n : Nat) (f : TdmPort → TdmPort) (s : State) : (s.modTdm n f).port = s.port := (rfl)
@[simp] theorem State.modTdm_sessions (n : Nat) (f : TdmPort → TdmPort) (s : State) : (s.modTdm n f).sessions = s.sessions := (rfl)
@[simp] theorem State.modTdm_authFails (n : Nat) (f : TdmPort → TdmPort) (s : State) : (s.modTdm n f).authFails = s.authFails := (rfl)
@[simp] theorem State.modTdm_lockout (n : Nat) (f : TdmPort → TdmPort) (s : State) : (s.modTdm n f).lockout = s.lockout := (rfl)
@[simp] theorem State.modTdm_slots (n : Nat) (f : TdmPort → TdmPort) (s : State) : (s.modTdm n f).slots = s.slots := (rfl)
@[simp] theorem State.modTdm_executing (n : Nat) (f : TdmPort → TdmPort) (s : State) : (s.modTdm n f).executing = s.executing := (rfl)
@[simp] theorem State.modTdm_queues (n : Nat) (f : TdmPort → TdmPort) (s : State) : (s.modTdm n f).queues = s.queues := (rfl)
@[simp] theorem State.modTdm_events (n : Nat) (f : TdmPort → TdmPort) (s : State) : (s.modTdm n f).events = s.events := (rfl)
@[simp] theorem State.modTdm_counters (n : Nat) (f : TdmPort → TdmPort) (s : State) : (s.modTdm n f).counters = s.counters := (rfl)
@[simp] theorem State.modTdm_inForce (n : Nat) (f : TdmPort → TdmPort) (s : State) : (s.modTdm n f).inForce = s.inForce := (rfl)
@[simp] theorem State.modTdm_waiting (n : Nat) (f : TdmPort → TdmPort) (s : State) : (s.modTdm n f).waiting = s.waiting := (rfl)
@[simp] theorem State.modTdm_dma (n : Nat) (f : TdmPort → TdmPort) (s : State) : (s.modTdm n f).dma = s.dma := (rfl)
@[simp] theorem State.modTdm_gpio (n : Nat) (f : TdmPort → TdmPort) (s : State) : (s.modTdm n f).gpio = s.gpio := (rfl)
@[simp] theorem State.modTdm_steward (n : Nat) (f : TdmPort → TdmPort) (s : State) : (s.modTdm n f).steward = s.steward := (rfl)
@[simp] theorem State.modTdm_nv (n : Nat) (f : TdmPort → TdmPort) (s : State) : (s.modTdm n f).nv = s.nv := (rfl)
@[simp] theorem State.modTdm_power (n : Nat) (f : TdmPort → TdmPort) (s : State) : (s.modTdm n f).power = s.power := (rfl)
@[simp] theorem State.modTdm_rst (n : Nat) (f : TdmPort → TdmPort) (s : State) : (s.modTdm n f).rst = s.rst := (rfl)
@[simp] theorem State.modTdm_rtc (n : Nat) (f : TdmPort → TdmPort) (s : State) : (s.modTdm n f).rtc = s.rtc := (rfl)
@[simp] theorem State.modTdm_plumb (n : Nat) (f : TdmPort → TdmPort) (s : State) : (s.modTdm n f).plumb = s.plumb := (rfl)
@[simp] theorem State.modTdm_gnss (n : Nat) (f : TdmPort → TdmPort) (s : State) : (s.modTdm n f).gnss = s.gnss := (rfl)
@[simp] theorem State.modTdm_track (n : Nat) (f : TdmPort → TdmPort) (s : State) : (s.modTdm n f).track = s.track := (rfl)
@[simp] theorem State.modTdm_screed (n : Nat) (f : TdmPort → TdmPort) (s : State) : (s.modTdm n f).screed = s.screed := (rfl)
@[simp] theorem State.modTdm_radio (n : Nat) (f : TdmPort → TdmPort) (s : State) : (s.modTdm n f).radio = s.radio := (rfl)
@[simp] theorem State.modTdm_modem (n : Nat) (f : TdmPort → TdmPort) (s : State) : (s.modTdm n f).modem = s.modem := (rfl)
@[simp] theorem State.modTdm_cell (n : Nat) (f : TdmPort → TdmPort) (s : State) : (s.modTdm n f).cell = s.cell := (rfl)
@[simp] theorem State.modTdm_clocks (n : Nat) (f : TdmPort → TdmPort) (s : State) : (s.modTdm n f).clocks = s.clocks := (rfl)
@[simp] theorem State.modTdm_uarts (n : Nat) (f : TdmPort → TdmPort) (s : State) : (s.modTdm n f).uarts = s.uarts := (rfl)
@[simp] theorem State.modTdm_trowelH (n : Nat) (f : TdmPort → TdmPort) (s : State) : (s.modTdm n f).trowelH = s.trowelH := (rfl)
@[simp] theorem State.modTdm_trowelS (n : Nat) (f : TdmPort → TdmPort) (s : State) : (s.modTdm n f).trowelS = s.trowelS := (rfl)
@[simp] theorem State.modTdm_applet (n : Nat) (f : TdmPort → TdmPort) (s : State) : (s.modTdm n f).applet = s.applet := (rfl)

@[simp] theorem State.modSubBand_part (n : Nat) (f : SubBand → SubBand) (s : State) : (s.modSubBand n f).part = s.part := (rfl)
@[simp] theorem State.modSubBand_pending (n : Nat) (f : SubBand → SubBand) (s : State) : (s.modSubBand n f).pending = s.pending := (rfl)
@[simp] theorem State.modSubBand_freeTick (n : Nat) (f : SubBand → SubBand) (s : State) : (s.modSubBand n f).freeTick = s.freeTick := (rfl)
@[simp] theorem State.modSubBand_qt (n : Nat) (f : SubBand → SubBand) (s : State) : (s.modSubBand n f).qt = s.qt := (rfl)
@[simp] theorem State.modSubBand_up (n : Nat) (f : SubBand → SubBand) (s : State) : (s.modSubBand n f).up = s.up := (rfl)
@[simp] theorem State.modSubBand_port (n : Nat) (f : SubBand → SubBand) (s : State) : (s.modSubBand n f).port = s.port := (rfl)
@[simp] theorem State.modSubBand_sessions (n : Nat) (f : SubBand → SubBand) (s : State) : (s.modSubBand n f).sessions = s.sessions := (rfl)
@[simp] theorem State.modSubBand_authFails (n : Nat) (f : SubBand → SubBand) (s : State) : (s.modSubBand n f).authFails = s.authFails := (rfl)
@[simp] theorem State.modSubBand_lockout (n : Nat) (f : SubBand → SubBand) (s : State) : (s.modSubBand n f).lockout = s.lockout := (rfl)
@[simp] theorem State.modSubBand_slots (n : Nat) (f : SubBand → SubBand) (s : State) : (s.modSubBand n f).slots = s.slots := (rfl)
@[simp] theorem State.modSubBand_executing (n : Nat) (f : SubBand → SubBand) (s : State) : (s.modSubBand n f).executing = s.executing := (rfl)
@[simp] theorem State.modSubBand_queues (n : Nat) (f : SubBand → SubBand) (s : State) : (s.modSubBand n f).queues = s.queues := (rfl)
@[simp] theorem State.modSubBand_events (n : Nat) (f : SubBand → SubBand) (s : State) : (s.modSubBand n f).events = s.events := (rfl)
@[simp] theorem State.modSubBand_counters (n : Nat) (f : SubBand → SubBand) (s : State) : (s.modSubBand n f).counters = s.counters := (rfl)
@[simp] theorem State.modSubBand_inForce (n : Nat) (f : SubBand → SubBand) (s : State) : (s.modSubBand n f).inForce = s.inForce := (rfl)
@[simp] theorem State.modSubBand_waiting (n : Nat) (f : SubBand → SubBand) (s : State) : (s.modSubBand n f).waiting = s.waiting := (rfl)
@[simp] theorem State.modSubBand_dma (n : Nat) (f : SubBand → SubBand) (s : State) : (s.modSubBand n f).dma = s.dma := (rfl)
@[simp] theorem State.modSubBand_gpio (n : Nat) (f : SubBand → SubBand) (s : State) : (s.modSubBand n f).gpio = s.gpio := (rfl)
@[simp] theorem State.modSubBand_steward (n : Nat) (f : SubBand → SubBand) (s : State) : (s.modSubBand n f).steward = s.steward := (rfl)
@[simp] theorem State.modSubBand_nv (n : Nat) (f : SubBand → SubBand) (s : State) : (s.modSubBand n f).nv = s.nv := (rfl)
@[simp] theorem State.modSubBand_power (n : Nat) (f : SubBand → SubBand) (s : State) : (s.modSubBand n f).power = s.power := (rfl)
@[simp] theorem State.modSubBand_rst (n : Nat) (f : SubBand → SubBand) (s : State) : (s.modSubBand n f).rst = s.rst := (rfl)
@[simp] theorem State.modSubBand_rtc (n : Nat) (f : SubBand → SubBand) (s : State) : (s.modSubBand n f).rtc = s.rtc := (rfl)
@[simp] theorem State.modSubBand_plumb (n : Nat) (f : SubBand → SubBand) (s : State) : (s.modSubBand n f).plumb = s.plumb := (rfl)
@[simp] theorem State.modSubBand_gnss (n : Nat) (f : SubBand → SubBand) (s : State) : (s.modSubBand n f).gnss = s.gnss := (rfl)
@[simp] theorem State.modSubBand_track (n : Nat) (f : SubBand → SubBand) (s : State) : (s.modSubBand n f).track = s.track := (rfl)
@[simp] theorem State.modSubBand_screed (n : Nat) (f : SubBand → SubBand) (s : State) : (s.modSubBand n f).screed = s.screed := (rfl)
@[simp] theorem State.modSubBand_audio (n : Nat) (f : SubBand → SubBand) (s : State) : (s.modSubBand n f).audio = s.audio := (rfl)
@[simp] theorem State.modSubBand_modem (n : Nat) (f : SubBand → SubBand) (s : State) : (s.modSubBand n f).modem = s.modem := (rfl)
@[simp] theorem State.modSubBand_cell (n : Nat) (f : SubBand → SubBand) (s : State) : (s.modSubBand n f).cell = s.cell := (rfl)
@[simp] theorem State.modSubBand_clocks (n : Nat) (f : SubBand → SubBand) (s : State) : (s.modSubBand n f).clocks = s.clocks := (rfl)
@[simp] theorem State.modSubBand_uarts (n : Nat) (f : SubBand → SubBand) (s : State) : (s.modSubBand n f).uarts = s.uarts := (rfl)
@[simp] theorem State.modSubBand_trowelH (n : Nat) (f : SubBand → SubBand) (s : State) : (s.modSubBand n f).trowelH = s.trowelH := (rfl)
@[simp] theorem State.modSubBand_trowelS (n : Nat) (f : SubBand → SubBand) (s : State) : (s.modSubBand n f).trowelS = s.trowelS := (rfl)
@[simp] theorem State.modSubBand_applet (n : Nat) (f : SubBand → SubBand) (s : State) : (s.modSubBand n f).applet = s.applet := (rfl)

@[simp] theorem State.modMember_part (n : Nat) (f : Member → Member) (s : State) : (s.modMember n f).part = s.part := (rfl)
@[simp] theorem State.modMember_pending (n : Nat) (f : Member → Member) (s : State) : (s.modMember n f).pending = s.pending := (rfl)
@[simp] theorem State.modMember_freeTick (n : Nat) (f : Member → Member) (s : State) : (s.modMember n f).freeTick = s.freeTick := (rfl)
@[simp] theorem State.modMember_qt (n : Nat) (f : Member → Member) (s : State) : (s.modMember n f).qt = s.qt := (rfl)
@[simp] theorem State.modMember_up (n : Nat) (f : Member → Member) (s : State) : (s.modMember n f).up = s.up := (rfl)
@[simp] theorem State.modMember_port (n : Nat) (f : Member → Member) (s : State) : (s.modMember n f).port = s.port := (rfl)
@[simp] theorem State.modMember_sessions (n : Nat) (f : Member → Member) (s : State) : (s.modMember n f).sessions = s.sessions := (rfl)
@[simp] theorem State.modMember_authFails (n : Nat) (f : Member → Member) (s : State) : (s.modMember n f).authFails = s.authFails := (rfl)
@[simp] theorem State.modMember_lockout (n : Nat) (f : Member → Member) (s : State) : (s.modMember n f).lockout = s.lockout := (rfl)
@[simp] theorem State.modMember_slots (n : Nat) (f : Member → Member) (s : State) : (s.modMember n f).slots = s.slots := (rfl)
@[simp] theorem State.modMember_executing (n : Nat) (f : Member → Member) (s : State) : (s.modMember n f).executing = s.executing := (rfl)
@[simp] theorem State.modMember_queues (n : Nat) (f : Member → Member) (s : State) : (s.modMember n f).queues = s.queues := (rfl)
@[simp] theorem State.modMember_events (n : Nat) (f : Member → Member) (s : State) : (s.modMember n f).events = s.events := (rfl)
@[simp] theorem State.modMember_counters (n : Nat) (f : Member → Member) (s : State) : (s.modMember n f).counters = s.counters := (rfl)
@[simp] theorem State.modMember_inForce (n : Nat) (f : Member → Member) (s : State) : (s.modMember n f).inForce = s.inForce := (rfl)
@[simp] theorem State.modMember_waiting (n : Nat) (f : Member → Member) (s : State) : (s.modMember n f).waiting = s.waiting := (rfl)
@[simp] theorem State.modMember_dma (n : Nat) (f : Member → Member) (s : State) : (s.modMember n f).dma = s.dma := (rfl)
@[simp] theorem State.modMember_gpio (n : Nat) (f : Member → Member) (s : State) : (s.modMember n f).gpio = s.gpio := (rfl)
@[simp] theorem State.modMember_steward (n : Nat) (f : Member → Member) (s : State) : (s.modMember n f).steward = s.steward := (rfl)
@[simp] theorem State.modMember_nv (n : Nat) (f : Member → Member) (s : State) : (s.modMember n f).nv = s.nv := (rfl)
@[simp] theorem State.modMember_power (n : Nat) (f : Member → Member) (s : State) : (s.modMember n f).power = s.power := (rfl)
@[simp] theorem State.modMember_rst (n : Nat) (f : Member → Member) (s : State) : (s.modMember n f).rst = s.rst := (rfl)
@[simp] theorem State.modMember_rtc (n : Nat) (f : Member → Member) (s : State) : (s.modMember n f).rtc = s.rtc := (rfl)
@[simp] theorem State.modMember_plumb (n : Nat) (f : Member → Member) (s : State) : (s.modMember n f).plumb = s.plumb := (rfl)
@[simp] theorem State.modMember_gnss (n : Nat) (f : Member → Member) (s : State) : (s.modMember n f).gnss = s.gnss := (rfl)
@[simp] theorem State.modMember_track (n : Nat) (f : Member → Member) (s : State) : (s.modMember n f).track = s.track := (rfl)
@[simp] theorem State.modMember_screed (n : Nat) (f : Member → Member) (s : State) : (s.modMember n f).screed = s.screed := (rfl)
@[simp] theorem State.modMember_audio (n : Nat) (f : Member → Member) (s : State) : (s.modMember n f).audio = s.audio := (rfl)
@[simp] theorem State.modMember_radio (n : Nat) (f : Member → Member) (s : State) : (s.modMember n f).radio = s.radio := (rfl)
@[simp] theorem State.modMember_modem (n : Nat) (f : Member → Member) (s : State) : (s.modMember n f).modem = s.modem := (rfl)
@[simp] theorem State.modMember_clocks (n : Nat) (f : Member → Member) (s : State) : (s.modMember n f).clocks = s.clocks := (rfl)
@[simp] theorem State.modMember_uarts (n : Nat) (f : Member → Member) (s : State) : (s.modMember n f).uarts = s.uarts := (rfl)
@[simp] theorem State.modMember_trowelH (n : Nat) (f : Member → Member) (s : State) : (s.modMember n f).trowelH = s.trowelH := (rfl)
@[simp] theorem State.modMember_trowelS (n : Nat) (f : Member → Member) (s : State) : (s.modMember n f).trowelS = s.trowelS := (rfl)
@[simp] theorem State.modMember_applet (n : Nat) (f : Member → Member) (s : State) : (s.modMember n f).applet = s.applet := (rfl)

@[simp] theorem State.modUart_part (n : Nat) (f : Uart → Uart) (s : State) : (s.modUart n f).part = s.part := (rfl)
@[simp] theorem State.modUart_pending (n : Nat) (f : Uart → Uart) (s : State) : (s.modUart n f).pending = s.pending := (rfl)
@[simp] theorem State.modUart_freeTick (n : Nat) (f : Uart → Uart) (s : State) : (s.modUart n f).freeTick = s.freeTick := (rfl)
@[simp] theorem State.modUart_qt (n : Nat) (f : Uart → Uart) (s : State) : (s.modUart n f).qt = s.qt := (rfl)
@[simp] theorem State.modUart_up (n : Nat) (f : Uart → Uart) (s : State) : (s.modUart n f).up = s.up := (rfl)
@[simp] theorem State.modUart_port (n : Nat) (f : Uart → Uart) (s : State) : (s.modUart n f).port = s.port := (rfl)
@[simp] theorem State.modUart_sessions (n : Nat) (f : Uart → Uart) (s : State) : (s.modUart n f).sessions = s.sessions := (rfl)
@[simp] theorem State.modUart_authFails (n : Nat) (f : Uart → Uart) (s : State) : (s.modUart n f).authFails = s.authFails := (rfl)
@[simp] theorem State.modUart_lockout (n : Nat) (f : Uart → Uart) (s : State) : (s.modUart n f).lockout = s.lockout := (rfl)
@[simp] theorem State.modUart_slots (n : Nat) (f : Uart → Uart) (s : State) : (s.modUart n f).slots = s.slots := (rfl)
@[simp] theorem State.modUart_executing (n : Nat) (f : Uart → Uart) (s : State) : (s.modUart n f).executing = s.executing := (rfl)
@[simp] theorem State.modUart_queues (n : Nat) (f : Uart → Uart) (s : State) : (s.modUart n f).queues = s.queues := (rfl)
@[simp] theorem State.modUart_events (n : Nat) (f : Uart → Uart) (s : State) : (s.modUart n f).events = s.events := (rfl)
@[simp] theorem State.modUart_counters (n : Nat) (f : Uart → Uart) (s : State) : (s.modUart n f).counters = s.counters := (rfl)
@[simp] theorem State.modUart_inForce (n : Nat) (f : Uart → Uart) (s : State) : (s.modUart n f).inForce = s.inForce := (rfl)
@[simp] theorem State.modUart_waiting (n : Nat) (f : Uart → Uart) (s : State) : (s.modUart n f).waiting = s.waiting := (rfl)
@[simp] theorem State.modUart_dma (n : Nat) (f : Uart → Uart) (s : State) : (s.modUart n f).dma = s.dma := (rfl)
@[simp] theorem State.modUart_gpio (n : Nat) (f : Uart → Uart) (s : State) : (s.modUart n f).gpio = s.gpio := (rfl)
@[simp] theorem State.modUart_steward (n : Nat) (f : Uart → Uart) (s : State) : (s.modUart n f).steward = s.steward := (rfl)
@[simp] theorem State.modUart_nv (n : Nat) (f : Uart → Uart) (s : State) : (s.modUart n f).nv = s.nv := (rfl)
@[simp] theorem State.modUart_power (n : Nat) (f : Uart → Uart) (s : State) : (s.modUart n f).power = s.power := (rfl)
@[simp] theorem State.modUart_rst (n : Nat) (f : Uart → Uart) (s : State) : (s.modUart n f).rst = s.rst := (rfl)
@[simp] theorem State.modUart_rtc (n : Nat) (f : Uart → Uart) (s : State) : (s.modUart n f).rtc = s.rtc := (rfl)
@[simp] theorem State.modUart_plumb (n : Nat) (f : Uart → Uart) (s : State) : (s.modUart n f).plumb = s.plumb := (rfl)
@[simp] theorem State.modUart_gnss (n : Nat) (f : Uart → Uart) (s : State) : (s.modUart n f).gnss = s.gnss := (rfl)
@[simp] theorem State.modUart_track (n : Nat) (f : Uart → Uart) (s : State) : (s.modUart n f).track = s.track := (rfl)
@[simp] theorem State.modUart_screed (n : Nat) (f : Uart → Uart) (s : State) : (s.modUart n f).screed = s.screed := (rfl)
@[simp] theorem State.modUart_audio (n : Nat) (f : Uart → Uart) (s : State) : (s.modUart n f).audio = s.audio := (rfl)
@[simp] theorem State.modUart_radio (n : Nat) (f : Uart → Uart) (s : State) : (s.modUart n f).radio = s.radio := (rfl)
@[simp] theorem State.modUart_modem (n : Nat) (f : Uart → Uart) (s : State) : (s.modUart n f).modem = s.modem := (rfl)
@[simp] theorem State.modUart_cell (n : Nat) (f : Uart → Uart) (s : State) : (s.modUart n f).cell = s.cell := (rfl)
@[simp] theorem State.modUart_clocks (n : Nat) (f : Uart → Uart) (s : State) : (s.modUart n f).clocks = s.clocks := (rfl)
@[simp] theorem State.modUart_trowelH (n : Nat) (f : Uart → Uart) (s : State) : (s.modUart n f).trowelH = s.trowelH := (rfl)
@[simp] theorem State.modUart_trowelS (n : Nat) (f : Uart → Uart) (s : State) : (s.modUart n f).trowelS = s.trowelS := (rfl)
@[simp] theorem State.modUart_applet (n : Nat) (f : Uart → Uart) (s : State) : (s.modUart n f).applet = s.applet := (rfl)

@[simp] theorem State.modPll_part (n : Nat) (f : Pll → Pll) (s : State) : (s.modPll n f).part = s.part := (rfl)
@[simp] theorem State.modPll_pending (n : Nat) (f : Pll → Pll) (s : State) : (s.modPll n f).pending = s.pending := (rfl)
@[simp] theorem State.modPll_freeTick (n : Nat) (f : Pll → Pll) (s : State) : (s.modPll n f).freeTick = s.freeTick := (rfl)
@[simp] theorem State.modPll_qt (n : Nat) (f : Pll → Pll) (s : State) : (s.modPll n f).qt = s.qt := (rfl)
@[simp] theorem State.modPll_up (n : Nat) (f : Pll → Pll) (s : State) : (s.modPll n f).up = s.up := (rfl)
@[simp] theorem State.modPll_port (n : Nat) (f : Pll → Pll) (s : State) : (s.modPll n f).port = s.port := (rfl)
@[simp] theorem State.modPll_sessions (n : Nat) (f : Pll → Pll) (s : State) : (s.modPll n f).sessions = s.sessions := (rfl)
@[simp] theorem State.modPll_authFails (n : Nat) (f : Pll → Pll) (s : State) : (s.modPll n f).authFails = s.authFails := (rfl)
@[simp] theorem State.modPll_lockout (n : Nat) (f : Pll → Pll) (s : State) : (s.modPll n f).lockout = s.lockout := (rfl)
@[simp] theorem State.modPll_slots (n : Nat) (f : Pll → Pll) (s : State) : (s.modPll n f).slots = s.slots := (rfl)
@[simp] theorem State.modPll_executing (n : Nat) (f : Pll → Pll) (s : State) : (s.modPll n f).executing = s.executing := (rfl)
@[simp] theorem State.modPll_queues (n : Nat) (f : Pll → Pll) (s : State) : (s.modPll n f).queues = s.queues := (rfl)
@[simp] theorem State.modPll_events (n : Nat) (f : Pll → Pll) (s : State) : (s.modPll n f).events = s.events := (rfl)
@[simp] theorem State.modPll_counters (n : Nat) (f : Pll → Pll) (s : State) : (s.modPll n f).counters = s.counters := (rfl)
@[simp] theorem State.modPll_inForce (n : Nat) (f : Pll → Pll) (s : State) : (s.modPll n f).inForce = s.inForce := (rfl)
@[simp] theorem State.modPll_waiting (n : Nat) (f : Pll → Pll) (s : State) : (s.modPll n f).waiting = s.waiting := (rfl)
@[simp] theorem State.modPll_dma (n : Nat) (f : Pll → Pll) (s : State) : (s.modPll n f).dma = s.dma := (rfl)
@[simp] theorem State.modPll_gpio (n : Nat) (f : Pll → Pll) (s : State) : (s.modPll n f).gpio = s.gpio := (rfl)
@[simp] theorem State.modPll_steward (n : Nat) (f : Pll → Pll) (s : State) : (s.modPll n f).steward = s.steward := (rfl)
@[simp] theorem State.modPll_nv (n : Nat) (f : Pll → Pll) (s : State) : (s.modPll n f).nv = s.nv := (rfl)
@[simp] theorem State.modPll_power (n : Nat) (f : Pll → Pll) (s : State) : (s.modPll n f).power = s.power := (rfl)
@[simp] theorem State.modPll_rst (n : Nat) (f : Pll → Pll) (s : State) : (s.modPll n f).rst = s.rst := (rfl)
@[simp] theorem State.modPll_rtc (n : Nat) (f : Pll → Pll) (s : State) : (s.modPll n f).rtc = s.rtc := (rfl)
@[simp] theorem State.modPll_plumb (n : Nat) (f : Pll → Pll) (s : State) : (s.modPll n f).plumb = s.plumb := (rfl)
@[simp] theorem State.modPll_gnss (n : Nat) (f : Pll → Pll) (s : State) : (s.modPll n f).gnss = s.gnss := (rfl)
@[simp] theorem State.modPll_track (n : Nat) (f : Pll → Pll) (s : State) : (s.modPll n f).track = s.track := (rfl)
@[simp] theorem State.modPll_screed (n : Nat) (f : Pll → Pll) (s : State) : (s.modPll n f).screed = s.screed := (rfl)
@[simp] theorem State.modPll_audio (n : Nat) (f : Pll → Pll) (s : State) : (s.modPll n f).audio = s.audio := (rfl)
@[simp] theorem State.modPll_radio (n : Nat) (f : Pll → Pll) (s : State) : (s.modPll n f).radio = s.radio := (rfl)
@[simp] theorem State.modPll_modem (n : Nat) (f : Pll → Pll) (s : State) : (s.modPll n f).modem = s.modem := (rfl)
@[simp] theorem State.modPll_cell (n : Nat) (f : Pll → Pll) (s : State) : (s.modPll n f).cell = s.cell := (rfl)
@[simp] theorem State.modPll_uarts (n : Nat) (f : Pll → Pll) (s : State) : (s.modPll n f).uarts = s.uarts := (rfl)
@[simp] theorem State.modPll_trowelH (n : Nat) (f : Pll → Pll) (s : State) : (s.modPll n f).trowelH = s.trowelH := (rfl)
@[simp] theorem State.modPll_trowelS (n : Nat) (f : Pll → Pll) (s : State) : (s.modPll n f).trowelS = s.trowelS := (rfl)
@[simp] theorem State.modPll_applet (n : Nat) (f : Pll → Pll) (s : State) : (s.modPll n f).applet = s.applet := (rfl)

@[simp] theorem State.modAlarm_part (n : Nat) (f : Alarm → Alarm) (s : State) : (s.modAlarm n f).part = s.part := (rfl)
@[simp] theorem State.modAlarm_pending (n : Nat) (f : Alarm → Alarm) (s : State) : (s.modAlarm n f).pending = s.pending := (rfl)
@[simp] theorem State.modAlarm_freeTick (n : Nat) (f : Alarm → Alarm) (s : State) : (s.modAlarm n f).freeTick = s.freeTick := (rfl)
@[simp] theorem State.modAlarm_qt (n : Nat) (f : Alarm → Alarm) (s : State) : (s.modAlarm n f).qt = s.qt := (rfl)
@[simp] theorem State.modAlarm_up (n : Nat) (f : Alarm → Alarm) (s : State) : (s.modAlarm n f).up = s.up := (rfl)
@[simp] theorem State.modAlarm_port (n : Nat) (f : Alarm → Alarm) (s : State) : (s.modAlarm n f).port = s.port := (rfl)
@[simp] theorem State.modAlarm_sessions (n : Nat) (f : Alarm → Alarm) (s : State) : (s.modAlarm n f).sessions = s.sessions := (rfl)
@[simp] theorem State.modAlarm_authFails (n : Nat) (f : Alarm → Alarm) (s : State) : (s.modAlarm n f).authFails = s.authFails := (rfl)
@[simp] theorem State.modAlarm_lockout (n : Nat) (f : Alarm → Alarm) (s : State) : (s.modAlarm n f).lockout = s.lockout := (rfl)
@[simp] theorem State.modAlarm_slots (n : Nat) (f : Alarm → Alarm) (s : State) : (s.modAlarm n f).slots = s.slots := (rfl)
@[simp] theorem State.modAlarm_executing (n : Nat) (f : Alarm → Alarm) (s : State) : (s.modAlarm n f).executing = s.executing := (rfl)
@[simp] theorem State.modAlarm_queues (n : Nat) (f : Alarm → Alarm) (s : State) : (s.modAlarm n f).queues = s.queues := (rfl)
@[simp] theorem State.modAlarm_events (n : Nat) (f : Alarm → Alarm) (s : State) : (s.modAlarm n f).events = s.events := (rfl)
@[simp] theorem State.modAlarm_counters (n : Nat) (f : Alarm → Alarm) (s : State) : (s.modAlarm n f).counters = s.counters := (rfl)
@[simp] theorem State.modAlarm_inForce (n : Nat) (f : Alarm → Alarm) (s : State) : (s.modAlarm n f).inForce = s.inForce := (rfl)
@[simp] theorem State.modAlarm_waiting (n : Nat) (f : Alarm → Alarm) (s : State) : (s.modAlarm n f).waiting = s.waiting := (rfl)
@[simp] theorem State.modAlarm_dma (n : Nat) (f : Alarm → Alarm) (s : State) : (s.modAlarm n f).dma = s.dma := (rfl)
@[simp] theorem State.modAlarm_gpio (n : Nat) (f : Alarm → Alarm) (s : State) : (s.modAlarm n f).gpio = s.gpio := (rfl)
@[simp] theorem State.modAlarm_steward (n : Nat) (f : Alarm → Alarm) (s : State) : (s.modAlarm n f).steward = s.steward := (rfl)
@[simp] theorem State.modAlarm_nv (n : Nat) (f : Alarm → Alarm) (s : State) : (s.modAlarm n f).nv = s.nv := (rfl)
@[simp] theorem State.modAlarm_power (n : Nat) (f : Alarm → Alarm) (s : State) : (s.modAlarm n f).power = s.power := (rfl)
@[simp] theorem State.modAlarm_rst (n : Nat) (f : Alarm → Alarm) (s : State) : (s.modAlarm n f).rst = s.rst := (rfl)
@[simp] theorem State.modAlarm_plumb (n : Nat) (f : Alarm → Alarm) (s : State) : (s.modAlarm n f).plumb = s.plumb := (rfl)
@[simp] theorem State.modAlarm_gnss (n : Nat) (f : Alarm → Alarm) (s : State) : (s.modAlarm n f).gnss = s.gnss := (rfl)
@[simp] theorem State.modAlarm_track (n : Nat) (f : Alarm → Alarm) (s : State) : (s.modAlarm n f).track = s.track := (rfl)
@[simp] theorem State.modAlarm_screed (n : Nat) (f : Alarm → Alarm) (s : State) : (s.modAlarm n f).screed = s.screed := (rfl)
@[simp] theorem State.modAlarm_audio (n : Nat) (f : Alarm → Alarm) (s : State) : (s.modAlarm n f).audio = s.audio := (rfl)
@[simp] theorem State.modAlarm_radio (n : Nat) (f : Alarm → Alarm) (s : State) : (s.modAlarm n f).radio = s.radio := (rfl)
@[simp] theorem State.modAlarm_modem (n : Nat) (f : Alarm → Alarm) (s : State) : (s.modAlarm n f).modem = s.modem := (rfl)
@[simp] theorem State.modAlarm_cell (n : Nat) (f : Alarm → Alarm) (s : State) : (s.modAlarm n f).cell = s.cell := (rfl)
@[simp] theorem State.modAlarm_clocks (n : Nat) (f : Alarm → Alarm) (s : State) : (s.modAlarm n f).clocks = s.clocks := (rfl)
@[simp] theorem State.modAlarm_uarts (n : Nat) (f : Alarm → Alarm) (s : State) : (s.modAlarm n f).uarts = s.uarts := (rfl)
@[simp] theorem State.modAlarm_trowelH (n : Nat) (f : Alarm → Alarm) (s : State) : (s.modAlarm n f).trowelH = s.trowelH := (rfl)
@[simp] theorem State.modAlarm_trowelS (n : Nat) (f : Alarm → Alarm) (s : State) : (s.modAlarm n f).trowelS = s.trowelS := (rfl)
@[simp] theorem State.modAlarm_applet (n : Nat) (f : Alarm → Alarm) (s : State) : (s.modAlarm n f).applet = s.applet := (rfl)

@[simp] theorem State.modPulse_part (n : Nat) (f : Pulse → Pulse) (s : State) : (s.modPulse n f).part = s.part := (rfl)
@[simp] theorem State.modPulse_pending (n : Nat) (f : Pulse → Pulse) (s : State) : (s.modPulse n f).pending = s.pending := (rfl)
@[simp] theorem State.modPulse_freeTick (n : Nat) (f : Pulse → Pulse) (s : State) : (s.modPulse n f).freeTick = s.freeTick := (rfl)
@[simp] theorem State.modPulse_qt (n : Nat) (f : Pulse → Pulse) (s : State) : (s.modPulse n f).qt = s.qt := (rfl)
@[simp] theorem State.modPulse_up (n : Nat) (f : Pulse → Pulse) (s : State) : (s.modPulse n f).up = s.up := (rfl)
@[simp] theorem State.modPulse_port (n : Nat) (f : Pulse → Pulse) (s : State) : (s.modPulse n f).port = s.port := (rfl)
@[simp] theorem State.modPulse_sessions (n : Nat) (f : Pulse → Pulse) (s : State) : (s.modPulse n f).sessions = s.sessions := (rfl)
@[simp] theorem State.modPulse_authFails (n : Nat) (f : Pulse → Pulse) (s : State) : (s.modPulse n f).authFails = s.authFails := (rfl)
@[simp] theorem State.modPulse_lockout (n : Nat) (f : Pulse → Pulse) (s : State) : (s.modPulse n f).lockout = s.lockout := (rfl)
@[simp] theorem State.modPulse_slots (n : Nat) (f : Pulse → Pulse) (s : State) : (s.modPulse n f).slots = s.slots := (rfl)
@[simp] theorem State.modPulse_executing (n : Nat) (f : Pulse → Pulse) (s : State) : (s.modPulse n f).executing = s.executing := (rfl)
@[simp] theorem State.modPulse_queues (n : Nat) (f : Pulse → Pulse) (s : State) : (s.modPulse n f).queues = s.queues := (rfl)
@[simp] theorem State.modPulse_events (n : Nat) (f : Pulse → Pulse) (s : State) : (s.modPulse n f).events = s.events := (rfl)
@[simp] theorem State.modPulse_counters (n : Nat) (f : Pulse → Pulse) (s : State) : (s.modPulse n f).counters = s.counters := (rfl)
@[simp] theorem State.modPulse_inForce (n : Nat) (f : Pulse → Pulse) (s : State) : (s.modPulse n f).inForce = s.inForce := (rfl)
@[simp] theorem State.modPulse_waiting (n : Nat) (f : Pulse → Pulse) (s : State) : (s.modPulse n f).waiting = s.waiting := (rfl)
@[simp] theorem State.modPulse_dma (n : Nat) (f : Pulse → Pulse) (s : State) : (s.modPulse n f).dma = s.dma := (rfl)
@[simp] theorem State.modPulse_gpio (n : Nat) (f : Pulse → Pulse) (s : State) : (s.modPulse n f).gpio = s.gpio := (rfl)
@[simp] theorem State.modPulse_steward (n : Nat) (f : Pulse → Pulse) (s : State) : (s.modPulse n f).steward = s.steward := (rfl)
@[simp] theorem State.modPulse_nv (n : Nat) (f : Pulse → Pulse) (s : State) : (s.modPulse n f).nv = s.nv := (rfl)
@[simp] theorem State.modPulse_power (n : Nat) (f : Pulse → Pulse) (s : State) : (s.modPulse n f).power = s.power := (rfl)
@[simp] theorem State.modPulse_rst (n : Nat) (f : Pulse → Pulse) (s : State) : (s.modPulse n f).rst = s.rst := (rfl)
@[simp] theorem State.modPulse_rtc (n : Nat) (f : Pulse → Pulse) (s : State) : (s.modPulse n f).rtc = s.rtc := (rfl)
@[simp] theorem State.modPulse_gnss (n : Nat) (f : Pulse → Pulse) (s : State) : (s.modPulse n f).gnss = s.gnss := (rfl)
@[simp] theorem State.modPulse_track (n : Nat) (f : Pulse → Pulse) (s : State) : (s.modPulse n f).track = s.track := (rfl)
@[simp] theorem State.modPulse_screed (n : Nat) (f : Pulse → Pulse) (s : State) : (s.modPulse n f).screed = s.screed := (rfl)
@[simp] theorem State.modPulse_audio (n : Nat) (f : Pulse → Pulse) (s : State) : (s.modPulse n f).audio = s.audio := (rfl)
@[simp] theorem State.modPulse_radio (n : Nat) (f : Pulse → Pulse) (s : State) : (s.modPulse n f).radio = s.radio := (rfl)
@[simp] theorem State.modPulse_modem (n : Nat) (f : Pulse → Pulse) (s : State) : (s.modPulse n f).modem = s.modem := (rfl)
@[simp] theorem State.modPulse_cell (n : Nat) (f : Pulse → Pulse) (s : State) : (s.modPulse n f).cell = s.cell := (rfl)
@[simp] theorem State.modPulse_clocks (n : Nat) (f : Pulse → Pulse) (s : State) : (s.modPulse n f).clocks = s.clocks := (rfl)
@[simp] theorem State.modPulse_uarts (n : Nat) (f : Pulse → Pulse) (s : State) : (s.modPulse n f).uarts = s.uarts := (rfl)
@[simp] theorem State.modPulse_trowelH (n : Nat) (f : Pulse → Pulse) (s : State) : (s.modPulse n f).trowelH = s.trowelH := (rfl)
@[simp] theorem State.modPulse_trowelS (n : Nat) (f : Pulse → Pulse) (s : State) : (s.modPulse n f).trowelS = s.trowelS := (rfl)
@[simp] theorem State.modPulse_applet (n : Nat) (f : Pulse → Pulse) (s : State) : (s.modPulse n f).applet = s.applet := (rfl)

@[simp] theorem State.modMark_part (n : Nat) (f : Mark → Mark) (s : State) : (s.modMark n f).part = s.part := (rfl)
@[simp] theorem State.modMark_pending (n : Nat) (f : Mark → Mark) (s : State) : (s.modMark n f).pending = s.pending := (rfl)
@[simp] theorem State.modMark_freeTick (n : Nat) (f : Mark → Mark) (s : State) : (s.modMark n f).freeTick = s.freeTick := (rfl)
@[simp] theorem State.modMark_qt (n : Nat) (f : Mark → Mark) (s : State) : (s.modMark n f).qt = s.qt := (rfl)
@[simp] theorem State.modMark_up (n : Nat) (f : Mark → Mark) (s : State) : (s.modMark n f).up = s.up := (rfl)
@[simp] theorem State.modMark_port (n : Nat) (f : Mark → Mark) (s : State) : (s.modMark n f).port = s.port := (rfl)
@[simp] theorem State.modMark_sessions (n : Nat) (f : Mark → Mark) (s : State) : (s.modMark n f).sessions = s.sessions := (rfl)
@[simp] theorem State.modMark_authFails (n : Nat) (f : Mark → Mark) (s : State) : (s.modMark n f).authFails = s.authFails := (rfl)
@[simp] theorem State.modMark_lockout (n : Nat) (f : Mark → Mark) (s : State) : (s.modMark n f).lockout = s.lockout := (rfl)
@[simp] theorem State.modMark_slots (n : Nat) (f : Mark → Mark) (s : State) : (s.modMark n f).slots = s.slots := (rfl)
@[simp] theorem State.modMark_executing (n : Nat) (f : Mark → Mark) (s : State) : (s.modMark n f).executing = s.executing := (rfl)
@[simp] theorem State.modMark_queues (n : Nat) (f : Mark → Mark) (s : State) : (s.modMark n f).queues = s.queues := (rfl)
@[simp] theorem State.modMark_events (n : Nat) (f : Mark → Mark) (s : State) : (s.modMark n f).events = s.events := (rfl)
@[simp] theorem State.modMark_counters (n : Nat) (f : Mark → Mark) (s : State) : (s.modMark n f).counters = s.counters := (rfl)
@[simp] theorem State.modMark_inForce (n : Nat) (f : Mark → Mark) (s : State) : (s.modMark n f).inForce = s.inForce := (rfl)
@[simp] theorem State.modMark_waiting (n : Nat) (f : Mark → Mark) (s : State) : (s.modMark n f).waiting = s.waiting := (rfl)
@[simp] theorem State.modMark_dma (n : Nat) (f : Mark → Mark) (s : State) : (s.modMark n f).dma = s.dma := (rfl)
@[simp] theorem State.modMark_gpio (n : Nat) (f : Mark → Mark) (s : State) : (s.modMark n f).gpio = s.gpio := (rfl)
@[simp] theorem State.modMark_steward (n : Nat) (f : Mark → Mark) (s : State) : (s.modMark n f).steward = s.steward := (rfl)
@[simp] theorem State.modMark_nv (n : Nat) (f : Mark → Mark) (s : State) : (s.modMark n f).nv = s.nv := (rfl)
@[simp] theorem State.modMark_power (n : Nat) (f : Mark → Mark) (s : State) : (s.modMark n f).power = s.power := (rfl)
@[simp] theorem State.modMark_rst (n : Nat) (f : Mark → Mark) (s : State) : (s.modMark n f).rst = s.rst := (rfl)
@[simp] theorem State.modMark_rtc (n : Nat) (f : Mark → Mark) (s : State) : (s.modMark n f).rtc = s.rtc := (rfl)
@[simp] theorem State.modMark_gnss (n : Nat) (f : Mark → Mark) (s : State) : (s.modMark n f).gnss = s.gnss := (rfl)
@[simp] theorem State.modMark_track (n : Nat) (f : Mark → Mark) (s : State) : (s.modMark n f).track = s.track := (rfl)
@[simp] theorem State.modMark_screed (n : Nat) (f : Mark → Mark) (s : State) : (s.modMark n f).screed = s.screed := (rfl)
@[simp] theorem State.modMark_audio (n : Nat) (f : Mark → Mark) (s : State) : (s.modMark n f).audio = s.audio := (rfl)
@[simp] theorem State.modMark_radio (n : Nat) (f : Mark → Mark) (s : State) : (s.modMark n f).radio = s.radio := (rfl)
@[simp] theorem State.modMark_modem (n : Nat) (f : Mark → Mark) (s : State) : (s.modMark n f).modem = s.modem := (rfl)
@[simp] theorem State.modMark_cell (n : Nat) (f : Mark → Mark) (s : State) : (s.modMark n f).cell = s.cell := (rfl)
@[simp] theorem State.modMark_clocks (n : Nat) (f : Mark → Mark) (s : State) : (s.modMark n f).clocks = s.clocks := (rfl)
@[simp] theorem State.modMark_uarts (n : Nat) (f : Mark → Mark) (s : State) : (s.modMark n f).uarts = s.uarts := (rfl)
@[simp] theorem State.modMark_trowelH (n : Nat) (f : Mark → Mark) (s : State) : (s.modMark n f).trowelH = s.trowelH := (rfl)
@[simp] theorem State.modMark_trowelS (n : Nat) (f : Mark → Mark) (s : State) : (s.modMark n f).trowelS = s.trowelS := (rfl)
@[simp] theorem State.modMark_applet (n : Nat) (f : Mark → Mark) (s : State) : (s.modMark n f).applet = s.applet := (rfl)

@[simp] theorem State.setCore_part (c : Nat) (t : Trowel) (s : State) : (s.setCore c t).part = s.part := by
  unfold State.setCore
  split <;> rfl
@[simp] theorem State.setCore_pending (c : Nat) (t : Trowel) (s : State) : (s.setCore c t).pending = s.pending := by
  unfold State.setCore
  split <;> rfl
@[simp] theorem State.setCore_freeTick (c : Nat) (t : Trowel) (s : State) : (s.setCore c t).freeTick = s.freeTick := by
  unfold State.setCore
  split <;> rfl
@[simp] theorem State.setCore_qt (c : Nat) (t : Trowel) (s : State) : (s.setCore c t).qt = s.qt := by
  unfold State.setCore
  split <;> rfl
@[simp] theorem State.setCore_up (c : Nat) (t : Trowel) (s : State) : (s.setCore c t).up = s.up := by
  unfold State.setCore
  split <;> rfl
@[simp] theorem State.setCore_port (c : Nat) (t : Trowel) (s : State) : (s.setCore c t).port = s.port := by
  unfold State.setCore
  split <;> rfl
@[simp] theorem State.setCore_sessions (c : Nat) (t : Trowel) (s : State) : (s.setCore c t).sessions = s.sessions := by
  unfold State.setCore
  split <;> rfl
@[simp] theorem State.setCore_authFails (c : Nat) (t : Trowel) (s : State) : (s.setCore c t).authFails = s.authFails := by
  unfold State.setCore
  split <;> rfl
@[simp] theorem State.setCore_lockout (c : Nat) (t : Trowel) (s : State) : (s.setCore c t).lockout = s.lockout := by
  unfold State.setCore
  split <;> rfl
@[simp] theorem State.setCore_slots (c : Nat) (t : Trowel) (s : State) : (s.setCore c t).slots = s.slots := by
  unfold State.setCore
  split <;> rfl
@[simp] theorem State.setCore_executing (c : Nat) (t : Trowel) (s : State) : (s.setCore c t).executing = s.executing := by
  unfold State.setCore
  split <;> rfl
@[simp] theorem State.setCore_queues (c : Nat) (t : Trowel) (s : State) : (s.setCore c t).queues = s.queues := by
  unfold State.setCore
  split <;> rfl
@[simp] theorem State.setCore_events (c : Nat) (t : Trowel) (s : State) : (s.setCore c t).events = s.events := by
  unfold State.setCore
  split <;> rfl
@[simp] theorem State.setCore_counters (c : Nat) (t : Trowel) (s : State) : (s.setCore c t).counters = s.counters := by
  unfold State.setCore
  split <;> rfl
@[simp] theorem State.setCore_inForce (c : Nat) (t : Trowel) (s : State) : (s.setCore c t).inForce = s.inForce := by
  unfold State.setCore
  split <;> rfl
@[simp] theorem State.setCore_waiting (c : Nat) (t : Trowel) (s : State) : (s.setCore c t).waiting = s.waiting := by
  unfold State.setCore
  split <;> rfl
@[simp] theorem State.setCore_dma (c : Nat) (t : Trowel) (s : State) : (s.setCore c t).dma = s.dma := by
  unfold State.setCore
  split <;> rfl
@[simp] theorem State.setCore_gpio (c : Nat) (t : Trowel) (s : State) : (s.setCore c t).gpio = s.gpio := by
  unfold State.setCore
  split <;> rfl
@[simp] theorem State.setCore_steward (c : Nat) (t : Trowel) (s : State) : (s.setCore c t).steward = s.steward := by
  unfold State.setCore
  split <;> rfl
@[simp] theorem State.setCore_nv (c : Nat) (t : Trowel) (s : State) : (s.setCore c t).nv = s.nv := by
  unfold State.setCore
  split <;> rfl
@[simp] theorem State.setCore_power (c : Nat) (t : Trowel) (s : State) : (s.setCore c t).power = s.power := by
  unfold State.setCore
  split <;> rfl
@[simp] theorem State.setCore_rst (c : Nat) (t : Trowel) (s : State) : (s.setCore c t).rst = s.rst := by
  unfold State.setCore
  split <;> rfl
@[simp] theorem State.setCore_rtc (c : Nat) (t : Trowel) (s : State) : (s.setCore c t).rtc = s.rtc := by
  unfold State.setCore
  split <;> rfl
@[simp] theorem State.setCore_plumb (c : Nat) (t : Trowel) (s : State) : (s.setCore c t).plumb = s.plumb := by
  unfold State.setCore
  split <;> rfl
@[simp] theorem State.setCore_gnss (c : Nat) (t : Trowel) (s : State) : (s.setCore c t).gnss = s.gnss := by
  unfold State.setCore
  split <;> rfl
@[simp] theorem State.setCore_track (c : Nat) (t : Trowel) (s : State) : (s.setCore c t).track = s.track := by
  unfold State.setCore
  split <;> rfl
@[simp] theorem State.setCore_screed (c : Nat) (t : Trowel) (s : State) : (s.setCore c t).screed = s.screed := by
  unfold State.setCore
  split <;> rfl
@[simp] theorem State.setCore_audio (c : Nat) (t : Trowel) (s : State) : (s.setCore c t).audio = s.audio := by
  unfold State.setCore
  split <;> rfl
@[simp] theorem State.setCore_radio (c : Nat) (t : Trowel) (s : State) : (s.setCore c t).radio = s.radio := by
  unfold State.setCore
  split <;> rfl
@[simp] theorem State.setCore_modem (c : Nat) (t : Trowel) (s : State) : (s.setCore c t).modem = s.modem := by
  unfold State.setCore
  split <;> rfl
@[simp] theorem State.setCore_cell (c : Nat) (t : Trowel) (s : State) : (s.setCore c t).cell = s.cell := by
  unfold State.setCore
  split <;> rfl
@[simp] theorem State.setCore_clocks (c : Nat) (t : Trowel) (s : State) : (s.setCore c t).clocks = s.clocks := by
  unfold State.setCore
  split <;> rfl
@[simp] theorem State.setCore_uarts (c : Nat) (t : Trowel) (s : State) : (s.setCore c t).uarts = s.uarts := by
  unfold State.setCore
  split <;> rfl
@[simp] theorem State.setCore_applet (c : Nat) (t : Trowel) (s : State) : (s.setCore c t).applet = s.applet := by
  unfold State.setCore
  split <;> rfl

@[simp] theorem State.core_setCore (c : Nat) (t : Trowel) (s : State) : (s.setCore c t).core c = t := by
  unfold State.core State.setCore
  split <;> rfl

theorem length_modAt {α : Type} (n : Nat) (f : α → α) (l : List α) : (modAt n f l).length = l.length := by
  induction l generalizing n with
  | nil => cases n <;> rfl
  | cons a r ih => cases n <;> simp [modAt, ih]

theorem getD_modAt {α : Type} (n m : Nat) (f : α → α) (l : List α) (d : α) :
    (modAt n f l).getD m d = if m = n ∧ m < l.length then f (l.getD m d) else l.getD m d := by
  induction l generalizing n m with
  | nil => cases n <;> simp [modAt]
  | cons a r ih => cases n <;> cases m <;> simp_all [modAt]

theorem State.queue_modQueue (n m : Nat) (f : Queue → Queue) (s : State) :
    (s.modQueue n f).queue m = if m = n ∧ m < s.queues.length then f (s.queue m) else s.queue m := getD_modAt n m f s.queues {}

theorem State.event_modEvent (n m : Nat) (f : EventSource → EventSource) (s : State) :
    (s.modEvent n f).event m = if m = n ∧ m < s.events.length then f (s.event m) else s.event m := getD_modAt n m f s.events {}

/-- A counter read after it is raised. -/
theorem State.counter_bumpBy (u i n v j : Nat) (s : State) :
    (s.bumpBy u i n).counter v j = if ctrKey v j = ctrKey u i then wrap32 (s.counter u i + n) else s.counter v j := by
  unfold State.counter State.bumpBy
  exact Table.get_set 0 _ _ _ _

end Sys2Proof.Machine
end

