-- ==== Sys2Proof/Tests/Slice0.lean ====
section
/-! SUPPORT. Small tests, and for each statement with hypotheses a state and operands that meet them. Expected values come from the
rules named in the docstrings, worked by hand. -/
namespace Sys2Proof.Tests
open Sys2Proof Sys2Proof.Machine Sys2Proof.Claims
set_option Elab.async false

/-! ## States the tests start from -/

/-- The part in Run (manager), serving. -/
def running : State :=
  { State.reset with
    power := { State.reset.power with mode := .runManager, ready := true, holdReady := true }
    rst := { State.reset.rst with inReset := false, configured := true }
    qt := 1000 * qtSec, up := 1000 * qtSec }

/-- Bytes as a table from address `a` on. -/
def bytesAt (a : Nat) (l : List Nat) : Table Byte := Table.setList 0 a (l.map (BitVec.ofNat 8)) []

/-- A core in firmware at bank 0, address 0, with the code and the data stack given (top first) and a spill region of 256 bytes. -/
def coreAt (c : Nat) (code stack : List Nat) : Trowel :=
  { steward := c == 1, loaded := true, code := bytesAt 0 code, stack := stack, dsBase := 0x100, dsSpill := 0x100, dsLimit := 0x200 }

/-- The part with that core. -/
def withCore (c : Nat) (code stack : List Nat) : State := running.setCore c (coreAt c code stack)

/-- What a step answers, read by a function. -/
def outcome {α : Type} (f : State → α) (o : Host.Outcome State Fault Refusal) : Option α :=
  match o with
  | .next s => some (f s)
  | _ => none

/-! ## Trowel: the rows' hypotheses -/

/-- Row `i` on this core: the core is at its instruction, its stack is in order and holds the operands, and the results fit. -/
def rowMet (i : Instr) (s : State) : Bool :=
  let pick := [pureRow i, moveRow i, memoryRow i, bitRow i, flowRow i, loopRow i, coprocessorRow i].filterMap (fun x => x)
  match pick with
  | [r] =>
    let t := s.core r.core.val
    r.here t && stackWf t && (match r.effect t t.imm (dataStack t) with
      | some (rest, _, out) => decide ((out ++ rest).length ≤ capacity t)
      | none => false)
  | _ => false

/-- A core with one armed loop level apart, an entry on the return stack, and eight bytes on the data stack, `k` on top. -/
def rowState (c op k : Nat) : State :=
  running.setCore c { coreAt c [op, 1] [k, 1, 2, 3, 4, 5, 6, 7] with rs := [0x10], cbank := 0 }

/-- The same with the hardware stack full and one entry spilled: the boundary of R402. -/
def spilledState (c op k : Nat) : State :=
  running.setCore c { coreAt c [op, 1] ([k, 1, 2, 3] ++ List.replicate 28 9) with
    rs := [0x10], dsSpill := 0x101, data := bytesAt 0x100 [7] }

theorem witness_trowelRows0 : ([0, 1] : List (Fin 2)).all (fun c => [rowState, spilledState].all (fun f =>
  [(.trowelNop c, 0x00, 1), (.drop c, 0x03, 1), (.dup c, 0x04, 1), (.swap c, 0x05, 1), (.over c, 0x06, 1),
   (.rot c, 0x07, 1), (.dropw c, 0x08, 1), (.dupw c, 0x09, 1), (.swapw c, 0x0A, 1), (.overw c, 0x0B, 1),
   (.trowelAdd c, 0x10, 1), (.addc c, 0x11, 1), (.trowelSub c, 0x12, 1), (.subb c, 0x13, 1), (.trowelAnd c, 0x14, 1),
   (.trowelOr c, 0x15, 1), (.trowelXor c, 0x16, 1), (.notByte c, 0x17, 1), (.shl c, 0x18, 1), (.shr c, 0x19, 1),
   (.asr c, 0x1A, 1), (.inc c, 0x1B, 1), (.dec c, 0x1C, 1), (.trowelNeg c, 0x1D, 1), (.mulu c, 0x1E, 1),
   (.addw c, 0x20, 1), (.subw c, 0x21, 1), (.incw c, 0x22, 1), (.decw c, 0x23, 1), (.andw c, 0x24, 1),
   (.orw c, 0x25, 1), (.xorw c, 0x26, 1), (.shlw c, 0x27, 1), (.shrw c, 0x28, 1), (.ext c, 0x29, 1)].all
  (fun p : Instr × Nat × Nat => rowMet p.1 (f c p.2.1 p.2.2)))) = true := by decide +kernel

theorem witness_trowelRows1 : ([0, 1] : List (Fin 2)).all (fun c => [rowState, spilledState].all (fun f =>
  [(.eq c, 0x30, 1), (.ne c, 0x31, 1), (.ltu c, 0x32, 1), (.leu c, 0x33, 1), (.lts c, 0x34, 1),
   (.les c, 0x35, 1), (.zeq c, 0x36, 1), (.eqw c, 0x38, 1), (.ltuw c, 0x39, 1), (.ltsw c, 0x3A, 1),
   (.zeqw c, 0x3B, 1), (.par c, 0xAA, 1), (.brev c, 0xAB, 1), (.brevw c, 0xAC, 1), (.lit8 c, 0x01, 1),
   (.lit16 c, 0x02, 1), (.pick c, 0x0C, 1), (.toR c, 0x0D, 1), (.rFrom c, 0x0E, 1), (.rFetch c, 0x0F, 1),
   (.ld c, 0x40, 1), (.st c, 0x41, 1), (.ldw c, 0x42, 1), (.stw c, 0x43, 1), (.lda c, 0x44, 1),
   (.sta c, 0x45, 1), (.ldaw c, 0x46, 1), (.staw c, 0x47, 1), (.ldp c, 0x48, 1), (.stp c, 0x49, 1),
   (.ldc c, 0x4A, 1), (.ldcf c, 0x4B, 1), (.bset c, 0x58, 1), (.bclr c, 0x59, 1), (.bcpl c, 0x5A, 1)].all
  (fun p : Instr × Nat × Nat => rowMet p.1 (f c p.2.1 p.2.2)))) = true := by decide +kernel

theorem witness_trowelRows2 : ([0, 1] : List (Fin 2)).all (fun c => [rowState, spilledState].all (fun f =>
  [(.bpush c, 0x5B, 1), (.bpop c, 0x5C, 1), (.bpushi c, 0x5D, 1), (.bpopi c, 0x5E, 1), (.brb1 c, 0xB0, 1),
   (.brb0 c, 0xC0, 1), (.brb1c c, 0xD0, 1), (.brb0s c, 0xE0, 1), (.trowelJmp c, 0x90, 1), (.jr c, 0x91, 1),
   (.jz c, 0x92, 1), (.jnz c, 0x93, 1), (.call c, 0x94, 1), (.callf c, 0x95, 1), (.ret c, 0x96, 1),
   (.reti c, 0x97, 1), (.jmpi c, 0x98, 1), (.calli c, 0x99, 1), (.jmpf c, 0x9A, 1), (.ei c, 0x9C, 1),
   (.di c, 0x9D, 1), (.trowelLoop c, 0xA0, 1), (.lbrk c, 0xA1, 1), (.lcnt c, 0xA2, 1), (.crc16 c, 0xA8, 1),
   (.crc32 c, 0xA9, 1), (.cpset c, 0xF0, 1), (.cpget c, 0xF1, 1), (.cpwait c, 0xF3, 1), (.sha256Init c, 0xF2, 0),
   (.sha256Update c, 0xF2, 1), (.sha256Final c, 0xF2, 2), (.ed25519Verify c, 0xF6, 0), (.cp2Add c, 0xFA, 0), (.cp2Sub c, 0xFA, 1)].all
  (fun p : Instr × Nat × Nat => rowMet p.1 (f c p.2.1 p.2.2)))) = true := by decide +kernel

theorem witness_trowelRows3 : ([0, 1] : List (Fin 2)).all (fun c => [rowState, spilledState].all (fun f =>
  [(.cp2Mulu c, 0xFA, 2), (.cp2Muls c, 0xFA, 3), (.cp2Divu c, 0xFA, 4), (.cp2Cmpu c, 0xFA, 5), (.cp2Shl c, 0xFA, 6),
   (.cp2Shr c, 0xFA, 7)].all
  (fun p : Instr × Nat × Nat => rowMet p.1 (f c p.2.1 p.2.2)))) = true := by decide +kernel


/-! ## Trowel: single steps -/

/-- The data stack after one instruction of Trowel-H. -/
def stackAfter (i : Instr) (code stack : List Nat) : Option (List Nat) := outcome (fun s => s.trowelH.stack) (exec i (withCore 0 code stack))

/-- R405: ADD is modulo 256. -/
theorem test_add_wraps : stackAfter (.trowelAdd 0) [0x10] [100, 200] = some [44] := by decide +kernel
/-- R405: ADDC leaves the carry on top. -/
theorem test_addc_carries : stackAfter (.addc 0) [0x11] [1, 255, 9] = some [1, 0, 9] := by decide +kernel
/-- R405: SUBB takes the top from the entry below and leaves the borrow on top. -/
theorem test_subb_borrows : stackAfter (.subb 0) [0x13] [5, 3] = some [1, 254] := by decide +kernel
/-- R405: ROT brings the third entry to the top. -/
theorem test_rot : stackAfter (.rot 0) [0x07] [3, 2, 1] = some [1, 3, 2] := by decide +kernel
/-- R405: MULU leaves a word, its high byte on top. -/
theorem test_mulu : stackAfter (.mulu 0) [0x1E] [200, 200] = some [0x9C, 0x40] := by decide +kernel
/-- R405: LTS compares signed bytes: −1 < 1. -/
theorem test_lts : stackAfter (.lts 0) [0x34] [1, 255] = some [1] := by decide +kernel
/-- R405: ASR keeps the sign. -/
theorem test_asr : stackAfter (.asr 0) [0x1A] [0x81] = some [0xC0] := by decide +kernel
/-- R403: >R moves a word to the return stack, R> brings it back. -/
theorem test_toR : outcome (fun s => (s.trowelH.stack, s.trowelH.rs)) (exec (.toR 0) (withCore 0 [0x0D] [0x12, 0x34])) =
    some ([], [0x800000 + 0x1234]) := by decide +kernel
/-- R404: a taken JNZ branches from the address of the next instruction. -/
theorem test_jnz_back : outcome (fun s => s.trowelH.pc) (exec (.jnz 0) (withCore 0 [0x93, 0xFE] [1])) = some 0 := by decide +kernel
/-- R401: STW stores low byte first. -/
theorem test_stw : outcome (fun s => s.trowelH.byteAt 0x4000 + 256 * s.trowelH.byteAt 0x4001)
    (exec (.stw 0) (withCore 0 [0x43] [0x40, 0x00, 0xAB, 0xCD])) = some 0xABCD := by decide +kernel
/-- R407: CRC16 of CCITT over one byte 0x31 from 0xFFFF is 0xC782. -/
theorem test_crc16 : outcome (fun s => s.trowelH.crc16)
    (exec (.crc16 0) (running.setCore 0 { coreAt 0 [0xA8] [0x31] with crc16 := 0xFFFF })) = some 0xC782 := by decide +kernel
/-- R402, R410: an instruction without its operand takes the underflow trap: PC 4, TRAP_CAUSE 3. -/
theorem test_underflow : outcome (fun s => (s.trowelH.pc, s.trowelH.trapCause, s.trowelH.trapActive)) (exec (.drop 0) (withCore 0 [0x03] [])) =
    some (4, 3, true) := by decide +kernel

/-! ## Trowel-H: I/O space, interrupts, traps, applets -/

/-- A chain of reads, writes, pops and pushes that completes. -/
def completes {α : Type} (x : TR α) : Bool := match x with | .ok _ => true | .error _ => false

def ioIn : State := withCore 0 [0x50] [0x00, 0x02]
def ioOut : State := withCore 0 [0x51] [0x00, 0x0C, 0x80]
def ioA (op : Nat) (stack : List Nat) : State := withCore 0 [op, 0x38, 0x00] stack

theorem witness_trowelIoInstructions :
    (atOp 0x50 ioIn.trowelH && completes (do
      let (a, s1) ← (passPc 0 ioIn).popW 0
      let (v, s2) ← s1.instrRead 0 a
      s2.pushB 0 v)) = true ∧
    (atOp 0x51 ioOut.trowelH && completes (do
      let (a, s1) ← (passPc 0 ioOut).popW 0
      let (b, s2) ← s1.popB 0
      s2.instrWrite 0 a b)) = true ∧
    (atOp 0x52 (ioA 0x52 []).trowelH && completes (do
      let (v, s1) ← (passPc 0 (ioA 0x52 [])).instrRead 0 (ioA 0x52 []).trowelH.imm
      s1.pushB 0 v)) = true ∧
    (atOp 0x53 (ioA 0x53 [9]).trowelH && completes (do
      let (b, s1) ← (passPc 0 (ioA 0x53 [9])).popB 0
      s1.instrWrite 0 (ioA 0x53 [9]).trowelH.imm b)) = true ∧
    (atOp 0x54 (ioA 0x54 []).trowelH && completes (do
      let (v, s1) ← (passPc 0 (ioA 0x54 [])).instrRead 0 (ioA 0x54 []).trowelH.imm
      let (h, s2) ← s1.instrRead 0 ((ioA 0x54 []).trowelH.imm + 1)
      s2.pushW 0 (v + 256 * h))) = true ∧
    (atOp 0x55 (ioA 0x55 [7, 9]).trowelH && completes (do
      let (w, s1) ← (passPc 0 (ioA 0x55 [7, 9])).popW 0
      let s2 ← s1.instrWrite 0 (ioA 0x55 [7, 9]).trowelH.imm (w % 256)
      s2.instrWrite 0 ((ioA 0x55 [7, 9]).trowelH.imm + 1) (w / 256))) = true := by decide +kernel

/-- R414: OUTW to 0x0038 writes the CRC16 register. -/
theorem test_outw_crc16 : outcome (fun s => s.trowelH.crc16) (exec (.outw 0) (ioA 0x55 [0xAB, 0xCD])) = some 0xABCD := by decide +kernel

/-- R414: the I/O space of Trowel-S has no published register: the access stops by name. -/
theorem test_unpublished : (match exec (.ina 1) (withCore 1 [0x52, 0x38, 0x00] []) with
    | .refused r => decide (r = .unpublishedRegister 0x38)
    | _ => false) = true := by decide +kernel

theorem witness_registerWrite :
    running.trowelH.dsBase < 65536 ∧ running.trowelH.dsLimit < 65536 ∧ running.trowelH.dsSpill < 65536 ∧ running.trowelH.crc16 < 65536 ∧
    (running.event 127).cfg < 65536 ∧ 127 < running.events.length ∧ (running.event 127).stat = false ∧
    (0xF000 : BitVec 16).toNat ≥ 0xF000 ∧ (0xFFFF : BitVec 16).toNat ≥ 0xF000 ∧ (0x2000 : BitVec 16).toNat ≥ 0x2000 ∧
    (0xEFFF : BitVec 16).toNat < 0xF000 := by decide +kernel

/-- Queue 16 with three bytes in its producer cell. -/
def celled : State := running.modQueue 16 (fun q => { q with cell := [1, 2, 3] })
/-- Queue `n` with one entry. -/
def queued (n : Nat) (b : Bytes) : State := running.modQueue n (fun q => { q with entries := [{ data := b }] })

theorem witness_portRegisters :
    (16 < celled.queues.length ∧ (celled.queue 16).cell.length < queueCell 16) ∧
    queueCell 16 ≤ ((running.modQueue 16 (fun q => { q with cell := List.replicate 64 0 })).queue 16).cell.length ∧
    ((3 : BitVec 16).toNat ≤ queueCell 16 ∧ (3 : BitVec 16).toNat ≤ (celled.queue 16).cell.length ∧ waitQueue 16 = false) ∧ (waitQueue 29 = true ∧ celled.hasRoom 29 = true) ∧
    ((0 : BitVec 16).toNat = 0 ∧ queueCell 16 < (65 : BitVec 16).toNat ∧ (celled.queue 16).cell.length < (4 : BitVec 16).toNat) ∧
    ((queued 16 [5]).queue 16).entries = [{ data := [5] }] ∧ ((queued 16 [5]).queue 16).popPos < 1 ∧ (0 : Byte) ≠ 1 := by decide +kernel

/-- R416: the length of an entry is what PUSH_LEN says, and the producer cell is empty after it. -/
theorem test_push_len : outcome (fun s => ((s.queue 16).entries.map (·.data), (s.queue 16).cell, (s.queue 16).produced))
    (exec (.pushLen 16 2) celled) = some ([[1, 2]], [], 1) := by decide +kernel

/-- A source that is up, enabled and routed to Trowel-H with vector 3 (R109, R110). -/
def vectored (op : Nat) : State :=
  (running.setCore 0 { coreAt 0 [op, 0] [] with ie := true }).modEvent 40 (fun e => { e with stat := true, cfg := 0x0303 })

theorem witness_vectorsAndWait :
    (let s := vectored 0
     let t := s.trowelH
     t.loaded = true ∧ t.halted = false ∧ t.ie = true ∧ t.waiting = false ∧ t.pwrMode = 0 ∧ t.rs.length < 64 ∧ s.takable 3 = true ∧
     ∀ n < 8, 3 < n → s.takable n = false) ∧
    (let s := vectored 0x9E
     let t := s.trowelH
     t.bankPresent t.cbank = true ∧ t.opcode = 0x9E ∧ t.pwrMode = 0 ∧ s.takable 3 = true) ∧
    (let s := withCore 0 [0x9E] []
     let t := s.trowelH
     t.loaded = true ∧ t.halted = false ∧ t.bankPresent t.cbank = true ∧ t.opcode = 0x9E ∧ t.pwrMode = 0 ∧ t.pc < 65536 ∧
     ∀ n < 8, s.takable n = false) := by decide +kernel

/-- R409: vector 3 is served at 0x0014 with ISR bit 3 set. -/
theorem test_vector : outcome (fun s => (s.trowelH.pc, s.trowelH.isr)) (exec .vectorTaken (vectored 0)) = some (0x14, 8) := by decide +kernel

/-- A core whose trap is active. -/
def trapped : State := running.setCore 0 { coreAt 0 [0x03] [] with trapActive := true }

theorem witness_trapEntry :
    (let s := withCore 0 [0x03] []
     s.trowelH.runs = true ∧ s.trapCause 0 = some 3 ∧ s.trowelH.rs.length < 64 ∧ s.trowelH.trapActive = false) ∧
    (trapped.trowelH.runs = true ∧ trapped.trapCause 0 = some 3 ∧ trapped.trowelH.rs.length < 64 ∧ trapped.trowelH.trapActive = true) := by decide +kernel

theorem witness_emptyStack : [0x03, 0x05, 0x07, 0x08, 0x10, 0x11, 0x1E, 0x20, 0x30, 0x3B, 0x40, 0x41, 0x45, 0x92, 0x95, 0x98, 0xA0, 0xA8, 0xA9, 0x5D].all
    (fun op => [0, 1].all (fun c =>
      let t := (withCore c [op] []).core c
      t.runs && t.bankPresent t.cbank && (t.opcode == op) && t.stack.isEmpty)) = true := by decide +kernel

/-- Applet code at SYS with service `n`, with a stack, called by firmware. -/
def applet (n : Nat) (stack : List Nat) : State :=
  { running.setCore 0 { coreAt 0 [] stack with code := bytesAt 0x60000 [0x9B, n], cbank := 6, rs := [0x10], calls := [1] } with
    applet := { running := true, init := 0, table := [(0x8001, 1, 6, 0x20, false)] }
    executing := some { opcode := 0x8001, ticket := {}, role := 3, keyId := 1, depth := 1 } }

theorem witness_services :
    (atService 1 (applet 1 [0, 1, 0, 2, 0xC0, 0]).trowelH && completes (do
      let (_, s1) ← (passPc 0 (applet 1 [0, 1, 0, 2, 0xC0, 0])).popW 0
      let (w, s2) ← s1.popW 0
      let (a, s3) ← s2.popW 0
      s3.trowelH.loadBytes a w)) = true ∧
    (atService 2 (applet 2 [1, 4, 0xC0, 0]).trowelH && completes (do
      let (id, s1) ← (passPc 0 (applet 2 [1, 4, 0xC0, 0])).popW 0
      let (a, s2) ← s1.popW 0
      let t ← s2.trowelH.storeBytes a (s2.paramItem id (s2.shownParam id)).value
      let _ ← State.pushW 0 Status.ok.code { s2 with trowelH := t }
      if s2.sysGetStatus id = .ok then pure () else trapOut 0)) = true ∧
    (atService 3 (applet 3 [1, 4, 0xC0, 0]).trowelH && completes (do
      let (id, s1) ← (passPc 0 (applet 3 [1, 4, 0xC0, 0])).popW 0
      let (a, s2) ← s1.popW 0
      let v ← ({ s2.trowelH with data := bytesAt 0xC000 [0x88, 0x13, 0, 0] } : Trowel).loadBytes a (paramBytes id)
      let _ ← (s2.sysSet true id v).2.pushW 0 Status.ok.code
      if (s2.sysSet true id v).1 = .ok then pure () else trapOut 0)) = true ∧
    (atService 4 (applet 4 [0, 1, 0xC0, 0]).trowelH && completes (do
      let (w, s1) ← (passPc 0 (applet 4 [0, 1, 0xC0, 0])).popW 0
      let (a, s2) ← s1.popW 0
      let v ← s2.trowelH.loadBytes a w
      let _ ← (s2.sysRecord true v).2.pushW 0 Status.ok.code
      if (s2.sysRecord true v).1 = .ok ∧ 1 ≤ w ∧ w ≤ 32 then pure () else trapOut 0)) = true ∧
    (atService 6 (applet 6 []).trowelH && completes (do
      let s1 ← (passPc 0 (applet 6 [])).pushW 0 0
      s1.pushW 0 0)) = true ∧
    (atService 7 (applet 7 [0, 16, 0xC0, 0]).trowelH && completes (do
      let (w, s1) ← (passPc 0 (applet 7 [0, 16, 0xC0, 0])).popW 0
      let (a, s2) ← s1.popW 0
      let _ ← s2.trowelH.loadBytes a w
      if w ≤ 16 then pure () else trapOut 0)) = true := by decide +kernel

/-- An applet that drives balls 0 to 3 (GPIO_DIR, R54). -/
def appletGpio : State :=
  let s := applet 5 [0, 0, 0, 1, 0, 0, 0, 3]
  { s with nv := { s.nv with params := [(0x4800, 15)] }, inForce := [(0x4800, 15)] }

/-- R420: the mask is on top of the levels. -/
theorem witness_serviceGpio :
    (atService 5 appletGpio.trowelH && completes (do
      let (mask, s1) ← (passPc 0 appletGpio).popGpios 0
      let (w, s2) ← s1.popGpios 0
      let _ ← (s2.gpioSet w mask).pushW 0 Status.ok.code
      if s2.gpioRefusal mask = none ∧ onlyBits s2.gpioBonded mask = true then pure () else trapOut 0)) = true := by decide +kernel

/-- A packet of the applet's opcode at the head of Q00 (R72, R419). -/
def appletAsked : State :=
  let s := queued 0 (packet 0 0x8001 1 1 [])
  { s with trowelH := { coreAt 0 [] [] with loaded := true }, applet := (applet 1 []).applet }

theorem witness_appletHandlers :
    appletAsked.appletEntry appletAsked.headOpcode = some (0x8001, 1, 6, 0x20, false) ∧ appletAsked.trowelH.mayCall = true ∧
    (applet 1 []).executing.isSome = true ∧ (applet 1 []).executing.all (fun x => decide (x.due ≤ (applet 1 []).up)) = true ∧ (applet 1 []).applet.running = true := by decide +kernel

theorem witness_appletReturn :
    let t := { (applet 1 []).trowelH with code := bytesAt 0x60000 [0x96] }
    atOp 0x96 t = true ∧ t.inApplet = true ∧ t.rs = [0x10] ∧ t.calls.head? = some t.rs.length ∧ 0x10 / 65536 % 8 < 6 ∧
    (applet 1 []).executing.map (·.depth) = some 1 ∧ ({ opcode := 0x8001, ticket := {}, role := 3, keyId := 1, depth := 2 } : Executing).depth ≠ t.rs.length := by
  decide +kernel

/-- The applet with the value 5000 at 0xC000. -/
def appletData : State :=
  let s := applet 3 [1, 4, 0xC0, 0]
  { s with trowelH := { s.trowelH with data := bytesAt 0xC000 [0x88, 0x13, 0, 0] } }

theorem witness_appletServices :
    (let s := applet 1 [0, 1, 0, 2, 0xC0, 0]
     s.trowelH.dsSpill ≤ s.trowelH.dsBase ∧ atService 1 s.trowelH = true ∧ windowed 0xC000 2) ∧
    (let s := applet 2 [1, 4, 0xC0, 0]
     atService 2 s.trowelH = true ∧ s.sysGetStatus 0x0104 = .ok ∧ windowed 0xC000 (s.paramItem 0x0104 (s.shownParam 0x0104)).value.length) ∧
    (let r := (served [] appletData).sysSet true 0x0104 (dataAt appletData.trowelH 0xC000 (paramBytes 0x0104))
     atService 3 appletData.trowelH = true ∧ windowed 0xC000 (paramBytes 0x0104) ∧ r.1 = .ok ∧ r.2.trowelH.stack.length ≤ 28) ∧
    (let s := applet 4 [0, 1, 0xC0, 0]
     let r := (served [] s).sysRecord true (dataAt s.trowelH 0xC000 1)
     atService 4 s.trowelH = true ∧ windowed 0xC000 1 ∧ s.power.holdReady = true ∧ r.1 = .ok ∧ r.2.trowelH.stack.length ≤ 28) ∧
    (atService 5 appletGpio.trowelH = true ∧ appletGpio.gpioRefusal 1 = none ∧ onlyBits appletGpio.gpioBonded 1 = true ∧
      ((served [] appletGpio).gpioSet 3 1).trowelH.stack.length ≤ 28) ∧
    (atService 6 (applet 6 []).trowelH = true ∧ (applet 6 []).trowelH.stack = []) ∧
    (atService 7 (applet 7 [0, 16, 0xC0, 0]).trowelH = true ∧ windowed 0xC000 16 ∧ (served [] (applet 7 [])).trowelH.stack.length ≤ 28) := by
  decide +kernel

/-! ## Screed -/

/-- An instruction word (R229). -/
def sWord (op d a b m : Nat) : Nat := op * 2 ^ 56 + d * 2 ^ 40 + a * 2 ^ 24 + b * 2 ^ 8 + m

/-- The foreground is at that instruction of bank A; V0 of lane 0 holds 3, V1 holds 2³¹ − 1. -/
def fgAt (op d a b m : Nat) : State :=
  let x := running.screed
  { running with screed := { x with
      passOpen := true
      fg := { on := true }
      bankA := { words := [sWord op d a b m], entry := 1, loaded := true }
      f := { x.f with v := [(0, 3), (1, 2147483647)] } } }

/-- The customer background program is at that instruction (R206). -/
def custAt (op d a b m : Nat) : State :=
  let x := running.screed
  { running with screed := { x with
      cust := { on := true, pc := 0x7400 }
      custBank := { words := [sWord op d a b m], entry := 1, loaded := true }
      b := { x.b with v := [(0, 3), (1, 2147483647)] } } }

/-- `Issues` of the statements, evaluated. -/
def issues (op who : Nat) (s : State) : Bool :=
  decide (s.issuer = some who) && (match s.fetchIns who with
    | some i => decide (i.op = op) && ((s.landDue who (s.sctx who).slot).badPosition who i).isNone
    | none => false)

theorem witness_screedIssues :
    [0x02, 0x10, 0x11, 0x12, 0x13, 0x14, 0x15, 0x17, 0x18, 0x19, 0x1A, 0x1B, 0x30, 0x31, 0x32, 0x33, 0x34, 0x35, 0x36,
      0x20, 0x21, 0x22, 0x23, 0x24, 0x00, 0x01, 0x16, 0x40, 0x50, 0x51, 0x54, 0x55, 0x56, 0x58, 0x59, 0x5A, 0x5B].all
      (fun op => issues op 0 (fgAt op 2 0 1 0) && issues op 1 (custAt op 2 0 1 0)) = true := by decide +kernel

theorem witness_screedRows :
    [(Instr.clr, 0x02), (.screedAdd, 0x10), (.screedSub, 0x11), (.screedNeg, 0x12), (.abs, 0x13), (.min, 0x14), (.max, 0x15),
      (.screedAnd, 0x17), (.screedOr, 0x18), (.screedXor, 0x19), (.adda, 0x1A), (.suba, 0x1B), (.cmpeq, 0x30), (.cmpne, 0x31),
      (.cmplt, 0x32), (.cmple, 0x33), (.cand, 0x34), (.cor, 0x35), (.cnot, 0x36)].all
      (fun p => match laneRow p.1 with | some (op, _, _) => decide (op = p.2) | none => false) = true ∧
    [(Instr.mul, 0x20), (.mac, 0x21), (.msu, 0x22), (.mula, 0x23), (.muls, 0x24)].all (fun p => decide (productRow p.1 = some p.2)) = true :=
  by decide +kernel

/-- R240, R241: ADD of 3 and 2³¹ − 1 into V2 saturates and counts one clamp of lane 0 (R203). -/
theorem test_screed_add : outcome (fun s => (Table.get 0 2 s.screed.f.v, s.counter 0x20 6, s.screed.satMask))
    (exec .screedAdd (fgAt 0x10 2 0 1 0)) = some (2147483647, 1, 1) := by decide +kernel
/-- The same with WRAP: 2³¹ + 2 as a 32-bit word, and no clamp. -/
theorem test_screed_add_wrap : outcome (fun s => (Table.get 0 2 s.screed.f.v, s.counter 0x20 6))
    (exec .screedAdd (fgAt 0x10 2 0 1 8)) = some (2147483650, 0) := by decide +kernel
/-- R243: a product is due in slot n + 3 and P3 holds it once it has landed. -/
theorem test_screed_mul : outcome (fun s => s.screed.f.flight.map (fun p => (p.due, p.lanes.head?))) (exec .mul (fgAt 0x20 3 0 1 0)) =
    some [(3, some (0, 6442450941))] := by decide +kernel

/-- Context F with one product whose slot has come. -/
def landing (op m : Nat) : State :=
  let x := running.screed
  { running with screed := { x with f := { x.f with slot := 3, flight := [{ due := 3, op := op, reg := 1, mod := m, lanes := [(0, 5)] }] } } }

theorem witness_productLands : (landing 0x20 0).screed.f.flight = [{ due := 3, op := 0x20, reg := 1, mod := 0, lanes := [(0, 5)] }] ∧
    3 ≤ (landing 0x20 0).screed.f.slot := by decide +kernel
/-- R200: CF moves a product by three bits into the accumulator. -/
theorem test_product_cf : outcome (fun s => Table.get 0 1 s.screed.f.acc) (exec (.productLands false) (landing 0x21 4)) = some 40 := by decide +kernel

/-- R202: rounding half up at d = 31: 2³⁰ rounds to 1, FLOOR gives 0; both signs. -/
theorem test_narrow : narrow false false 31 1073741824 = (1, false) ∧ narrow true false 31 1073741824 = (0, false) ∧
    narrow false false 31 (-1073741824) = (0, false) ∧ narrow false false 1 (2 ^ 40) = (2147483647, true) ∧
    narrow false true 1 (2 ^ 40) = (0, false) := by decide +kernel

/-- R201: 2⁷¹ wraps to −2⁷¹ and counts in GUARD_OVF of the lane. -/
theorem test_acc_wraps : Table.get 0 0 (running.putAcc 0 0 0 (2 ^ 71)).screed.f.acc = 2 ^ 71 ∧ (running.putAcc 0 0 0 (2 ^ 71)).counter 0x20 7 = 1 ∧
    (running.putAcc 0 15 7 (2 ^ 71 - 1)).counter 0x20 37 = 0 := by decide +kernel

theorem witness_screedMoves :
    (issues 0x01 0 (fgAt 0x01 0x8000 0 0 0) = true ∧ sMode 0x8000 = 8) ∧
    (issues 0x01 0 (fgAt 0x01 2 0x8000 0 0) = true ∧ sMode 2 ≠ 8 ∧ sMode 0x8000 = 8) ∧
    (issues 0x01 0 (fgAt 0x01 2 0x7000 0 0) = true ∧ sMode 0x7000 = 7) ∧
    (issues 0x01 0 (fgAt 0x01 2 0 0 0) = true ∧ sMode 0 ≠ 7 ∧ sMode 0 ≠ 8) := by decide +kernel

/-- R241: ASH by −1 rounds half up: 3 becomes 2. -/
theorem test_ash : outcome (fun s => Table.get 0 2 s.screed.f.v) (exec .ash (fgAt 0x16 2 0 0x9FFF 0)) = some 2 := by decide +kernel

theorem witness_screedControl :
    ((custAt 0x54 1 0 0 0).sprog 1).pc < 0x7400 + (custAt 0x54 1 0 0 0).screed.custBank.words.length ∧
    (let s := (custAt 0x54 1 0 0 0).modSprog 1 (fun p => { p with pc := 0x7401 })
     issues 0x54 1 s = true ∧ 0x7400 + s.screed.custBank.words.length ≤ (s.sprog 1).pc) := by decide +kernel

/-- R248: a JMP by −1 from word 0 of the bank goes to word 0x7FFF, which does not exist for the foreground (R251). -/
theorem test_screed_jmp : outcome (fun s => (s.sprog 0).pc) (exec .screedJmp (fgAt 0x54 2 0 0 0)) = some 2 := by decide +kernel
/-- R245: LOOP with an immediate count of 2 and a body of one word. -/
theorem test_screed_loop : outcome (fun s => s.screed.f.loops.head?) (exec .screedLoop (fgAt 0x50 1 0x9002 0 0)) =
    some (some { ls := 1, le := 1, lc := 2 }) := by decide +kernel

theorem witness_screedSequences :
    issues 0x51 0 (fgAt 0x51 0 0x9003 5 0) = true ∧
    (let s := fgAt 0x52 0 0 0 0
     s.issuer = some 0 ∧ (s.fetchIns 0).isSome = true ∧ (s.fetchIns 0).map (·.op) = some 0x52) ∧
    (let s := (fgAt 0x52 0 0 0 0).modSprog 0 (fun p => { p with pc := 0x3000 })
     s.issuer = some 0 ∧ s.fetchIns 0 = none) ∧
    (let s := custAt 0x53 0 0x9028 0 0
     s.issuer = some 1 ∧ (s.fetchIns 1).map (·.op) = some 0x53) ∧
    (let s := ((custAt 0x53 0 0x9028 0 0).modSprog 1 (fun p => { p with wait := some 40 })).modEvent 40
       (fun e => { e with stat := true, cfg := 9 })
     (s.sprog 1).wait = some 40 ∧ (s.event 40).stat = true ∧ (s.event 40).toScreed = true) := by decide +kernel

/-- R251: word 0x6E00 is not the foreground's: position 1 faults. -/
theorem witness_screedBadOperand :
    let s := fgAt 0x10 2 0x1E00 1 0
    let s := { s with screed := { s.screed with f := { s.screed.f with dpage := 6 } } }
    s.issuer = some 0 ∧ (s.fetchIns 0).map (·.op) = some 0x10 ∧
    (s.fetchIns 0).bind (fun i => (s.landDue 0 (s.sctx 0).slot).badPosition 0 i) = some 1 := by decide +kernel

/-- A load of three words that waits for its work (R257). -/
def loading : State :=
  let x := running.screed
  { running with screed := { x with loads := [{ part := 0, target := 1, entry := 4, offset := 0, words := [1, 2, 3], ticket := {}, role := 3, keyId := 1 }] } }

/-- The air temperature comes from UART `n` (SRC_AIR, R275). -/
def airFrom (n : Nat) : State := { running with nv := { running.nv with params := [(0x2003, n + 1)] }, inForce := [(0x2003, n + 1)] }

theorem witness_screedEvents :
    (loading.screed.loads.map (fun w => (w.part, w.words.length)) = [(0, 3)] ∧ loading.libUsed + 8 * 3 ≤ 1048576) ∧
    ((airFrom 2).param 0x2003 = 3) ∧
    parseTemp [0x54, 0x2B, 0x32, 0x31, 0x2E, 0x35, 0x30, 0x0D, 0x0A] = some 2150 ∧ parseTemp [0x54] = none ∧
    (let s := { running with screed := { running.screed with airTemp := [(0, (2000, 0))] } }
     s.airTempOf = some (2000, 0) ∧ (0 : Nat) + s.param 0x2005 * qtSec < s.up) ∧
    (running.power.mode.serves = true ∧ (scrubPlace (.data 15 0)).2.1 < running.laneCount) ∧
    (let s := { running with screed := { running.screed with fetching := [255] } }
     s.screed.fetching.contains (4 * (63 : Fin 64).val + (3 : Fin 4).val) = true ∧ s.screed.fetched 255 = false) ∧
    (let s := { running with screed := { running.screed with reloads := [running.screed.activeB], halted := true } }
     s.screed.reloads = [s.screed.activeB] ∧ s.screed.bgReload = 0) := by decide +kernel

/-- R257: BEGIN stages the words announced. -/
theorem test_load_begin : outcome (fun s => s.screed.staging.map (fun g => (g.target, g.entry, g.total))) (exec (.screedLoadDone true) loading) =
    some (some (1, 4, 3)) := by decide +kernel
/-- R275: T+21.50. -/
theorem test_air_temp : outcome (fun s => s.screed.airTemp)
    (exec (.airTempLine 2 [0x54, 0x2B, 0x32, 0x31, 0x2E, 0x35, 0x30, 0x0D, 0x0A]) (airFrom 2)) = some [(3, (2150, running.up))] := by decide +kernel

theorem witness_sampleTick : running.sampleTicks = true ∧ (running.wireUp (running.indexInstant running.nextIndex)).sampleTicks = true := by
  decide +kernel

theorem witness_foreground :
    (let s := { running with screed := { running.screed with bankA := { words := [1], entry := 1, loaded := true } } }
     s.screed.active.loaded = true ∧ s.screed.halted = false) ∧ running.screed.active.loaded = false := by decide +kernel

/-- R207: the first sample tick after a reset carries index 0, the next 1; INDEX counts them. -/
theorem test_sample_tick : outcome (fun s => (s.screed.ticked, s.screed.passOpen, s.counter 0x20 0)) (exec (.sampleTick 0) running) =
    some (true, false, 1) := by decide +kernel

/-! ## Host commands -/

/-- A firmware image for Trowel-H of one byte of code under the key 0x0100, signed outside this model with the key pair of
RFC 8032 whose secret is the bytes 0 to 31 (R492). -/
def testImage : Bytes :=
  [0x49, 0x4D, 0x47, 0x31, 0x00, 0x00, 0x00, 0x01, 0x01, 0x00, 0x00, 0x00, 0x00, 0x00, 0x00, 0x00, 0x01, 0x00, 0x00, 0x00, 0x00, 0x00, 0x00, 0x00,
   0x00, 0x00, 0x00, 0x00, 0x00, 0x00, 0x00, 0x00, 0x00, 0xAF, 0x34, 0x7B, 0x04, 0x95, 0xF7, 0x23, 0x65, 0xC6, 0x98, 0x5D, 0xC2, 0xD8, 0x8E, 0x77,
   0xBB, 0x73, 0xFE, 0x8E, 0x45, 0xDC, 0xFB, 0x0E, 0x82, 0xFC, 0xFF, 0x58, 0x2D, 0x7C, 0xCD, 0xFD, 0xE6, 0x2E, 0xFD, 0x86, 0x16, 0x49, 0x1F, 0xA4,
   0xBD, 0xA7, 0x95, 0x8B, 0xCC, 0x6C, 0x6C, 0x29, 0xBA, 0x40, 0xCB, 0x03, 0x99, 0x2B, 0x6B, 0xA4, 0x9F, 0x62, 0xDF, 0x0B, 0xC9, 0x9A, 0x94, 0x14,
   0x01]

/-- The public key of that pair. -/
def testKey : Bytes := [0x03, 0xA1, 0x07, 0xBF, 0xF3, 0xCE, 0x10, 0xBE, 0x1D, 0x70, 0xDD, 0x18, 0xE7, 0x4B, 0xC0, 0x99, 0x67, 0xE4, 0xD6, 0x30, 0x9B, 0xA5, 0x0D, 0x5F, 0x1D, 0xDC, 0x86, 0x64, 0x12, 0x55, 0x31, 0xB8]

/-- The part in Run (manager): session 1 open as maker, a ready result slot, GPIO0–3 as outputs, a step that asks, a library entry and a
staged one, three keys, a figure of station 62, and the image in slot 1 of Trowel-H. -/
def hostState : State :=
  let s := running.modSession 1 (fun _ => { state := .opened, role := 3, keyId := 1, idleLimit := 1000 })
  { s with
    slots := modAt 9 (fun _ => { seq := 5, ready := true, owner := some 1, allocated := true, data := [1, 2, 3] }) s.slots
    inForce := [(0x4300, 0x06041100), (0x4800, 15)]
    plumb := { s.plumb with state := 2, source := 1, step := some { id := 3, policy := 1, offset := 5, applyAt := none } }
    screed := { s.screed with staging := some { target := 1, entry := 4, total := 2 } }
    radio := { s.radio with locks := List.replicate 3 { permitted := true, rates := 7, channels := 0xFFFF, maxCond := 40, maxEirp := 80, duty := 100 } }
    modem := { s.modem with quality := [(62, [1])] }
    nv := { s.nv with
      params := [(0x4300, 0x06041100), (0x4800, 15)]
      library := [{ entry := 5, target := 1, words := [0] }]
      keys := [{ keyId := 0x0100, kind := 4, revoked := false, pub := testKey }, { keyId := 2, kind := 2, revoked := false, pub := [] }]
      images := modAt 1 (fun _ => { length := 97, bytes := Table.setList 0 0 testImage [] }) s.nv.images } }

/-- The same in Maintenance. -/
def inMaintenance : State := { hostState with power := { hostState.power with mode := .maintenance } }

/-- The same with a local and a cell commit an hour ahead. -/
def committing : State := { hostState with screed := { hostState.screed with commits :=
  [{ what := 1, index := 1 + 48000 * 3000, cell := false }, { what := 1, index := 1 + 48000 * 3000, cell := true }] } }

/-- The same with no estimate of time (R172). -/
def freeRunning : State := { hostState with plumb := { hostState.plumb with state := 0 } }

/-- The same with a trial of slot 1 running. -/
def onTrial : State :=
  { hostState with
    nv := { hostState.nv with boot := { hostState.nv.boot with trial := some (0, 1) } }
    steward := { hostState.steward with trialRunning := true, trialEnd := 2000 * qtSec } }

/-- With a packet of an opcode, a session and items at the head of Q00 (R72). -/
def asked (op session : Nat) (items : List Item) (s : State) : State :=
  s.modQueue 0 (fun q => { q with entries := [{ data := packet 0 op 7 session (itemBytes items), credit := true }] })

/-- Every hypothesis of the statement, evaluated: the packet is sound, the session stands, the SEQ is fresh, the checks pass and the
body's status is OK or ACCEPTED. -/
def hostMet (i : Instr) (op session : Nat) (items : List Item) (s0 : State) : Bool :=
  let s := asked op session items s0
  match commandOf s i with
  | none => false
  | some k =>
    let p := parsePacket (packet 0 op 7 session (itemBytes items))
    let c := commandAs p items s
    let u := taken p s
    let st := (k.body c u).status
    s.hostRdy && s.executing.isNone && p.crcOk && decide (p.version = 1) && decide (p.flags = 0) && decide (p.opcode = k.opcode) &&
    decide (parseItems p.payload = some items) && k.selects items && k.shape items &&
    (if p.opcode = 0x0111 then s.reserved p.session else s.sessionOpen p.session) && (s.session p.session).baseline.isNone &&
    (k.ownChecks ||
     (!k.absent u c.items && decide (k.role ≤ c.role) && decide (k.roleOf c.items ≤ c.role) && decide (c.session ≠ 0) && !k.locked u c.items &&
      (k.naming u c).isNone && !u.rst.recovery && (!k.maintenance || decide (u.power.mode = .maintenance)) && (!k.journals || u.power.holdReady))) &&
    (decide (st = .ok) || decide (st = .accepted))

theorem witness_hostCommands0 :
  [(.identityGet, 0x0010, [], hostState),
   (.modeSet, 0x0011, [{ id := 0x0011, value := le 1 4 }], hostState),
   (.deviceReset, 0x0012, [], hostState),
   (.echo, 0x0013, [{ id := 0x7777, value := le 2 513 }], hostState),
   (.sessionChallenge, 0x0110, [], hostState),
   (.sessionClose, 0x0112, [], hostState),
   (.sessionList, 0x0113, [], hostState),
   (.resultRead, 0x0114, [{ id := 0x0114, value := le 1 9 ++ le 1 0 ++ le 2 3 ++ le 4 0 ++ le 4 5 }], hostState),
   (.resultRelease, 0x0115, [{ id := 0x0115, value := le 1 9 ++ le 3 0 ++ le 4 5 }], hostState),
   (.portStatusClear, 0x0116, [{ id := 0x0116, value := le 4 272 }], hostState),
   (.queueStatusGet, 0x0210, [{ id := 0x0210, value := le 1 31 ++ le 1 1 }], hostState),
   (.queueFlush, 0x0211, [{ id := 0x0211, value := le 1 3 }], hostState),
   (.eventRouteSet true, 0x0310, [{ id := 0x0310, value := le 1 126 ++ le 1 127 ++ le 2 2 }], hostState),
   (.eventClear, 0x0311, [{ id := 0x0311, value := le 16 0 }], hostState),
   (.dmaProgramLoad true, 0x0410, [{ id := 0x0410, value := le 1 15 ++ le 1 3 ++ le 2 1 ++ le 8 0 }], hostState),
   (.dmaStart, 0x0411, [{ id := 0x0411, value := le 1 15 }], hostState)].all
  (fun p : Instr × Nat × List Item × State => hostMet p.1 p.2.1 1 p.2.2.1 p.2.2.2) = true := by decide +kernel

theorem witness_hostCommands1 :
  [(.dmaStop, 0x0412, [{ id := 0x0412, value := le 1 0 }], hostState),
   (.gpioWrite, 0x4810, [{ id := 0x4810, value := le 4 5 ++ le 4 15 }], hostState),
   (.gpioRead, 0x4811, [], hostState),
   (.channelAssign, 0x1210, [{ id := 0x1210, value := le 1 255 ++ le 1 1 ++ le 1 1 ++ le 1 0 ++ le 4 0 ++ le 4 0 ++ qtBytes (1000 * qtSec) ++ le 2 0 }], hostState),
   (.channelRelease, 0x1211, [{ id := 0x1211, value := le 1 127 }], hostState),
   (.timeGet, 0x1310, [], hostState),
   (.positionSet true, 0x1311, [{ id := 0x1311, value := le 8 63710000000 ++ le 8 0 ++ le 8 0 ++ le 4 1 ++ le 1 1 ++ le 3 0 }], hostState),
   (.surveyStart, 0x1312, [{ id := 0x1312, value := le 4 60 ++ le 4 100 }], hostState),
   (.stepApprove, 0x1313, [{ id := 0x1313, value := le 2 3 ++ le 1 1 ++ le 1 0 }], hostState),
   (.pulseConfig true, 0x1314, [{ id := 0x1314, value := le 1 5 ++ le 1 1 ++ le 2 0 ++ le 8 1000000000 ++ le 4 100000000 ++ le 4 0 ++ le 4 0 }], hostState),
   (.markConfig true, 0x1315, [{ id := 0x1315, value := le 1 3 ++ le 1 1 ++ le 2 1 ++ le 4 0 }], hostState),
   (.antBiasSet true, 0x1010, [{ id := 0x1010, value := le 1 1 ++ le 1 1 ++ le 1 60 ++ le 1 0 }], hostState),
   (.searchStart, 0x1110, [{ id := 0x1110, value := le 1 1 ++ le 1 0 ++ le 1 10 ++ le 1 64 ++ le 1 1 ++ le 1 2 ++ le 1 0 ++ le 1 0 ++ le 4 0 ++ le 2 0 ++ le 2 0 }], hostState),
   (.searchStop, 0x1111, [], hostState),
   (.assistLoad, 0x1112, [{ id := 0x1112, value := le 1 1 ++ le 1 1 ++ le 1 0 ++ le 1 0 }], hostState),
   (.screedLoadBegin, 0x2010, [{ id := 0x2010, value := le 1 0 ++ le 1 1 ++ le 2 4 ++ le 2 0 ++ le 2 2 }], hostState)].all
  (fun p : Instr × Nat × List Item × State => hostMet p.1 p.2.1 1 p.2.2.1 p.2.2.2) = true := by decide +kernel

theorem witness_hostCommands2 :
  [(.screedLoadData, 0x2010, [{ id := 0x2010, value := le 1 1 ++ le 1 1 ++ le 2 4 ++ le 2 0 ++ le 2 1 ++ le 8 0 }], hostState),
   (.screedLoadEnd, 0x2010, [{ id := 0x2010, value := le 1 2 ++ le 1 1 ++ le 2 4 ++ le 2 0 ++ le 2 0 }], hostState),
   (.screedLoadLoad, 0x2010, [{ id := 0x2010, value := le 1 3 ++ le 1 1 ++ le 2 5 ++ le 2 0 ++ le 2 0 }], hostState),
   (.screedLoadDelete, 0x2010, [{ id := 0x2010, value := le 1 4 ++ le 1 1 ++ le 2 5 ++ le 2 0 ++ le 2 0 }], hostState),
   (.screedCommit, 0x2011, [{ id := 0x2011, value := le 1 1 ++ le 3 0 ++ le 8 0 }], hostState),
   (.screedCommitCancel, 0x2011, [{ id := 0x2011, value := le 1 129 ++ le 3 0 ++ le 8 0 }], committing),
   (.coefWrite true, 0x2012, [{ id := 0x2012, value := le 2 4095 ++ le 2 32769 ++ le 2 1 ++ le 2 0 ++ le 4 7 }], hostState),
   (.glideStart, 0x2013, [{ id := 0x2013, value := le 1 255 ++ le 1 0 ++ le 2 0 ++ le 2 1 ++ le 2 0 ++ le 4 1 ++ le 2 10 ++ le 2 0 ++ le 8 0 }], hostState),
   (.glideAbort, 0x2013, [{ id := 0x2013, value := le 1 63 ++ le 1 1 ++ le 2 0 ++ le 2 1 ++ le 2 0 ++ le 4 1 ++ le 2 10 ++ le 2 0 ++ le 8 0 }], hostState),
   (.geometrySet true, 0x2014, [{ id := 0x2014, value := le 1 0 ++ le 1 15 ++ le 1 1 ++ le 1 0 ++ le 8 63710000000 ++ le 8 0 ++ le 8 0 ++ le 4 0 }], hostState),
   (.airTempSet, 0x2015, [{ id := 0x2015, value := le 2 6000 }], hostState),
   (.delayDescSet true, 0x2110, [{ id := 0x2110, value := le 1 63 ++ le 1 0 ++ le 1 1 ++ le 1 0 ++ le 4 0 ++ le 4 2 ++ le 16 0 }], hostState),
   (.aesCsSet true, 0x2310, [{ id := 0x2310, value := le 1 7 ++ le 1 3 ++ le 2 0 ++ le 24 0 }], hostState),
   (.aesCsGet, 0x2311, [{ id := 0x2311, value := le 1 7 }], hostState),
   (.aesUserRead, 0x2312, [{ id := 0x2312, value := le 1 7 ++ le 2 480 }], hostState),
   (.aesUserWrite, 0x2313, [{ id := 0x2313, value := le 1 0 ++ le 1 0 ++ le 2 1 ++ le 1 5 }], hostState)].all
  (fun p : Instr × Nat × List Item × State => hostMet p.1 p.2.1 1 p.2.2.1 p.2.2.2) = true := by decide +kernel

theorem witness_hostCommands3 :
  [(.tdmStart, 0x2410, [{ id := 0x2410, value := le 1 3 ++ le 1 3 ++ le 2 0 ++ le 8 0 }], hostState),
   (.tdmStop, 0x2411, [{ id := 0x2411, value := le 1 3 ++ le 1 3 ++ le 2 0 ++ le 8 0 }], hostState),
   (.asrcAssign true, 0x2210, [{ id := 0x2210, value := le 1 7 ++ le 1 23 ++ le 1 0 ++ le 1 0 }], hostState),
   (.routeSet true, 0x2510, [{ id := 0x2510, value := le 2 0 ++ le 2 0 }], hostState),
   (.muteSet true, 0x2511, [{ id := 0x2511, value := le 2 65535 ++ le 1 1 ++ le 1 0 ++ le 8 0 }], hostState),
   (.groupSet true, 0x2512, [{ id := 0x2512, value := le 1 7 ++ le 1 1 ++ le 2 1000 ++ le 1 0 }], hostState),
   (.rfCal, 0x3010, [{ id := 0x3010, value := le 1 0 }], hostState),
   (.rfChannelSet true, 0x3011, [{ id := 0x3011, value := le 1 0 ++ le 1 5 ++ le 1 0 ++ le 1 0 ++ le 2 0 ++ le 2 0 }], hostState),
   (.tunerStatusGet, 0x3012, [{ id := 0x3012, value := le 1 2 }], hostState),
   (.locksWrite true, 0x3013, [{ id := 0x3013, value := le 1 0 ++ le 1 1 ++ le 1 1 ++ le 1 12 ++ le 2 0 ++ le 2 0 ++ le 2 0 ++ le 2 10000 ++ leInt 2 (-40) ++ le 2 0 ++ le 16 1 }], inMaintenance),
   (.modemQualityGet, 0x3110, [{ id := 0x3110, value := le 1 62 }], hostState),
   (.cellConfigSet true, 0x3210, [{ id := 0x3210, value := le 2 1 ++ le 1 62 ++ le 1 0 ++ le 1 5 ++ le 1 3 ++ le 2 500 ++ le 1 1 ++ le 1 0 ++ le 1 0 ++ le 1 0 ++ le 4 0 }], hostState),
   (.cellStatusGet, 0x3211, [], hostState),
   (.cellCommit, 0x3212, [{ id := 0x3212, value := le 1 1 ++ le 3 0 ++ le 8 0 }], hostState),
   (.cellCommitCancel, 0x3212, [{ id := 0x3212, value := le 1 129 ++ le 3 0 ++ le 8 0 }], committing),
   (.workerAdmit true, 0x3213, [{ id := 0x3213, value := le 1 62 ++ le 1 1 ++ le 2 0 ++ le 8 7 }], hostState)].all
  (fun p : Instr × Nat × List Item × State => hostMet p.1 p.2.1 1 p.2.2.1 p.2.2.2) = true := by decide +kernel

theorem witness_hostCommands4 :
  [(.workerRevoke true, 0x3213, [{ id := 0x3213, value := le 1 62 ++ le 1 0 ++ le 2 0 ++ le 8 7 }], hostState),
   (.pllStatusGet 0, 0x5010, [], hostState),
   (.rtcSetTime true, 0x5110, [{ id := 0x5110, value := le 2 2024 ++ le 1 2 ++ le 1 29 ++ le 1 23 ++ le 1 59 ++ le 1 59 ++ le 1 1 ++ le 2 0 ++ le 1 0 ++ le 1 0 }], freeRunning),
   (.rtcSetZone true, 0x5110, [{ id := 0x5110, value := le 2 0 ++ le 1 0 ++ le 1 0 ++ le 1 0 ++ le 1 0 ++ le 1 0 ++ le 1 2 ++ le 2 840 ++ le 1 0 ++ le 1 0 }], hostState),
   (.rtcGet 0, 0x5111, [], hostState),
   (.alarmSet true, 0x5112, [{ id := 0x5112, value := le 1 1 ++ le 1 1 ++ le 1 0 ++ le 9 0 }], hostState),
   (.summerTime true, 0x5113, [{ id := 0x5113, value := le 1 1 }], hostState),
   (.logExport, 0x6010, [{ id := 0x6010, value := le 4 4294967295 ++ le 4 0 }], hostState),
   (.imageWriteBegin true, 0x6110, [{ id := 0x6110, value := le 1 0 ++ le 1 0 ++ le 2 0 ++ le 4 0 ++ le 4 97 }], inMaintenance),
   (.imageWriteData true, 0x6110, [{ id := 0x6110, value := le 1 0 ++ le 1 1 ++ le 2 0 ++ le 4 93 ++ le 4 4 ++ le 4 1 }], inMaintenance),
   (.imageWriteEnd, 0x6110, [{ id := 0x6110, value := le 1 0 ++ le 1 2 ++ le 2 0 ++ le 4 0 ++ le 4 0 }], inMaintenance),
   (.imageWriteFromFlash [1, 2] true, 0x6110, [{ id := 0x6110, value := le 1 2 ++ le 1 3 ++ le 2 0 ++ le 4 0 ++ le 4 2 }], inMaintenance),
   (.bootConfirm true, 0x6112, [], onTrial),
   (.journalRead, 0x6113, [{ id := 0x6113, value := le 4 0 ++ le 2 64 ++ le 2 0 ++ le 1 0 ++ le 3 0 }], hostState),
   (.sensorRead, 0x6210, [{ id := 0x6210, value := le 1 25 }], hostState),
   (.keyAdd true, 0x6310, [{ id := 0x6310, value := le 1 0 ++ le 1 2 ++ le 2 9 ++ le 32 5 }], inMaintenance)].all
  (fun p : Instr × Nat × List Item × State => hostMet p.1 p.2.1 1 p.2.2.1 p.2.2.2) = true := by decide +kernel

theorem witness_hostCommands5 :
  [(.keyRevoke true, 0x6310, [{ id := 0x6310, value := le 1 1 ++ le 1 2 ++ le 2 2 ++ le 32 0 }], inMaintenance),
   (.pinSetEnable true, 0x6311, [{ id := 0x6311, value := le 1 1 ++ le 3 0 ++ le 8 875770417 }], hostState),
   (.pinSetDisable true, 0x6311, [{ id := 0x6311, value := le 1 0 ++ le 3 0 ++ le 8 0 }], hostState),
   (.testAccessClose true, 0x7210, [{ id := 0x7210, value := le 1 0 }], inMaintenance),
   (.testAccessOpen true, 0x7210, [{ id := 0x7210, value := le 1 1 }], inMaintenance),
   (.testAccessJtag true, 0x7210, [{ id := 0x7210, value := le 1 2 }], inMaintenance),
   (.jtagFuseBlow true, 0x7210, [{ id := 0x7210, value := le 1 3 }], inMaintenance),
   (.powerEnter, 0x7010, [{ id := 0x7010, value := le 1 1 ++ le 1 0 }], hostState),
   (.watchConfig true, 0x7011, [{ id := 0x7011, value := le 1 0 ++ le 1 0 ++ le 2 256 ++ le 4 60000 ++ le 4 1000 ++ le 2 0 ++ le 1 16 ++ le 1 0 }], hostState),
   (.resetCauseGet, 0x7110, [], hostState),
   (.paramGet, 0x0101, [{ id := 0x0104, value := [] }], hostState),
   (.paramSet true, 0x0102, [{ id := 0x0104, value := le 4 5000 }], hostState),
   (.statusGet 0 { refMeas := 0, ctsHigh := 0 }, 0x1303, [], hostState),
   (.countersGet, 0x1304, [], hostState),
   (.uartBreak, 0x4310, [{ id := 0x4310, value := le 2 10 }], hostState)].all
  (fun p : Instr × Nat × List Item × State => hostMet p.1 p.2.1 1 p.2.2.1 p.2.2.2) = true := by decide +kernel

/-- R82, R480: session 2 is reserved, and the PIN is 1234 with a salt of zeros; the proof is the PIN and 56 zeros. -/
def pinned : State :=
  let s := hostState.modSession 2 (fun _ => { state := .reserved, nonce := zeros 32 })
  { s with nv := { s.nv with pin := some (zeros 16, sha256 (zeros 16 ++ le 8 0x34333231)) } }

/-- The item of a SESSION_OPEN as operator (R91). -/
def openItem : List Item := [{ id := 0x0111, value := le 1 1 ++ le 1 0 ++ le 2 0 ++ le 4 600 ++ le 64 0x34333231 }]

theorem witness_sessionOpen : hostMet .sessionOpen 0x0111 2 openItem pinned = true := by decide +kernel

/-- R494: the image of slot 1 is valid under the key 0x0100 (SHA-256, Ed25519 of RFC 8032). -/
theorem witness_imageActivate : hostMet (.imageActivate true) 0x6111 1 [{ id := 0x6111, value := le 1 0 ++ le 1 1 }] inMaintenance = true := by
  decide +kernel

/-! The packet checks (R76, R83), on ECHO -/

/-- Any bytes as the packet at the head of Q00. -/
def headed (b : Bytes) (s : State) : State := s.modQueue 0 (fun q => { q with entries := [{ data := b, credit := true }] })

/-- What every case of the statement asks of a packet for ECHO. -/
def echoHeads (b : Bytes) : Bool :=
  let s := headed b hostState
  let p := parsePacket b
  s.hostRdy && s.executing.isNone && !(s.queue 0).entries.isEmpty && p.crcOk && decide (p.opcode = echo.opcode)

/-- A packet for ECHO with its second byte replaced, and its CRC made anew. -/
def echoVersion (v : Byte) : Bytes :=
  let b := [0x5A, v] ++ le 2 0x0013 ++ le 2 7 ++ le 2 0x1000
  b ++ le 4 (crc32 b)

theorem witness_packetChecks :
    (echoHeads (packet 0 0x0013 7 1 [1]) = true ∧ parseItems (parsePacket (packet 0 0x0013 7 1 [1])).payload = none ∧ echo.selects [] = true) ∧
    (echoHeads (echoVersion 0x40) = true ∧ (parsePacket (echoVersion 0x40)).version = 2 ∧ parseItems (parsePacket (echoVersion 0x40)).payload = some []) ∧
    (echoHeads (echoVersion 0x21) = true ∧ (parsePacket (echoVersion 0x21)).version = 1 ∧ (parsePacket (echoVersion 0x21)).flags = 1) ∧
    (let b := packet 0 0x0010 7 1 (itemBytes [{ id := 1, value := [] }])
     (parsePacket b).crcOk = true ∧ (parsePacket b).opcode = identityGet.opcode ∧ identityGet.shape [{ id := 1, value := [] }] = false ∧
     identityGet.badShape [{ id := 1, value := [] }] = []) ∧
    (echoHeads (packet 0 0x0013 7 9 []) = true ∧ hostState.sessionOpen 9 = false ∧ echo.shape [] = true) := by decide +kernel

/-- The reply at the end of Q01 after a command: its STATUS. -/
def replyStatus (o : Host.Outcome State Fault Refusal) : Option (Option Nat) :=
  outcome (fun s => (s.queue 1).entries.getLast?.map (fun e => fieldAt 8 2 e.data)) o

/-- R76: version 2 is refused with BAD_VERSION; a session that is not open with NO_SESSION; status numbers of R86. -/
theorem test_bad_version : replyStatus (exec .echo (headed (echoVersion 0x40) hostState)) = some (some Status.badVersion.code) := by decide +kernel
theorem test_no_session : replyStatus (exec .echo (headed (packet 0 0x0013 7 9 []) hostState)) = some (some Status.noSession.code) := by decide +kernel
/-- R90: ECHO answers OK with its items: 2 bytes of STATUS and 6 of the item. -/
theorem test_echo : outcome (fun s => (s.queue 1).entries.map (fun e => (fieldAt 2 2 e.data, fieldAt 8 2 e.data, e.data.length)))
    (exec .echo (asked 0x0013 1 [{ id := 0x7777, value := [1, 2] }] hostState)) = some [(0x0013, 0, 20)] := by decide +kernel

/-- Session 1 with a baseline. -/
def based (b : Nat) : State := headed (packet 0 0x0013 7 1 []) (hostState.modSession 1 (fun x => { x with baseline := some b, stored := le 2 0 }))

theorem witness_sequence :
    (based 7).hostRdy = true ∧ (based 7).sessionOpen 1 = true ∧ ((based 7).session 1).baseline = some 7 ∧ ((based 3).session 1).baseline = some 3 ∧
    (7 : Nat) ≠ (3 + 1) % 65536 ∧ (7 : Nat) = (6 + 1) % 65536 ∧ ((based 6).session 1).baseline = some 6 ∧ (0 : Nat) = (65535 + 1) % 65536 := by
  decide +kernel

/-- R83: the baseline's SEQ is answered again with REPEAT set, in FLAGS bit 2 of R72. -/
theorem test_repeat : outcome (fun s => (s.queue 1).entries.map (fun e => fieldAt 1 1 e.data)) (exec .echo (based 7)) = some [0x25] := by decide +kernel

/-- A command of a session. -/
def cmd (op session role : Nat) (items : List Item) : Cmd := { opcode := op, seq := 7, session := session, role := role, keyId := 1, items := items }

theorem witness_accessChecks :
    modeSet.absent { hostState with part := { tier := .b } } [{ id := 0x0011, value := [6] }] = true ∧
    (queueFlush.absent hostState [{ id := 0x0211, value := [3] }] = false ∧ (1 : Nat) < queueFlush.role) ∧
    (modeSet.absent hostState [{ id := 0x0011, value := [7] }] = false ∧ (1 : Nat) < modeSet.roleOf [{ id := 0x0011, value := [7] }]) ∧
    (pinned.nv.pin.isSome = true ∧ pinExempt 0x0013 = false ∧ echo.role ≤ 1) ∧
    (let s := { inMaintenance with nv := { inMaintenance.nv with keys := inMaintenance.nv.keys.take 1 } }
     (keyRevoke true).locked s [{ id := 0x6310, value := le 1 1 ++ le 1 4 ++ le 2 0x0100 ++ le 32 0 }] = true) ∧
    (echo.ownChecks = false ∧ ({ hostState with rst := { hostState.rst with recovery := true } } : State).rst.recovery = true ∧
     recoveryOpcode 0x0013 = false) ∧
    ((locksWrite true).maintenance = true ∧ hostState.power.mode ≠ .maintenance) ∧ (positionSet true).journals = true := by decide +kernel

theorem witness_directory : ∃ op role j m, directoryRow (.locksWrite true) = some (op, role, j, m) := ⟨_, _, _, _, rfl⟩

theorem witness_repliesStand : hostState.hasRoom 1 = true ∧ 1 < hostState.queues.length ∧ ([] : Bytes).length ≤ 4095 ∧
    (zeros 4095).length ≤ 4095 := by decide +kernel

/-! The port (R63–R69, R95) -/

theorem witness_readQueue :
    (hostState.portServes = true ∧ (queued 4 [1, 2]).hostMayRead 4 = true ∧ ((queued 4 [1, 2]).queue 4).entries = [{ data := [1, 2] }] ∧
     (queued 1 [1, 2]).hostMayRead 1 = true ∧ (le 2 2 ++ [1, 2] : Bytes).length = 4) ∧
    hostState.hostMayRead 16 = false := by decide +kernel

/-- R66: LENGTH, then the data, then zeros; the entry is consumed once it has been clocked out whole. -/
theorem test_read_queue : outcome (fun s => (s.port.hostOut, (s.queue 4).entries.length, (s.queue 4).consumed)) (exec (.readQueue 4 6) (queued 4 [7, 8])) =
    some ([2, 0, 7, 8, 0, 0], 0, 1) := by decide +kernel
theorem test_read_queue_short : outcome (fun s => (s.port.hostOut, (s.queue 4).entries.length)) (exec (.readQueue 4 3) (queued 4 [7, 8])) =
    some ([2, 0, 7], 1) := by decide +kernel

/-- The port in a low-power mode with a wake address (R69). -/
def asleep : State :=
  { running with power := { running.power with mode := .sleep, ready := false }, port := { running.port with wakeAddr := 0x42 } }

theorem witness_portTransactions :
    (running.portServes = true ∧ running.hostMayWrite 8 = true ∧ running.hostMayWrite 3 = false) ∧
    (running.creditsHeld ≠ 0 ∧ (packet 0 0x0013 7 1 []).headD 0 = 0x5A ∧
     (packet 0 0x0013 7 1 []).length = 12 + fieldAt 6 2 (packet 0 0x0013 7 1 []) % 4096) ∧
    (([0x5B] : Bytes) ≠ [] ∧ ([0x5B] : Bytes).headD 0 ≠ 0x5A) ∧
    (running.port.resetting = false ∧ running.power.mode.serves = true) ∧
    (asleep.power.mode.low = true ∧ asleep.port.resetting = false ∧ asleep.port.wakeAddr ≠ 0 ∧ (0x42 : Byte).toNat = asleep.port.wakeAddr ∧
     (0x43 : Byte).toNat ≠ asleep.port.wakeAddr) ∧
    (unknownTransaction 0xFF 1 0 [] = true ∧ laneByte 1 true (((hostTransaction 1 0xFF []).cycles.map (·.toNat)).take 8) = 0xFF) ∧ (running.rst.inReset = false ∧ running.power.mode.low = false) := by decide +kernel

/-- A host-port reset in progress. -/
def portResetting : State := { hostState with port := { hostState.port with resetting := true } }

theorem witness_hostPortReset : portResetting.port.resetting = true ∧ ∀ e ∈ (portResetting.queue 1).entries, e.tag = .none := by decide +kernel
theorem test_host_port_reset : outcome (fun s => ((s.session 1).state, s.port.epoch)) (exec .hostPortResetDone portResetting) = some (.free, 1) := by
  decide +kernel

theorem witness_sessionsExpire :
    (hostState.session 1).state = .opened ∧ hostState.power.mode.low = false ∧ (pinned.session 2).state = .reserved := by decide +kernel

/-- A packet whose last CRC byte is wrong. -/
def broken : Bytes := (packet 0 0x0013 7 1 []).take 11 ++ [0x00]

theorem witness_badPackets :
    ((headed broken hostState).hostRdy = true ∧ (parsePacket broken).crcOk = false) ∧
    (let b := packet 0 0x0099 7 1 []
     (parsePacket b).crcOk = true ∧ opcodeDefined (parsePacket b).opcode = false ∧ hostState.appletOpcode (parsePacket b).opcode = false ∧
     parseItems (parsePacket b).payload = some [] ∧ hostState.sessionOpen (parsePacket b).session = true) := by decide +kernel
theorem test_crc_fail : replyStatus (exec .badOpcode (headed broken hostState)) = some (some Status.crcFail.code) := by decide +kernel

theorem witness_sessionCommands :
    (hostState.lockout = false ∧ hostState.sessionsUsed < 7 ∧ hostState.freeSession = some 2) ∧
    (openFields (cmd 0x0111 2 0 openItem) = none ∧ pinned.proofPasses 2 (cmd 0x0111 2 0 openItem).value = true) ∧
    hostState.proofPasses 2 (cmd 0x0111 2 0 openItem).value = false ∧
    (let c := cmd 0x0115 1 3 [{ id := 0x0115, value := le 1 9 ++ le 3 0 ++ le 4 5 }]
     c.u 0 1 ≤ 31 ∧ (hostState.slot (c.u 0 1)).ready = true ∧ (hostState.slot (c.u 0 1)).owner = some c.session ∧ c.u 1 3 = 0 ∧
     c.u 4 4 = (hostState.slot (c.u 0 1)).seq) ∧
    hostState.gpioRefusal 15 = none ∧ hostState.events.length = 128 := by decide +kernel

/-- The operator's packet of the applet's opcode at the head of Q00 (R419). -/
def appletCalled : State :=
  asked 0x8001 1 [{ id := 1, value := [9] }] { hostState with trowelH := appletAsked.trowelH, applet := (applet 1 []).applet }

theorem witness_appletCommand :
    (let s := appletCalled
     let items : List Item := [{ id := 1, value := [9] }]
     let p := parsePacket (packet 0 0x8001 7 1 (itemBytes items))
     let k := appletCommand (0x8001, 1, 6, 0x20, false) 0xC000
     let c := commandAs p items s
     let u := taken p s
     s.appletEntry s.headOpcode = some (0x8001, 1, 6, 0x20, false) ∧ s.trowelH.mayCall = true ∧ s.hostRdy = true ∧ s.executing.isNone = true ∧
     p.crcOk = true ∧ p.version = 1 ∧ p.flags = 0 ∧ p.opcode = k.opcode ∧ parseItems p.payload = some items ∧ k.selects items = true ∧
     k.shape items = true ∧ s.sessionOpen p.session = true ∧ (s.session p.session).baseline = none ∧ k.absent u c.items = false ∧
     k.role ≤ c.role ∧ k.roleOf c.items ≤ c.role ∧ c.session ≠ 0 ∧ k.locked u c.items = false ∧ k.naming u c = none ∧ u.rst.recovery = false ∧
     k.maintenance = false ∧ k.journals = false) ∧
    (let s := applet 1 []
     s.executing.all (fun x => decide (x.due ≤ s.up)) = true ∧ s.executing.isSome = true ∧ s.applet.running = true) := by
  decide +kernel

/-- R419: the handler runs, and the interpreter takes no other command meanwhile. -/
theorem test_applet_command : outcome (fun s => (s.trowelH.cbank, s.trowelH.pc, s.executing.isSome)) (exec (.appletOpcode 0xC000) appletCalled) =
    some (6, 0x20, true) := by decide +kernel

/-! ## DMA (R114–R121) -/

/-- Channel 15 runs a program from word `pc`. -/
def dmaAt (pc : Nat) (words : List Nat) (f : DmaChannel → DmaChannel) : State :=
  running.modDma 15 (fun _ => f { program := List.replicate pc 0 ++ words, priority := 3, pc := pc, phase := .running })

/-- `DmaAt` of the statements, evaluated for channel 15. -/
def dmaMet (op : Nat) (s : State) : Bool :=
  let c := s.dmaCh 15
  s.power.mode.serves && decide (c.phase = .running) && c.xfer.isNone && decide (c.at_ / 2 ^ 60 % 16 = op)

/-- A DMA word: operation and low fields (R116). -/
def dmaOp_ (op rest : Nat) : Nat := op * 2 ^ 60 + rest

theorem witness_dmaInstructions :
    (dmaMet 1 (dmaAt 62 [dmaOp_ 1 1, 0] (fun c => c)) = true ∧ ((dmaAt 62 [dmaOp_ 1 1, 0] (fun c => c)).dmaCh 15).pc ≤ 62) ∧
    (dmaMet 2 (dmaAt 61 [dmaOp_ 2 1, 0, 0] (fun c => c)) = true ∧ dmaMet 3 (dmaAt 61 [dmaOp_ 3 1, 0, 0] (fun c => c)) = true) ∧
    (let s := dmaAt 0 [dmaOp_ 4 (2 ^ 24)] (fun c => c)
     let w := (s.dmaCh 15).at_
     dmaMet 4 s = true ∧ w.testBit 43 = false ∧ (s.dmaCh 15).armed0 = false ∧ w / 2 ^ 24 % 65536 = 1) ∧
    (let s := dmaAt 0 [dmaOp_ 4 (2 ^ 43 + 2 ^ 24)] (fun c => c)
     dmaMet 4 s = true ∧ (s.dmaCh 15).at_.testBit 43 = true ∧ (s.dmaCh 15).armed1 = false) ∧
    (let s := dmaAt 62 [dmaOp_ 4 (2 ^ 24)] (fun c => { c with armed0 := true, count0 := 0 })
     dmaMet 4 s = true ∧ (s.dmaCh 15).pc ≤ 62 ∧ (s.dmaCh 15).armed0 = true ∧ (s.dmaCh 15).count0 = 0) ∧
    (let s := dmaAt 62 [dmaOp_ 4 (2 ^ 43)] (fun c => { c with armed1 := true, count1 := 0 })
     dmaMet 4 s = true ∧ (s.dmaCh 15).at_.testBit 43 = true ∧ (s.dmaCh 15).armed1 = true ∧ (s.dmaCh 15).count1 = 0) ∧
    (dmaMet 0 (dmaAt 63 [0] (fun c => c)) = true ∧ ((dmaAt 63 [0] (fun c => c)).dmaCh 15).outstanding = 0) ∧
    (dmaMet 0 (dmaAt 63 [0] (fun c => { c with outstanding := 1 })) = true) := by decide +kernel

/-- R116: LOOP with 1 repetition to come goes back and counts it. -/
theorem test_dma_loop : outcome (fun s => ((s.dmaCh 15).pc, (s.dmaCh 15).armed0, (s.dmaCh 15).count0))
    (exec (.dmaLoop 15) (dmaAt 5 [dmaOp_ 4 (2 ^ 24 + 2)] (fun c => c))) = some (2, true, 0) := by decide +kernel
/-- R118: END: the channel is DONE and event 16 + n has occurred. -/
theorem test_dma_end : outcome (fun s => (decide ((s.dmaCh 15).phase = .done), (s.event 31).occur)) (exec (.dmaEnd 15) (dmaAt 0 [0] (fun c => c))) =
    some (true, 1) := by decide +kernel

/-- A WAIT of a kind on a line, a source or a queue. -/
def waiting (kind k : Nat) : State := dmaAt 62 [dmaOp_ 5 (kind * 2 ^ 40 + k % 2 ^ 24 + (if kind = 0 then k * 2 ^ 51 else 0))] (fun c => c)

/-- Line 48 has a request pending. -/
def requested : State :=
  let s := waiting 0 48
  { s with dma := { s.dma with linePending := modAt 0 (fun _ => 1) s.dma.linePending } }

/-- The condition of a wait in a state; none where the row is no WAIT of its kind. -/
def waitMet (i : Instr) (kind : Nat) (s : State) : Option Bool :=
  match waitRow (s.dmaCh 15).at_ i with
  | some (k, met, _, _) => if k = kind ∧ (s.dmaCh 15).at_ / 2 ^ 40 % 8 = kind then some (met s) else none
  | none => none

theorem witness_dmaWaits :
    (dmaMet 5 requested = true ∧ waitMet (.dmaWaitLine 15) 0 requested = some true ∧ waitMet (.dmaWaitLine 15) 0 (waiting 0 48) = some false) ∧
    (waitMet (.dmaWaitEvent 15) 1 ((waiting 1 127).modEvent 127 (fun e => { e with stat := true })) = some true ∧
     waitMet (.dmaWaitEvent 15) 1 (waiting 1 127) = some false) ∧
    (waitMet (.dmaWaitQueueData 15) 2 ((waiting 2 31).modQueue 31 (fun q => { q with entries := [{ data := [1] }] })) = some true ∧
     waitMet (.dmaWaitQueueData 15) 2 (waiting 2 31) = some false) ∧
    (waitMet (.dmaWaitQueueRoom 15) 3 (waiting 3 31) = some true ∧
     waitMet (.dmaWaitQueueRoom 15) 3 ((waiting 3 8).modQueue 8 (fun q => { q with entries := List.replicate 16 { data := [1] } })) = some false) ∧
    (let s := requested.modDma 15 (fun c => { c with phase := .waitLine })
     s.power.mode.serves = true ∧ (s.dmaCh 15).phase = .waitLine ∧ (s.dmaCh 15).xfer = none ∧ (s.dmaCh 15).pc ≤ 62) := by decide +kernel

theorem witness_dmaSignals :
    (dmaMet 6 (dmaAt 62 [dmaOp_ 6 127] (fun c => c)) = true) ∧
    (let s := (dmaAt 62 [dmaOp_ 6 (2 ^ 40 + 2 * 2 ^ 24 + 31)] (fun c => c)).modQueue 31 (fun q => { q with cell := [1, 2] })
     dmaMet 6 s = true ∧ (s.dmaCh 15).at_ / 2 ^ 40 % 8 = 1 ∧ (2 : Nat) ≤ queueCell 31 ∧ s.dmaPush 31 = true ∧ 2 ≤ (s.queue 31).cell.length) ∧
    (let s := dmaAt 62 [dmaOp_ 6 (2 * 2 ^ 40 + 31)] (fun c => c)
     dmaMet 6 s = true ∧ (s.dmaCh 15).at_ / 2 ^ 40 % 8 = 2 ∧ s.dmaPop 31 = true) ∧
    (let s := dmaAt 0 [0] (fun c => { c with outstanding := 1, phase := .draining })
     (s.dmaCh 15).outstanding ≠ 0 ∧ (s.dmaCh 15).phase = .draining) := by decide +kernel

/-- Channel 15 with a burst of one beat from data RAM 0x0000 to 0x0008. -/
def bursting : State :=
  { dmaAt 0 [dmaOp_ 1 (2 ^ 59 + 2 ^ 58 + 1), 0] (fun c => { c with xfer := some { op := 1, src := 0x02000000, dst := 0x02000008, const := 0, burstsLeft := 1 } }) with
    trowelH := { running.trowelH with data := bytesAt 0 [1, 2, 3, 4, 5, 6, 7, 8] } }

theorem witness_dmaBurst :
    bursting.power.mode.serves = true ∧ bursting.granted = some 15 ∧ bursting.burstReady 15 = true ∧ (bursting.dmaCh 15).priority ≤ 3 ∧
    bursting.xferFault (bursting.dmaCh 15).at_ { op := 1, src := 0x02000000, dst := 0x02000008, const := 0, burstsLeft := 1 } = none := by decide +kernel

/-- R114, R116: the beat moves eight bytes. -/
theorem test_dma_burst : outcome (fun s => (s.trowelH.byteAt 8, s.trowelH.byteAt 15, s.trowelH.byteAt 0, s.trowelH.byteAt 16))
    (exec (.dmaBurst 15 none false) bursting) = some (1, 8, 1, 0) := by decide +kernel

theorem witness_dmaBeat : (65528 : Nat) + 8 ≤ 65536 ∧ (0 : Nat) + 8 ≤ 65536 := by decide

/-! ## UARTs (R423–R440) -/

/-- UART 3 with a configuration in force. -/
def uartWith (cfg : Nat) (f : Uart → Uart) : State :=
  let s : State := { running with nv := { running.nv with params := [(0x4300, cfg)] }, inForce := [(0x4300, cfg)] }
  s.modUart 3 (fun u => f { u with rxCfg := cfg, txCfg := cfg })

/-- RXD over a frame: a start bit, the bits given and a stop bit, 16 fabric clocks each (R424, R428). -/
def lineOf (bits : List Bool) : UartLine := { levels := ((false :: bits) ++ [true]).flatMap (List.replicate 16), began := 0 }

/-- The bits of 0xA5, least significant first. -/
def bitsA5 : List Bool := [true, false, true, false, false, true, false, true]

theorem witness_framesAreSampled :
    (0x06001180 : Nat).testBit 27 = false ∧ uartFrame 0x06001180 16 (lineOf bitsA5).levels = .frame 0xA5 true ∧
    uartFrame 0x06001180 16 [false, true] = .noise := by decide +kernel

theorem witness_uartReceiver :
    (let s := uartWith 0x06001180 (fun u => { u with rxDiv := 16 })
     let t := s.latchRx 3 0
     receives 3 0 t = true ∧ uartFrame (t.uart 3).rxCfg (t.uart 3).rxDiv (lineOf bitsA5).levels = .frame 0xA5 true ∧
     uartFrame (t.uart 3).rxCfg (t.uart 3).rxDiv [false, true] = .noise) ∧
    (let s := uartWith 0x06041180 (fun u => { u with rxCfg := 0, versions := [(5, 0x06041180, 16)] })
     receives 3 5 (s.latchRx 3 5) = true ∧ receives 3 4 (s.latchRx 3 4) = false) ∧
    (let s := uartWith 0x06049080 (fun u => u)
     s.uartRuns 3 = true ∧ (s.uart 3).idleDone = false ∧ cfgMark (s.uartParam 3 0) = 2 ∧ cfgRxEn (s.uartParam 3 0) = true) ∧
    (let s := uartWith 0x06041180 (fun u => { u with block := 0x0A00 })
     s.uartRuns 3 = true ∧ blockReceives (s.uartParam 3 0) = true ∧ (s.uart 3).block / 256 % 256 ≠ 0) := by decide +kernel

theorem witness_soundCharacter :
    (let s := uartWith 0x06001180 (fun u => { u with rx := List.replicate 63 1 })
     cfgAddrMatch (s.uart 3).rxCfg = false ∧ cfgParity (s.uart 3).rxCfg = 0 ∧ 3 < s.uarts.length ∧ (s.uart 3).rx.length < 64 ∧
     blockReceives (s.uart 3).rxCfg = false) ∧
    (64 ≤ ((uartWith 0x06001180 (fun u => { u with rx := List.replicate 64 1 })).uart 3).rx.length) ∧
    (let s := uartWith 0x06041180 (fun u => { u with rx := List.replicate 64 1 })
     cfgAddrMatch (s.uart 3).rxCfg = false ∧ cfgParity (s.uart 3).rxCfg = 0 ∧ blockReceives (s.uart 3).rxCfg = true) := by decide +kernel

/-- R428: eight data bits of a sound frame enter the FIFO. -/
theorem test_uart_rx : outcome (fun s => ((s.uart 3).rx, s.counter 0x43 0)) (exec (.characterReceived 3 (lineOf bitsA5))
    (uartWith 0x06001180 (fun u => { u with rxDiv := 16 }))) = some ([0xA5], 1) := by decide +kernel

theorem witness_uartTransmitter :
    (let s := uartWith 0x06001180 (fun u => { u with tx := [0x55] })
     s.uartRuns 3 = true ∧ (s.uart 3).brk = 0 ∧ cfgTxEn (s.uartParam 3 0) = true ∧ 3 < s.uarts.length) ∧
    (let s := (uartWith 0x06121180 (fun u => { u with txMode := 0x06121180 })).modQueue 27 (fun q => { q with entries := [{ data := [1, 2] }] })
     s.uartRuns 3 = true ∧ cfgTxServe (s.uart 3).txMode = 1 ∧ cfgQdir (s.uartParam 3 0) = 1 ∧ cfgDataBits (s.uartParam 3 0) ≠ 9 ∧
     (s.queue 27).entries = [{ data := [1, 2] }] ∧ (s.uart 3).moved = 0 ∧ 2 + (s.uart 3).tx.length ≤ 64) ∧
    (cfgRxServe 0x06081180 = 2 ∧ cfgRxServe 0x06001180 ≠ 2) ∧
    (((uartWith 0 (fun u => { u with tx := List.replicate 64 0 })).uart 3).tx.length = 64) ∧
    (((uartWith 0 (fun u => { u with brk := 1 })).uart 3).brk = 1 ∧ ((uartWith 0 (fun u => { u with brk := 2 })).uart 3).brk = 2 ∧
     ((uartWith 0 (fun u => { u with brk := 2 })).uart 3).tx = [] ∧ ((uartWith 0 (fun u => { u with brk := 2, tx := [1] })).uart 3).tx ≠ []) := by decide +kernel

/-- R425: the character enters the shifter. -/
theorem test_uart_tx : outcome (fun s => ((s.uart 3).shifter, (s.uart 3).tx)) (exec (.characterTransmit 3 false)
    (uartWith 0x06001180 (fun u => { u with tx := [0x55, 0xAA] }))) = some (some 0x55, [0xAA]) := by decide +kernel

/-! ## Power, resets, boot (R15, R51, R505–R532) -/

/-- The supply in a save of a kind (R516). -/
def saving (kind : Nat) : State := { running with power := { running.power with save := { running := true, began := kind } } }

theorem witness_supplyLoss :
    (let s := { running with power := { running.power with holdReady := false } }
     s.power.save.began = 0 ∧ 3100 ≤ (3100 : BitVec 16).toNat ∧ s.power.holdReady = false ∧ (s.rst.inReset = true → s.rst.cause = 1)) ∧
    ((2999 : BitVec 16).toNat < 3000 ∧ running.power.holdReady = true ∧ running.power.save.began = 0) ∧
    ((2949 : BitVec 16).toNat < 2950 ∧ 2950 ≤ (2950 : BitVec 16).toNat) ∧
    ((saving 1).power.save.running = true ∧ (saving 2).power.save.began = 2 ∧ (saving 3).power.save.began = 3 ∧
     (saving 1).power.save.resetLow ≤ (saving 1).up) ∧
    (let s := { saving 1 with power := { (saving 1).power with save := { (saving 1).power.save with resetLow := 2000 * qtSec } } }
     s.power.save.running = true ∧ s.up < s.power.save.resetLow ∧ s.rst.inReset = false) ∧
    (({ running with power := { running.power with save := { ended := true } } } : State).power.save.ended = true) := by decide +kernel

/-- R515: HOLD_READY rises at 3100 mV. -/
theorem test_hold_ready : outcome (fun s => (s.power.holdReady, (s.event 5).occur))
    (exec (.holdReady 3100) { running with power := { running.power with holdReady := false } }) = some (true, 1) := by decide +kernel
/-- R516: with HOLD_READY the whole save begins at a sag. -/
theorem test_sag : outcome (fun s => (s.power.save.began, s.power.pfailLow)) (exec (.supplySag 2949) running) = some (1, true) := by decide +kernel

/-- An entry to Sleep at a stage, with Trowel-H at WAIT where `atWait`. -/
def entering (stage : Nat) (atWait : Bool) : State :=
  let s := if atWait then running.setCore 0 { coreAt 0 [0x9E] [] with pwrMode := 1 } else running
  { s with
    power := { s.power with entry := some { target := .sleep, ticket := {}, stage := stage, at_ := 900 * qtSec, replyConsumed := true } }
    steward := { s.steward with consentAt := some (1000 * qtSec) } }

/-- The entry of `entering`. -/
def theEntry (stage : Nat) : PowerEntry := { target := .sleep, ticket := {}, stage := stage, at_ := 900 * qtSec, replyConsumed := true }

theorem witness_powerEntry :
    (let s := entering 0 false
     s.power.entry = some (theEntry 0) ∧ firstOf (consentConditions s) = none) ∧
    (let s := { entering 0 false with power := { (entering 0 false).power with holdReady := false } }
     firstOf (consentConditions s) = some 1) ∧
    (let s := entering 1 true
     s.power.entry = some (theEntry 1) ∧ s.trowelH.waitsForPower = true ∧ s.trowelH.inApplet = false ∧
     firstOf (waitConditions s.trowelH.pwrMode false (theEntry 1) s) = none ∧
     firstOf (waitConditions s.trowelH.pwrMode true (theEntry 1) s) = some (6, 1)) ∧
    (let s := entering 1 false
     s.trowelH.waitsForPower = false ∧ s.entryLate (theEntry 1) = true ∧
     firstOf (waitConditions (theEntry 1).target.code false (theEntry 1) s) = none) := by decide +kernel

/-- R508: refused at WAIT with condition 6 while HP_CS_N is low. -/
theorem test_wait_refused : outcome (fun s => (s.power.entry.isNone, s.power.lastCondition)) (exec (.waitPowerEntry true) (entering 1 true)) =
    some (true, 6) := by decide +kernel

/-- Watch on its audio channel 0x0100, or on the radio. -/
def watching (source : Nat) (isOpen : Bool) : State :=
  { running with
    power := { running.power with mode := .watch, watchOpen := isOpen }
    nv := { running.nv with config := { running.nv.config with watch := some { source := source, input := 0x0100, thresh := -100, count := 2 } } } }

theorem witness_lowPower :
    ((entering 2 false).power.entry = some (theEntry 2) ∧ (theEntry 2).target.low = true) ∧
    (asleep.power.mode.low = true ∧ ({ asleep with power := { asleep.power with wakeLatched := 1 } } : State).power.wakeLatched ≠ 0) ∧
    ((watching 0 false).power.mode = .watch ∧ (watching 0 false).nv.config.watch = some { source := 0, input := 0x0100, thresh := -100, count := 2 } ∧
     (watching 0 false).power.watchOpen = false ∧ (watching 1 true).power.watchOpen = true ∧ (watching 1 true).power.watchDue = false) ∧
    (let s := { watching 0 true with power := { (watching 0 true).power with watchDue := true } }
     s.power.watchOpen = true ∧ s.power.watchDue = true) := by decide +kernel

/-- R514: a window that meets the condition counts; COUNT is 2. -/
theorem test_watch_window : outcome (fun s => (s.power.watchOpen, s.power.watchRun)) (exec (.watchWindowEnd [0x7FFFFFFF] 0 []) (watching 0 true)) =
    some (false, 1) := by decide +kernel

/-- In the reset, at a boot step. -/
def booting (step : Nat) : State := { State.reset with rst := { State.reset.rst with bootStep := step } }
/-- R531: a start mode still to be entered. -/
def starting (mode : Nat) (t : Tier) : State :=
  { running with
    part := { tier := t }
    power := { running.power with mode := .timing }, rst := { running.rst with startPending := true, startMode := mode } }

theorem witness_boot :
    (pulseActs 10000 2000 10000 0 = true ∧ pulseDraws 10000 2000 10000 = false ∧ running.power.save.running = false ∧
     running.power.save.began = 0 ∧ (saving 1).power.save.running = true) ∧
    ((booting 0).rst.inReset = true ∧ (booting 0).rst.thermalHold = false ∧ (booting 0).rst.por = false ∧ (booting 0).rst.bootStep = 0 ∧
     refNear 38400000 38400000 = true ∧ refNear 38407680 38400000 = true ∧ refNear 38407681 38400000 = false ∧ (booting 0).committed 0x5000 = 38400000) ∧
    (let s := { booting 3 with rst := { (booting 3).rst with refWait := true } }
     s.bootReady = true ∧ s.rst.refWait = true ∧ s.committed 0x5000 = 38400000) ∧
    ((booting 8).rst.bootStep = 8) ∧
    (let s := starting 6 .a
     s.rst.startPending = true ∧ s.power.holdReady = true ∧ s.power.mode = .timing ∧ s.power.ready = true ∧ modeOf s.rst.startMode = .runManager ∧
     s.part.tier = .a ∧ (starting 6 .c).part.tier ≠ .a ∧ modeOf (starting 5 .c).rst.startMode ≠ .runManager) ∧
    ({ running with clocks := { running.clocks with held := true } } : State).clocks.held = true := by decide +kernel

/-- R529, R532: start-up is done: Timing, HOST_RDY, the reset is over. -/
theorem test_start_up : outcome (fun s => (decide (s.power.mode = .timing), s.power.ready, s.rst.inReset, s.rst.startUs))
    (exec (.startUpDone 1234) (booting 8)) = some (true, true, false, 1234) := by decide +kernel

/-! ## Clocks, ticks, pins, the calendar -/

/-- PLL `k` in a state. -/
def pllIn (k st : Nat) : State := running.modPll k (fun p => { p with state := st })

theorem witness_clocks :
    (running.clocks.glitch = false ∧ ({ running with clocks := { running.clocks with glitch := true } } : State).clocks.glitch = true) ∧
    (3 < (pllIn 3 2).clocks.plls.length ∧ (pllIn 3 2).pllState 3 = 2 ∧ (pllIn 0 2).pllState 0 = 2 ∧ (pllIn 3 3).pllState 3 = 3) := by
  decide +kernel

/-- R453: an unlocked PLL of the audio clock counts and raises EV110. -/
theorem test_pll_unlock : outcome (fun s => ((s.pll 3).state, s.counter 0x50 9, (s.event 110).occur)) (exec (.pllUnlock 3) (pllIn 3 2)) =
    some (3, 1, 1) := by decide +kernel

/-- A figure of the receiver's own satellites (R171). -/
def solved : Solution :=
  { source := 1, setSeq := 1, svs := 5, offset := 0, refFreq := 0, errBound := 100, pos := {}, sigma := 1, vel := {}, sysOffset := [0, 0, 0, 0] }

theorem witness_ticks :
    running.tickRuns 2 ((running.plumb.mtIdx + 1) * running.mtPeriod) = true ∧ running.tickRuns 0 ((running.plumb.secIdx + 1) * qtSec) = true ∧
    running.tickRuns 1 (running.nextFrameTick * qtFrame) = true ∧ running.power.mode.run = true ∧
    ({ running with plumb := { running.plumb with state := 2, estimated := true }, track := { running.track with setSeq := 1 } } : State).solves
      solved = true ∧
    (let s := { running with
       power := { running.power with mode := .runWorker }, nv := { running.nv with params := [(0x1300, 2)] }, inForce := [(0x1300, 2)]
       plumb := { running.plumb with state := 2, estimated := true }, track := { running.track with setSeq := 1 } }
     s.solves solved = false ∧ s.solvesPlace solved = true) ∧
    (let s := { running with plumb := { running.plumb with state := 2, solSeq := 5 }, track := { running.track with setSeq := 9 } }
     let n := (s.latchedSeq + 2 ^ 32 - 2) % 4294967296
     s.plumb.state ≠ 7 ∧ n = 7 ∧ (n + 2 ^ 32 - s.plumb.solSeq) % 2 ^ 32 = 2 ∧ s.plumb.lateSeq ≠ some n) := by
  decide +kernel

/-- A stream that holds its last sample, with a hold of 1 ms (R304). -/
def holding : State :=
  { running with audio := { running.audio with ins := [{ id := 1, run := 1000 }], groups := [{ fill := 1, holdMs := 1 }] } }

theorem witness_rtcAndPins :
    (running.wakeable = false ∧ ({ running with rst := { running.rst with configured := false } } : State).gpioRuns = false) ∧
    (let s := { running with gpio := { running.gpio with ext := 1 } }
     s.gpioRuns = true) ∧
    (let s := { asleep with nv := { asleep.nv with params := [(0x7002, 1), (0x7003, 1)] } }
     s.wakeable = true ∧ s.power.mode.low = true ∧ s.gpioWakes s.gpio.ext 1 = true) ∧
    ((holding.inStream 1).run ≠ 0 ∧ (holding.groupOf 1).fill = 1 ∧ (holding.groupOf 1).holdMs ≠ 0 ∧ (holding.inStream 1).fade = none ∧
     holding.rampTicks 1 ≤ (holding.inStream 1).run) ∧
    (running.rtc.onVbat = false ∧ running.power.mode ≠ .backup) ∧
    (({ running with rtc := { running.rtc with onVbat := true } } : State).rtc.onVbat = true) ∧
    (({ running with rtc := { running.rtc with hold := true } } : State).rtc.hold = true ∧ running.rtc.pendingZone = none ∧
     running.rtc.hold = false ∧ running.rtc.localSec + 1 < calendarSpan) ∧ (running.alarm 1).enabled = false := by decide +kernel

/-- R462: 2024-02-29T00:00:00 is 8,825 days after 2000-01-01. -/
theorem test_calendar : secondsOf 2024 2 29 0 0 0 = 8825 * 86400 ∧ (calendarOf (8825 * 86400)).day = 29 ∧ (calendarOf (8825 * 86400)).month = 2 := by
  decide +kernel
/-- R463: a held boundary does not advance the calendar. -/
theorem test_rtc_hold : outcome (fun s => (s.rtc.localSec, s.rtc.hold)) (exec .rtcSecond { running with rtc := { running.rtc with localSec := 7, hold := true } }) =
    some (7, false) := by decide +kernel

/-! ## Plumb and the Steward (R173–R189, R474–R500) -/

theorem witness_firstTimeEstimate :
    running.wantsEstimate 1 = true ∧
    (let s := { running with power := { running.power with mode := .runWorker }, cell := { running.cell with beaconEst := some 5 } }
     s.wantsEstimate 5 = true ∧ s.cell.beaconEst = some 5) := by decide +kernel

/-- A step of 1 ms decided 10 s ago that applies at second 1001, or that asks. -/
def stepping (policy : Nat) (at_ : Option Nat) : State :=
  { running with plumb := { running.plumb with state := 2, offset := 65536000000, step := some { id := 1, policy := policy, offset := 65536000000, applyAt := at_ } } }

/-- A survey of 60 s begun 100 s ago, with a target of 1000. -/
def surveying : State :=
  { running with plumb := { running.plumb with survey := some { ticket := {}, startAt := 900 * qtSec, duration := 60, target := 1000, role := 1, keyId := 0, epochs := 3 } } }

/-- Plumb LOCKED; output 0 and time mark 3 enabled. -/
def timed : State :=
  { running with
    plumb := { running.plumb with state := 2, pulses := modAt 0 (fun p => { p with last := 1000 * qtSec }) running.plumb.pulses,
                                  marks := modAt 3 (fun m => { m with flags := 3 }) running.plumb.marks } }

theorem witness_timebase :
    (let s := { timed with plumb := { timed.plumb with usableAt := 0 } }
     2 ≤ s.plumb.state ∧ s.plumb.state ≤ 4 ∧ s.plumb.usableAt + s.param 0x1308 * qtMs ≤ s.up) ∧
    ((stepping 0 (some 1001)).plumb.step = some { id := 1, policy := 0, offset := 65536000000, applyAt := some 1001 }) ∧
    ((stepping 1 none).plumb.step = some { id := 1, policy := 1, offset := 65536000000, applyAt := none } ∧ (0 : Nat) ≤ (stepping 1 none).up) ∧
    (surveying.plumb.survey = some { ticket := {}, startAt := 900 * qtSec, duration := 60, target := 1000, role := 1, keyId := 0, epochs := 3 } ∧
     (1000 : Nat) ≠ 0 ∧ (60 : Nat) ≠ 0 ∧ 900 * qtSec + 60 * qtSec ≤ surveying.up) ∧
    ((timed.pulse 0).enabled = true ∧ timed.plumb.state ≠ 0 ∧ timed.power.mode.serves = true ∧
     (timed.pulse 0).next_ timed.plumb.utcOffset = ((1001 * qtSec : Nat) : Int) ∧ timed.stepInstant ≠ some (1001 * qtSec) ∧
     (timed.advance (1001 * qtSec)).squelched (timed.pulse 0) = false) ∧
    (bit (b01 true) (timed.mark 3).flags = true ∧ bit (b01 false) (timed.mark 3).flags = true ∧ (timed.mark 3).last = none) ∧
    0 < (timed.pulse 0).cfg.period := by decide +kernel

/-- R181: the step of −OFFSET at second 1001 clears OFFSET. -/
theorem test_step_apply : outcome (fun s => (s.qt, s.plumb.offset, s.plumb.step.isNone)) (exec .stepApply (stepping 0 (some 1001))) =
    some (1001 * qtSec - 65536000000, 0, true) := by decide +kernel
/-- R187: the next edge of a pulse of 1 s after second 1000 is second 1001. -/
theorem test_pulse_edge : outcome (fun s => (s.pulse 0).last) (exec (.timePulseEdge 0) timed) = some (1001 * qtSec) := by decide +kernel

/-- A mailbox request of a kind with a body at the head of Q30 (R475). -/
def mailed (kind : Nat) (body : Bytes) (s : State) : State :=
  s.modQueue 30 (fun q => { q with entries := (chunks (mailNeed body.length) body).map (fun p =>
    { data := le 2 kind ++ le 2 1 ++ le 2 body.length ++ zeros 2 ++ p }) })

/-- The request of a kind stands, well formed, and `f` of it and of the state with it taken. -/
def mailMet (kind : Nat) (s : State) (f : Mail → State → Bool) : Bool :=
  match s.mail with
  | some m => m.ok && decide (m.kind = kind) && f m (s.takeMail m)
  | none => false

theorem witness_mailboxOrder :
    (let s := mailed 4 [1] running
     (mailMet 4 s (fun _ _ => true) && mailKind 4 && s.steward.append.isNone && decide (s.steward.asked = [])) = true) ∧
    (let s := mailed 9 [1] running
     (mailMet 9 s (fun _ _ => true) && !mailKind 9 && s.steward.append.isNone) = true) ∧
    mailRowOf (.journalRequest true) = some 1 ∧ mailRowOf .deviceResetRequest = some 8 := by decide +kernel

/-- R475: a request of a kind that does not exist is answered BAD_PARAM (3). -/
theorem test_bad_mail : outcome (fun s => ((s.queue 30).entries.length, (s.queue 29).entries.map (fun e => slice 8 2 e.data)))
    (exec .regionRead (mailed 9 [1] running)) = some (0, [le 2 Status.badParam.code]) := by decide +kernel

/-- A journal request: SESSION, ID, OLD and NEW (R475). -/
def journalBody (session id : Nat) (old new : Bytes) : Bytes :=
  le 1 session ++ zeros 1 ++ le 2 id ++ le 2 old.length ++ le 2 new.length ++ old ++ new

/-- The part with the Steward's session 3 open as maker. -/
def stewarded : State := { running with steward := { running.steward with sessions := [(3, 3, 9)] } }

/-- What a journal request meets of R478: its form is right, the role of its session, the role it needs, a lock, room. -/
def journalMet (session id : Nat) (old new : Bytes) (s0 : State) : List Nat :=
  let s := mailed 1 (journalBody session id old new) s0
  match s.mail with
  | some m =>
    let t := s.takeMail m
    match t.stewardSession (fieldAt 0 1 m.body), requestRole (fieldAt 2 2 m.body) (askedNew m.body) with
    | some (role, _), some need =>
      if m.ok ∧ m.kind = 1 ∧ askedForm m.body = true ∧ s.steward.append.isNone ∧ s.steward.asked = [] ∧ askedNew m.body = new ∧ askedOld m.body = old then
        [role, need, b01 (t.requestLocked (fieldAt 2 2 m.body) (askedNew m.body)), b01 t.power.holdReady, b01 (t.journalRoom old new)]
      else []
    | _, _ => []
  | none => []

theorem witness_journalRequest :
    journalMet 0 0x3011 [] (zeros 8) stewarded = [1, 2, 1, 1, 1] ∧
    journalMet 3 0x3011 [] (zeros 8) stewarded = [3, 2, 1, 1, 1] ∧
    journalMet 3 0x2110 [] (zeros 60) stewarded = [3, 2, 0, 1, 1] ∧
    journalMet 3 0x2110 [] (zeros 8) { stewarded with power := { stewarded.power with holdReady := false } } = [3, 2, 0, 0, 1] ∧
    journalMet 3 0x2110 [] (zeros 8) { stewarded with nv := { stewarded.nv with journal := { stewarded.nv.journal with used := 507904 } } } =
      [3, 2, 0, 1, 0] := by decide +kernel

/-- A record whose second write is due, for the request with SEQ `who`. -/
def appending (who : Option Nat) : State :=
  { stewarded with steward := { stewarded.steward with append := some ({ jseq := 1, kind := 0, role := 1, keyId := 0, stamp := 0, id := 0x1203, old := [], new := [1] }, who) } }

/-- A compaction at a stage; JOURNAL_PRESSED or not. -/
def compacting (stage : Nat) (pressed : Bool) : State :=
  { running with nv := { running.nv with journal := { running.nv.journal with used := if pressed then 524000 else 1, compaction := some { stage := stage, todo := [(1, 2, [3])] } } } }

theorem witness_journal :
    ((appending (some 4)).steward.append.map (·.2) = some (some 4) ∧ (appending none).steward.append.map (·.2) = some none) ∧
    ((compacting 1 false).nv.journal.compaction = some { stage := 1, todo := [(1, 2, [3])] } ∧ (compacting 1 false).nv.journal.pressed = false ∧
     (compacting 1 true).nv.journal.pressed = true) ∧
    ((compacting 2 false).nv.journal.compaction = some { stage := 2, todo := [(1, 2, [3])] } ∧ (compacting 2 false).steward.append = none) ∧
    (let s := { running with nv := { running.nv with journal := { running.nv.journal with used := 393216 } } }
     s.nv.journal.compaction = none ∧ s.nv.journal.due = true ∧ s.power.holdReady = true ∧ s.rst.inReset = false) ∧
    ({ running with steward := { running.steward with journalReads := [{ slot := 2, fromJseq := 0, max := 1, filter := 0, filterKind := 0 }] } } : State).steward.journalReads =
      [{ slot := 2, fromJseq := 0, max := 1, filter := 0, filterKind := 0 }] := by decide +kernel

/-- R482: the second write completes the record and answers OK. -/
theorem test_journal_commit : outcome (fun s => (s.steward.append.isNone, s.nv.journal.records.map (·.id),
      (s.queue 29).entries.map (fun e => (slice 0 4 e.data, slice 8 2 e.data))))
    (exec (.journalCommit true) (appending (some 4))) = some (true, [0x1203], [(le 2 0x8001 ++ le 2 4, le 2 0)]) := by decide +kernel

/-- One log record. -/
def rec_ (n : Nat) : LogRecord := { seq := n, stamp := 0, rtc := false, unit := 1, kind := 2, data := [] }

/-- An export of records 1 to 2. -/
def exporting (next : Nat) : State :=
  { running with
    steward := { running.steward with logExport := some { ticket := {}, next := next, first := 1, last := 2, exported := next - 1, truncated := false } }
    nv := { running.nv with log := { running.nv.log with records := [rec_ 1, rec_ 2], nextSeq := 3 } } }

theorem witness_log :
    mailMet 2 (mailed 2 (zeros 18) running) (fun m _ => decide (m.body.length = 18)) = true ∧
    (let s := { running with steward := { running.steward with logQueue := [rec_ 1] } }
     s.steward.logQueue = [rec_ 1] ∧ s.steward.gaps = []) ∧
    (let x : LogExport := { ticket := {}, next := 1, first := 1, last := 2, exported := 0, truncated := false }
     (exporting 1).steward.logExport = some x ∧ (exporting 1).exportRest x ≠ [] ∧ (exporting 1).hasRoom 5 = true) ∧
    (let x : LogExport := { ticket := {}, next := 3, first := 1, last := 2, exported := 2, truncated := false }
     (exporting 3).steward.logExport = some x ∧ (exporting 3).exportRest x = []) := by decide +kernel

/-- R488: one entry takes both records of the export. -/
theorem test_log_export : outcome (fun s => (s.steward.logExport.map (fun x => (x.exported, x.next)), (s.queue 5).entries.length))
    (exec .logExportEntry (exporting 1)) = some (some (2, 3), 1) := by decide +kernel

/-- A challenge answered: session 2, role 1 with the PIN's eight bytes. -/
def proofBody : Bytes := le 1 2 ++ le 1 1 ++ zeros 7 ++ le 8 0x34333231 ++ zeros 56

/-- Session 2 is reserved; a PIN of the eight bytes of `proofBody`. -/
def challenged (good : Bool) : State :=
  let s := running.modSession 2 (fun _ => { state := .reserved, nonce := zeros 32 })
  { s with nv := { s.nv with pin := some (zeros 16, if good then sha256 (zeros 16 ++ le 8 0x34333231) else zeros 32) } }

/-- What a proof meets (R491): its form, the session reserved, and whether it passes. -/
def proofMet (s : State) : Option Bool :=
  match s.mail with
  | some m =>
    let t := s.takeMail m
    if m.ok ∧ m.kind = 3 ∧ m.body.length = 73 ∧ fieldAt 0 1 m.body ≤ 15 ∧ t.reserved (fieldAt 0 1 m.body) = true then
      some (t.proofPasses (fieldAt 0 1 m.body) (m.body.drop 1))
    else none
  | none => none

/-- A change of the session table at the head of Q29 (R478). -/
def tabled : State :=
  running.modQueue 29 (fun q => { q with entries := [{ data := le 2 0x4001 ++ zeros 6 ++ le 1 15 ++ le 1 2 ++ le 2 7 }] })

/-- In Standby, which does not serve commands of the units. -/
def scanning : State := { running with power := { running.power with mode := .standby } }

theorem witness_steward :
    (proofMet (mailed 3 proofBody (challenged false)) = some false ∧ proofMet (mailed 3 proofBody (challenged true)) = some true) ∧
    (fieldAt 0 2 (((tabled.queue 29).entries.map QEntry.data).getD 0 []) = 0x4001 ∧ fieldAt 8 1 (((tabled.queue 29).entries.map QEntry.data).getD 0 []) = 15 ∧
     (tabled.queue 29).entries.length = 1) ∧
    (running.mail.isNone = true ∧ running.trowelH.halted = false) ∧
    mailMet 5 (mailed 5 [] running) (fun m _ => decide (m.body = [])) = true ∧
    (running.watchdogsRun = true ∧ running.steward.warned = false ∧ running.rst.inReset = false ∧ running.steward.watchdogsSuspended = false) ∧
    (running.power.mode.serves = true ∧ running.power.mode ≠ .maintenance ∧ running.power.ready = true ∧ running.power.mode ≠ .backup) ∧
    (mailMet 7 (mailed 7 (zeros 8 ++ le 4 8254) running) (fun m _ =>
      decide (m.body.length = 12) && decide (fieldAt 1 3 m.body = 0) && decide (fieldAt 8 4 m.body = 8254)) = true ∧
     mailMet 7 (mailed 7 (zeros 12) running) (fun m _ => decide (fieldAt 8 4 m.body = 0)) = true) ∧
    mailMet 8 (mailed 8 [4] running) (fun m _ => decide (m.body.length = 1)) = true ∧
    (scanning.power.mode.serves = false ∧
     ((List.range 26).foldl (fun u n => u.scanSensor n 5) scanning).power.mode.serves = false ∧ scanning.steward.sensors.length = 26) ∧
    ({ running with steward := { running.steward with imageWork := some { target := 1, slot := 0, part := 2, ticket := {} } } } : State).steward.imageWork =
      some { target := 1, slot := 0, part := 2, ticket := {} } ∧
    (let s := { onTrial with up := 2000 * qtSec }
     s.steward.trialRunning = true ∧ s.nv.boot.trial ≠ none ∧ s.steward.trialEnd ≤ s.up) ∧
    mailMet 6 (mailed 6 (itemBytes [{ id := 0x6112, value := [] }]) running) (fun m t =>
      decide (parseItems m.body = some [{ id := 0x6112, value := [] }]) && t.power.holdReady && t.runningTrial.isNone) = true ∧
    mailMet 6 (mailed 6 (itemBytes [{ id := 0x6112, value := [] }]) onTrial) (fun m t =>
      decide (parseItems m.body = some [{ id := 0x6112, value := [] }]) && t.power.holdReady && decide (t.runningTrial = some (0, 1)) &&
      decide (t.up < t.steward.trialEnd) && decide (t.nv.journal.used + recordBytes [] (le 1 0 ++ le 1 1 ++ slice 12 2 (t.image 0 1).content) ≤
        segmentBytes - segmentReserve)) = true := by decide +kernel

/-- R496: a confirmation makes the trial slot ACTIVE and ends the trial. -/
theorem test_boot_confirm : outcome (fun s => (s.nv.boot.activeH, s.nv.boot.trial, s.steward.trialRunning))
    (exec (.updateWork true []) (mailed 6 (itemBytes [{ id := 0x6112, value := [] }]) onTrial)) = some (1, none, false) := by decide +kernel

/-- R497: 250 ms without a heartbeat raise EV119; a heartbeat clears it. -/
theorem test_watchdog_warn : outcome (fun s => (s.steward.warned, (s.event 119).occur)) (exec .watchdogWarn running) = some (true, 1) := by decide +kernel
/-- R475, R491: a good proof opens session 2 in the Steward's own table. -/
theorem test_proof : outcome (fun s => s.steward.sessions) (exec .sessionProofCheck (mailed 3 proofBody (challenged true))) = some [(2, 1, 0)] := by
  decide +kernel

/-! ## GNSS front-end, Lath, tracking channels, audio ports (R122–R168, R282–R297) -/

/-- Parameters committed and in force. -/
def withParams (l : Table Nat) (s : State) : State := { s with inForce := l, nv := { s.nv with params := l } }

/-- Band L5 with figures of its windows. -/
def banded (f : GnssBand → GnssBand) (l : Table Nat) : State := withParams l (running.modBand true f)

theorem witness_frontEnd :
    (running.bandRuns true = true ∧ running.bandRuns false = true) ∧
    (let s := banded (fun b => { b with clipSamples := 818400, clipCount := 16369, clipLimit := 100 }) []
     818400 ≤ (s.band true).clipSamples ∧ (s.band true).clipLimit * (2 * (s.band true).clipSamples) < (s.band true).clipCount * 10000) ∧
    (let s := banded (fun b => { b with clipSamples := 818400, clipCount := 16368, clipLimit := 100 }) []
     (s.band true).clipCount * 10000 ≤ (s.band true).clipLimit * (2 * (s.band true).clipSamples)) ∧
    (let s := banded (fun b => { b with dutySamples := 8184000, dutyCount := 5728801, dutyLimit := 70 }) []
     8184000 ≤ (s.band true).dutySamples ∧ (s.band true).dutyLimit * (s.band true).dutySamples < (s.band true).dutyCount * 100) ∧
    ((banded id [(0x1001, 10)]).notchMode true = 2 ∧ (banded id [(0x1001, 0)]).notchMode true = 0 ∧ running.notchMode true = 1) ∧
    (10 * running.param 0x1002 ≤ (0xFFFF : BitVec 16).toNat ∧ (running.band true).notches = [{}, {}, {}, {}]) ∧
    (let s := banded (fun b => { b with notches := modAt 3 (fun _ => { line := some 6, lowSince := some (999 * qtSec) }) b.notches }) []
     ((s.band true).notches.getD 3 {}).line = some 6 ∧ ((s.band true).notches.getD 3 {}).lowSince = some (999 * qtSec) ∧ 999 * qtSec + qtSec ≤ s.up) ∧
    (let s := banded id [(0x100A, 2)]
     s.biasOn true = true ∧ s.biasLimit10 true < (401 : BitVec 16).toNat ∧ (s.band true).open_ = false ∧ (29 : BitVec 16).toNat < 10 * s.param 0x100D) ∧
    (let s := banded (fun b => { b with limitSince := some (999 * qtSec), short := true }) [(0x100A, 2)]
     (s.band true).limitSince = some (999 * qtSec) ∧ s.biasOn true = true ∧ 999 * qtSec + 5 * qtMs ≤ s.up ∧
     (s.band true).short = true ∧ (s.band true).open_ = false ∧ (399 : BitVec 16).toNat < s.biasLimit10 true) ∧
    (let s := banded (fun b => { b with shortAt := some (0, 10) }) [(0x100A, 2)]
     (s.band true).shortAt = some (0, 10) ∧ (10 : Nat) ≠ 0 ∧ 0 + 10 * qtSec ≤ s.up) := by decide +kernel

/-- R125: the switch of band L5 opens 5 ms after its limit, with EV039. -/
theorem test_bias_short : outcome (fun s => ((s.band true).shortAt.isSome, (s.band true).current, (s.event 39).occur))
    (exec (.biasShort true) (banded (fun b => { b with limitSince := some (999 * qtSec) }) [(0x100A, 2)])) = some (true, 0, 1) := by decide +kernel
/-- R128: CLIP_LIMIT is a share of both components: 1 % of 2 × 818,400 is 16,368. -/
theorem test_clip : outcome (fun s => (s.event 43).occur)
    (exec (.adcClip true) (banded (fun b => { b with clipSamples := 818400, clipCount := 16369, clipLimit := 100 }) [])) = some 1 := by decide +kernel

/-- A search of L1 C/A, signal 1. -/
def aSearch : Search := { signal := 1, svs := [{ sv := 7 }], started := true, passes := 1, coh := 1, nc := 1 }
/-- Lath runs that search. -/
def searching (x : Search) : State := { running with gnss := { running.gnss with run := some x } }
/-- The same, with every sample blanked: PLL 2 is unlocked (R128, R453). -/
def blankSearching (x : Search) : State := (searching x).modPll 2 (fun p => { p with state := 3 })
/-- How many of two samples the snapshot's blanking takes, and LATH_BLANK_MAX, in percent of two samples. -/
def snapshotShare (s : State) (x : Search) : Nat × Nat :=
  let p := s.snapshotOf x (tickAfter s.qt)
  (((s.advance (p.1 + x.coh * qtMs)).snapshotBlank (signalL5 x.signal) p.1 x.coh [(1, 0), (0, 1)]).2 * 100, p.2 * 2)
/-- Band L5 alone enabled, start-up done: the automatic search of 0x81 comes next. -/
def autoReady : State :=
  let s := withParams [(0x1101, 0x10000)] (running.modBand true (fun b => { b with on := true }))
  { s with rst := { s.rst with startStep := 8 } }
/-- A hand-off. -/
def aHandoff : Handoff := { signal := 1, sv := 7, flags := 0, phase := 0, doppler := 0, cn0 := 3000, found := 0 }

theorem witness_lath :
    ({ running with gnss := { running.gnss with assists := [([zeros 4], {})] } } : State).gnss.assists = [([zeros 4], {})] ∧
    autoReady.autoAllowed (0x81 : BitVec 8).toNat = true ∧
    ((searching aSearch).gnss.run = some aSearch ∧ (searching aSearch).power.mode.serves = true ∧ aSearch.wants = true ∧
     (snapshotShare (blankSearching aSearch) aSearch).2 < (snapshotShare (blankSearching aSearch) aSearch).1 ∧
     (snapshotShare (searching aSearch) aSearch).1 ≤ (snapshotShare (searching aSearch) aSearch).2 ∧ aSearch.rejects + 1 < 16 ∧ aSearch.verify = false) ∧
    (let x := { aSearch with rejects := 15 }
     (blankSearching x).gnss.run = some x ∧ x.wants = true ∧ 16 ≤ x.rejects + 1 ∧
     (snapshotShare (blankSearching x) x).2 < (snapshotShare (blankSearching x) x).1) ∧
    (let x := { aSearch with verify := true }
     (searching x).gnss.run = some x ∧ x.wants = true ∧ x.verify = true) ∧
    (let x := { aSearch with snapshots := 1 }
     (searching x).gnss.run = some x ∧ x.started = true ∧ x.done = false ∧ (searching x).gnss.held.length < 4 ∧ x.verify = false ∧
     x.passesDone < x.snapshots * x.passes) ∧
    (let x := { aSearch with verify := true, verifyAt := some 5 }
     (searching x).gnss.run = some x ∧ x.started = true ∧ x.verifyAt ≠ none) ∧
    (let s := { searching aSearch with gnss := { (searching aSearch).gnss with held := List.replicate 4 aHandoff } }
     s.gnss.run = some aSearch ∧ 4 ≤ s.gnss.held.length ∧ s.gnss.held = aHandoff :: List.replicate 3 aHandoff ∧ s.hasRoom 28 = true) ∧
    (let x := { aSearch with done := true }
     (searching x).gnss.run = some x ∧ x.done = true ∧ x.host = none ∧ (searching x).gnss.queue = []) ∧
    (let x := { aSearch with done := true, host := some ({ seq := 4 }, 2) }
     (searching x).gnss.run = some x ∧ x.host = some ({ seq := 4 }, 2)) := by decide +kernel

/-- R130: the sixteenth reject in a row ends the search; what is not decided is reported so. -/
theorem test_snapshot_rejects : outcome (fun s => s.gnss.run.map (fun x => (x.done, x.svs.map (·.state))))
    (exec (.snapshotCaptureDone [(1, 0)]) (blankSearching { aSearch with rejects := 15 })) = some (some (true, [5])) := by decide +kernel
/-- R140: the first held hand-off goes into Q28. -/
theorem test_handoff : outcome (fun s => (s.gnss.held.length, (s.queue 28).entries.length))
    (exec .handoffResume { running with gnss := { running.gnss with held := [aHandoff] } }) = some (0, 1) := by decide +kernel

/-- Channel 127 in a state since the clocks began. -/
def chanAt (k : Nat) : State := running.modChan 127 (fun _ => { state := k, signal := 1, sv := 7, lowSince := some 0, reacqMs := 2000 })
/-- A dump without loss. -/
def aDump : Dump :=
  { blanked := 8999, ve := { i := 10, q := 0 }, e := { i := 500, q := 0 }, p := { i := 1000, q := 0 }, l := { i := 500, q := 0 }, vl := { i := 10, q := 0 },
    pp := { i := 0, q := 0 }, dp := { i := 0, q := 0 }, n := { i := 1, q := 0 }, expected := 0, predicted := 0 }
/-- A set latched at an MT. -/
def latched (m : Mode) : State :=
  { running with power := { running.power with mode := m }, track := { running.track with latch := some { instant := 0, holdover := false, records := [] } } }

theorem witness_track :
    ([1, 2, 3, 4, 5].all (fun k =>
      (chanAt k).power.mode.serves && decide (127 < (chanAt k).track.chans.length) && decide (((chanAt k).chan 127).state = k)) = true) ∧
    (running.tickRuns 3 ((running.plumb.codeIdx + 1) * qtMs) = true) ∧
    (((chanAt 1).chan 127).since + 200 * qtMs ≤ (chanAt 1).up) ∧
    ((chanAt 4).param 0x120D ≠ 0 ∧ ((chanAt 4).chan 127).lowSince = some 0 ∧ 0 + (chanAt 4).param 0x120C * qtMs ≤ (chanAt 4).up) ∧
    (((chanAt 5).chan 127).since + ((chanAt 5).chan 127).reacqMs * qtMs ≤ (chanAt 5).up) ∧
    ((latched .runWorker).track.latch = some { instant := 0, holdover := false, records := [] } ∧ (latched .runWorker).power.mode ≠ .runManager) ∧
    (aDump.blanked < 9000 ∧ ((chanAt 4).estimate 127 1 aDump).lossOf 127 aDump = false ∧ 9000 ≤ ({ aDump with blanked := 9000 } : Dump).blanked) := by decide +kernel

/-- R153: PULL_IN that lasts 200 ms ends with reason 2. -/
theorem test_pull_in : outcome (fun s => ((s.chan 127).state, (s.event 49).occur, s.counter 0x12 3)) (exec (.pullInTimeout 127) (chanAt 1)) =
    some (0, 1, 1) := by decide +kernel
/-- R153: FINE goes to REACQ for REACQ_MS, 2000. -/
theorem test_loss : outcome (fun s => ((s.chan 127).state, (s.chan 127).reacqMs)) (exec (.lossTimeout 127) (chanAt 4)) = some (5, 2000) := by decide +kernel

/-- AES3 port 7 receives, locked or not. -/
def aesAt (l : Bool) : State := (withParams [(0x2307, 2)] running).modAes 7 (fun p => { p with locked := l })
/-- TDM port 3 receives as a slave. -/
def tdmAt : State :=
  let s := withParams [(0x2403, 0x010A0850)] running
  { s with audio := { s.audio with tdm := modAt 3 (fun p => { p with rx := { p.rx with on := true } }) s.audio.tdm } }
/-- Converter 7 bound to a source, locked or not. -/
def asrcAt (l : Bool) : State :=
  let s := (aesAt true).modAes 7 (fun p => { p with rate := 48000 })
  { s with audio := { s.audio with asrc := modAt 7 (fun c => { c with source := 0x17, locked := l }) s.audio.asrc } }

theorem witness_audio :
    ((aesAt false).aesReceives 7 = true ∧ ((aesAt false).aesPort 7).locked = false ∧ 32000 ≤ (32000 : BitVec 32).toNat ∧ (192000 : BitVec 32).toNat ≤ 192000) ∧
    ((aesAt true).power.mode.serves = true ∧ ((aesAt true).aesPort 7).locked = true ∧ 7 < (aesAt true).audio.aes.length ∧ (aesAt true).aesReceives 7 = true) ∧
    (csPasses (padTo 24 []) = true ∧ csPasses (padTo 24 [1]) = false) ∧
    (3 < tdmAt.tdmCount ∧ (tdmAt.tdmPort 3).rx.on = true ∧ (tdmAt.tdmPort 3).tx.on = false ∧ bit 0 (tdmAt.param 0x2403) = false ∧
     (1 : Nat) ≠ 32 * tdmSlotCount (bits 2 1 (tdmAt.param 0x2403)) (tdmAt.param 0x2000)) ∧
    (let count := tdmSlotCount (bits 2 1 (tdmAt.param 0x2403)) (tdmAt.param 0x2000)
     let a := (tdmAt.advance (1001 * qtSec)).modTdm 3 (fun p => { p with period := 32 * count })
     tdmAt.power.mode.serves = true ∧ (tdmAt.tdmPort 3).rx.s0 ≤ a.frameIndex (1001 * qtSec) 2 ∧ a.tdmBound 3 = false) ∧
    (7 < (asrcAt false).asrcCount ∧ (asrcAt false).inputThere ((asrcAt false).audio.asrc.getD 7 {}) = true ∧ ((asrcAt false).audio.asrc.getD 7 {}).locked = false ∧
     ratioLegal (0x200000 : BitVec 32).toNat = true ∧ ratioLegal (0x8000000 : BitVec 32).toNat = true ∧ ((asrcAt true).audio.asrc.getD 7 {}).locked = true) := by
  decide +kernel

/-- R287: a block with a bad CRC of the professional form changes no channel status and counts. -/
theorem test_bad_block : outcome (fun s => ((s.aesPort 7).csA == zeros 24, (s.aesPort 7).blockSeq)) (exec (.aes3BlockRx 7 [1] [1]) (aesAt true)) =
    some (true, 0) := by decide +kernel
/-- R296: converter 7 locks and raises EV080. -/
theorem test_asrc_lock : outcome (fun s => ((s.audio.asrc.getD 7 {}).locked, (s.event 80).occur)) (exec (.asrcLock 7 0x1000000) (asrcAt false)) =
    some (true, 1) := by decide +kernel

/-! ## Link radio, modem, cell (R312–R399) -/

/-- Locks that permit sub-band 0. -/
def openLocks (lbt : Bool) : List Locks :=
  [{ permitted := true, lbt := lbt, rates := 7, channels := 1, maxCond := 40, maxEirp := 80, duty := 100 }, {}, {}]

/-- The cell unit runs; the radio in a state, with locks that permit sub-band 0. -/
def onRadio (k : Nat) (lbt : Bool) : State :=
  { running with rst := { running.rst with startStep := 8 }, radio := { running.radio with state := k, calibrated := true, locks := openLocks lbt } }

/-- With another radio record. -/
def radioed (f : Radio → Radio) : State := { onRadio 3 false with radio := f (onRadio 3 false).radio }

/-- A burst accepted for second 1001, on the air or not. -/
def aBurst (air : Bool) : Burst :=
  { kind := 0, frame := 100100, start := 1001 * qtSec, airtime := 500, subband := 0, power := 0, probe := false, load := {}, onAir := air }

theorem witness_radio :
    (let s : State := { radioed (fun r => { r with cal := some 0 }) with qt := 1000 * qtSec + 6 * qtMs }
     s.part.radio = true ∧ s.radio.cal ≠ none ∧ s.radio.state ≠ 6 ∧ s.radio.state ≠ 5 ∧ s.idleGap = true ∧ s.power.mode.serves = true ∧
     s.calAllowed = true ∧ s.modem.window = none) ∧
    ((onRadio 6 false).radio.state = 6 ∧ (onRadio 6 false).radio.calTicket = none ∧ (onRadio 6 false).power.mode ≠ .watch) ∧
    ((onRadio 4 false).radio.state ≤ 4 ∧ (onRadio 4 false).radio.bursts = [] ∧ (onRadio 4 false).modem.window = none ∧ (onRadio 4 false).radio.cal = none) ∧
    (let s := radioed (fun r => { r with bands := modAt 2 (fun b => { b with state := 2, retry := 10, stoppedAt := 990 * qtSec }) r.bands })
     (s.band_ 2).state = 2 ∧ (s.band_ 2).retry ≠ 0 ∧ (s.band_ 2).stoppedAt + (s.band_ 2).retry * qtSec ≤ s.up) ∧
    (let s := radioed (fun r => { r with state := 5, bursts := [aBurst true] })
     s.radio.bursts = [aBurst true] ∧ (aBurst true).onAir = true ∧ (aBurst true).cut = false ∧ s.radio.state = 5 ∧ s.radio.plan.key = s.radio.tuned ∧
     ({ aBurst true with tuner := 0 } : Burst).tuner = 0 ∧ 600 < (601 : BitVec 16).toNat ∧
     (aBurst true).subband < s.radio.bands.length) := by decide +kernel

/-- R324: VSWR above 6 cuts the burst and stops the sub-band, in which the burst's end then leaves no burst. -/
theorem test_vswr_stop : outcome (fun s => ((s.band_ 0).state, s.radio.bursts.map (·.cut)))
    (exec (.vswrStop 601) (radioed (fun r => { r with state := 5, bursts := [aBurst true] }))) = some (2, [true]) := by decide +kernel
/-- R329: at the minute's roll the newest bin is empty. -/
theorem test_token_roll : outcome (fun s => (s.radio.minute, ((s.band_ 0).bins.take 2)))
    (exec .tokenBinRoll (radioed (fun r => { r with minute := 16, bands := modAt 0 (fun b => { b with bins := 7 :: List.replicate 60 0 }) r.bands }))) =
    some (17, [0, 7]) := by decide +kernel

/-- Sub-band 0 stopped by mismatch. -/
def stoppedRadio : State := radioed (fun r => { r with bands := modAt 0 (fun b => { b with state := 2 }) r.bands })

theorem witness_bursts :
    (running.lockedOut 0 = true ∧ (onRadio 3 false).lockedOut 2 = false ∧ ((onRadio 3 false).burstPower false).isSome = true) ∧
    ((stoppedRadio.band_ 0).state = 2 ∧ (stoppedRadio.band_ 0).probe = false ∧ (stoppedRadio.burstPower false).isSome = true ∧ stoppedRadio.lockedOut 0 = false) ∧
    (((onRadio 3 false).band_ 0).state ≠ 2 ∧ (onRadio 3 false).tokenLevel 0 < (((onRadio 3 false).reserved_ 0 + 36000001 : Nat) : Int) ∧
     (((onRadio 3 false).reserved_ 0 + 36000000 : Nat) : Int) ≤ (onRadio 3 false).tokenLevel 0) ∧
    (let s := radioed (fun r => { r with readyAt := 1001 * qtSec })
     (s.pll 3).state ≠ 3 ∧ s.up + s.param 0x3001 * qtUs < s.chainReady) ∧
    ((onRadio 3 false).chainReady ≤ (onRadio 3 false).up + (onRadio 3 false).param 0x3001 * qtUs) ∧
    (let s := onRadio 3 false
     s.part.radio = true ∧ s.wired = false ∧ (s.nextBurst 0).2 ≤ frameOf s.qt + 1 ∧ s.sends 0 (s.nextBurst 0).1 (s.nextBurst 0).2 = true) ∧
    (let s := withParams [(0x3007, 1)] (radioed (fun r => { r with bursts := [aBurst false] }))
     s.radio.bursts = [aBurst false] ∧ (aBurst false).onAir = false ∧ s.coexMode ≠ 0 ∧ s.radio.coexGnt = false) ∧
    (let s := { onRadio 3 true with radio := { (onRadio 3 true).radio with bursts := [aBurst false] } }
     s.coexMode = 0 ∧ (s.advance (s.transitionOf (aBurst false))).listens (aBurst false) = true ∧
     (s.locksOf 0).lbtThresh * 10 < signed 16 (0 : BitVec 16).toNat ∧ signed 16 (0x8000 : BitVec 16).toNat ≤ (s.locksOf 0).lbtThresh * 10) ∧
    (let s := radioed (fun r => { r with bursts := [aBurst false] })
     (s.advance (s.transitionOf (aBurst false))).listens (aBurst false) = false ∧
     (s.advance (s.transitionOf (aBurst false))).mismatchAllows (aBurst false) = true) ∧
    (let s := { stoppedRadio with radio := { stoppedRadio.radio with bursts := [aBurst false] } }
     s.coexMode = 0 ∧ (s.advance (s.transitionOf (aBurst false))).listens (aBurst false) = false ∧
     (s.advance (s.transitionOf (aBurst false))).mismatchAllows (aBurst false) = false) := by decide +kernel

/-- R335: a channel above its LBT threshold drops the burst and raises EV093. -/
theorem test_lbt : outcome (fun s => (s.radio.bursts.length, (s.event 93).occur))
    (exec (.transitionStart { power := 0, dieTemp := 0, vddPa := 0 }) { onRadio 3 true with radio := { (onRadio 3 true).radio with bursts := [aBurst false] } }) = some (0, 1) := by decide +kernel

/-- A receive window of the frame at second 1001. -/
def aWindow : RxWindow := { kind := 4, frame := 100100, station := 9, close := 1002 * qtSec }
/-- A burst whose header is awaited. -/
def aRx (n : Nat) : RxBurst := { kind := 4, frame := 100100, station := 9, stamp := 1001 * qtSec, errs := 0, rssi := -600, mcs := 0, length := 3, codewords := n }
/-- The symbols of a block sent with BPSK, and their samples as plain pulses of a quarter of the amplitude. -/
def pulses (l : List Bool) : List (Int × Int) :=
  (mapSymbols 1 (2 * l.length + 12) (convEncode 0 (l ++ List.replicate 6 false))).flatMap (fun x => List.replicate 4 (x.1 / 4, x.2 / 4))
/-- An equaliser of one tap whose filter already holds the first 31 samples, half of the 62 by which the filter delays. -/
def tapped (x : List (Int × Int)) : Equaliser :=
  { ff := (65536, 0) :: List.replicate 23 (0, 0), line := (x.take 31).reverse ++ List.replicate 34 (0, 0) }
/-- The samples that follow. -/
def after (x : List (Int × Int)) : List (Int × Int) := x.drop 31 ++ List.replicate 31 (0, 0)
/-- The modem of a manager with a window, in a receive state. -/
def hearing (rx : Nat) (f : Modem → Modem) : State :=
  { onRadio 4 false with modem := f { running.modem with window := some aWindow, rx := rx } }
/-- A worker before its first figure of time, which listens for beacons. -/
def listening : State :=
  let s := onRadio 3 false
  { s with power := { s.power with mode := .runWorker }, plumb := { s.plumb with estimated := true } }

theorem witness_modem :
    (listening.mayListen = true ∧ listening.modem.window = none ∧ listening.plumb.estimated = true ∧ listening.slotsAhead 0 ≠ []) ∧
    ((hearing 1 id).modem.window = some aWindow ∧ (hearing 1 id).modem.rx = 1 ∧ syncErrors 0x4B2E91D73A6C0F85 ((hearing 1 id).param 0x3101) ≤ (hearing 1 id).param 0x3100 ∧
     1001 * qtSec + symbolSpan ((hearing 1 id).rxRate 4) 140 ≤ aWindow.close ∧
     (hearing 1 id).param 0x3100 < syncErrors 0x4B2E91D7C593F07A ((hearing 1 id).param 0x3101)) := by decide +kernel

/-- A header word on the air. -/
def aHeader (h : Nat) : HeaderSymbols := { samples := after (pulses (bitsOf 32 h)), scale := 65536, header := BitVec.ofNat 32 h }
/-- An equaliser whose every symbol repeats the one before it: a carrier without data. -/
def steady : Equaliser := { ff := [], fb := [(-65536, 0)], past := [(65536, 0)] }
/-- What HEADER_DECODE meets of a header: whether its path is the most likely, and whether it passes its check. -/
def headerMet (e : Equaliser) (h : Nat) : Bool × Bool :=
  let b := { aRx 0 with eq := e }
  let s := hearing 2 (fun m => { m with current := some b })
  (decide (s.modem.current = some b) && decide ((aHeader h).samples.length = 304) &&
    mostLikely (bitsOf 32 (aHeader h).header.toNat) (s.headerSoft (aHeader h) b).1, headerOk (aHeader h).header.toNat)

theorem witness_header_bad : headerMet steady 0 = (true, false) := by decide +kernel
/-- R343, R351, R356: a header comes out of its samples. -/
theorem witness_header_good : headerMet (tapped (pulses (bitsOf 32 (headerWord 0 0 1)))) (headerWord 0 0 1) = (true, true) := by decide +kernel
theorem witness_header_fits :
    let s := hearing 2 id
    headerOk (headerWord 8 5 0xFFFF) = true ∧ s.modem.buffers.length < 2 ∧ ({ aRx 0 with mcs := 0, length := 1 }).endAt (s.rxRate 4) ≤ aWindow.close ∧
    aWindow.close - qtSec < ({ aRx 0 with mcs := 0, length := 1 }).endAt (s.rxRate 4) := by decide +kernel

/-- A burst of MCS 8 with three bytes, all ratios of whose codeword have come; those of its first `n` bits are wrong. -/
def anLdpcRx (n : Nat) : RxBurst := { aRx 1 with mcs := 8, llr := List.replicate n (-31) ++ List.replicate (408 - n) 31 }

/-- CODEWORD_DECODE meets a codeword with `n` bits wrong: whether it fails. -/
def codewordMet (n : Nat) : Option Bool :=
  let s := withParams [(0x3103, 1)] (hearing 1 (fun m => { m with buffers := [anLdpcRx n] }))
  match decodeNext s.modem.buffers with
  | some (_, b, _) =>
    if 0 = 4 * (b.ahead b.needs).length then
      some (b.fails (ldpcDecode (mcsCode b.mcs) (b.infoBits b.decoded) (s.param 0x3103) ((s.ratios [] 1 b).1.take b.sentBits)).1)
    else none
  | none => none

/-- R355: a codeword received without an error passes; one with 50 wrong bits is left with a syndrome after one iteration. -/
theorem witness_codeword_good : codewordMet 0 = some false := by decide +kernel
theorem witness_codeword_bad : codewordMet 50 = some true := by decide +kernel

/-- A burst of MCS 8 whose codeword is decoded, and one of MCS 0 whose payload is still to be heard; EVM −10.0 dB. -/
def decodedRx : RxBurst := { aRx 1 with mcs := 8, decoded := 1, info := List.replicate 24 false, eq := { error := 1, reference := 10 } }
def plainBits : List Bool := scramble 7 (([1, 2, 3] : Bytes).flatMap (fun c => bitsOf 8 c.toNat))
def plainRx : RxBurst := { aRx 0 with eq := { tapped (pulses plainBits) with error := 10 ^ 17, reference := 10 ^ 18 } }
def plainSymbols : PayloadSymbols := { samples := after (pulses plainBits), payload := [1, 2, 3] }

/-- What BURST_DELIVERED meets of a burst. -/
def deliveryMet (b : RxBurst) (x : PayloadSymbols) : Option Bytes :=
  let s := hearing 1 (fun m => { m with buffers := [b] })
  let y := s.hear b.convSymbols x.samples b
  if x.samples.length = 4 * (b.ahead b.convSymbols).length ∧ b.codewords ≤ b.decoded ∧ evmFits (-100) y.2.eq.error y.2.eq.reference = true then
    y.2.payload (y.1.map (soft4 65536)) x.payload
  else none

theorem witness_delivery_ldpc : (deliveryMet decodedRx { samples := [], payload := [] }).isSome = true := by decide +kernel
/-- R344, R345, R351, R356: the three bytes of an MCS 0 burst come out of its samples. -/
theorem witness_delivery_plain : deliveryMet plainRx plainSymbols = some [1, 2, 3] := by decide +kernel

/-- R349: the complement of the sync word, all 64 bits differing, is a sync of no errors. -/
theorem test_sync_complement : outcome (fun s => (s.modem.rx, s.modem.current.map (·.errs)))
    (exec (.syncDetect 0xB4D16E28C593F07A { powers := [], means := [], samples := [] } (1001 * qtSec)) (hearing 1 id)) = some (2, some 0) := by
  decide +kernel
/-- The soft values of a block without noise. -/
def cleanSoft (l : List Bool) : List Nat := (convEncode 0 (l ++ List.replicate 6 false)).map (fun c => if c then 15 else 0)
/-- R356: one coded bit of a header turned over is corrected: the sent path stays the most likely, the all-zero one does not. -/
theorem test_viterbi : (mostLikely (bitsOf 32 (headerWord 0 0 1)) ((cleanSoft (bitsOf 32 (headerWord 0 0 1))).set 20 9),
    mostLikely (bitsOf 32 0) (cleanSoft (bitsOf 32 (headerWord 0 0 1)))) = (true, false) := by decide +kernel
/-- R360: 1 part of error in 10 is −10.0 dB. -/
theorem test_evm : (evmFits (-100) 1 10, evmFits (-98) 1 10) = (true, false) := by decide +kernel
/-- R338: the filter's taps are those of the root raised cosine with roll-off 0.25 at 4 samples a symbol. -/
theorem test_rrc : rrcTaps.take 33 = (List.range 33).map (fun (k : Nat) => rrcTap ((k : Int) - 32)) ∧ rrcTaps.reverse = rrcTaps := by decide +kernel

/-- A burst of a kind delivered to the unit. -/
def aFrame (kind : Nat) (payload : Bytes) : RxFrame :=
  { kind := kind, frame := 100100, station := 9, stamp := 1001 * qtSec, payload := payload, mcs := 0, failed := [], lq := 200 }
/-- The unit in a mode with bursts delivered. -/
def cellAt (m : Mode) (l : List RxFrame) : State :=
  let s := onRadio 3 false
  { s with power := { s.power with mode := m }, modem := { s.modem with delivered := l } }

/-- 28 bytes with their CRC (R372, R381). -/
def sealed_ (b : Bytes) : Bytes := padTo 28 b ++ le 4 (crc32 (padTo 28 b))

/-- Station 5 is the worker of frame 100100 (R381) and admitted. -/
def replied : State :=
  let s := cellAt .runManager [aFrame 3 (sealed_ [1, 0, 5])]
  { s with nv := { s.nv with config := { s.nv.config with admissions := [{ station := 5, serial := 0, admitted := true }] } } }

theorem witness_cellBursts :
    ([0, 1, 2].all (fun k => decide ((cellAt .runWorker [aFrame k []]).cellRole = 2) && ((cellAt .runWorker [aFrame k []]).takeDelivered k).isSome) = true ∧
     [3, 4].all (fun k => decide ((cellAt .runManager [aFrame k []]).cellRole = 1) && ((cellAt .runManager [aFrame k []]).takeDelivered k).isSome) = true) ∧
    (let s := { cellAt .runWorker [] with cell := { running.cell with missed := 1000 } }
     s.cell.lost = false ∧ s.param 0x3200 ≤ s.cell.missed) ∧
    (let s := { cellAt .runManager [] with cell := { running.cell with cfg := { running.cell.cfg with link := 1 } } }
     s.wired = true ∧ s.cellRole = 1) ∧
    (crcPayload (zeros 32) = false ∧ crcPayload (sealed_ [5]) = true ∧ fieldAt 0 2 (sealed_ [5]) ≠ running.cell.cfg.cellId) ∧
    (let x := aFrame 3 (sealed_ [1, 0, 5])
     replied.wired = false ∧ crcPayload x.payload = true ∧ fieldAt 0 1 x.payload = 1 ∧ fieldAt 2 1 x.payload ≠ 0 ∧
     fieldAt 2 1 x.payload = ttWorker x.frame ∧ replied.admittedStation (fieldAt 2 1 x.payload) = true) := by decide +kernel

/-- R372: a beacon whose CRC fails changes one counter. -/
theorem test_bad_beacon : outcome (fun s => (s.counter 0x32 2, s.modem.delivered.length)) (exec .beaconRx (cellAt .runWorker [aFrame 0 (zeros 32)])) =
    some (1, 0) := by decide +kernel

/-- A message of a type waits. -/
def messaged (m : Mode) (kind : Nat) (body : Bytes) : State :=
  let s := cellAt m []
  { s with cell := { s.cell with messages := [{ from_ := 9, kind := kind, body := body }], members := [{ station := 9, state := 1, expect := 5, limitOut := 133 }] } }

/-- A message of a kind at the head of an Omba queue, from a station. -/
def messageAt (n kind st : Nat) (body : Bytes) : State :=
  (cellAt .runWorker []).modQueue n (fun q => { q with entries := [{ data := le 1 st ++ zeros 7 ++ le 1 kind ++ zeros 3 ++ body }] })

/-- What the head holds, and what `f` says of it and of the state with it taken. -/
def headMet (n kind : Nat) (s : State) (f : Nat → Bytes → State → Bool) : Bool :=
  match s.takeQueued n kind with
  | some (st, b, t) => f st b t
  | none => false

/-- The body of a MEAS message with no record: SET_SEQ 1, the instant 0, PART 0 or 1 of 2. -/
def measBody (part : Nat) : Bytes := le 4 1 ++ qtBytes 0 ++ le 1 part ++ le 1 2 ++ zeros 4
/-- A worker with such a message and its own set of that instant; `n` pairs of fixed arcs have come with the first part. -/
def viewing (part n : Nat) : State :=
  let s := messaged .runWorker 1 (measBody part)
  let pair := fun (k : Nat) => ({ signal := 1, sv := k, arc := 1, phase := 0, range := 0, weight := 1, restart := false } : CvPair)
  { s with cell := { s.cell with
      cvSets := [(0, [])], cvSeq := some 1, cvPairs := (List.range n).map pair
      cvArcs := (List.range n).map (fun k => { signal := 1, sv := k, arc := 1, n := 0 }) } }
/-- What MEAS meets of it: the last part or not, and the arcs that are fixed. -/
def viewMet (part n : Nat) : Option (Bool × Nat × Bool) :=
  ((viewing part n).takeMessage 1).bind (fun p =>
    match p.2.cell.cvSets.find? (fun x => qtBytes x.1 == slice 4 10 p.1.body) with
    | none => none
    | some _ =>
      if p.2.cell.cvSeq = some (fieldAt 0 4 p.1.body) then
        some (decide (fieldAt 14 1 p.1.body + 1 = fieldAt 15 1 p.1.body), (p.2.cell.cvPairs.filterMap (p.2.cvFix p.2.cell.cvPairs)).length, p.2.baselineOk)
      else none)

theorem witness_commonView : viewMet 0 4 = some (false, 4, true) ∧ viewMet 1 4 = some (true, 4, true) ∧ viewMet 1 3 = some (true, 3, true) := by
  decide +kernel

theorem witness_cellMessages :
    ((messaged .runWorker 1 []).cellRole = 2 ∧ ((messaged .runWorker 1 []).takeMessage 1).isSome = true ∧
     (((messaged .runWorker 1 []).takeMessage 1).map (fun p => (p.2.baselineOk, p.2.cell.cvSets.length))) = some (true, 0)) ∧
    ((messaged .runManager 2 [5, 0, 0]).takeMessage 2).isSome = true ∧
    (((messaged .runManager 2 [5, 0, 0]).takeMessage 2).map (fun p =>
      let a := p.2.takeAck 9 0 0
      ((a.member 9).state, (a.member 9).expect, ((a.member 9).limitOut + 256 - 5) % 256))) = some (1, 5, 128) ∧
    headMet 19 3 (messageAt 19 3 0 [1, 2]) (fun _ b _ => decide (fieldAt 1 1 b = 2)) = true ∧
    headMet 19 4 (messageAt 19 4 0 [7, 1]) (fun _ b t => !bit 7 (fieldAt 1 1 b) && t.newCommitId (fieldAt 0 1 b)) = true ∧
    (let s := messageAt 19 4 0 [7, 0x81]
     let s := { s with cell := { s.cell with heardCommit := true, commitId := 7, commitState := 1 } }
     headMet 19 4 s (fun _ b t => bit 7 (fieldAt 1 1 b) && !t.newCommitId (fieldAt 0 1 b) && decide (t.cell.commitState = 1))) = true ∧
    headMet 19 5 (messageAt 19 5 0 [1, 1]) (fun _ b _ => decide (fieldAt 0 1 b = 1)) = true ∧
    headMet 20 6 (messageAt 20 6 9 []) (fun st _ _ => decide (st = 9)) = true ∧
    ((messaged .runManager 7 [1]).takeMessage 7).isSome = true ∧
    (let s := cellAt .runManager []
     let c : CellCommit := { id := 1, what := 1, index := 0, last := 0, members := [] }
     let s := { s with cell := { s.cell with commits := [c], commitId := 1, commitState := 2 } }
     s.cell.commits.find? (fun c => c.waits && s.commitEnded c) = some c ∧ s.cellRole = 1) ∧
    ({ running.member 9 with state := 1 } : Member).station = 9 := by decide +kernel

/-- R386: the CTRL message expected next is passed to the host in Q22 and the one after it is expected. -/
theorem test_ctrl : outcome (fun s => ((s.member 9).expect, (s.queue 22).entries.map (fun e => e.data.drop 8)))
    (exec .ctrl (messaged .runManager 2 [5, 0, 0, 0, 0xAA])) = some (6, [[0xAA]]) := by decide +kernel

/-! ## The whole block -/

/-- Q16 holds one entry and has counted it; a command waits. -/
def counted : State :=
  { (running.modQueue 16 (fun q => { q with entries := [{ data := [5] }], produced := 1 })) with pending := [.holdReady 3100] }

/-- Locks as the maker may set them (R327). -/
def lockedPart : State := { counted with nv := { counted.nv with locks := openLocks true } }

theorem witness_stepKeeps :
    (counted.queues.length = 32 ∧ counted.queues.all (fun q => decide (q.produced % 2 ^ 32 = (q.consumed + q.entries.length + q.drops) % 2 ^ 32)) = true ∧
     (outcome (fun _ => ()) (step counted)).isSome = true) ∧
    (lockedPart.nv.locks.length = 3 ∧ ([0, 1, 2].all (fun n => locksLegal n (lockedPart.nv.locks.getD n {}))) = true ∧
     (outcome (fun _ => ()) (step lockedPart)).isSome = true) ∧
    counted.pending = [.holdReady 3100] ∧ running.pending = [] := by decide +kernel

/-- A journal record of one parameter (R481). -/
def paramRecord : JournalRecord := { jseq := 1, kind := 0, role := 2, keyId := 1, stamp := 0, id := 0x2000, old := [0], new := [1] }

theorem witness_protected :
    (outcome (fun s => s.nv.boot.jtagBlown) (exec (.holdReady 3100) { running with nv := { running.nv with boot := { running.nv.boot with jtagBlown := true } } })).isSome = true ∧
    writesLocks (.holdReady 3100) = false ∧ writesKeys (.holdReady 3100) = false ∧ writesPin (.holdReady 3100) = false ∧
    blowsFuse (.holdReady 3100) = false ∧ recordsTaken (.holdReady 3100) running = [] ∧
    recordsTaken (.journalCommit true) { running with steward := { running.steward with append := some (paramRecord, none) } } = [paramRecord] := by
  decide +kernel

theorem witness_nonePart : NonePart (fun x => x.1 == 10) [paramRecord] ∧ NonePart (fun x => x.1 == 11) [paramRecord] ∧
    NonePart (fun x => x.1 == 1 && x.2.1 == 0x7210) [paramRecord] := by
  unfold NonePart
  decide +kernel

/-- An output whose stream has begun and runs, one whose stream has not begun, and one whose stream does not run. -/
theorem witness_emit :
    (running.emitOut { dst := 0x2000, src := 0, on := true, s0 := 0 }).begun = true ∧
    (running.emitOut { dst := 0x2000, src := 0, on := true, s0 := 5 }).begun = false ∧ (running.emitOut { dst := 0x2000, src := 0 }).on = false := by
  decide +kernel

/-- The row at the front of the queue runs on the rest. -/
theorem test_step_front : outcome (fun s => (s.pending, s.power.holdReady)) (step { counted with
    power := { counted.power with holdReady := false }, pending := [.holdReady 3100, .calStart] }) = some ([.calStart], true) := by decide +kernel

/-! ## Signal balls -/

/-- The part serves, every unit configured. -/
def configured : State := { running with rst := { running.rst with configured := true } }
/-- A Watch window of the radio, open or not. -/
def watchBalls (isOpen : Bool) : State :=
  { watching 1 isOpen with rst := { running.rst with configured := true } }
/-- The core domain has no supply (R46). -/
def unpowered : State :=
  { running with power := { running.power with save := { running.power.save with began := 1 } }, rtc := { running.rtc with onVbat := true } }

theorem witness_balls :
    (configured.ballPresent .refIn = true ∧ configured.backup = false ∧ configured.ballFused .refIn = false ∧
     configured.power.save.began = 0 ∧ configured.power.mode.serves = true ∧ configured.ballInReset .refIn = false) ∧
    (let s := { configured with port := { configured.port with resetting := true } }
     s.ballPresent (.io 3) = true ∧ s.backup = false ∧ s.port.resetting = true ∧ Signal.hostPort (.io 3) = true) ∧
    ([true, false].all (fun w =>
      let s := watchBalls w
      s.ballPresent .extLnaEn && !s.backup && !s.ballFused .extLnaEn && !s.ballInReset .extLnaEn && s.power.save.began == 0 &&
      s.power.mode == .watch && (Signal.row .extLnaEn).watch == .win && s.inWindow .extLnaEn == w) = true) ∧
    configured.coexMode = 0 ∧ (unpowered.ballPresent .hostRdy = true ∧ unpowered.backup = true) ∧
    ({ configured with part := { configured.part with radio := false } } : State).part.radio = false := by decide +kernel

/-- R49, R516: on the way through Sleep a transmit line of a UART stays high and its driver enable low. -/
theorem test_uart_balls :
    (let s := { configured with power := { configured.power with mode := .sleep } }
     (s.ballState (.txd 0), s.ballState (.de 0), s.ballState .rf24)) = (.high, .low, .off) := by decide +kernel

/-! ## Ill-formed operands are refused -/

/-- A dump with one figure changed. -/
def dumpWith (f : Dump → Dump) : Instr := .correlatorDump 0 (f aDump)

theorem test_wf_dump : Instr.wf (dumpWith id) = true ∧ Instr.wf (dumpWith (fun d => { d with blanked := 10001 })) = false ∧
    Instr.wf (dumpWith (fun d => { d with p := { i := 2 ^ 32 + 1, q := 0 } })) = false ∧
    Instr.wf (dumpWith (fun d => { d with ve := { i := 0, q := -(2 ^ 32) - 1 } })) = false ∧
    Instr.wf (dumpWith (fun d => { d with expected := 2 ^ 31 })) = false := by decide +kernel

theorem test_wf_solution : Instr.wf (.solutionPublished solved) = true ∧ Instr.wf (.solutionPublished { solved with source := 0 }) = false ∧
    Instr.wf (.solutionPublished { solved with source := 5 }) = false ∧ Instr.wf (.solutionPublished { solved with setSeq := 2 ^ 32 }) = false ∧
    Instr.wf (.solutionPublished { solved with svs := 256 }) = false ∧ Instr.wf (.solutionPublished { solved with sysOffset := [0] }) = false := by
  decide +kernel

theorem test_wf_sensors : Instr.wf (.sensorScan []) = false := by decide +kernel
theorem test_wf_block : Instr.wf (.aes3BlockRx 0 (zeros 23) (zeros 24)) = false ∧ Instr.wf (.aes3BlockRx 0 (zeros 24) (zeros 25)) = false := by decide +kernel
theorem test_wf_aes_frame : Instr.wf (.aes3FrameRx 0 (2 ^ 80)
    { wordA := 0, wordB := 0, validityA := false, validityB := false, parityA := false, parityB := false, userA := false, userB := false }) = false := by
  decide +kernel
theorem test_wf_tdm_frame : Instr.wf (.tdmFrameRx 0 0 512 []) = true ∧ Instr.wf (.tdmFrameRx 0 (2 ^ 80) 512 []) = false ∧
    Instr.wf (.tdmFrameRx 0 0 0 []) = false ∧ Instr.wf (.tdmFrameRx 0 0 512 (List.replicate 17 0)) = false := by decide +kernel
theorem test_wf_time_mark : Instr.wf (.timeMark 0 true (2 ^ 80) false) = false := by decide +kernel
theorem test_wf_estimate : Instr.wf (.firstTimeEstimate 7 0 0) = false ∧ Instr.wf (.firstTimeEstimate 1 (2 ^ 80) 0) = false := by decide +kernel
theorem test_wf_sync : Instr.wf (.syncDetect 0 { powers := [], means := [], samples := [] } (2 ^ 80)) = false ∧
    Instr.wf (.syncDetect 0 { powers := [1], means := [], samples := [] } 0) = false := by decide +kernel
theorem test_wf_slice : Instr.wf (.compactionSlice 0) = false := by decide +kernel
theorem test_wf_assist : Instr.wf (.assistLoadDone [65536] none) = false := by decide +kernel
theorem test_wf_agc : Instr.wf (.agcUpdate true [1] [1] 0) = true ∧ Instr.wf (.agcUpdate true [1] [] 0) = false := by decide +kernel

end Sys2Proof.Tests
end

/-! PROOFS. The I/O space of Trowel-H: what its registers read as, what a byte written to them does, and its I/O instructions
(R11, R405, R414–R417). -/
namespace Sys2Proof.Machine

open Sys2Proof.Claims

/-! Bytes of a register -/

theorem byteOf_zero (v : Nat) : byteOf 0 v = v % 256 := by simp only [byteOf, Nat.pow_zero, Nat.div_one]

theorem byteOf_one (v : Nat) : byteOf 1 v = v / 256 % 256 := by simp only [byteOf, Nat.pow_one]

theorem setByte_zero (b : Byte) (v : Nat) : setByte 0 b.toNat v = v / 256 * 256 + b.toNat := by
  have hb : b.toNat < 256 := b.isLt
  simp only [setByte, byteOf_zero, Nat.pow_zero]
  omega

theorem setByte_one (b : Byte) {v : Nat} (hv : v < 65536) : setByte 1 b.toNat v = b.toNat * 256 + v % 256 := by
  have hb : b.toNat < 256 := b.isLt
  simp only [setByte, byteOf_one, Nat.pow_one]
  omega

/-- The number whose bits below `n` are the flags `f`, as the model adds it up for STAT and PENDING. -/
def flagSum (f : Nat → Bool) (n : Nat) : Nat := ((List.range n).map (fun k => if f k then 2 ^ k else 0)).foldl (· + ·) 0

theorem flagSum_succ (f : Nat → Bool) (n : Nat) : flagSum f (n + 1) = flagSum f n + if f n then 2 ^ n else 0 := by
  simp only [flagSum, List.range_succ, List.map_append, List.map_cons, List.map_nil, List.foldl_append, List.foldl_cons,
    List.foldl_nil]

theorem flagSum_lt (f : Nat → Bool) (n : Nat) : flagSum f n < 2 ^ n := by
  induction n with
  | zero => exact Nat.one_pos
  | succ n ih =>
    rw [flagSum_succ, Nat.pow_succ]
    split <;> omega

theorem testBit_flagSum (f : Nat → Bool) {n m : Nat} (h : m < n) : (flagSum f n).testBit m = f m := by
  induction n with
  | zero => omega
  | succ n ih =>
    rw [flagSum_succ, Nat.add_comm]
    rcases Nat.lt_succ_iff_lt_or_eq.mp h with hm | rfl
    · cases f n
      · simpa only [Bool.false_eq_true, if_false, Nat.zero_add] using ih hm
      · simpa only [if_true, Nat.testBit_two_pow_add_gt hm] using ih hm
    · have htop : (flagSum f m).testBit m = false := Nat.testBit_lt_two_pow (flagSum_lt f m)
      cases f m
      · simpa only [Bool.false_eq_true, if_false, Nat.zero_add] using htop
      · simp only [if_true, Nat.testBit_two_pow_add_eq, htop, Bool.not_false]

theorem State.testBit_pendingByte (s : State) {n : Nat} (hn : n < 8) : s.pendingByte.testBit n = s.vectorPending n :=
  testBit_flagSum (fun v => s.vectorPending v) hn

/-! Ranges of addresses -/

theorem within_of_mem {lo hi v : Nat} (h1 : lo ≤ v) (h2 : v ≤ hi) : within lo hi v = true := by
  simp only [within, h1, h2, decide_true, Bool.and_self]

theorem within_of_lt {lo hi v : Nat} (h : v < lo) : within lo hi v = false := by
  have hlo : ¬ lo ≤ v := by omega
  simp only [within, hlo, decide_false, Bool.false_and]

theorem within_of_gt {lo hi v : Nat} (h : hi < v) : within lo hi v = false := by
  have hhi : ¬ v ≤ hi := by omega
  simp only [within, hhi, decide_false, Bool.and_false]

/-! What a read gives, by the part of the I/O map it falls in (R414) -/

section Reads
variable (s : State)

theorem State.ioRead_unpublished {a : Nat} (h1 : 0x2000 ≤ a) (h2 : a < 0xF000) : s.ioRead a = .error (.unpublished a) := by
  simp (disch := omega) only [State.ioRead, within_of_mem, if_true]

theorem State.ioRead_core {a v : Nat} (ha : a < 0x100) (hv : s.coreRead a = v) : s.ioRead a = .ok (v, s) := by
  simp (disch := omega) only [State.ioRead, within_of_lt, ha, hv, if_true, if_false, Bool.false_eq_true]

theorem State.ioRead_stat {k : Nat} (hk : k < 16) :
    s.ioRead (0x100 + k) = .ok (flagSum (fun n => (s.event (8 * k + n)).stat) 8, s) := by
  have hcore : ¬ 0x100 + k < 0x100 := by omega
  have hbyte : 0x100 + k - 0x100 = k := by omega
  simp (disch := omega) only [State.ioRead, within_of_lt, within_of_mem, hcore, hbyte, flagSum, if_true, if_false,
    Bool.false_eq_true]

theorem State.ioRead_evCfg {a n k : Nat} (ha : a = 0x200 + 2 * n + k) (hn : n < 128) (hk : k < 2) :
    s.ioRead a = .ok (byteOf k (s.event n).cfg, s) := by
  have hcore : ¬ a < 0x100 := by omega
  have hbyte : a % 2 = k := by omega
  have hsource : (a - 0x200) / 2 = n := by omega
  simp (disch := omega) only [State.ioRead, within_of_lt, within_of_gt, within_of_mem, hcore, hbyte, hsource, if_false, if_true,
    Bool.false_eq_true]

theorem State.ioRead_occur {a n k : Nat} (ha : a = 0x400 + 4 * n + k) (hn : n < 128) (hk : k < 4) :
    s.ioRead a = .ok (byteOf k (s.event n).occur, s) := by
  have hcore : ¬ a < 0x100 := by omega
  have hbyte : a % 4 = k := by omega
  have hsource : (a - 0x400) / 4 = n := by omega
  simp (disch := omega) only [State.ioRead, within_of_lt, within_of_gt, within_of_mem, hcore, hbyte, hsource, if_false, if_true,
    Bool.false_eq_true]

theorem State.ioRead_port {a q r : Nat} (ha : a = 0x1000 + 32 * q + r) (hq : q < 32) (hr : r < 32) :
    s.ioRead a = .ok (s.portRead q r, if r = 6 then s.modQueue q Queue.popAdvance else s) := by
  have hcore : ¬ a < 0x100 := by omega
  have hport : a % 32 = r := by omega
  have hqueue : (a - 0x1000) / 32 = q := by omega
  simp (disch := omega) only [State.ioRead, within_of_lt, within_of_gt, within_of_mem, hcore, hport, hqueue, if_false, if_true,
    Bool.false_eq_true]

/-- R416: of the port registers only POP_DATA changes anything when it is read. -/
theorem State.ioRead_port_pure {a q r v : Nat} (ha : a = 0x1000 + 32 * q + r) (hq : q < 32) (hr : r < 32) (hr6 : r ≠ 6)
    (hv : s.portRead q r = v) : s.ioRead a = .ok (v, s) := by
  rw [s.ioRead_port ha hq hr, hv, if_neg hr6]

theorem State.coreRead_loop {a l k : Nat} (ha : a = 0x20 + 8 * l + k) (hl : l < 3) (hk : k < 8) :
    s.coreRead a = (s.trowelH.loops.getD l {}).byte k := by
  have hlevel : (a - 0x20) / 8 = l := by omega
  have hbyte : a % 8 = k := by omega
  simp (disch := omega) only [State.coreRead, within_of_mem, hlevel, hbyte, if_true]

theorem State.ioRead_loop {a l v : Nat} (k : Nat) (ha : a = 0x20 + 8 * l + k) (hl : l < 3) (hk : k < 8)
    (hv : (s.trowelH.loops.getD l {}).byte k = v) : s.ioRead a = .ok (v, s) :=
  s.ioRead_core (by omega) ((s.coreRead_loop ha hl hk).trans hv)

theorem State.coreRead_qtSnap {k : Nat} (hk : k < 10) : s.coreRead (0x51 + k) = (s.trowelH.qtSnap.getD k 0).toNat := by
  have hbyte : 0x51 + k - 0x51 = k := by omega
  simp (disch := omega) only [State.coreRead, within_of_gt, within_of_mem, hbyte, if_true, if_false, Bool.false_eq_true]

theorem State.coreRead_crc32 {k : Nat} (hk : k < 4) : s.coreRead (0x3C + k) = byteOf k s.trowelH.crc32 := by
  match k, hk with
  | 0, _ | 1, _ | 2, _ | 3, _ => rfl

theorem State.portRead_popLen {q k : Nat} (hk : k < 2) :
    s.portRead q (4 + k) = byteOf k (match (s.queue q).entries with | e :: _ => e.data.length | [] => 0) := by
  match k, hk with
  | 0, _ | 1, _ =>
    simp only [State.portRead]
    cases (s.queue q).entries <;> rfl

theorem State.portRead_level {q k : Nat} (hk : k < 2) : s.portRead q (8 + k) = byteOf k (s.queue q).entries.length := by
  match k, hk with
  | 0, _ | 1, _ => rfl

theorem State.portRead_room {q k : Nat} (hk : k < 2) :
    s.portRead q (10 + k) = byteOf k (queueDepth q - (s.queue q).entries.length) := by
  match k, hk with
  | 0, _ | 1, _ => rfl

end Reads

/-- R414–R416: each register by the part of the map it falls in; a flag byte's bits are those of `flagSum`. -/
theorem ioSpaceReadsAsMapped : IoSpaceReadsAsMapped := by
  intro s t
  refine ⟨s.ioRead_core (by decide) rfl, s.ioRead_core (by decide) rfl,
    s.ioRead_core (by decide) (byteOf_zero t.dsSpill), s.ioRead_core (by decide) (byteOf_one t.dsSpill),
    s.ioRead_core (by decide) (byteOf_zero t.dsBase), s.ioRead_core (by decide) (byteOf_one t.dsBase),
    s.ioRead_core (by decide) (byteOf_zero t.dsLimit), s.ioRead_core (by decide) (byteOf_one t.dsLimit),
    s.ioRead_core (by decide) rfl, s.ioRead_core (by decide) rfl, s.ioRead_core (by decide) rfl,
    ⟨s.pendingByte, s.ioRead_core (by decide) rfl, fun n hn => s.testBit_pendingByte hn⟩,
    s.ioRead_core (by decide) rfl, s.ioRead_core (by decide) rfl,
    s.ioRead_core (by decide) (byteOf_zero t.trapPc), s.ioRead_core (by decide) (byteOf_one t.trapPc),
    s.ioRead_core (by decide) rfl, s.ioRead_core (by decide) rfl, s.ioRead_core (by decide) rfl,
    ?loops,
    s.ioRead_core (by decide) (byteOf_zero t.crc16), s.ioRead_core (by decide) (byteOf_one t.crc16),
    s.ioRead_core (by decide) rfl,
    fun k hk => s.ioRead_core (by omega) (s.coreRead_crc32 hk),
    s.ioRead_core (by decide) rfl,
    fun k hk => s.ioRead_core (by omega) (s.coreRead_qtSnap hk),
    fun k hk => ⟨_, s.ioRead_stat hk, fun n hn => testBit_flagSum (fun n => (s.event (8 * k + n)).stat) hn⟩,
    ?evCfg,
    fun n k hn hk => s.ioRead_occur rfl hn hk,
    ?ports,
    fun a h1 h2 => s.ioRead_unpublished h1 h2⟩
  case loops =>
    intro l hl v
    exact ⟨s.ioRead_loop 0 rfl hl (by decide) (byteOf_zero v.ls), s.ioRead_loop 1 (by omega) hl (by decide) (byteOf_one v.ls),
      s.ioRead_loop 2 (by omega) hl (by decide) (byteOf_zero v.le), s.ioRead_loop 3 (by omega) hl (by decide) (byteOf_one v.le),
      s.ioRead_loop 4 (by omega) hl (by decide) (byteOf_zero v.lc), s.ioRead_loop 5 (by omega) hl (by decide) (byteOf_one v.lc),
      s.ioRead_loop 6 (by omega) hl (by decide) rfl⟩
  case evCfg =>
    intro n hn
    rw [← byteOf_zero, ← byteOf_one]
    exact ⟨s.ioRead_evCfg rfl hn (by decide), s.ioRead_evCfg (by omega) hn (by decide)⟩
  case ports =>
    intro q hq a
    exact ⟨fun k hk => s.ioRead_port_pure (r := 4 + k) (Nat.add_assoc _ _ _) hq (by omega) (by omega) (s.portRead_popLen hk),
      s.ioRead_port rfl hq (by decide),
      fun k hk => s.ioRead_port_pure (r := 8 + k) (Nat.add_assoc _ _ _) hq (by omega) (by omega) (s.portRead_level hk),
      fun k hk => s.ioRead_port_pure (r := 10 + k) (Nat.add_assoc _ _ _) hq (by omega) (by omega) (s.portRead_room hk)⟩

/-! What a write does (R11, R113, R414, R415) -/

section Writes
variable (s : State)

theorem State.ioWrite_core {a : Nat} (b : Nat) (ha : a < 0x100) : s.ioWrite a b = .ok (s.coreWrite a b) := by
  simp (disch := omega) only [State.ioWrite, within_of_lt, ha, if_true, if_false, Bool.false_eq_true]

theorem State.ioWrite_evCfgHigh {n : Nat} (b : Nat) (hn : n < 128) :
    s.ioWrite (0x200 + 2 * n + 1) b = .ok (s.setEvCfg n (setByte 1 b (s.event n).cfg)) := by
  have hcore : ¬ 0x200 + 2 * n + 1 < 0x100 := by omega
  have hraise : ¬ 0x200 + 2 * n + 1 = 0x110 := by omega
  have hbyte : (0x200 + 2 * n + 1) % 2 = 1 := by omega
  have hsource : (0x200 + 2 * n + 1 - 0x200) / 2 = n := by omega
  simp (disch := omega) only [State.ioWrite, within_of_lt, within_of_gt, within_of_mem, hcore, hraise, hbyte, hsource, if_false,
    if_true, Bool.false_eq_true]

theorem State.ioWrite_above_units {a : Nat} (b : Nat) (ha : 0xF000 ≤ a) : s.ioWrite a b = .ok s := by
  have hcore : ¬ a < 0x100 := by omega
  have hraise : ¬ a = 0x110 := by omega
  simp (disch := omega) only [State.ioWrite, within_of_gt, hcore, hraise, if_false, Bool.false_eq_true]

theorem State.ioWrite_unpublished {a : Nat} (b : Nat) (h1 : 0x2000 ≤ a) (h2 : a < 0xF000) :
    s.ioWrite a b = .error (.unpublished a) := by
  simp (disch := omega) only [State.ioWrite, within_of_mem, if_true]

end Writes

theorem exec_registerWrite (a : BitVec 16) (v : Byte) (s : State) :
    exec (.registerWrite a v) s = trowelStep 0 s (s.ioWrite a.toNat v.toNat) := (rfl)

section RegisterWrites
variable {s : State} {v : Byte}

theorem exec_registerWrite_of_ok {a : BitVec 16} {u : State} (h : s.ioWrite a.toNat v.toNat = .ok u) :
    exec (.registerWrite a v) s = .next u := by
  simp only [exec_registerWrite, h, trowelStep]

theorem exec_registerWrite_unpublished {a : BitVec 16} (h1 : 0x2000 ≤ a.toNat) (h2 : a.toNat < 0xF000) :
    exec (.registerWrite a v) s = .refused (.unpublishedRegister a.toNat) := by
  simp only [exec_registerWrite, s.ioWrite_unpublished v.toNat h1 h2, trowelStep]

theorem exec_registerWrite_core {a : BitVec 16} {u : State} (ha : a.toNat < 0x100) (hu : s.coreWrite a.toNat v.toNat = u) :
    exec (.registerWrite a v) s = .next u :=
  exec_registerWrite_of_ok (hu ▸ s.ioWrite_core v.toNat ha)

/-- R415: the two bytes of a 16-bit core register of value `x`; `put w` is the state with the register at `w`. -/
theorem exec_registerWrite_wordBytes {lo hi : BitVec 16} {x : Nat} (put : Nat → State)
    (hlo : lo.toNat < 0x100) (hhi : hi.toNat < 0x100)
    (putLo : s.coreWrite lo.toNat v.toNat = put (setByte 0 v.toNat x))
    (putHi : s.coreWrite hi.toNat v.toNat = put (setByte 1 v.toNat x)) (b : Nat) (hx : x = b) (hb : b < 65536) :
    exec (.registerWrite lo v) s = .next (put (b / 256 * 256 + v.toNat)) ∧
    exec (.registerWrite hi v) s = .next (put (v.toNat * 256 + b % 256)) := by
  subst hx
  rw [← setByte_zero, ← setByte_one v hb]
  exact ⟨exec_registerWrite_core hlo putLo, exec_registerWrite_core hhi putHi⟩

end RegisterWrites

/-! EV_CFG as firmware writes it (R113) -/

theorem modAt_congr {α : Type} {n : Nat} {f g : α → α} {l : List α} (d : α) (h : f (l.getD n d) = g (l.getD n d)) :
    modAt n f l = modAt n g l := by
  induction l generalizing n with
  | nil => cases n <;> rfl
  | cons a r ih =>
    cases n with
    | zero => exact congrArg (· :: r) h
    | succ n => exact congrArg (a :: ·) (ih h)

theorem State.modEvent_congr {n : Nat} {f g : EventSource → EventSource} {s : State} (h : f (s.event n) = g (s.event n)) :
    s.modEvent n f = s.modEvent n g := by
  unfold State.modEvent
  rw [modAt_congr {} h]

/-- R111: with STAT at 0 no packet is posted. -/
theorem State.setEvCfg_of_stat_clear {n : Nat} (cfg : Nat) {s : State} (h : (s.event n).stat = false) :
    s.setEvCfg n cfg = s.modEvent n (fun e => { e with cfg := mergeCfg e.cfg cfg }) := by
  have hstat : ((s.modEvent n (fun e => { e with cfg := mergeCfg e.cfg cfg })).event n).stat = false := by
    rw [State.event_modEvent]
    split <;> exact h
  simp only [State.setEvCfg, hstat, Bool.false_and, if_false, Bool.false_eq_true]

/-- R113: the bits of the Steward are all in the low byte, which a write of the high byte leaves as it was. -/
theorem mergeCfg_setByte_one (b : Byte) {c : Nat} (hc : c < 65536) :
    mergeCfg c (setByte 1 b.toNat c) = b.toNat * 256 + c % 256 := by
  have hb : b.toNat < 256 := b.isLt
  rw [setByte_one b hc]
  generalize hx : b.toNat * 256 + c % 256 = x
  have hlow : c &&& 0xE4 = x &&& 0xE4 := by
    calc c &&& 0xE4 = (c &&& (2 ^ 8 - 1)) &&& 0xE4 := (Nat.and_assoc c (2 ^ 8 - 1) 0xE4).symm
      _ = (x &&& (2 ^ 8 - 1)) &&& 0xE4 := by rw [Nat.and_two_pow_sub_one_eq_mod, Nat.and_two_pow_sub_one_eq_mod]; congr 1; omega
      _ = x &&& 0xE4 := Nat.and_assoc x (2 ^ 8 - 1) 0xE4
  calc mergeCfg c x = (c &&& 0xE4) ||| (x &&& 0xFF1B) := rfl
    _ = x &&& (0xE4 ||| 0xFF1B) := by rw [hlow, Nat.and_or_distrib_left]
    _ = x % 2 ^ 16 := Nat.and_two_pow_sub_one_eq_mod x 16
    _ = x := Nat.mod_eq_of_lt (by omega)

/-- R113: a write of the high byte of EV_CFG of a source whose STAT is 0. -/
theorem State.setEvCfg_highByte {n : Nat} (b : Byte) {s : State} (hc : (s.event n).cfg < 65536) (hs : (s.event n).stat = false) :
    s.setEvCfg n (setByte 1 b.toNat (s.event n).cfg) =
      s.modEvent n (fun e => { e with cfg := b.toNat * 256 + (s.event n).cfg % 256 }) := by
  rw [State.setEvCfg_of_stat_clear _ hs]
  exact State.modEvent_congr (by rw [mergeCfg_setByte_one b hc])

/-- R11, R113, R414, R415: each register by the part of the map it falls in; EV_CFG keeps the bits of the Steward. -/
theorem registerWriteActsAsMapped : RegisterWriteActsAsMapped := by
  intro s v t
  refine ⟨exec_registerWrite_core (by decide) rfl, exec_registerWrite_core (by decide) rfl,
    exec_registerWrite_core (by decide) rfl, exec_registerWrite_core (by decide) rfl,
    exec_registerWrite_core (by decide) rfl, exec_registerWrite_core (by decide) rfl,
    exec_registerWrite_core (by decide) rfl,
    exec_registerWrite_wordBytes (fun w => { s with trowelH := { t with dsBase := w } }) (by decide) (by decide) rfl rfl,
    exec_registerWrite_wordBytes (fun w => { s with trowelH := { t with dsLimit := w } }) (by decide) (by decide) rfl rfl,
    exec_registerWrite_wordBytes (fun w => { s with trowelH := { t with dsSpill := w } }) (by decide) (by decide) rfl rfl,
    exec_registerWrite_wordBytes (fun w => { s with trowelH := { t with crc16 := w } }) (by decide) (by decide) rfl rfl,
    exec_registerWrite_core (by decide) rfl, ?evCfg,
    fun a h => exec_registerWrite_of_ok (s.ioWrite_above_units v.toNat h),
    fun a h1 h2 => exec_registerWrite_unpublished h1 h2⟩
  case evCfg =>
    intro n hn
    have ha : (BitVec.ofNat 16 (0x200 + 2 * n + 1)).toNat = 0x200 + 2 * n + 1 := by
      rw [BitVec.toNat_ofNat]; omega
    refine ⟨_, exec_registerWrite_of_ok (ha ▸ s.ioWrite_evCfgHigh v.toNat hn), fun hc hlen hs => ?_⟩
    rw [State.setEvCfg_highByte v hc hs, State.event_modEvent, if_pos ⟨rfl, hlen⟩]
    exact ⟨rfl, rfl⟩

/-! The I/O instructions (R404, R405, R408) -/

@[simp] theorem State.setCore_core (c : Nat) (s : State) : s.setCore c (s.core c) = s := by
  unfold State.setCore State.core
  split <;> rfl

/-- R404, R408: an instruction whose effect succeeds, past PC, completes with what the effect gives. -/
theorem trowelDo_of_ok {c : Nat} {f : CoreOp} {s s' : State} (h : f c (s.core c).imm (passPc c s) = .ok s') :
    trowelDo c f s = .ok (completed c s s') := by
  rw [passPc] at h
  simp only [trowelDo, h, completed, passed, bind, Except.bind]
  split
  · rfl
  · rw [State.setCore_core]
    rfl

theorem trowelRow_of_ok {op : Nat} {f : CoreOp} {s s' : State} (hat : atOp op s.trowelH = true)
    (h : f 0 s.trowelH.imm (passPc 0 s) = .ok s') : trowelRow (isOp op) f 0 s = .next (completed 0 s s') := by
  have hrow : ((s.core 0).runs && (s.core 0).bankPresent (s.core 0).cbank && isOp op (s.core 0).opcode) = true := hat
  simp only [trowelRow, hrow, if_true, trowelDo_of_ok (c := 0) h]
  rfl

/-- R405, R414, R417: the effect of each I/O instruction is the chain of its pops, accesses and pushes. -/
theorem trowelIoInstructionsComplete : TrowelIoInstructionsComplete := by
  intro s s1 s2 s3 a b v w h t p
  refine ⟨?inIo, ?outIo, ?ina, ?outa, ?inw, ?outw⟩
  case inIo =>
    intro hat hpop hread hpush
    exact trowelRow_of_ok hat (by simp only [effIn, p, hpop, hread, hpush, bind, Except.bind])
  case outIo =>
    intro hat hpopA hpopB hwrite
    exact trowelRow_of_ok hat (by simp only [effOut, p, hpopA, hpopB, hwrite, bind, Except.bind])
  case ina =>
    intro hat hread hpush
    exact trowelRow_of_ok hat (by simp only [effIna, p, t, hread, hpush, bind, Except.bind])
  case outa =>
    intro hat hpop hwrite
    exact trowelRow_of_ok hat (by simp only [effOuta, p, t, hpop, hwrite, bind, Except.bind])
  case inw =>
    intro hat hlow hhigh hpush
    exact trowelRow_of_ok hat (by simp only [effInw, p, t, hlow, hhigh, hpush, bind, Except.bind])
  case outw =>
    intro hat hpop hlow hhigh
    exact trowelRow_of_ok hat (by simp only [effOutw, p, t, hpop, hlow, hhigh, bind, Except.bind])

/-- Settles O3: the I/O instructions, what the I/O space reads as, and what firmware's writes of one byte do. -/
theorem trowelIoComplete : Obligations.TrowelIoComplete :=
  ⟨trowelIoInstructionsComplete, ioSpaceReadsAsMapped, registerWriteActsAsMapped⟩

end Sys2Proof.Machine

/-! PROOFS. The signal balls: their states by mode and the levels the part drives there (R44–R46, R48, R49, R52, R53, R58–R60). -/
namespace Sys2Proof.Machine

/-! The rows of R48 and R49 -/

/-- A column of the row has the ball driven high. -/
def BallRow.drivesHigh (r : BallRow) : Bool := [r.reset, r.sleep, r.watch, r.standby].contains .high

theorem BallRow.drivesHigh_eq_false_iff (r : BallRow) :
    r.drivesHigh = false ↔ r.reset ≠ .high ∧ r.sleep ≠ .high ∧ r.watch ≠ .high ∧ r.standby ≠ .high := by
  simp only [BallRow.drivesHigh, List.contains_eq_mem, List.mem_cons, List.not_mem_nil, or_false, decide_eq_false_iff_not,
    not_or, ne_eq, eq_comm (a := BallState.high)]

theorem BallRow.inMode_of_serves {m : Mode} (r : BallRow) (h : m.serves = true) : r.inMode m = .act := by
  cases m with
  | timing | runWorker | runManager | maintenance => rfl
  | backup | sleep | watch | standby => nomatch h

theorem BallRow.inMode_ne_high {r : BallRow} (h : r.drivesHigh = false) (m : Mode) : r.inMode m ≠ .high := by
  obtain ⟨-, hsleep, hwatch, hstandby⟩ := r.drivesHigh_eq_false_iff.mp h
  cases m with
  | sleep => exact hsleep
  | watch => exact hwatch
  | standby => exact hstandby
  | backup | timing | runWorker | runManager | maintenance => nofun

/-! Which balls are in reset, and which a window uses -/

theorem State.ballInReset_of_hostPort {x : Signal} {s : State} (hx : x.hostPort = true) (h : s.port.resetting = true) :
    s.ballInReset x = true := by
  simp only [State.ballInReset, hx, h, if_true, Bool.or_true]

theorem State.ballInReset_of_configured {x : Signal} {s : State} (hc : s.rst.configured = true)
    (h : x.hostPort = false ∨ s.port.resetting = false) : s.ballInReset x = false := by
  cases hx : x.hostPort with
  | false => simp only [State.ballInReset, hx, hc, Bool.false_eq_true, if_false, Bool.not_true]
  | true =>
    have hport : s.port.resetting = false := by simpa only [hx, Bool.true_eq_false, false_or] using h
    simp only [State.ballInReset, hx, hc, hport, if_true, Bool.true_or, Bool.not_true, Bool.or_false]

/-- R45: a host-port reset puts no other ball in reset. -/
theorem State.ballInReset_portReset {x : Signal} (hx : x.hostPort = false) (b : Bool) (s : State) :
    ({ s with port := { s.port with resetting := b } } : State).ballInReset x = s.ballInReset x := by
  simp only [State.ballInReset, hx, Bool.false_eq_true, if_false]

theorem State.inWindow_of_unused {x : Signal} {s : State} (h : ∀ w : WatchCfg, w.uses x s.coexMode = false) :
    s.inWindow x = false := by
  unfold State.inWindow
  split
  · rw [h, Bool.and_false]
  · exact Bool.and_false _

/-- R53: without coexistence arbitration no window uses COEX_REQ or COEX_PRI. -/
theorem WatchCfg.uses_coex_zero {x : Signal} (hx : x = .coexReq ∨ x = .coexPri) (w : WatchCfg) : w.uses x 0 = false := by
  rcases hx with rfl | rfl
  · exact Bool.and_false _
  · exact Bool.and_false _

/-! The state of a ball, branch by branch of `State.ballState` -/

section BallState
variable {x : Signal} {s : State}

/-- R46: without its supply a ball keeps no state, but for those of the RTC and VHOLD domains. -/
theorem State.ballState_of_backup (hp : s.ballPresent x = true) (hb : s.backup = true) (hrtc : x.powered = false)
    (hx : x ≠ .pfailN) : s.ballState x = .unpowered := by
  simp [State.ballState, hp, hb, hrtc, hx]

/-- R52: PFAIL_N acts for as long as it is low. -/
theorem State.ballState_pfailN_of_low (hl : s.power.pfailLow = true) : s.ballState .pfailN = .act := by
  have hp : s.ballPresent .pfailN = true := rfl
  simp [State.ballState, hp, hl, Signal.powered]

section Powered
variable (hp : s.ballPresent x = true) (hb : s.backup = false) (hx : (decide (x = .pfailN) && s.power.pfailLow) = false)
include hp hb hx

/-- R45, R59: a ball fused off, and one that its unit has not configured. -/
theorem State.ballState_of_reset (hr : (s.ballFused x || s.ballInReset x) = true) : s.ballState x = x.row.reset := by
  simp only [State.ballState, hp, hb, hx, hr, Bool.not_true, Bool.false_eq_true, if_true, if_false]

variable (hf : s.ballFused x = false) (hr : s.ballInReset x = false) (hs : s.power.save.began = 0)
include hf hr hs

/-- R48, R49: the entry of the row for the mode. -/
theorem State.ballState_of_mode {b : BallState} (hm : x.row.inMode s.power.mode = b) (hw : b ≠ .win) : s.ballState x = b := by
  subst hm
  simp only [State.ballState, hp, hb, hx, hf, hr, hs, Bool.not_true, Bool.or_self, bne_self_eq_false, Bool.false_eq_true, if_false]

/-- R44: a Win ball. -/
theorem State.ballState_of_win (hm : x.row.inMode s.power.mode = .win) :
    s.ballState x = if s.inWindow x = true then .act else x.row.sleep := by
  simp only [State.ballState, hp, hb, hx, hf, hr, hs, hm, Bool.not_true, Bool.or_self, bne_self_eq_false, Bool.false_eq_true,
    if_false]

end Powered

/-- All that the state of a ball can be. -/
theorem State.ballState_cases (x : Signal) (s : State) :
    (s.ballState x = .absent ∨ s.ballState x = .unpowered) ∨
    (s.ballState x = x.row.reset ∨ s.ballState x = x.row.sleep ∨ s.ballState x = x.row.inMode s.power.mode) ∨
    (s.ballState x = .act ∧ (x.powered = true ∨ x = .pfailN ∨ s.inWindow x = true)) := by
  have hpfail (h : (decide (x = .pfailN) && s.power.pfailLow) = true) : x = .pfailN :=
    of_decide_eq_true (Bool.and_eq_true_iff.mp h).1
  unfold State.ballState
  split
  · exact .inl (.inl rfl)
  split
  case isTrue =>
    split
    · exact .inr (.inr ⟨rfl, .inl ‹_›⟩)
    split
    · exact .inr (.inr ⟨rfl, .inr (.inl (hpfail ‹_›))⟩)
    · exact .inl (.inr rfl)
  split
  · exact .inr (.inr ⟨rfl, .inr (.inl (hpfail ‹_›))⟩)
  split
  · exact .inr (.inl (.inl rfl))
  split
  · exact .inr (.inl (.inr (.inl rfl)))
  split
  · split
    · exact .inr (.inr ⟨rfl, .inr (.inr ‹_›)⟩)
    · exact .inr (.inl (.inr (.inl rfl)))
  · exact .inr (.inl (.inr (.inr rfl)))

/-- R53: in Watch a ball whose row is L in every column, and that no window uses, is L where it has power. -/
theorem State.ballState_of_watch_low (hm : s.power.mode = .watch) (hrow : x.row = .same .low .low) (hrtc : x.powered = false)
    (hx : x ≠ .pfailN) (hw : s.inWindow x = false) : s.ballState x ∈ [.absent, .unpowered, .low] := by
  have h := s.ballState_cases x
  simpa [hm, hrow, hrtc, hx, hw, BallRow.same, BallRow.inMode, or_assoc] using h

theorem State.ballState_ne_high (s : State) (h : x.row.drivesHigh = false) : s.ballState x ≠ .high := by
  obtain ⟨hreset, hsleep, -, -⟩ := x.row.drivesHigh_eq_false_iff.mp h
  rcases s.ballState_cases x with (hs | hs) | (hs | hs | hs) | ⟨hs, -⟩
  all_goals rw [hs]
  · nofun
  · nofun
  · exact hreset
  · exact hsleep
  · exact BallRow.inMode_ne_high h _
  · nofun

/-- R45: a host-port reset leaves every other ball as it is. -/
theorem State.ballState_portReset (hx : x.hostPort = false) (b : Bool) (s : State) :
    ({ s with port := { s.port with resetting := b } } : State).ballState x = s.ballState x := by
  unfold State.ballState
  rw [State.ballInReset_portReset hx]
  rfl

/-- R45: the start of a reset leaves every ball in its Reset column. -/
theorem State.ballState_startReset (cause : Nat) (hp : s.ballPresent x = true) :
    (s.startReset cause).ballState x = x.row.reset := by
  have hreset : (s.startReset cause).ballInReset x = true := by
    cases hx : x.hostPort with
    | true => simp only [State.ballInReset, hx, if_true]; rfl
    | false => simp only [State.ballInReset, hx, Bool.false_eq_true, if_false]; rfl
  exact State.ballState_of_reset hp rfl (Bool.and_false _) (by rw [hreset, Bool.or_true])

/-- R45: in the modes that serve every configured ball is Act. -/
theorem State.ballState_of_serves (hp : s.ballPresent x = true) (hb : s.backup = false) (hf : s.ballFused x = false)
    (hr : s.ballInReset x = false) (hs : s.power.save.began = 0) (hm : s.power.mode.serves = true) : s.ballState x = .act := by
  cases hx : decide (x = .pfailN) && s.power.pfailLow with
  | false => exact State.ballState_of_mode hp hb hx hf hr hs (x.row.inMode_of_serves hm) nofun
  | true =>
    obtain ⟨hpfail, hlow⟩ := Bool.and_eq_true_iff.mp hx
    exact of_decide_eq_true hpfail ▸ State.ballState_pfailN_of_low hlow

/-! The level the part drives -/

/-- A ball is high only where its row or its unit drives it high. -/
theorem State.ballLevel_ne_high {now : Bool} (hrow : s.ballState x ≠ .high) (hunit : s.actLevel x now ≠ some true) :
    s.ballLevel x now ≠ some true := by
  unfold State.ballLevel
  split
  · nofun
  · contradiction
  · exact hunit
  · exact hunit
  · nofun

theorem State.radioOn_of_no_radio (h : s.part.radio = false) : s.radioOn = false := by
  rw [State.radioOn, h, Bool.false_and]

/-- R60: a radio-N part drives none of the control balls of the radio high. -/
theorem State.ballLevel_of_no_radio (h : s.part.radio = false) (now : Bool)
    (hx : x = .extPaEn ∨ x = .extLnaEn ∨ (∃ n, x = .extSw n) ∨ x = .coexReq ∨ x = .coexPri) :
    s.ballLevel x now ≠ some true := by
  have hoff : s.radioOn = false := State.radioOn_of_no_radio h
  rcases hx with rfl | rfl | ⟨n, rfl⟩ | rfl | rfl
  all_goals refine State.ballLevel_ne_high (s.ballState_ne_high rfl) ?_
  · simp [State.actLevel, State.extPaEn, hoff]
  · simp [State.actLevel, State.extLnaEn, hoff]
  · cases n with
    | zero => simp [State.actLevel, State.extSw0, hoff]
    | succ n => simp [State.actLevel, State.extSw1, hoff]
  · simp [State.actLevel, State.coexReq, hoff]
  · simp [State.actLevel, State.coexPri, hoff]

/-- R43: an open-drain line drives low or not at all. -/
theorem State.ballLevel_openDrain (s : State) (now : Bool) (hx : x = .hostIrqN ∨ x = .pfailN) :
    s.ballLevel x now ≠ some true := by
  have hlow : ∀ low : Bool, (if low then some false else none) ≠ some true := by decide
  rcases hx with rfl | rfl
  · exact State.ballLevel_ne_high (s.ballState_ne_high rfl) (hlow s.hostIrqLow)
  · exact State.ballLevel_ne_high (s.ballState_ne_high rfl) (hlow s.power.pfailLow)

/-- R53: EXT_PA_EN stays L throughout Watch. -/
theorem State.ballLevel_extPaEn_watch (hm : s.power.mode = .watch) (now : Bool) : s.ballLevel .extPaEn now ≠ some true := by
  have h := State.ballState_of_watch_low (x := .extPaEn) hm rfl rfl nofun (State.inWindow_of_unused fun _ => rfl)
  simp only [List.mem_cons, List.not_mem_nil, or_false] at h
  unfold State.ballLevel
  rcases h with hs | hs | hs
  all_goals rw [hs]; nofun

end BallState

/-- Settles O50: each clause by the branch of `State.ballState` that its hypotheses select. -/
theorem ballsTakeStatedStates : Obligations.BallsTakeStatedStates := by
  intro x s cause now
  refine ⟨fun hp => State.ballState_startReset cause hp,
    fun hp hb hf hs hm hc hport => State.ballState_of_serves hp hb hf (State.ballInReset_of_configured hc hport) hs hm,
    ?portReset, fun b hx => State.ballState_portReset hx b s, ?win,
    fun hcoex hx => State.inWindow_of_unused (hcoex ▸ WatchCfg.uses_coex_zero hx),
    fun hm => State.ballLevel_extPaEn_watch hm now,
    ?unpowered,
    fun hradio hx => State.ballLevel_of_no_radio hradio now hx,
    fun hx => s.ballLevel_openDrain now hx⟩
  case portReset =>
    intro hp hb hport hx
    have hpfail : x ≠ .pfailN := by rintro rfl; nomatch hx
    exact State.ballState_of_reset hp hb (by simp [hpfail]) (by rw [State.ballInReset_of_hostPort hx hport, Bool.or_true])
  case win =>
    intro hp hb hf hr hs hm hwin
    have hpfail : x ≠ .pfailN := by rintro rfl; nomatch hwin
    exact State.ballState_of_win hp hb (by simp [hpfail]) hf hr hs (hm ▸ hwin)
  case unpowered =>
    intro hp hb hxtal hpfail
    have hrtc : x.powered = false := by
      unfold Signal.powered
      split
      · contradiction
      · rfl
    exact State.ballState_of_backup hp hb hrtc hpfail

end Sys2Proof.Machine

/-! PROOFS. What an occurrence of an event source leaves as it was, and a reply in Q01 (R71, R75, R80, R98, R100, R109, R111). -/
namespace Sys2Proof.Machine

/-! What an occurrence leaves unchanged (R109, R111, R564) -/

/-- Whatever holds over the primitive updates of an occurrence holds over the whole chain that it sets going. -/
theorem occurN_induction {P : State → Prop} (event : ∀ n f s, P s → P (s.modEvent n f))
    (dma : ∀ d s, P s → P { s with dma := d }) (tick : ∀ k s, P s → P { s with freeTick := k })
    (queue : ∀ f s, P s → P (s.modQueue 2 f)) (err : ∀ s, P s → P s.setPortErr)
    (fuel n code : Nat) (detail : Bytes) (s : State) (h : P s) : P (occurN fuel n code detail s) := by
  have pulse : ∀ k s, P s → P (pulseLine k s).1 := by
    intro k s h
    unfold pulseLine
    split <;> exact dma _ s h
  induction fuel generalizing n code detail s with
  | zero => exact h
  | succ fuel ih =>
    rw [occurN]
    split
    · exact h
    · extract_lets was t e r overrun post
      have ht : P t := event _ _ _ h
      have hr : P r.1 := by
        unfold r
        split
        · exact pulse _ _ ht
        · exact ht
      have hoverrun : ∀ u, P u → P (overrun u) := by
        intro u hu
        unfold overrun
        split
        · exact ih _ _ _ _ (tick _ _ hu)
        · exact hu
      have hpost : ∀ u, P u → P (post u) := by
        intro u hu
        unfold post
        split
        · split
          · dsimp only
            split
            · exact ih _ _ _ _ (queue _ _ hu)
            · exact queue _ _ hu
          · exact ih _ _ _ _ (ih _ _ _ _ (queue _ _ (err _ hu)))
        · exact hu
      split
      · exact hoverrun _ (hpost _ hr)
      · exact hpost _ (hoverrun _ hr)

section Occur
variable (n code : Nat) (detail : Bytes) (s : State)

@[simp] theorem State.occur_sessions : (s.occur n code detail).sessions = s.sessions :=
  occurN_induction (P := fun t => t.sessions = s.sessions) (fun _ _ _ h => h) (fun _ _ h => h) (fun _ _ h => h) (fun _ _ h => h)
    (fun _ h => h) 8 n code detail s rfl

/-- R111: of the queues an occurrence writes Q02 alone. -/
theorem State.occur_queue {m : Nat} (hm : m ≠ 2) : (s.occur n code detail).queue m = s.queue m :=
  occurN_induction (P := fun t => t.queue m = s.queue m) (fun _ _ _ h => h) (fun _ _ h => h) (fun _ _ h => h)
    (fun f t h => by rw [State.queue_modQueue, if_neg (fun h2 => hm h2.1), h]) (fun _ h => h) 8 n code detail s rfl

end Occur

@[simp] theorem State.dropEvents_sessions (n : Nat) (s : State) : (s.dropEvents n).sessions = s.sessions := by
  simp only [State.dropEvents, State.occur_sessions]
  split
  · rw [State.occur_sessions]; rfl
  · rfl

@[simp] theorem State.offer_sessions (n : Nat) (e : QEntry) (s : State) : (s.offer n e).sessions = s.sessions := by
  unfold State.offer
  split
  · dsimp only
    split
    · exact State.occur_sessions _ _ _ _
    · rfl
  · exact State.dropEvents_sessions _ _

/-! Replies (R75, R80, R98) -/

@[simp] theorem length_le (n v : Nat) : (le n v).length = n := by
  induction n generalizing v with
  | zero => rfl
  | succ n ih => rw [le, List.length_cons, ih]

/-- R71: the header takes 8 bytes and the CRC 4. -/
theorem length_packet (flags op seq session : Nat) (payload : Bytes) :
    (packet flags op seq session payload).length = payload.length + 12 := by
  simp only [packet, List.length_append, List.length_cons, List.length_nil, length_le]
  omega

@[simp] theorem State.putReply_sessions (flags op seq n : Nat) (payload : Bytes) (tag : ReplyTag) (s : State) :
    (s.putReply flags op seq n payload tag).sessions = s.sessions := State.offer_sessions _ _ _

/-- R98, R100: an entry that fits and finds a cell goes to the end of its queue; its alert, if it raises one, is posted in Q02. -/
theorem State.offer_queue {n : Nat} {e : QEntry} {s : State} (hn : n ≠ 2) (hlen : n < s.queues.length)
    (hroom : s.hasRoom n = true) (h1 : 1 ≤ e.data.length) (h2 : e.data.length ≤ queueCell n) :
    (s.offer n e).queue n = (s.queue n).push (queueDepth n) e := by
  have hpush : (s.modQueue n (Queue.push (queueDepth n) e)).queue n = (s.queue n).push (queueDepth n) e := by
    rw [State.queue_modQueue, if_pos ⟨rfl, hlen⟩]
  simp only [State.offer, hroom, h1, h2, and_self, if_true]
  split
  · rw [State.occur_queue _ _ _ _ hn, hpush]
  · exact hpush

/-- Settles O22: a packet of at most 4095 payload bytes fits a cell of Q01, and an alert of Q01 goes to Q02. -/
theorem repliesStandInQ01 : Obligations.RepliesStandInQ01 := by
  intro flags op seq session payload tag s hroom hlen hpayload d u
  have hd : d.length = payload.length + 12 := length_packet flags op seq session payload
  have hfits : d.length ≤ queueCell 1 := (by omega : d.length ≤ 4112)
  have hu : u.queue 1 = (s.queue 1).push (queueDepth 1) { data := d, credit := true, tag := tag } :=
    State.offer_queue (by decide) hlen hroom (by rw [hd]; omega) hfits
  rw [hu]
  exact ⟨rfl, rfl⟩

end Sys2Proof.Machine

/-! PROOFS. The command interpreter: the row of each host command, the checks on the packet at the head of Q00, the sequence baseline and
the reply (R75–R77, R83, R87–R89, R439). -/
namespace Sys2Proof.Machine

open Sys2Proof.Claims

/-! The row of each host command (R87, R89, R439) -/

section Seen
variable (i : Instr) (s : State)

@[simp] theorem seen_sessions : (seen i s).sessions = s.sessions := by unfold seen; split <;> rfl
@[simp] theorem seen_queue (n : Nat) : (seen i s).queue n = s.queue n := by unfold seen; split <;> rfl
@[simp] theorem seen_hostRdy : (seen i s).hostRdy = s.hostRdy := by unfold seen; split <;> rfl
@[simp] theorem seen_executing : (seen i s).executing = s.executing := by unfold seen; split <;> rfl

end Seen

/-- R437: UART_BREAK names its UART by the packet at the head of Q00, and does nothing without one. -/
theorem State.uartBreakAny_eq_run (s : State) : s.uartBreakAny = (uartBreak (s.headUnit % 4)).run s := by
  unfold State.uartBreakAny State.headUnit CmdSpec.run
  cases (s.queue 0).entries <;> rfl

/-- R87: a generic command acts where the packet names a unit of the directory. -/
theorem run_of_unit {s t : State} {k k' : CmdSpec}
    (h : (if directoryUnits.contains s.headUnit then some k' else none) = some k) :
    (if directoryUnits.contains s.headUnit then k'.run t else t) = k.run t := by
  split at h
  · rw [if_pos ‹_›, Option.some.inj h]
  · nomatch h

/-- Each command of the host runs its row of the directory, on the state in which STATUS_GET has taken CTS_N. -/
theorem exec_of_commandOf {i : Instr} {k : CmdSpec} {s : State} (h : commandOf s i = some k) :
    exec i s = .next (k.run (seen i s)) := by
  cases i
  case paramGet | paramSet | countersGet | statusGet => exact congrArg Host.Outcome.next (run_of_unit h)
  case uartBreak => cases h; exact congrArg Host.Outcome.next s.uartBreakAny_eq_run
  -- every other command either has no row or runs the one that `commandOf` gives
  all_goals (cases h <;> rfl)

/-- Settles O21: each row's own fields are those that the directory lists. -/
theorem directoryGivesRolesAndConditions : Obligations.DirectoryGivesRolesAndConditions := by
  intro i s op role j m h
  cases i
  -- a command that the directory does not list leaves nothing to show
  all_goals (cases h <;> exact ⟨_, rfl, rfl, rfl, rfl, rfl, by decide⟩)

/-! The packet at the head of Q00 (R76) -/

/-- R76 checks 2 and 3 on the packet `p`, which has left Q00 of `u`, and the checks after them. -/
def CmdSpec.checkForm (k : CmdSpec) (p : Packet) (items : List Item) (u : State) : State :=
  if p.version ≠ 1 then u.refusePacket p .badVersion
  else if p.flags ≠ 0 then u.refusePacket p .badParam
  else if !k.shape items then u.refuseItems p .badLength (k.badShape items)
  else k.enter p items u

theorem State.refusePacket_eq_refused (p : Packet) (st : Status) (s : State) : s.refusePacket p st = refused p st s := by
  simp only [State.refusePacket, State.refuseItems, refused, itemBytes, List.flatMap_nil, List.append_nil]

/-- A row takes the packet at the head of Q00: the interpreter is free, the CRC is right and the opcode is the row's. -/
def CmdSpec.Takes (k : CmdSpec) (p : Packet) (s : State) : Prop :=
  s.hostRdy = true ∧ s.executing = none ∧ (∃ e r, (s.queue 0).entries = e :: r ∧ p = parsePacket e.data) ∧
  p.crcOk = true ∧ p.opcode = k.opcode

section Run
variable {k : CmdSpec} {p : Packet} {items : List Item} {s : State}

theorem CmdSpec.run_of_items (h : k.Takes p s) (hitems : parseItems p.payload = some items) (hsel : k.selects items = true) :
    k.run s = k.checkForm p items (s.modQueue 0 (Queue.pop 16)) := by
  obtain ⟨hrdy, hfree, ⟨e, r, hq, rfl⟩, hcrc, hop⟩ := h
  simp only [CmdSpec.run, hq, hrdy, hfree, hcrc, hop, hitems, hsel, Bool.not_true, Option.isSome_none, Bool.or_self, bne_self_eq_false,
    Bool.false_eq_true, if_false]
  rfl

/-- R74: a payload whose items run past its end. -/
theorem CmdSpec.run_of_bad_items (h : k.Takes p s) (hitems : parseItems p.payload = none) (hsel : k.selects [] = true)
    (hv : p.version = 1) (hf : p.flags = 0) : k.run s = refused p .badLength (s.modQueue 0 (Queue.pop 16)) := by
  obtain ⟨hrdy, hfree, ⟨e, r, hq, rfl⟩, hcrc, hop⟩ := h
  simp only [CmdSpec.run, hq, hrdy, hfree, hcrc, hop, hitems, hsel, hv, hf, ne_eq, not_true_eq_false, Bool.not_true,
    Option.isSome_none, Bool.or_self, bne_self_eq_false, Bool.false_eq_true, if_false, State.refusePacket_eq_refused]

theorem CmdSpec.checkForm_of_version (hv : p.version ≠ 1) : k.checkForm p items s = refused p .badVersion s := by
  rw [CmdSpec.checkForm, if_pos hv, State.refusePacket_eq_refused]

theorem CmdSpec.checkForm_of_flags (hv : p.version = 1) (hf : p.flags ≠ 0) : k.checkForm p items s = refused p .badParam s := by
  rw [CmdSpec.checkForm, if_neg (not_not_intro hv), if_pos hf, State.refusePacket_eq_refused]

theorem CmdSpec.checkForm_of_shape (hv : p.version = 1) (hf : p.flags = 0) (hshape : k.shape items = false)
    (hbad : k.badShape items = []) : k.checkForm p items s = refused p .badLength s := by
  rw [CmdSpec.checkForm, if_neg (not_not_intro hv), if_neg (not_not_intro hf), hshape, hbad]
  exact State.refusePacket_eq_refused p .badLength s

theorem CmdSpec.checkForm_of_sound (hv : p.version = 1) (hf : p.flags = 0) (hshape : k.shape items = true) :
    k.checkForm p items s = k.enter p items s := by
  rw [CmdSpec.checkForm, if_neg (not_not_intro hv), if_neg (not_not_intro hf), hshape]
  rfl

/-! Checks 4 and 5: session and SEQ (R76, R83, R91) -/

theorem CmdSpec.enter_of_no_session (h : ¬ SessionStands p s) : k.enter p items s = refused p .noSession s := by
  have hpass : (if p.opcode = 0x0111 then s.reserved p.session else s.sessionOpen p.session) = false := Bool.eq_false_iff.mpr h
  simp only [CmdSpec.enter, hpass, Bool.not_false, if_true, State.refusePacket_eq_refused]

theorem CmdSpec.enter_of_session (h : SessionStands p s) : k.enter p items s =
    match (s.session p.session).checkSeq p.seq with
    | .error => refused p .seqError (s.touch p.session)
    | .repeated => (s.touch p.session).putReply 5 (s.session p.session).storedOp p.seq p.session (s.session p.session).stored .none
    | .execute => (State.finish (commandAs p items s) (k.execute (commandAs p items s) (s.touch p.session))).spendNonce
        p.opcode p.session := by
  have hpass : (if p.opcode = 0x0111 then s.reserved p.session else s.sessionOpen p.session) = true := h
  simp only [CmdSpec.enter, hpass, Bool.not_true, Bool.false_eq_true, if_false, State.refusePacket_eq_refused]
  cases (s.session p.session).checkSeq p.seq <;> rfl

end Run

theorem Session.checkSeq_of_fresh {p : Packet} {s : State} (h : Fresh p s) : (s.session p.session).checkSeq p.seq = .execute := by
  rcases h with hb | ⟨b, hb, hseq⟩
  · simp only [Session.checkSeq, hb]
  · simp only [Session.checkSeq, hb, hseq, if_true]

theorem Session.checkSeq_of_baseline {x : Session} {n : Nat} (h : x.baseline = some n) : x.checkSeq n = .repeated := by
  have hnext : n ≠ (n + 1) % 65536 := by omega
  simp only [Session.checkSeq, h, hnext, if_true, if_false]

theorem Session.checkSeq_of_other {x : Session} {b n : Nat} (h : x.baseline = some b) (h1 : n ≠ (b + 1) % 65536) (h2 : n ≠ b) :
    x.checkSeq n = .error := by
  simp only [Session.checkSeq, h, h1, h2, if_false]

/-! A host command as a whole -/

section Command
variable {i : Instr} {k : CmdSpec} {p : Packet} {items : List Item} {s : State}

theorem CmdSpec.Takes.seen (h : k.Takes p s) : k.Takes p (seen i s) := by
  simpa only [CmdSpec.Takes, seen_hostRdy, seen_executing, seen_queue] using h

theorem exec_of_items (hi : commandOf s i = some k) (h : k.Takes p s) (hitems : parseItems p.payload = some items)
    (hsel : k.selects items = true) : exec i s = .next (k.checkForm p items ((seen i s).modQueue 0 (Queue.pop 16))) := by
  rw [exec_of_commandOf hi, CmdSpec.run_of_items h.seen hitems hsel]

/-- The checks on session and SEQ read the sessions alone, which neither CTS_N nor Q00 touches. -/
theorem State.session_congr {s t : State} (h : t.sessions = s.sessions) (n : Nat) : t.session n = s.session n := by
  rw [State.session, State.session, h]

theorem sessionStands_congr {s t : State} (h : t.sessions = s.sessions) : SessionStands p t ↔ SessionStands p s := by
  simp only [SessionStands, State.reserved, State.sessionOpen, State.session_congr h]

theorem commandAs_congr {s t : State} (h : t.sessions = s.sessions) : commandAs p items t = commandAs p items s := by
  simp only [commandAs, State.session_congr h]

theorem exec_of_sound (hi : commandOf s i = some k) (h : Sound k p items s) :
    exec i s = .next (k.enter p items ((seen i s).modQueue 0 (Queue.pop 16))) := by
  obtain ⟨hrdy, hfree, hq, hcrc, hv, hf, hop, hitems, hsel, hshape⟩ := h
  rw [exec_of_items hi ⟨hrdy, hfree, hq, hcrc, hop⟩ hitems hsel, CmdSpec.checkForm_of_sound hv hf hshape]

/-- R83: what a sound packet of a standing session comes to, by the verdict on its SEQ. -/
theorem exec_of_session (hi : commandOf s i = some k) (h : Sound k p items s) (hs : SessionStands p s) :
    exec i s = .next (match (s.session p.session).checkSeq p.seq with
      | .error => refused p .seqError (taken p (seen i s))
      | .repeated => (taken p (seen i s)).putReply 5 (s.session p.session).storedOp p.seq p.session (s.session p.session).stored .none
      | .execute => (State.finish (commandAs p items s) (k.execute (commandAs p items s) (taken p (seen i s)))).spendNonce
          p.opcode p.session) := by
  have hkeep : ((seen i s).modQueue 0 (Queue.pop 16)).sessions = s.sessions := seen_sessions i s
  rw [exec_of_sound hi h, CmdSpec.enter_of_session ((sessionStands_congr hkeep).mpr hs), State.session_congr hkeep,
    commandAs_congr hkeep]
  rfl

theorem exec_of_fresh (hi : commandOf s i = some k) (h : Sound k p items s) (hs : SessionStands p s) (hf : Fresh p s) :
    exec i s = .next ((State.finish (commandAs p items s) (k.execute (commandAs p items s) (taken p (seen i s)))).spendNonce
      p.opcode p.session) := by
  rw [exec_of_session hi h hs, Session.checkSeq_of_fresh hf]

end Command

/-- R76 checks 7–10 let an allowed command through to its body. -/
theorem CmdSpec.execute_of_allowed {k : CmdSpec} {c : Cmd} {s : State} (h : Allowed k c s) : k.execute c s = k.body c s := by
  rcases h with hown | ⟨habsent, hrole, hroleOf, hpin, hlocked, hnaming, hrecovery, hmaint, hhold⟩
  · rw [CmdSpec.execute, hown, if_pos rfl]
  · have hr : ¬ c.role < max k.role (k.roleOf c.items) := by omega
    have hp : ¬ (c.session = 0 ∧ s.nv.pin.isSome ∧ !pinExempt c.opcode) := by
      rintro ⟨h0, hset, hne⟩
      rcases hpin h0 with h | h
      · rw [h] at hset; nomatch hset
      · rw [h] at hne; nomatch hne
    have hrec : (s.rst.recovery && !recoveryOpcode c.opcode) = false := by
      cases hs : s.rst.recovery
      · rfl
      · rw [hrecovery hs]; rfl
    have hm : (k.maintenance && decide (s.power.mode ≠ .maintenance)) = false := by
      cases hs : k.maintenance
      · rfl
      · rw [hmaint hs]; rfl
    have hj : (k.journals && !s.power.holdReady) = false := by
      cases hs : k.journals
      · rfl
      · rw [hhold hs]; rfl
    simp only [CmdSpec.execute, habsent, hr, hp, hlocked, hnaming, hrec, hm, hj, Bool.false_eq_true, if_false, ite_self]

/-- Settles O16: a fresh command executes, and checks 7–10 let it through to its body. -/
theorem hostCommandsComplete : Obligations.HostCommandsComplete := by
  intro i k p items s hi hsound hstands hfresh c u hallowed _
  rw [exec_of_fresh hi hsound hstands hfresh, CmdSpec.execute_of_allowed hallowed]

/-- Settles O18: each check by the equation of `CmdSpec.checkForm` or `CmdSpec.enter` for it. -/
theorem packetChecksRefuseInOrder : Obligations.PacketChecksRefuseInOrder := by
  intro i k e r s hi hrdy hfree hq p u hcrc hop
  have htakes : k.Takes p s := ⟨hrdy, hfree, ⟨e, r, hq, rfl⟩, hcrc, hop⟩
  refine ⟨fun hitems hsel hv hf => ?_, fun items hitems hsel => ?_⟩
  · rw [exec_of_commandOf hi, CmdSpec.run_of_bad_items htakes.seen hitems hsel hv hf]
  · rw [exec_of_items hi htakes hitems hsel]
    refine ⟨fun hv => ?_, fun hv hf => ?_, fun hv hf hshape hbad => ?_, fun hv hf hshape hs => ?_⟩
    · rw [CmdSpec.checkForm_of_version hv]
    · rw [CmdSpec.checkForm_of_flags hv hf]
    · rw [CmdSpec.checkForm_of_shape hv hf hshape hbad]
    · have hno : ¬ SessionStands p u := fun h => hs ((sessionStands_congr (seen_sessions i s)).mp h)
      rw [CmdSpec.checkForm_of_sound hv hf hshape, CmdSpec.enter_of_no_session hno]

/-! The reply and the baseline (R75, R83) -/

theorem State.finish_of_executed {c : Cmd} {r : Result} (he : r.status.executed = true) (hd : r.deferred = false)
    (ho : r.opened = false) (hc : r.closing = false) (hs : r.state.sessionOpen c.session = true) :
    let reply := le 2 r.status.code ++ itemBytes r.items
    State.finish c r = (r.state.putReply (if r.again then 5 else 1) c.opcode c.seq c.session reply r.tag).modSession c.session
      (fun y => { y with baseline := some c.seq, storedOp := c.opcode, stored := reply }) := by
  have hopen : ∀ f v, (r.state.putReply f c.opcode c.seq c.session v r.tag).sessionOpen c.session = true := by
    intro f v
    rwa [State.sessionOpen, State.session_congr (State.putReply_sessions _ _ _ _ _ _ _)]
  simp only [State.finish, he, hd, ho, hc, hopen, Bool.not_false, Bool.and_self, Bool.false_eq_true, if_false, if_true]

theorem State.finish_of_refused {c : Cmd} {r : Result} (he : r.status.executed = false) (hd : r.deferred = false)
    (hc : r.closing = false) :
    State.finish c r = r.state.putReply (if r.again then 5 else 1) c.opcode c.seq c.session
      (le 2 r.status.code ++ itemBytes r.items) r.tag := by
  simp only [State.finish, he, hd, hc, Bool.false_and, Bool.false_eq_true, if_false]

/-- Settles O19: the three verdicts on a SEQ, and what `State.finish` does with a result. -/
theorem sequenceBaselineIsKept : Obligations.SequenceBaselineIsKept := by
  intro i k p items s hi hsound hstands x c u
  refine ⟨fun b hb hnext hne => ?_, fun hb => ?_, fun hfresh => ?_⟩
  · rw [exec_of_session hi hsound hstands, Session.checkSeq_of_other hb hnext hne]
  · rw [exec_of_session hi hsound hstands, Session.checkSeq_of_baseline hb]
  · exact ⟨exec_of_fresh hi hsound hstands hfresh, State.finish_of_executed (c := c), State.finish_of_refused (c := c)⟩

end Sys2Proof.Machine

/-! PROOFS. The host port: its transactions, the lanes they travel on, its resets and what they leave (R62–R69, R95, R546). -/
namespace Sys2Proof.Machine

open Sys2Proof.Claims

/-! READ_QUEUE (R66) -/

section ReadQueue
variable {n clocked : Nat} {s : State}

/-- R66: the bytes that a read of `clocked` bytes out of `b` leaves the host with. -/
def State.shown (clocked : Nat) (b : Bytes) (s : State) : State := { s with port := { s.port with hostOut := padTo clocked b } }

theorem State.readStream_of_entry {e : QEntry} {r : List QEntry} (hr : s.hostMayRead n = true) (hq : (s.queue n).entries = e :: r) :
    s.readStream n = le 2 e.data.length ++ e.data := by
  simp only [State.readStream, hr, hq]

theorem State.readStream_of_none (h : (s.queue n).entries = [] ∨ s.hostMayRead n = false) : s.readStream n = le 2 0 := by
  unfold State.readStream
  split
  · rename_i hr hq
    rcases h with h | h
    · rw [h] at hq; nomatch hq
    · rw [h] at hr; nomatch hr
  · rfl

theorem State.readQueue_of_part (hserves : s.portServes = true) (h : (s.readStream n).length ≤ 2 ∨ clocked < (s.readStream n).length) :
    s.readQueue n clocked = s.shown clocked (s.readStream n) := by
  have hpart : ¬ ((s.readStream n).length > 2 ∧ clocked ≥ (s.readStream n).length) := by omega
  rw [State.readQueue, hserves]
  exact if_neg hpart

theorem State.readQueue_of_all (hserves : s.portServes = true) (h2 : 2 < (s.readStream n).length)
    (hall : (s.readStream n).length ≤ clocked) :
    s.readQueue n clocked = if n = 1 then (s.shown clocked (s.readStream n)).consumeReply
      else (s.shown clocked (s.readStream n)).consume n := by
  rw [State.readQueue, hserves]
  exact if_pos (And.intro h2 hall)

end ReadQueue

theorem exec_readQueue (n : Fin 32) (clocked : Nat) (s : State) :
    exec (.readQueue n clocked) s = .next (s.readQueue n.val clocked) := (rfl)

/-- Settles O23: the entry goes once all of its bytes are out; without one the port drives a length of 0. -/
theorem readQueueReturnsTheHeadEntry : Obligations.ReadQueueReturnsTheHeadEntry := by
  intro n clocked s hserves shown
  rw [exec_readQueue]
  refine ⟨?entry, fun hnone => ?none⟩
  case entry =>
    intro e r hmay hq h1 str
    have hstr : s.readStream n.val = str := State.readStream_of_entry hmay hq
    have hlen : 2 < str.length := by
      rw [List.length_append, length_le]
      omega
    refine ⟨fun hshort => ?_, fun hall hn => ?_, fun hall hn => ?_⟩
    · rw [State.readQueue_of_part hserves (.inr (hstr ▸ hshort)), hstr]
      rfl
    · rw [State.readQueue_of_all hserves (hstr ▸ hlen) (hstr ▸ hall), hstr, if_pos hn]
      rfl
    · rw [State.readQueue_of_all hserves (hstr ▸ hlen) (hstr ▸ hall), hstr, if_neg hn]
      rfl
  case none =>
    have hstr : s.readStream n.val = le 2 0 := State.readStream_of_none hnone
    rw [State.readQueue_of_part hserves (.inl (Nat.le_of_eq (by rw [hstr, length_le]))), hstr]
    rfl

/-! Lanes (R62): what a host sends on them is what the port reads -/

/-- R62: the cycles that a byte takes. -/
theorem length_laneCycles {lanes : Nat} (h : lanes = 1 ∨ lanes = 2 ∨ lanes = 4) (b : Nat) :
    (laneCycles lanes true b).length = 8 / lanes := by
  rcases h with rfl | rfl | rfl <;> rfl

theorem laneCycles_lt {lanes : Nat} (h : lanes = 1 ∨ lanes = 2 ∨ lanes = 4) {b c : Nat} (hc : c ∈ laneCycles lanes true b) :
    c < 16 := by
  rcases h with rfl | rfl | rfl
  · simp only [laneCycles, List.mem_map, if_true] at hc
    omega
  all_goals
    simp only [laneCycles, List.mem_cons, List.not_mem_nil, or_false] at hc
    omega

theorem laneByte_laneCycles {lanes : Nat} (h : lanes = 1 ∨ lanes = 2 ∨ lanes = 4) {b : Nat} (hb : b < 256) :
    laneByte lanes true (laneCycles lanes true b) = b := by
  rcases h with rfl | rfl | rfl
  · simp only [laneCycles, laneByte, List.foldl_map, if_true]
    simp [List.range_succ]
    omega
  all_goals
    simp only [laneCycles, laneByte, List.foldl_cons, List.foldl_nil]
    omega

theorem laneBytes_laneCycles {lanes : Nat} (h : lanes = 1 ∨ lanes = 2 ∨ lanes = 4) (b : Bytes) {fuel : Nat} (hf : b.length ≤ fuel) :
    laneBytes lanes fuel ((b.map (·.toNat)).flatMap (laneCycles lanes true)) = b := by
  have hpos : 0 < 8 / lanes := by rcases h with rfl | rfl | rfl <;> decide
  induction b generalizing fuel with
  | nil =>
    cases fuel with
    | zero => rfl
    | succ m => simp only [List.map_nil, List.flatMap_nil, laneBytes, List.length_nil, hpos, if_true]
  | cons x r ih =>
    rw [List.length_cons] at hf
    obtain ⟨m, rfl⟩ : ∃ m, fuel = m + 1 := ⟨fuel - 1, by omega⟩
    have hx := length_laneCycles h x.toNat
    have hm : r.length ≤ m := by omega
    have hlong : ¬ (laneCycles lanes true x.toNat ++ (r.map (·.toNat)).flatMap (laneCycles lanes true)).length < 8 / lanes := by
      rw [List.length_append]; omega
    rw [List.map_cons, List.flatMap_cons, laneBytes, if_neg hlong, List.take_left' hx, List.drop_left' hx,
      laneByte_laneCycles h x.isLt, BitVec.ofNat_toNat, ih hm]
    rfl

theorem map_toNat_ofNat {l : List Nat} (h : ∀ c ∈ l, c < 16) : (l.map (BitVec.ofNat 4)).map (·.toNat) = l := by
  rw [List.map_map]
  exact (List.map_congr_left fun c hc => Nat.mod_eq_of_lt (h c hc)).trans (List.map_id l)

theorem length_le_flatMap_laneCycles {lanes : Nat} (h : lanes = 1 ∨ lanes = 2 ∨ lanes = 4) (l : List Nat) :
    l.length ≤ (l.flatMap (laneCycles lanes true)).length := by
  have hpos : 1 ≤ 8 / lanes := by rcases h with rfl | rfl | rfl <;> decide
  induction l with
  | nil => exact Nat.le_refl 0
  | cons x r ih =>
    rw [List.length_cons, List.flatMap_cons, List.length_append, length_laneCycles h]
    omega

theorem portCommand_writeQueue {n : Nat} (h : n < 32) : portCommand (0x20 + n) = some (.writeQueue n) := by
  simp (disch := omega) only [portCommand, within_of_mem, if_true, Nat.add_sub_cancel_left]

/-! A transaction by its cycles (R62, R63) -/

/-- R62: the host's command byte goes out on IO0 alone, its data on all lanes. -/
theorem hostTransaction_cycles {lanes : Nat} (h : lanes = 1 ∨ lanes = 2 ∨ lanes = 4) {n : Nat} (hn : n < 32) (b : Bytes) :
    (hostTransaction lanes (0x20 + n) b).cycles.map (·.toNat) =
      laneCycles 1 true (0x20 + n) ++ (b.map (·.toNat)).flatMap (laneCycles lanes true) := by
  simp only [hostTransaction, transactionCycles, portCommand_writeQueue hn]
  refine map_toNat_ofNat fun c hc => ?_
  rcases List.mem_append.mp hc with hc | hc
  · exact laneCycles_lt (.inl rfl) hc
  · obtain ⟨x, _, hx⟩ := List.mem_flatMap.mp hc
    exact laneCycles_lt h hx

/-- R62, R63: the cycles in which a host sends WRITE_QUEUE are taken as WRITE_QUEUE. -/
theorem State.rawTransaction_hostTransaction {s : State} (h : s.port.lanes = 1 ∨ s.port.lanes = 2 ∨ s.port.lanes = 4) {n : Nat}
    (hn : n < 32) (b : Bytes) : s.rawTransaction (hostTransaction s.port.lanes (0x20 + n) b) = s.writeQueue n b := by
  have hcmd : (laneCycles 1 true (0x20 + n)).length = 8 := length_laneCycles (.inl rfl) _
  have hlong : ∀ l : List Nat, ¬ (laneCycles 1 true (0x20 + n) ++ l).length < 8 := by
    intro l
    rw [List.length_append]
    omega
  have hfuel : b.length ≤ ((b.map (·.toNat)).flatMap (laneCycles s.port.lanes true)).length := by
    simpa only [List.length_map] using length_le_flatMap_laneCycles h (b.map (·.toNat))
  have hbyte : laneByte 1 true (laneCycles 1 true (0x20 + n)) = 0x20 + n := laneByte_laneCycles (.inl rfl) (by omega)
  simp only [State.rawTransaction, hostTransaction_cycles h hn, hlong, List.take_left' hcmd, List.drop_left' hcmd, hbyte,
    laneBytes_laneCycles h b hfuel, unknownTransaction, portCommand_writeQueue hn, if_false, Bool.false_eq_true]

/-- R63: a transaction that is no port command counts as a framing error. -/
theorem State.rawTransaction_of_unknown {s : State} {x : PortCycles} (hserves : s.portServes = true) (hlong : 8 ≤ x.cycles.length)
    (h : unknownTransaction (laneByte 1 true ((x.cycles.map (·.toNat)).take 8)) s.port.lanes (x.cycles.length - 8)
      (laneBytes s.port.lanes (x.cycles.length - 8) ((x.cycles.map (·.toNat)).drop 8)) = true) :
    s.rawTransaction x = s.framingError := by
  have hshort : ¬ x.cycles.length < 8 := by omega
  simp only [State.rawTransaction, List.length_map, List.length_drop, hshort, h, hserves, if_true, if_false]

/-! WRITE_QUEUE (R64, R65) -/

section WriteQueue
variable {n : Nat} {b : Bytes} {s : State}

theorem State.writeQueue_allowed (hserves : s.portServes = true) (hn : n ≠ 0) (hb : b ≠ []) (hmay : s.hostMayWrite n = true) :
    s.writeQueue n b = s.offerAny n b := by
  have hne : b.isEmpty = false := List.isEmpty_eq_false_iff.mpr hb
  simp only [State.writeQueue, hserves, hn, hne, hmay, Bool.not_true, Bool.false_eq_true, if_true, if_false]

theorem State.writeQueue_barred (hserves : s.portServes = true) (hn : n ≠ 0) (hb : b ≠ []) (hmay : s.hostMayWrite n = false) :
    s.writeQueue n b = (s.modQueue n Queue.reject).dropEvents n := by
  have hne : b.isEmpty = false := List.isEmpty_eq_false_iff.mpr hb
  simp only [State.writeQueue, hserves, hn, hne, hmay, Bool.not_true, Bool.false_eq_true, if_false]

theorem State.writeQueue_zero (hserves : s.portServes = true) : s.writeQueue 0 b = storePackets b.length b s := by
  simp only [State.writeQueue, hserves, Bool.not_true, Bool.false_eq_true, if_true, if_false]

theorem storePackets_nil (fuel : Nat) (s : State) : storePackets fuel [] s = s := by
  cases fuel <;> rfl

/-- R65: one whole packet, with a credit for it. -/
theorem storePackets_of_packet (hcr : s.creditsHeld ≠ 0) (hsync : b.headD 0 = 0x5A) (hlen : b.length = 12 + fieldAt 6 2 b % 4096) :
    storePackets b.length b s = s.offer 0 { data := b, credit := true } := by
  obtain ⟨fuel, hfuel⟩ : ∃ fuel, b.length = fuel + 1 := ⟨b.length - 1, by omega⟩
  have hne : b.isEmpty = false := by
    cases b with
    | nil => nomatch hfuel
    | cons x r => rfl
  have hwhole : ¬ (b.headD 0 ≠ 0x5A ∨ b.length < 8 ∨ b.length < b.length) := by
    rintro (h | h | h)
    · exact h hsync
    all_goals omega
  rw [hfuel, storePackets, hne]
  simp only [← hlen, hwhole, hcr, List.take_length, List.drop_length, storePackets_nil, Bool.false_eq_true, if_false]

/-- R65: a transaction that does not begin with SYNC is discarded as one packet. -/
theorem storePackets_of_no_sync (hb : b ≠ []) (hsync : b.headD 0 ≠ 0x5A) : storePackets b.length b s = s.discardPacket := by
  cases b with
  | nil => exact absurd rfl hb
  | cons x r =>
    rw [List.length_cons, storePackets]
    exact if_pos (Or.inl hsync)

end WriteQueue

/-! READ_STATUS, ADDRESS and the resets of the port (R67, R69, R95, R546) -/

section Port
variable {s : State}

theorem State.readStatus_of_awake (hr : s.port.resetting = false) (hm : s.power.mode.serves = true ∨ s.power.mode = .standby) :
    s.readStatus = { s with port := { s.port with hostOut := le 4 s.statusWord } } := by
  have hm' : (s.power.mode.serves || decide (s.power.mode = .standby)) = true := by
    rw [Bool.or_eq_true, decide_eq_true_iff]
    exact hm
  simp only [State.readStatus, hr, hm', Bool.false_eq_true, if_true, if_false]

/-- R94: in a low-power mode the address byte is the one in force at the entry. -/
theorem State.wakeAddress_of_low (hm : s.power.mode.low = true) : s.wakeAddress = s.port.wakeAddr := by
  rw [State.wakeAddress, hm, if_pos rfl]

theorem State.addressFrame_of_match {a : Byte} (hm : s.power.mode.low = true) (hr : s.port.resetting = false)
    (h0 : s.port.wakeAddr ≠ 0) (ha : a.toNat = s.port.wakeAddr) : s.addressFrame a = s.latchWake 0 := by
  have hw : s.wakeable = true := by rw [State.wakeable, hm, Bool.true_or]
  rw [State.addressFrame, State.wakeAddress_of_low hm, hr]
  exact if_pos ⟨hw, rfl, h0, ha⟩

theorem State.addressFrame_of_other {a : Byte} (hm : s.power.mode.low = true) (h : s.port.wakeAddr = 0 ∨ a.toNat ≠ s.port.wakeAddr) :
    s.addressFrame a = s := by
  rw [State.addressFrame, State.wakeAddress_of_low hm]
  exact if_neg fun ⟨_, _, h0, ha⟩ => h.elim h0 fun hne => hne ha

theorem State.hpRstN_of_full {low : Nat} (hlow : 1000 ≤ low) : s.hpRstN low = s.hostResetPin := by
  have hnd : ¬ low < 1000 := by omega
  simp only [State.hpRstN, pulseDraws, pulseActs, hlow, hnd, decide_false, Bool.and_false, Bool.false_eq_true, if_true, if_false]

theorem State.hpRstN_of_glitch {low : Nat} (hlow : low ≤ 100) : s.hpRstN low = s := by
  have hnd : ¬ 100 < low := by omega
  have hna : ¬ 1000 ≤ low := by omega
  simp only [State.hpRstN, pulseDraws, pulseActs, hlow, hnd, hna, decide_false, Bool.false_and, Bool.false_eq_true, if_true, if_false]

theorem State.hostResetPin_of_serves (hreset : s.rst.inReset = false) (hm : s.power.mode.low = false) (hserves : s.portServes = true) :
    s.hostResetPin = s.startHostReset 0 := by
  rw [State.portServes, Bool.and_eq_true] at hserves
  rw [State.hostResetPin, hreset, hm]
  exact if_pos hserves

end Port

/-- Settles O24: each transaction by what the port does with it; the cycles of WRITE_QUEUE spell WRITE_QUEUE. -/
theorem portTransactionsComplete : Obligations.PortTransactionsComplete := by
  intro s n b a low x
  have exec_write : ∀ m : Fin 32, exec (.writeQueue m b) s = .next (s.writeQueue m.val b) := fun _ => rfl
  refine ⟨fun hserves hn hb hmay => ?_, fun hserves hn hb hmay => ?_, fun hserves hcr hsync hlen => ?_,
    fun hserves hb hsync => ?_, fun hr hm => ?_, fun hm hr h0 ha => ?_, fun hm h => ?_, fun hserves => ?_,
    fun hserves hlong hunknown => ?_, fun hlanes => ?_, fun hlow hreset hm hserves => ?_, fun hlow => ?_, fun hr => ?_⟩
  · rw [exec_write, State.writeQueue_allowed hserves hn hb hmay]
  · rw [exec_write, State.writeQueue_barred hserves hn hb hmay]
  · rw [exec_write, Fin.val_zero, State.writeQueue_zero hserves, storePackets_of_packet hcr hsync hlen]
  · rw [exec_write, Fin.val_zero, State.writeQueue_zero hserves, storePackets_of_no_sync hb hsync]
  · exact congrArg Host.Outcome.next (State.readStatus_of_awake hr hm)
  · exact congrArg Host.Outcome.next (State.addressFrame_of_match hm hr h0 ha)
  · exact congrArg Host.Outcome.next (State.addressFrame_of_other hm h)
  · exact congrArg Host.Outcome.next (if_pos hserves)
  · exact congrArg Host.Outcome.next (State.rawTransaction_of_unknown hserves hlong hunknown)
  · exact congrArg Host.Outcome.next (State.rawTransaction_hostTransaction hlanes n.isLt b)
  · exact congrArg Host.Outcome.next ((State.hpRstN_of_full hlow).trans (State.hostResetPin_of_serves hreset hm hserves))
  · exact congrArg Host.Outcome.next (State.hpRstN_of_glitch hlow)
  · exact congrArg Host.Outcome.next (if_pos hr)

end Sys2Proof.Machine

/-! PROOFS. What a host-port reset leaves (R95). -/
namespace Sys2Proof.Machine

open Sys2Proof.Claims

/-! Sessions, and what closing one leaves unchanged (R91, R498) -/

theorem State.session_modSession (n m : Nat) (f : Session → Session) (s : State) :
    (s.modSession n f).session m = if m = n ∧ m < s.sessions.length then f (s.session m) else s.session m :=
  getD_modAt n m f s.sessions {}

theorem getD_of_length_le {α : Type} {l : List α} {n : Nat} (h : l.length ≤ n) (d : α) : l.getD n d = d := by
  rw [List.getD_eq_getElem?_getD, List.getElem?_eq_none h, Option.getD_none]

/-- A session that is put back to its free state reads as free, whether or not the part has its ID. -/
theorem State.session_freed (n : Nat) (s : State) : (s.modSession n (fun _ => {})).session n = {} := by
  rw [State.session_modSession]
  split
  · rfl
  · rename_i h
    exact getD_of_length_le (Nat.le_of_not_lt fun hn => h ⟨rfl, hn⟩) _

theorem State.log_frame (unit kind : Nat) (data : Bytes) (s : State) :
    ∃ nv st, s.log unit kind data = { s with nv := nv, steward := st } := by
  unfold State.log
  dsimp only
  split <;> exact ⟨_, _, rfl⟩

theorem State.endTestAccess_frame (s : State) :
    ∃ k nv st, s.endTestAccess = { s with freeTick := k, nv := nv, steward := st } := by
  unfold State.endTestAccess
  split
  · exact ⟨_, _, _, rfl⟩
  · obtain ⟨nv, st, h⟩ := State.log_frame 0x72 _ _ _
    exact ⟨_, nv, st, h⟩

/-- R91: closing a session frees its ID and disowns its slots; besides these only the log, the Steward and the free values change. -/
theorem State.closeSession_frame (n action : Nat) (s : State) :
    ∃ k nv st, s.closeSession n action =
      { s.modSession n (fun _ => {}) with slots := s.slots.map (Slot.disown n), freeTick := k, nv := nv, steward := st } := by
  have hend : ∃ k nv st, (if n = s.steward.testSession then s.endTestAccess else s) =
      { s with freeTick := k, nv := nv, steward := st } := by
    split
    · exact s.endTestAccess_frame
    · exact ⟨_, _, _, rfl⟩
  obtain ⟨k, nv, st, h⟩ := hend
  unfold State.closeSession
  dsimp only
  rw [h]
  obtain ⟨nv', st', h'⟩ := State.log_frame 0x63 0x02 _ _
  exact ⟨k, nv', st', h'⟩

/-- R95 step 2: closing every session changes nothing else but the log, the Steward and the free values where no slot is owned. -/
theorem State.closeAll_frame (n : Nat) {s : State} (hs : ∀ y ∈ s.slots, y.owner = none) :
    ∃ l k nv st, State.closeAll n s = { s with sessions := l, freeTick := k, nv := nv, steward := st } := by
  have hdisown : ∀ m, s.slots.map (Slot.disown m) = s.slots := by
    intro m
    refine (List.map_congr_left fun y hy => ?_).trans (List.map_id _)
    rw [Slot.disown, hs y hy]
    rfl
  induction n with
  | zero => exact ⟨_, _, _, _, rfl⟩
  | succ n ih =>
    obtain ⟨l, k, nv, st, h⟩ := ih
    rw [State.closeAll, h]
    split
    · exact ⟨_, _, _, _, rfl⟩
    · split
      · obtain ⟨k', nv', st', h'⟩ := State.closeSession_frame n 5 { s with sessions := l, freeTick := k, nv := nv, steward := st }
        rw [h']
        dsimp only
        rw [hdisown]
        exact ⟨_, _, _, _, rfl⟩
      · exact ⟨_, _, _, _, rfl⟩

theorem State.closeSession_session (n action m : Nat) (s : State) :
    (s.closeSession n action).session m = (s.modSession n (fun _ => {})).session m := by
  obtain ⟨k, nv, st, h⟩ := s.closeSession_frame n action
  rw [h]
  rfl

theorem State.closeAll_succ_session {n m : Nat} (hn : n ≠ 0) (s : State) :
    (State.closeAll (n + 1) s).session m = ((State.closeAll n s).modSession n (fun _ => {})).session m := by
  rw [State.closeAll, if_neg hn]
  split
  · exact State.closeSession_session _ _ _ _
  · rfl

/-- R95 step 2: sessions 1–15 are free. -/
theorem State.closeAll_session {n m : Nat} (hm : m ≠ 0) (hmn : m < n) (s : State) : (State.closeAll n s).session m = {} := by
  induction n with
  | zero => exact absurd hmn (Nat.not_lt_zero _)
  | succ n ih =>
    rw [State.closeAll_succ_session (by omega)]
    rcases Nat.lt_succ_iff_lt_or_eq.mp hmn with h | rfl
    · rw [State.session_modSession, if_neg (fun hc => by omega), ih h]
    · exact State.session_freed m _

/-- R95 step 2: session 0 has no baseline. -/
theorem State.closeAll_baseline (n : Nat) (s : State) : ((State.closeAll (n + 1) s).session 0).baseline = none := by
  induction n with
  | zero =>
    show ((s.modSession 0 _).session 0).baseline = none
    rw [State.session_modSession]
    split
    · rfl
    · rename_i h
      have hnil : s.sessions.length ≤ 0 := Nat.le_of_not_lt fun hn => h ⟨rfl, hn⟩
      rw [State.session, getD_of_length_le hnil]
  | succ n ih => rw [State.closeAll_succ_session (Nat.succ_ne_zero n), State.session_modSession, if_neg (fun hc => by omega), ih]

/-! The port at its defaults (R95) -/

/-- R95: the parameters and counts of the port as a host-port reset leaves them, with Q00 and Q01 empty. -/
structure PortAtDefaults (epoch : Nat) (u : State) : Prop where
  resetting : u.port.resetting = false
  lanes : u.port.lanes = 1
  irqMask : u.port.irqMask = 3
  framing : u.port.framing = 0
  resetSeen : u.port.resetSeen = true
  epoch : u.port.epoch = epoch
  commands : (u.queue 0).entries = []
  replies : (u.queue 1).entries = []

/-- R95: what a host-port reset leaves of the port, the sessions and the owners of the slots. -/
structure LeftByHostReset (epoch : Nat) (u : State) : Prop extends PortAtDefaults epoch u where
  closed : ∀ n, n ≠ 0 → n < 16 → u.session n = {}
  baseline : (u.session 0).baseline = none
  owners : ∀ y ∈ u.slots, y.owner = none

section Left
variable {epoch : Nat} {u : State}

theorem State.queue_modQueue_ne {n m : Nat} (h : m ≠ n) (f : Queue → Queue) (s : State) : (s.modQueue n f).queue m = s.queue m := by
  rw [State.queue_modQueue, if_neg fun hc => h hc.1]

theorem LeftByHostReset.modQueue (h : LeftByHostReset epoch u) {n : Nat} (hn : 2 ≤ n) (f : Queue → Queue) :
    LeftByHostReset epoch (u.modQueue n f) :=
  { h with
    commands := by rw [State.queue_modQueue_ne (by omega)]; exact h.commands
    replies := by rw [State.queue_modQueue_ne (by omega)]; exact h.replies }

theorem LeftByHostReset.occur (h : LeftByHostReset epoch u) (n code : Nat) (detail : Bytes) :
    LeftByHostReset epoch (u.occur n code detail) :=
  occurN_induction (fun _ _ _ h => { h with }) (fun _ _ h => { h with }) (fun _ _ h => { h with })
    (fun f _ h => h.modQueue (Nat.le_refl 2) f) (fun _ h => { h with }) 8 n code detail u h

theorem LeftByHostReset.occurDrops (h : LeftByHostReset epoch u) (n k : Nat) : LeftByHostReset epoch (u.occurDrops n k) := by
  induction k generalizing u with
  | zero => exact h
  | succ k ih => exact ih (h.occur _ _ _)

theorem LeftByHostReset.reclaimEvent (h : LeftByHostReset epoch u) (n k reason station : Nat) :
    LeftByHostReset epoch (u.reclaimEvent n k reason station) := by
  unfold State.reclaimEvent
  split
  · exact h
  · exact h.occur _ _ _

theorem LeftByHostReset.resetInputs (h : LeftByHostReset epoch u) (n : Nat) : LeftByHostReset epoch (State.resetInputs n u) := by
  induction n with
  | zero => exact h
  | succ n ih =>
    rw [State.resetInputs]
    dsimp only
    split
    · exact (ih.modQueue (by omega) _).reclaimEvent _ _ _ _
    · exact ih

end Left

/-- R98: an emptied queue is empty, whether or not the part has it. -/
theorem State.entries_dropAll (n depth : Nat) (s : State) : ((s.modQueue n (Queue.dropAll depth)).queue n).entries = [] := by
  rw [State.queue_modQueue]
  split
  · rfl
  · rename_i h
    have hlen : s.queues.length ≤ n := Nat.le_of_not_lt fun hn => h ⟨rfl, hn⟩
    rw [State.queue, getD_of_length_le hlen]

/-! The frames of the credit operations, by which the kernel need not compare their counters. -/

theorem Queue.reclaimAll_frame (q : Queue) : ∃ reclaimed, q.reclaimAll = { q with crReclaimed := reclaimed } := ⟨_, rfl⟩

theorem Queue.issue_frame (k : Nat) (q : Queue) : ∃ issued, q.issue k = { q with crIssued := issued } := ⟨_, rfl⟩

theorem Queue.entries_reissue (k : Nat) (q : Queue) : (q.reclaimAll.issue k).entries = q.entries := by
  obtain ⟨issued, hissue⟩ := Queue.issue_frame k q.reclaimAll
  obtain ⟨reclaimed, hreclaim⟩ := q.reclaimAll_frame
  rw [hissue, hreclaim]

theorem State.entries_reissue (n m k : Nat) (s : State) :
    ((s.modQueue n (fun q => q.reclaimAll.issue k)).queue m).entries = (s.queue m).entries := by
  rw [State.queue_modQueue]
  split
  · exact Queue.entries_reissue k _
  · rfl

theorem State.queue_congr {s t : State} (h : t.queues = s.queues) (n : Nat) : t.queue n = s.queue n := by
  rw [State.queue, State.queue, h]

/-- R95 step 1: Q00 and Q01 once they are emptied and the command credits are issued anew. -/
theorem State.entries_emptied {s t : State} {k : Nat}
    (h : t.queues = ((((s.modQueue 0 (Queue.dropAll 16)).modQueue 1 (Queue.dropAll 16)).modQueue 2 (Queue.dropAll 128)).modQueue 0
      (fun q => q.reclaimAll.issue k)).queues) : (t.queue 0).entries = [] ∧ (t.queue 1).entries = [] := by
  simp only [State.queue_congr h, State.entries_reissue]
  constructor
  · rw [State.queue_modQueue_ne (by decide), State.queue_modQueue_ne (by decide)]
    exact State.entries_dropAll 0 16 s
  · rw [State.queue_modQueue_ne (by decide)]
    exact State.entries_dropAll 1 16 _

/-- R95: replies that carry no tag set nothing going. -/
theorem replyTags_of_untagged {l : List QEntry} (h : ∀ e ∈ l, e.tag = .none) : replyTags l = [] := by
  refine List.filter_eq_nil_iff.mpr fun t ht => ?_
  obtain ⟨e, he, rfl⟩ := List.mem_map.mp ht
  rw [h e he]
  decide

/-- R95 steps 2 and 3: with the port at its defaults, the slots and the sessions. -/
theorem PortAtDefaults.closeAll {epoch : Nat} {s : State} (hport : PortAtDefaults epoch s) :
    LeftByHostReset epoch (s.disownSlots.closeAll 16) := by
  have hdisowned : ∀ y ∈ s.disownSlots.slots, y.owner = none := by
    intro y hy
    obtain ⟨x, _, rfl⟩ := List.mem_map.mp hy
    rfl
  have hclosed : ∀ n, n ≠ 0 → n < 16 → (s.disownSlots.closeAll 16).session n = {} := fun n hn hlt => State.closeAll_session hn hlt _
  have hbase : ((s.disownSlots.closeAll 16).session 0).baseline = none := State.closeAll_baseline 15 _
  obtain ⟨l, k, nv, st, h⟩ := State.closeAll_frame 16 hdisowned
  rw [h] at hclosed hbase ⊢
  exact ⟨{ hport with }, hclosed, hbase, hdisowned⟩

/-- R95 step 4, R564: the events of the reset and the credits of the input queues. -/
theorem LeftByHostReset.noted {epoch : Nat} {u : State} (h : LeftByHostReset epoch u) (n0 n1 n2 c0 code : Nat) (detail : Bytes) :
    LeftByHostReset epoch ((((((u.occurDrops 0 n0).occurDrops 1 n1).occurDrops 2 n2).reclaimEvent 0 c0 0 0xFF).resetInputs 8).occur
      9 code detail) :=
  (((((h.occurDrops 0 n0).occurDrops 1 n1).occurDrops 2 n2).reclaimEvent 0 c0 0 0xFF).resetInputs 8).occur 9 code detail

/-- R95: the whole work of a host-port reset, where no reply in Q01 carries a tag. -/
theorem State.hostReset_leaves {s : State} (h : ∀ e ∈ (s.queue 1).entries, e.tag = .none) :
    LeftByHostReset (s.port.epoch + 1) s.hostReset := by
  rw [State.hostReset, replyTags_of_untagged h, List.foldl_nil]
  apply LeftByHostReset.noted
  apply PortAtDefaults.closeAll
  obtain ⟨commands, replies⟩ := State.entries_emptied rfl
  exact ⟨rfl, rfl, rfl, rfl, rfl, rfl, commands, replies⟩

/-- Settles O25: the work of the reset leaves the defaults, and its events touch Q02 alone. -/
theorem hostPortResetLeavesDefaults : Obligations.HostPortResetLeavesDefaults := by
  intro s hr htags
  obtain ⟨⟨resetting, lanes, irqMask, framing, resetSeen, epoch, commands, replies⟩, closed, baseline, owners⟩ :=
    State.hostReset_leaves htags
  refine ⟨s.hostReset, congrArg Host.Outcome.next (if_pos hr), resetting, lanes, irqMask, framing, resetSeen, epoch, commands, replies,
    fun n h1 h16 _ => ?_, baseline, owners⟩
  rw [closed n (by omega) h16]

end Sys2Proof.Machine

/-! PROOFS. What expires in the session table, packets that no row takes, and what the System and Hawk commands and the reading commands do
once they execute (R55, R76, R81–R93, R101, R102, R113). -/
namespace Sys2Proof.Machine

open Sys2Proof.Claims

/-- Settles O26: each timer's own test on the session. -/
theorem sessionsExpire : Obligations.SessionsExpire := by
  intro s n x
  refine ⟨fun hn hopen hm => ?idle, fun hreserved => ?nonce, rfl⟩
  case idle =>
    have hcloses : n.val ≠ 0 ∧ x.state = .opened ∧ !s.power.mode.low := ⟨hn, hopen, by rw [hm]; rfl⟩
    exact congrArg Host.Outcome.next (if_pos hcloses)
  case nonce => exact congrArg Host.Outcome.next (if_pos (decide_eq_true hreserved))

/-! BAD_OPCODE (R76, R83, R87) -/

section BadOpcode
variable {e : QEntry} {r : List QEntry} {s : State}

/-- R73, R76 check 1: a packet whose CRC fails is counted and answered. -/
theorem State.badOpcode_of_crc (hrdy : s.hostRdy = true) (hfree : s.executing = none) (hq : (s.queue 0).entries = e :: r)
    (hcrc : (parsePacket e.data).crcOk = false) :
    let u := s.modQueue 0 (Queue.pop 16)
    s.badOpcode = refused (parsePacket e.data) .crcFail { u with port := { u.port with crcFails := wrap32 (u.port.crcFails + 1) } } := by
  simp only [State.badOpcode, hq, hrdy, hfree, hcrc, Bool.not_true, Bool.not_false, Option.isSome_none, Bool.or_self, Bool.false_eq_true,
    if_true, if_false, State.refusePacket_eq_refused]

/-- R87: an opcode that nothing defines is refused after the checks on session and SEQ. -/
theorem State.badOpcode_of_undefined {items : List Item} (hrdy : s.hostRdy = true) (hfree : s.executing = none)
    (hq : (s.queue 0).entries = e :: r) :
    let p := parsePacket e.data
    p.crcOk = true → opcodeDefined p.opcode = false → s.appletOpcode p.opcode = false → p.version = 1 → p.flags = 0 →
    parseItems p.payload = some items → s.sessionOpen p.session = true → Fresh p s →
    s.badOpcode = refused p .badOpcode (taken p s) := by
  intro p hcrc hdef happlet hv hf hitems hopen hfresh
  have hopen' : (s.modQueue 0 (Queue.pop 16)).sessionOpen p.session = true := hopen
  have hseq : ((s.modQueue 0 (Queue.pop 16)).session p.session).checkSeq p.seq = .execute := Session.checkSeq_of_fresh hfresh
  simp only [State.badOpcode, hq, hrdy, hfree, Bool.not_true, Option.isSome_none, Bool.or_self, Bool.false_eq_true, if_false]
  simp only [p] at hcrc hdef happlet hv hf hitems hopen' hseq
  simp only [hcrc, hdef, happlet, hv, hf, hitems, hopen', hseq, ne_eq, not_true_eq_false, Bool.not_true, Bool.or_self,
    Bool.false_eq_true, if_false, State.refusePacket_eq_refused]
  rfl

end BadOpcode

/-- Settles O27: the two answers of BAD_OPCODE. -/
theorem badPacketsAreAnswered : Obligations.BadPacketsAreAnswered := by
  intro e r s hrdy hfree hq p u
  refine ⟨fun hcrc => ?_, fun items hcrc hdef happlet hv hf hitems hopen hfresh => ?_⟩
  · exact congrArg Host.Outcome.next (State.badOpcode_of_crc hrdy hfree hq hcrc)
  · exact congrArg Host.Outcome.next
      (State.badOpcode_of_undefined hrdy hfree hq hcrc hdef happlet hv hf hitems hopen hfresh)

/-! The bodies of the System and Hawk commands (R55, R82, R90–R93, R102, R113) -/

section Bodies
variable (c : Cmd) {s : State}

/-- R82, R91: a challenge reserves the lowest free ID under a fresh nonce. -/
theorem sessionChallenge_body_of_free {n : Nat} (hl : s.lockout = false) (hu : s.sessionsUsed < 7) (hf : s.freeSession = some n) :
    sessionChallenge.body c s = reply 0x0110 (le 1 n ++ zeros 1 ++ le 2 10000 ++ freeBytes 32 s.freeTick)
      { s.modSession n (fun _ => { state := .reserved, nonce := freeBytes 32 s.freeTick }) with freeTick := s.freeTick + 32 } := by
  have hbusy : ¬ (s.lockout = true ∨ 7 ≤ s.sessionsUsed) :=
    not_or.mpr ⟨Bool.eq_false_iff.mp hl, Nat.not_le.mpr hu⟩
  simp only [sessionChallenge, if_neg hbusy, hf]

theorem sessionOpen_body_of_proof (hfields : openFields c = none) (hproof : s.proofPasses c.session c.value = true) :
    (sessionOpen.body c s).status = .ok ∧ (sessionOpen.body c s).opened = true ∧
    (sessionOpen.body c s).state = s.mailed.openSession c.session (c.u 0 1) (c.u 2 2) (min (c.u 4 4) (s.param 0x0104)) := by
  simp only [sessionOpen, hfields, hproof, if_true, and_self]

theorem sessionOpen_body_of_no_proof (hfields : openFields c = none) (hproof : s.proofPasses c.session c.value = false) :
    sessionOpen.body c s = { status := .authFail, state := s.mailed.authFailed c.session (c.u 0 1) (c.u 2 2) } := by
  simp only [sessionOpen, hfields, hproof, Bool.false_eq_true, if_false]

/-- R85, R92: the owner releases a ready slot under its own SEQ. -/
theorem resultRelease_body_of_owner (hready : (s.slot (c.u 0 1)).ready = true) (howner : (s.slot (c.u 0 1)).owner = some c.session)
    (hzero : c.u 1 3 = 0) (hseq : c.u 4 4 = (s.slot (c.u 0 1)).seq) :
    resultRelease.body c s = done { s with slots := modAt (c.u 0 1) (Slot.release (c.u 0 1)) s.slots } := by
  simp only [resultRelease, hready, howner, hzero, hseq, ne_eq, not_true_eq_false, and_false, Bool.not_true, Bool.false_eq_true, if_false]

/-- R113: EVENT_CLEAR clears STAT of the sources that its masks name. -/
theorem eventClear_body_event {n : Nat} (hn : n < s.events.length) :
    (eventClear.body c s).state.event n =
      if (fieldAt (4 * (n / 32)) 4 c.value).testBit (n % 32) then { s.event n with stat := false } else s.event n := by
  have hget : (eventClear.body c s).state.event n = clearMasked c.value n (s.event n) := by
    simp only [eventClear, done, State.event, List.getD_eq_getElem?_getD, List.getElem?_mapIdx, List.getElem?_eq_getElem hn,
      Option.map_some, Option.getD_some]
  exact hget

end Bodies

/-- Settles O28: the body of each command, on the branch that the hypotheses select. -/
theorem sessionCommandsAct : Obligations.SessionCommandsAct := by
  intro c s n
  refine ⟨rfl, rfl, rfl, sessionChallenge_body_of_free c, fun hbusy => if_pos hbusy, sessionOpen_body_of_proof c,
    sessionOpen_body_of_no_proof c, fun hn => if_neg hn, fun h0 => if_pos h0,
    fun _ hready howner hzero hseq => resultRelease_body_of_owner c hready howner hzero hseq, fun hgpio => ?_, rfl,
    fun n hn _ => eventClear_body_event c hn⟩
  simp only [gpioWrite, hgpio]

/-! Commands that only read (R55, R87, R90, R91, R93, R190, R288, R336, R362, R397, R454, R472, R491, R535) -/

/-- The state is the same but for the count of free values drawn. -/
def OnlyDraws (s t : State) : Prop := t = { s with freeTick := t.freeTick }

/-- R362: the quality of a station that was heard, or NOT_READY. -/
theorem modemQualityGet_onlyDraws (c : Cmd) (s : State) : OnlyDraws s (modemQualityGet.body c s).state := by
  simp only [modemQualityGet]
  split <;> rfl

/-- R88: the values, or the refusal of the first item that fails a check. -/
theorem paramGetOf_onlyDraws (unit : Nat) (c : Cmd) (s : State) : OnlyDraws s ((paramGetOf unit).body c s).state := by
  simp only [paramGetOf]
  split <;> rfl

/-- R87: a unit whose chapter lays out no item answers with free bytes. -/
theorem statusGetOf_onlyDraws (unit subsec ref : Nat) (c : Cmd) (s : State) :
    OnlyDraws s ((statusGetOf unit subsec ref).body c s).state := by
  simp only [statusGetOf]
  split <;> rfl

/-- Settles O60: the other bodies reply from the state as it is, which CELL_STATUS_GET leaves with one more free value drawn. -/
theorem readingCommandsChangeNothing : Obligations.ReadingCommandsChangeNothing := by
  intro c s unit subsec meas
  show ∀ k : CmdSpec, k ∈ _ → OnlyDraws s (k.body c s).state
  simp only [List.forall_mem_cons, List.not_mem_nil, false_implies, implies_true, and_true]
  exact ⟨rfl, rfl, rfl, rfl, rfl, rfl, rfl, modemQualityGet_onlyDraws c s, rfl, rfl, rfl, rfl, rfl, paramGetOf_onlyDraws unit c s,
    statusGetOf_onlyDraws unit subsec meas c s⟩

end Sys2Proof.Machine

/-! PROOFS. The DMA engine: its arbiter, bursts and beats, and the instructions of its programs (R114–R118, R120). -/
namespace Sys2Proof.Machine

open Sys2Proof.Claims

/-! The arbiter (R117) -/

/-- The channel that the arbiter would grant at priority `p`: the first ready one after the last granted there. -/
def State.grantedAt (p : Nat) (s : State) : Option Nat :=
  ((List.range 16).map (fun i => (s.dma.lastGranted.getD p 15 + 1 + i) % 16)).find?
    (fun n => (s.dmaCh n).priority == p && s.burstReady n)

theorem State.granted_eq (s : State) : s.granted = [3, 2, 1, 0].findSome? (fun p => s.grantedAt p) := (rfl)

/-- One round of the arbiter comes to every channel. -/
theorem mem_round_iff (last m : Nat) : m ∈ (List.range 16).map (fun i => (last + 1 + i) % 16) ↔ m < 16 := by
  rw [List.mem_map]
  constructor
  · rintro ⟨i, -, rfl⟩
    exact Nat.mod_lt _ (by decide)
  · intro hm
    exact ⟨(m + 16 - (last + 1) % 16) % 16, List.mem_range.mpr (Nat.mod_lt _ (by decide)), by omega⟩

section Arbiter
variable {n m p : Nat} {s : State}

theorem State.grantedAt_eq_some (h : s.grantedAt p = some n) : n < 16 ∧ (s.dmaCh n).priority = p ∧ s.burstReady n = true := by
  have hn := List.find?_some h
  rw [Bool.and_eq_true, beq_iff_eq] at hn
  exact ⟨(mem_round_iff _ n).mp (List.mem_of_find?_eq_some h), hn⟩

theorem State.not_burstReady_of_grantedAt (h : s.grantedAt p = none) (hm : m < 16) (hp : (s.dmaCh m).priority = p) :
    s.burstReady m ≠ true := by
  have hnone := List.find?_eq_none.mp h m ((mem_round_iff _ m).mpr hm)
  rwa [hp, beq_self_eq_true, Bool.true_and] at hnone

end Arbiter

/-- Settles O29: the priorities come in descending order, and one that grants nothing has no channel ready. -/
theorem arbiterGrantsTheHighestPriority : Obligations.ArbiterGrantsTheHighestPriority := by
  intro n m s hgranted hm hready hprio
  obtain ⟨above, p, below, hsplit, hp, hnone⟩ := List.findSome?_eq_some_iff.mp (s.granted_eq ▸ hgranted)
  obtain ⟨hn, rfl, hreadyn⟩ := State.grantedAt_eq_some hp
  refine ⟨hn, hreadyn, ?_⟩
  have hdescending : (above ++ (s.dmaCh n).priority :: below).Pairwise (· > ·) := hsplit ▸ by decide
  have hmem : (s.dmaCh m).priority ∈ above ++ (s.dmaCh n).priority :: below := by
    rw [← hsplit]
    simp only [List.mem_cons, List.not_mem_nil, or_false]
    omega
  rcases List.mem_append.mp hmem with habove | hbelow
  · exact absurd hready (State.not_burstReady_of_grantedAt (hnone _ habove) hm rfl)
  · obtain ⟨-, hlower, -⟩ := List.pairwise_append.mp hdescending
    rcases List.mem_cons.mp hbelow with heq | hlow
    · exact Nat.le_of_eq heq
    · exact Nat.le_of_lt (List.rel_of_pairwise_cons hlower hlow)

/-! Fields of an instruction word (R116) -/

theorem dmaOp_eq (w : Nat) : dmaOp w = w / 2 ^ 60 % 16 := (rfl)
theorem dmaKind_eq (w : Nat) : dmaKind w = w / 2 ^ 40 % 8 := (rfl)
theorem dmaArg_eq (w : Nat) : dmaArg w = w / 2 ^ 24 % 65536 := (rfl)
theorem bits_line (w : Nat) : bits 56 51 w = w / 2 ^ 51 % 64 := (rfl)
theorem bits_zero (hi w : Nat) : bits hi 0 w = w % 2 ^ (hi + 1) := by rw [bits, Nat.pow_zero, Nat.div_one, Nat.sub_zero]
theorem dmaLow_eq (w : Nat) : dmaLow w = w % 2 ^ 24 := bits_zero 23 w

/-- R116: of the transfers MOVE and FILL write. -/
theorem within_one_two (op : Nat) : within 1 2 op = decide (op = 1 ∨ op = 2) := by
  rw [within, ← Bool.decide_and, decide_eq_decide]
  omega

/-! Bursts and beats (R114, R116, R117) -/

/-- R117: a granted burst without a fault moves its beats one after another. -/
theorem dmaBurstCompletes : DmaBurstCompletes := by
  intro n x s c w s1 s2 s3 hserves hgranted hx hfault
  have hrun : s.dmaBurst n.val none false = s.runBurst n.val none false c x := by
    simp only [State.dmaBurst, hserves, hgranted, hx, Bool.not_true, bne_self_eq_false, Bool.or_self, Bool.false_eq_true, if_false, c]
  have htake : (if within 1 2 x.op && bit 57 w then s1.takeLine (bits 56 51 w) else s1) = s2 := by
    simp only [within_one_two, Bool.and_eq_true, decide_eq_true_eq]
    rfl
  have hcount : (if within 1 2 x.op then s2.modDma n.val (fun y => { y with outstanding := y.outstanding + 1 }) else s2) = s3 := by
    simp only [within_one_two, decide_eq_true_eq, s3]
  have hbeats : s.runBurst n.val none false c x =
      ((List.range (dmaBeats w)).foldl (fun u i => u.dmaBeat n.val w x i) s3).afterBurst n.val w x := by
    unfold State.runBurst
    extract_lets w' t1 t2 writes t3
    have h2 : t2 = s2 := htake
    have h3 : t3 = s3 := by rw [← hcount, ← h2]
    simp only [h2, h3, hfault, Option.bind_none, Bool.and_false, Bool.false_eq_true, if_false]
  exact congrArg Host.Outcome.next (hrun.trans hbeats)

theorem ofNat_ofLE (b : Byte) (r : Bytes) : BitVec.ofNat 8 (ofLE (b :: r)) = b := by
  apply BitVec.eq_of_toNat_eq
  have hb : b.toNat < 256 := b.isLt
  rw [BitVec.toNat_ofNat, ofLE]
  omega

/-- R9: the bytes of a value that was read from bytes are those bytes. -/
theorem le_ofLE (b : Bytes) : le b.length (ofLE b) = b := by
  induction b with
  | nil => rfl
  | cons a r ih =>
    have hrest : ofLE (a :: r) / 256 = ofLE r := by
      have ha : a.toNat < 256 := a.isLt
      rw [ofLE]
      omega
    rw [List.length_cons, le, ofNat_ofLE, hrest, ih]

theorem Table.getElem_getList {α : Type} (d : α) (k n i : Nat) (t : Table α) (h : i < (Table.getList d k n t).length) :
    (Table.getList d k n t)[i] = Table.get d (k + i) t := by
  induction n generalizing k i with
  | zero => nomatch h
  | succ n ih =>
    cases i with
    | zero => rfl
    | succ i =>
      have hi : i < n := by simpa using h
      show (Table.getList d (k + 1) n t)[i]'(by simpa using hi) = _
      rw [ih, Nat.add_right_comm, Nat.add_assoc]

/-- R114: an address of data RAM. -/
theorem State.dmaPlace_ram (write : Bool) {a : Nat} (ha : a < 65536) (s : State) :
    s.dmaPlace write (0x02000000 + a) = some (.ram a) := by
  rw [State.dmaPlace, within_of_mem (by omega) (by omega), if_pos rfl, Nat.add_sub_cancel_left]

theorem beatAddr_zero (fix : Bool) (a : Nat) : beatAddr fix a 0 = a := by cases fix <;> rfl

/-- R116: a beat of a MOVE within data RAM stores at `b` the eight bytes read at `a`. -/
theorem State.dmaBeat_move_ram (n w : Nat) {a b : Nat} {x : DmaXfer} (ha : a < 65536) (hb : b < 65536) (hop : x.op = 1)
    (hsrc : x.src = 0x02000000 + a) (hdst : x.dst = 0x02000000 + b) (s : State) :
    (s.dmaBeat n w x 0).trowelH.data = Table.setList 0 b (Table.getList 0 a 8 s.trowelH.data) s.trowelH.data := by
  have hbytes : le 8 (ofLE (Table.getList 0 a 8 s.trowelH.data)) = Table.getList 0 a 8 s.trowelH.data := by
    simpa only [Table.length_getList] using le_ofLE (Table.getList 0 a 8 s.trowelH.data)
  simp only [State.dmaBeat, hop, hsrc, hdst, beatAddr_zero, State.readAt, State.writeAt, State.dmaPlace_ram _ ha, State.dmaPlace_ram _ hb,
    State.dmaRead, State.dmaWrite, hbytes]

/-- R114, R116: the eight bytes are all read before the first is written. -/
theorem dmaBeatCopiesDataRam : DmaBeatCopiesDataRam := by
  intro n w a b x s ha hb hop hsrc hdst u
  have hu : u.trowelH.data = Table.setList 0 b (Table.getList 0 a 8 s.trowelH.data) s.trowelH.data :=
    s.dmaBeat_move_ram n w (by omega) (by omega) hop hsrc hdst
  rw [hu]
  constructor
  · intro k hk
    rw [Table.get_setList _ _ _ _ _ (by rwa [Table.length_getList]), Table.getElem_getList]
  · intro k hk
    exact Table.get_setList_ne _ _ _ _ _ (by rwa [Table.length_getList])

/-- Settles O31: a burst is its beats in order, and a beat is one read of eight bytes and one write of them. -/
theorem dmaBurstsMoveData : Obligations.DmaBurstsMoveData := ⟨dmaBurstCompletes, dmaBeatCopiesDataRam⟩

/-! The instructions that set up a transfer, LOOP and END (R115, R116, R118) -/

theorem State.dmaGoto_of_le {n k : Nat} (h : k ≤ 63) (s : State) : s.dmaGoto n k = dmaGoes n k s := if_pos h

section Instructions
variable {n : Fin 16} {op : Nat} {s : State}

theorem dmaOp_of_at (h : DmaAt n op s) : dmaOp (s.dmaCh n).at_ = op := by
  obtain ⟨-, -, -, hop⟩ := h
  exact hop

/-- A channel at an instruction that exists takes the row that accepts it. -/
theorem dmaRow_of_at (h : DmaAt n op s) (hop : op ≤ 6) {is : Nat → Bool} (his : is (s.dmaCh n).at_ = true)
    (f : DmaChannel → Nat → State → State) : s.dmaRow n is f = f (s.dmaCh n) (s.dmaCh n).at_ s := by
  have hexists : ¬ 6 < dmaOp (s.dmaCh n).at_ := by rw [dmaOp_of_at h]; omega
  obtain ⟨hserves, hphase, hxfer, -⟩ := h
  simp only [State.dmaRow, DmaChannel.fetches, hserves, hphase, hxfer, his, hexists, Bool.not_true, beq_self_eq_true,
    Option.isNone_none, Bool.and_self, Bool.or_self, Bool.false_eq_true, if_false, if_true]

theorem dmaRow_of_op (h : DmaAt n op s) (hop : op ≤ 6) (f : DmaChannel → Nat → State → State) :
    s.dmaRow n (fun w => dmaOp w == op) f = f (s.dmaCh n) (s.dmaCh n).at_ s :=
  dmaRow_of_at h hop (is := fun w => dmaOp w == op) (beq_iff_eq.mpr (dmaOp_of_at h)) f

/-- R115, R116: a transfer whose words are all in the program store is set up; a paced MOVE or FILL waits for its request. -/
theorem dmaRow_begin (h : DmaAt n op s) (hop : op ≤ 6) (size : Nat) (hsize : dmaSize (s.dmaCh n).at_ = size)
    (hfits : (s.dmaCh n).pc + size ≤ 64) :
    s.dmaRow n (fun w => dmaOp w == op) (State.dmaBegin n) = s.modDma n (fun y => { y with
      xfer := some (dmaTransfer (s.dmaCh n))
      phase := if within 1 2 op && (bit 57 (s.dmaCh n).at_ && !s.lineAsserted (bits 56 51 (s.dmaCh n).at_)) then .waitLine else .running }) := by
  have hstore : ¬ 63 < (s.dmaCh n).pc + dmaSize (s.dmaCh n).at_ - 1 := by omega
  rw [dmaRow_of_op h hop, State.dmaBegin, if_neg hstore, ← dmaOp_of_at h]
  simp only [dmaTransfer, bits_zero, dmaLow_eq, ← dmaOp_eq, Bool.and_assoc]
  rfl

/-- The iterations that LOOP has to come at level 0 or 1: a level that is not armed takes them from the word. -/
def DmaChannel.loopCount (one : Bool) (c : DmaChannel) : Nat :=
  if (if one then c.armed1 else c.armed0) then (if one then c.count1 else c.count0) else dmaArg c.at_

/-- Level 0 or 1 armed or idle, with `k` iterations to come. -/
def DmaChannel.setLoop (one on : Bool) (k : Nat) (c : DmaChannel) : DmaChannel :=
  if one then { c with armed1 := on, count1 := k } else { c with armed0 := on, count0 := k }

section Loop
variable (h : DmaAt n 4 s) {one : Bool} (hlevel : (s.dmaCh n).at_.testBit 43 = one)
include h hlevel

theorem exec_dmaLoop : exec (.dmaLoop n) s =
    .next (if (s.dmaCh n).loopCount one = 0 then (s.modDma n (DmaChannel.setLoop one false 0)).dmaGoto n ((s.dmaCh n).pc + 1)
      else (s.modDma n (DmaChannel.setLoop one true ((s.dmaCh n).loopCount one - 1))).dmaGoto n (bits 5 0 (s.dmaCh n).at_)) := by
  subst hlevel
  exact congrArg Host.Outcome.next (dmaRow_of_op h (by decide) _)

/-- R116: a LOOP with iterations to come counts one and jumps. -/
theorem exec_dmaLoop_again (hcount : (s.dmaCh n).loopCount one ≠ 0) : exec (.dmaLoop n) s =
    .next (dmaGoes n ((s.dmaCh n).at_ % 64) (s.modDma n (DmaChannel.setLoop one true ((s.dmaCh n).loopCount one - 1)))) := by
  have htarget : (s.dmaCh n).at_ % 64 ≤ 63 := by omega
  rw [exec_dmaLoop h hlevel, if_neg hcount, bits_zero]
  exact congrArg Host.Outcome.next (State.dmaGoto_of_le htarget _)

/-- R116: a LOOP that is through leaves its level idle and goes on. -/
theorem exec_dmaLoop_through (hpc : (s.dmaCh n).pc ≤ 62) (hcount : (s.dmaCh n).loopCount one = 0) : exec (.dmaLoop n) s =
    .next (dmaGoes n ((s.dmaCh n).pc + 1) (s.modDma n (DmaChannel.setLoop one false 0))) := by
  rw [exec_dmaLoop h hlevel, if_pos hcount, State.dmaGoto_of_le (by omega)]

end Loop

/-- R118: END leaves the channel in DONE, at once where no write response is outstanding. -/
theorem exec_dmaEnd (h : DmaAt n 0 s) : exec (.dmaEnd n) s = .next (s.dmaEndIn n .done) :=
  congrArg Host.Outcome.next (dmaRow_of_op h (by decide) _)

end Instructions

/-- R115, R116, R118: the sizes of the transfers keep their words in the program store, and the two levels of LOOP act alike. -/
theorem dmaInstructionsComplete : DmaInstructionsComplete := by
  intro n s c w line paced count0 count1
  refine ⟨fun h hpc => congrArg Host.Outcome.next (dmaRow_begin h (by decide) 2 ?move (Nat.add_le_add_right hpc 2)),
    fun h hpc => congrArg Host.Outcome.next (dmaRow_begin h (by decide) 3 ?fill (Nat.add_le_add_right hpc 3)),
    fun h hpc => congrArg Host.Outcome.next (dmaRow_begin h (by decide) 3 ?cmp (Nat.add_le_add_right hpc 3)),
    fun h hlevel hcount => exec_dmaLoop_again h hlevel hcount, fun h hlevel hcount => exec_dmaLoop_again h hlevel hcount,
    fun h hpc hlevel hcount => exec_dmaLoop_through h hlevel hpc hcount,
    fun h hpc hlevel hcount => exec_dmaLoop_through h hlevel hpc hcount, fun h hout => ?ended, fun h hout => ?drains⟩
  case move | fill | cmp => simp only [dmaSize, dmaOp_of_at h]
  case ended => rw [exec_dmaEnd h, State.dmaEndIn, if_pos hout]
  case drains => rw [exec_dmaEnd h, State.dmaEndIn, if_neg hout]

/-! WAIT (R115, R116, R120) -/

/-- R116, R120: the four rows of WAIT are one operation, whose condition, taking and state follow the KIND of the word. -/
theorem waitRow_cases {i : Instr} {n : Fin 16} {w kind : Nat} {met : State → Bool} {take : State → State} {phase : DmaPhase}
    (hi : dmaChannelOf i = some n) (hrow : waitRow w i = some (kind, met, take, phase)) (hkind : dmaKind w = kind) :
    met = State.dmaWaitMet w ∧ take = State.dmaWaitTake w ∧ phase = dmaWaitPhase w ∧
    exec i = fun s => .next (s.dmaRow n (isDmaWait kind) (State.dmaWait n)) := by
  unfold dmaChannelOf at hi
  split at hi
  case h_5 => nomatch hi
  all_goals
    cases hi
    cases hrow
    refine ⟨funext fun s => ?_, funext fun s => ?_, ?_, rfl⟩
    · simp only [State.dmaWaitMet, hkind, dmaLow_eq, bits_line]
    · simp only [State.dmaWaitTake, hkind, dmaLow_eq, bits_line]
    · simp only [dmaWaitPhase, hkind]

theorem dmaWaitPhase_held (w : Nat) : [DmaPhase.waitLine, .waitEvent, .waitQueue].contains (dmaWaitPhase w) = true := by
  unfold dmaWaitPhase
  split <;> rfl

/-- R115, R116, R120: a WAIT asks once when it comes and again at each DMA_WAIT_DONE. -/
theorem dmaWaitsComplete : DmaWaitsComplete := by
  intro i n s kind met take phase c w hi hrow hkind
  obtain ⟨rfl, rfl, rfl, hexec⟩ := waitRow_cases hi hrow hkind
  have hwait (h : DmaAt n 5 s) : exec i s = .next (s.dmaWait n c w) := by
    have his : isDmaWait kind c.at_ = true := Bool.and_eq_true_iff.mpr ⟨beq_iff_eq.mpr (dmaOp_of_at h), beq_iff_eq.mpr hkind⟩
    exact hexec ▸ congrArg Host.Outcome.next (dmaRow_of_at h (by decide) his _)
  refine ⟨fun h hmet hpc => ?ends, fun h hmet => ?waits, fun hserves hphase hxfer hmet hpc => ?done⟩
  case ends => rw [hwait h, State.dmaWait, if_pos hmet, State.dmaGoto_of_le (Nat.add_le_add_right hpc 1)]
  case waits => rw [hwait h, State.dmaWait, if_neg (Bool.eq_false_iff.mp hmet)]
  case done =>
    have hheld : c.held = true := by
      rw [DmaChannel.held, hphase, hxfer, dmaWaitPhase_held]
      rfl
    have hdone : s.dmaWaitDone n = (s.dmaWaitTake w).dmaGoto n (c.pc + 1) :=
      if_pos (by rw [hserves, hheld, hmet]; rfl)
    exact congrArg Host.Outcome.next (hdone.trans (State.dmaGoto_of_le (Nat.add_le_add_right hpc 1) _))

/-! SIGNAL and the drain (R116, R118) -/

section Signal
variable {n : Fin 16} {s : State}

/-- R116, R118: a sound SIGNAL whose writes are answered has its effect and goes on. -/
theorem dmaSignal_of_at {kind : Nat} (h : DmaAt n 6 s) (hkind : dmaKind (s.dmaCh n).at_ = kind) (hout : (s.dmaCh n).outstanding = 0)
    (hpc : (s.dmaCh n).pc ≤ 62) (hsound : s.dmaBadSignal (s.dmaCh n).at_ = false) (f : Nat → State → State) :
    s.dmaSignal kind n f = dmaGoes n ((s.dmaCh n).pc + 1) (f (s.dmaCh n).at_ s) := by
  have his : (dmaOp (s.dmaCh n).at_ == 6 && dmaKind (s.dmaCh n).at_ == kind) = true := by
    rw [dmaOp_of_at h, hkind, beq_self_eq_true, beq_self_eq_true, Bool.and_self]
  rw [State.dmaSignal, dmaRow_of_at h (by decide) (is := fun w => dmaOp w == 6 && dmaKind w == kind) his,
    if_neg (not_not_intro hout), hsound, if_neg Bool.false_ne_true, State.dmaGoto_of_le (by omega)]

/-- R116: the producer cell as an entry of no more bytes than it holds. -/
theorem State.dmaCommit_of_le {w : Nat} (h : dmaArg w ≤ (s.queue (dmaLow w)).cell.length) :
    s.dmaCommit w =
      (s.modQueue (dmaLow w) (fun x => { x with cell := [] })).offerAny (dmaLow w) ((s.queue (dmaLow w)).cell.take (dmaArg w)) := by
  simp only [State.dmaCommit, Nat.sub_eq_zero_of_le h, freeBytes, List.append_nil, Nat.add_zero]

theorem dmaBadSignal_raise {w : Nat} (h : dmaKind w = 0) : s.dmaBadSignal w = false := by
  rw [State.dmaBadSignal, h]
  exact Bool.and_false _

theorem dmaBadSignal_commit {w : Nat} (h : dmaKind w = 1) (h1 : 1 ≤ dmaArg w) (h2 : dmaArg w ≤ queueCell (dmaLow w))
    (hpush : s.dmaPush (dmaLow w) = true) : s.dmaBadSignal w = false := by
  have hsome : (dmaArg w == 0) = false := beq_false_of_ne (Nat.ne_of_gt h1)
  rw [State.dmaBadSignal, h, hsome, decide_eq_false (Nat.not_lt.mpr h2), hpush]
  exact Bool.and_false _

theorem dmaBadSignal_consume {w : Nat} (h : dmaKind w = 2) (hpop : s.dmaPop (dmaLow w) = true) : s.dmaBadSignal w = false := by
  rw [State.dmaBadSignal, h, hpop]
  exact Bool.and_false _

/-- R118: the last write responses end the drain, or leave the channel where it is with none outstanding. -/
theorem dmaDrainDone_of_outstanding (h : (s.dmaCh n).outstanding ≠ 0) : s.dmaDrainDone n =
    if (s.dmaCh n).phase = .draining then s.dmaFinish n (s.dmaCh n).drainTo
    else s.modDma n (fun c => { c with outstanding := 0 }) := if_neg h

end Signal

theorem dmaSignalsComplete : DmaSignalsComplete := by
  intro n s c w k len
  have hlow : dmaLow w = k := dmaLow_eq w
  refine ⟨fun h hkind hout hpc => ?raise, fun h hkind hout hpc h1 h2 hpush hcell => ?commit, fun h hkind hout hpc hpop => ?consume,
    fun hout hphase => ?drained, fun hout hphase => ?answered⟩
  case raise =>
    rw [← hlow]
    exact congrArg Host.Outcome.next (dmaSignal_of_at h hkind hout hpc (dmaBadSignal_raise hkind) _)
  case commit =>
    rw [← hlow] at h2 hpush hcell ⊢
    refine congrArg Host.Outcome.next ((dmaSignal_of_at h hkind hout hpc (dmaBadSignal_commit hkind h1 h2 hpush) _).trans ?_)
    rw [State.dmaCommit_of_le hcell]
    rfl
  case consume =>
    rw [← hlow] at hpop ⊢
    exact congrArg Host.Outcome.next (dmaSignal_of_at h hkind hout hpc (dmaBadSignal_consume hkind hpop) _)
  case drained => exact congrArg Host.Outcome.next ((dmaDrainDone_of_outstanding hout).trans (if_pos hphase))
  case answered => exact congrArg Host.Outcome.next ((dmaDrainDone_of_outstanding hout).trans (if_neg hphase))

/-- Settles O30: a channel at an instruction takes its row, and each row is one operation of the channel. -/
theorem dmaProgramsComplete : Obligations.DmaProgramsComplete := ⟨dmaInstructionsComplete, dmaWaitsComplete, dmaSignalsComplete⟩

end Sys2Proof.Machine

/-! PROOFS. A push through the port of a Wait queue that holds back a push already (R97, R416). -/
namespace Sys2Proof.Machine

open Sys2Proof.Claims

/-- What an update of queues keeps of every queue stays in the queue that it updates. -/
theorem State.queue_modQueue_keeps {α : Type} {g : Queue → α} {f : Queue → Queue} (hf : ∀ q, g (f q) = g q) (n m : Nat) (s : State) :
    g ((s.modQueue n f).queue m) = g (s.queue m) := by
  rw [State.queue_modQueue]
  split
  · exact hf _
  · rfl

/-- R97: a push to a Wait queue that still holds one back waits behind it, whatever room there is. -/
theorem State.pushLen_of_held {n len : Nat} {s : State} (hwait : waitQueue n = true) (hheld : (s.queue n).waiting.isEmpty = false)
    (h1 : 1 ≤ len) (h2 : len ≤ queueCell n) (h3 : len ≤ (s.queue n).cell.length) :
    ((s.pushLen n len).queue n).entries = (s.queue n).entries := by
  have hfits : ¬ (len = 0 ∨ queueCell n < len ∨ (s.queue n).cell.length < len) := by omega
  have hcleared : ((s.modQueue n (fun q => { q with cell := [] })).queue n).waiting.isEmpty = false :=
    (State.queue_modQueue_keeps (g := fun q => q.waiting.isEmpty) (fun _ => by rfl) n n s).trans hheld
  simp only [State.pushLen, if_neg hfits, hwait, State.offerWait, hcleared, Bool.false_and, Bool.false_eq_true, if_true, if_false]
  exact (State.queue_modQueue_keeps (g := Queue.entries) (fun _ => by rfl) n n _).trans
    (State.queue_modQueue_keeps (g := Queue.entries) (fun _ => by rfl) n n s)

/-- R98: an entry that a queue without credits has room for is stored. -/
theorem State.offerAny_stores {n : Nat} {b : Bytes} {s : State} (hn : n ≠ 2) (hinput : s.inputQueue n = false)
    (hlen : n < s.queues.length) (hroom : s.hasRoom n = true) (h1 : 1 ≤ b.length) (h2 : b.length ≤ queueCell n) :
    ((s.offerAny n b).queue n).entries = (s.queue n).entries ++ [{ data := b }] := by
  rw [State.offerAny, hinput, if_neg Bool.false_ne_true, State.offer_queue hn hlen hroom h1 h2]
  rfl

/-- Q05 with one byte in its producer cell and one push held back though every cell is free: R507's drop of a queue's entries
(`State.dropStored`) empties the cells and keeps what is held back. -/
def heldPush : State := State.reset.modQueue 5 (fun q => { q with cell := [0], waiting := [[0]] })

/-- Refutes O4: the clause on PUSH_LEN asks of a Wait queue only that it has room, and has the pushed entry stored; where the queue
still holds back an earlier push, as in `heldPush`, the entry waits behind that one (R97). -/
theorem not_portsVectorsAndWaitComplete : ¬ Obligations.PortsVectorsAndWaitComplete := by
  rintro ⟨hports, -⟩
  obtain ⟨-, -, hpush, -⟩ := hports heldPush 5 0 1 0
  have hclaimed : heldPush.pushLen 5 1 = (heldPush.modQueue 5 (fun q => { q with cell := [] })).offerAny 5 [0] :=
    Host.Outcome.next.inj (hpush (by decide) (by decide) (by decide) (.inr (by decide)))
  have hwaits : ((heldPush.pushLen 5 1).queue 5).entries = [] :=
    State.pushLen_of_held (by decide) (by decide) (by decide) (by decide) (by decide)
  have hstored : ((heldPush.pushLen 5 1).queue 5).entries = [{ data := [0] }] :=
    hclaimed ▸ State.offerAny_stores (by decide) (by decide) (by decide) (by decide) (by decide) (by decide)
  rw [hwaits] at hstored
  nomatch hstored

end Sys2Proof.Machine

/-! PROOFS. A sample tick (R112, R184, R207–R212, R393). -/
namespace Sys2Proof.Machine

/-- R112: the order of the posted packets is that of the state before and the state after. -/
theorem State.ascending_congr {f g : State → State} {s : State} (h : f s = g s) : s.ascending f = s.ascending g := by
  rw [State.ascending, h, State.ascending]

/-- R207, R208: a tick that comes is the end of the pass, the tick's instant, and the switch cycle. -/
theorem State.sampleTick_of_ticks (received : Nat) {s : State} (h : s.sampleTicks = true) :
    s.sampleTick received =
      let n := s.nextIndex
      let past := s.screed.passOpen
      let s1 := ((if past then s else s.drainBackground).overrun.endSaturation).noteSlots (if past then 0 else received)
      let s2 := ((s1.advance (s1.indexInstant n)).release .sampleTick).loadAudio
      ((State.takeAnchor n { s2 with audio := { s2.audio with outHeld := past } }).switchCycle n).afterSwitch n := by
  rw [State.sampleTick, h, Bool.not_true, if_neg Bool.false_ne_true]

/-- Settles O10: where the part has sample ticks, `State.sampleTick` is the actions in the order of R208. -/
theorem sampleTickTakesItsActionsInOrder : Obligations.SampleTickTakesItsActionsInOrder := by
  intro received s hticks hwired
  have hexec : exec (.sampleTick received) s =
      .next (s.ascending (fun s => (if s.sampleTicks then s.wireUp (s.indexInstant s.nextIndex) else s).sampleTick received)) := (rfl)
  rw [hexec]
  refine congrArg Host.Outcome.next (State.ascending_congr ?_)
  rw [if_pos hticks, State.sampleTick_of_ticks received hwired]
  rfl

end Sys2Proof.Machine

/-! PROOFS. The front-end of a satellite band: its gain and clipping, blanking, notches and antenna bias (R125, R127–R129). -/
namespace Sys2Proof.Machine

/-! A band, and what leaves it as it was -/

@[simp] theorem State.band_modBand (l5 : Bool) (f : GnssBand → GnssBand) (s : State) : (s.modBand l5 f).band l5 = f (s.band l5) := by
  cases l5 <;> rfl

@[simp] theorem State.band_not_modBand (l5 : Bool) (f : GnssBand → GnssBand) (s : State) :
    (s.modBand l5 f).band (!l5) = s.band (!l5) := by
  cases l5 <;> rfl

@[simp] theorem State.param_modBand (id : Nat) (l5 : Bool) (f : GnssBand → GnssBand) (s : State) :
    (s.modBand l5 f).param id = s.param id := by
  simp only [State.param, State.committed, State.modBand_nv, State.modBand_inForce]

@[simp] theorem State.occur_gnss (n code : Nat) (detail : Bytes) (s : State) : (s.occur n code detail).gnss = s.gnss :=
  occurN_induction (P := fun t => t.gnss = s.gnss) (fun _ _ _ h => h) (fun _ _ h => h) (fun _ _ h => h) (fun _ _ h => h)
    (fun _ h => h) 8 n code detail s rfl

@[simp] theorem State.band_occur (l5 : Bool) (n code : Nat) (detail : Bytes) (s : State) :
    (s.occur n code detail).band l5 = s.band l5 := by
  rw [State.band, State.occur_gnss, State.band]

@[simp] theorem State.band_bump64 (l5 : Bool) (unit i n : Nat) (s : State) : (s.bump64 unit i n).band l5 = s.band l5 := (rfl)

@[simp] theorem State.band_advance (l5 : Bool) (t : Nat) (s : State) : (s.advance t).band l5 = s.band l5 := (rfl)

/-! The samples of an AGC update (R127, R128) -/

theorem saturate_bounds (x : Int) : -127 ≤ saturate x ∧ saturate x ≤ 127 := by
  rw [saturate]
  omega

/-- R128: a sample is pulse-blanked, transmit-blanked or used. -/
theorem FrontSum.take_total (blanked : Nat → Bool) (cfg : Nat → Nat × Nat) (a : FrontSum) (x : Nat × Int × Int) :
    (a.take blanked cfg x).pulse + (a.take blanked cfg x).tx + (a.take blanked cfg x).used = a.pulse + a.tx + a.used + 1 := by
  unfold FrontSum.take
  extract_lets thresh hold i q last counted
  have hcounted : counted.pulse + counted.tx + counted.used = a.pulse + a.tx + a.used := rfl
  split
  · show counted.pulse + (counted.tx + 1) + counted.used = _
    omega
  · split
    · show counted.pulse + 1 + counted.tx + counted.used = _
      omega
    · show counted.pulse + counted.tx + (counted.used + 1) = _
      omega

theorem FrontSum.foldl_take_total (blanked : Nat → Bool) (cfg : Nat → Nat × Nat) (l : List (Nat × Int × Int)) (a : FrontSum) :
    (l.foldl (FrontSum.take blanked cfg) a).pulse + (l.foldl (FrontSum.take blanked cfg) a).tx +
      (l.foldl (FrontSum.take blanked cfg) a).used = a.pulse + a.tx + a.used + l.length := by
  induction l generalizing a with
  | nil => rfl
  | cons x l ih =>
    rw [List.foldl_cons, ih, FrontSum.take_total, List.length_cons]
    omega

theorem State.frontSum_total (l5 : Bool) (samples : List (Int × Int)) (s : State) :
    (s.frontSum l5 samples).pulse + (s.frontSum l5 samples).tx + (s.frontSum l5 samples).used = samples.length := by
  rw [State.frontSum, FrontSum.foldl_take_total, List.length_map, List.length_zipIdx]
  exact Nat.zero_add _

/-- R127, R128: the counts of the two windows, the gain and what goes on; the other band keeps its own. -/
theorem State.agcUpdate_band {l5 : Bool} {s : State} (h : s.bandRuns l5 = true) (samples : List (Int × Int)) (t : Nat) :
    let b := s.band l5
    let f := (s.advance t).frontSum l5 samples
    let u := s.agcUpdate l5 samples t
    (u.band l5).clipSamples = b.clipSamples + samples.length ∧ (u.band l5).dutySamples = b.dutySamples + samples.length ∧
      (u.band l5).clipCount = b.clipCount + f.sat ∧ (u.band l5).dutyCount = b.dutyCount + f.pulse + f.tx ∧
      (u.band l5).gain = f.gain b.gain ∧ (u.band l5).stream = f.out.reverse ∧ u.band (!l5) = s.band (!l5) := by
  simp only [State.agcUpdate, h, Bool.not_true, Bool.false_eq_true, if_false, State.band_bump64, State.band_modBand,
    State.band_not_modBand, State.band_advance, and_self]

/-! The windows of CLIP_LIMIT and of BLANK_DUTY_LIMIT (R127, R128) -/

section Windows
variable {l5 : Bool} {s : State} (hruns : s.bandRuns l5 = true)
include hruns

/-- R127: at the end of a window the counts begin anew, and EV043 occurs above the limit. -/
theorem State.adcClip_of_window (hwindow : 818400 ≤ (s.band l5).clipSamples) :
    let b := s.band l5
    let t := s.modBand l5 (fun b => { b with clipSamples := 0, clipCount := 0 })
    s.adcClip l5 = if b.clipLimit * (2 * b.clipSamples) < b.clipCount * 10000 then
      t.occur 43 (b01 l5) (le 2 (b.clipCount * 10000 / (2 * b.clipSamples))) else t := by
  have hfull : ¬ ((!s.bandRuns l5) = true ∨ (s.band l5).clipSamples < 10 * agcSamples) := by
    rw [hruns, agcSamples]
    simp only [Bool.not_true, Bool.false_eq_true, false_or]
    omega
  exact if_neg hfull

/-- R128: at the end of a window the counts begin anew, and EV042 occurs above the limit. -/
theorem State.blankDuty_of_window (hwindow : 8184000 ≤ (s.band l5).dutySamples) :
    let b := s.band l5
    let t := s.modBand l5 (fun b => { b with dutySamples := 0, dutyCount := 0 })
    s.blankDuty l5 = if b.dutyLimit * b.dutySamples < b.dutyCount * 100 then
      t.occur 42 (b01 l5) (le 2 (b.dutyCount * 10000 / b.dutySamples)) else t := by
  have hfull : ¬ ((!s.bandRuns l5) = true ∨ (s.band l5).dutySamples < 100 * agcSamples) := by
    rw [hruns, agcSamples]
    simp only [Bool.not_true, Bool.false_eq_true, false_or]
    omega
  exact if_neg hfull

end Windows

/-! Notches (R129) -/

/-- A line that finds notch `k` free takes it. -/
theorem State.placeLine_of_free {l5 : Bool} {k : Nat} {s : State} (h : freeNotch (s.band l5).notches = some k) (waited : List Nat)
    (l : SpectrumLine) : s.placeLine l5 waited l = s.lockNotch l5 k l := by
  simp only [State.placeLine, h]

theorem State.notches_lockNotch (l5 : Bool) (k : Nat) (l : SpectrumLine) (s : State) :
    ((s.lockNotch l5 k l).band l5).notches =
      modAt k (fun _ => { line := some l.id, offset := l.offset, jn := l.jn.toNat }) (s.band l5).notches := by
  rw [State.lockNotch, State.band_occur, State.band_bump64, State.band_modBand]

section Notches
variable {l5 : Bool} {s : State} (hruns : s.bandRuns l5 = true)
include hruns

theorem State.notchSpectrum_of_fixed (hmode : s.notchMode l5 = 2) (lines : List SpectrumLine) :
    s.notchSpectrum l5 lines =
      s.modBand l5 (fun b => { b with notches := fixedNotches (s.param (0x1003 + b01 l5)), homeless := [] }) := by
  simp only [State.notchSpectrum, hruns, hmode, Bool.not_true, Bool.false_eq_true, if_false]

theorem State.notchSpectrum_of_off (hmode : s.notchMode l5 = 0) (lines : List SpectrumLine) :
    s.notchSpectrum l5 lines = s.modBand l5 (fun b => { b with notches := List.replicate 4 {}, homeless := [] }) := by
  simp only [State.notchSpectrum, hruns, hmode, Bool.not_true, Bool.false_eq_true, if_false]

/-- R129: notches follow their lines, and the lines above NOTCH_THRESH that none holds are placed, the strongest first. -/
theorem State.notchSpectrum_of_auto (hmode : s.notchMode l5 = 1) (lines : List SpectrumLine) :
    let th := s.param 0x1002
    let t := s.modBand l5 (fun b => { b with notches := b.notches.map (Notch.follow lines th s.up), homeless := [] })
    let held := (t.band l5).notches.filterMap (·.line)
    s.notchSpectrum l5 lines =
      (sortLines (lines.filter (fun l => decide (10 * th ≤ l.jn.toNat) && !held.contains l.id))).foldl
        (State.placeLine l5 (s.band l5).homeless) t := by
  simp only [State.notchSpectrum, hruns, hmode, Bool.not_true, Bool.false_eq_true, if_false]

/-- R129: the one line above NOTCH_THRESH takes the first of four free notches. -/
theorem State.notchSpectrum_of_line (hmode : s.notchMode l5 = 1) {l : SpectrumLine} (hl : 10 * s.param 0x1002 ≤ l.jn.toNat)
    (hfree : (s.band l5).notches = [{}, {}, {}, {}]) :
    ((s.notchSpectrum l5 [l]).band l5).notches = [{ line := some l.id, offset := l.offset, jn := l.jn.toNat }, {}, {}, {}] := by
  have hspectrum := State.notchSpectrum_of_auto hruns hmode [l]
  extract_lets th t held at hspectrum
  have hnotches : (t.band l5).notches = [{}, {}, {}, {}] := by
    rw [State.band_modBand, hfree]
    rfl
  have hheld : held = [] := by
    unfold held
    rw [hnotches]
    rfl
  have hnew : [l].filter (fun l => decide (10 * th ≤ l.jn.toNat) && !held.contains l.id) = [l] := by
    simp only [hheld, List.filter_cons, decide_eq_true hl, th, List.contains_nil, Bool.not_false, Bool.and_self, if_true, List.filter_nil]
  have hfirst : freeNotch (t.band l5).notches = some 0 := by
    rw [hnotches]
    rfl
  rw [hspectrum, hnew]
  show ((t.placeLine l5 _ l).band l5).notches = _
  rw [State.placeLine_of_free hfirst, State.notches_lockNotch, hnotches]
  rfl

/-- R129: a line that has stayed below for 1 s leaves its notch. -/
theorem State.notchRelease_of_low (hmode : s.notchMode l5 = 1) {k id since : Nat}
    (hline : ((s.band l5).notches.getD k {}).line = some id) (hlow : ((s.band l5).notches.getD k {}).lowSince = some since)
    (hlong : since + qtSec ≤ s.up) : s.notchRelease l5 k = s.releaseNotch l5 k := by
  refine if_pos ⟨hruns, hmode, ?_, ?_⟩
  · rw [hline, Option.isSome_some]
  · rw [hlow, Option.any_some, decide_eq_true_eq]
    exact hlong

end Notches

/-! Antenna bias (R125) -/

theorem biasSource_succ (l5 : Bool) : biasSource l5 + 1 = 37 + 2 * b01 l5 := by
  rw [biasSource]
  omega

@[simp] theorem State.band_biasSeen (l5 : Bool) (current : Nat) (s : State) : (s.biasSeen l5 current).band l5 =
    { s.band l5 with current := current, limitSince := if current < s.biasLimit10 l5 then none else (s.band l5).limitSince } :=
  State.band_modBand l5 _ s

@[simp] theorem State.biasLimit10_biasSeen (l5 : Bool) (current : Nat) (s : State) :
    (s.biasSeen l5 current).biasLimit10 l5 = s.biasLimit10 l5 := by
  rw [State.biasLimit10, State.biasSeen, State.param_modBand, State.biasLimit10]

section Bias
variable {l5 : Bool} {s : State} (hon : s.biasOn l5 = true)

include hon in
/-- R125: a current above the limit is held there; another is seen. -/
theorem State.biasLimited_of_on (current : Nat) :
    s.biasLimited l5 current = if s.biasLimit10 l5 < current then
      s.modBand l5 (fun b => { b with current := s.biasLimit10 l5, limitSince := some (b.limitSince.getD s.up) })
    else s.biasSeen l5 current := by
  rw [State.biasLimited, hon, Bool.not_true, if_neg Bool.false_ne_true]

include hon in
/-- R125: the limit has held for 5 ms, and the switch opens with EV037 or EV039. -/
theorem State.biasShort_of_limited {since : Nat} (hsince : (s.band l5).limitSince = some since) (hlong : since + 5 * qtMs ≤ s.up) :
    s.biasShort l5 = ((s.modBand l5 (fun b => { b with
      shortAt := some (s.up, s.param 0x100E), limitSince := none, short := true, current := 0 })).bump64 0x10 (6 * b01 l5 + 5) 1).occur
      (37 + 2 * b01 l5) 1 (le 2 (s.band l5).current) := by
  simp only [State.biasShort, hsince, hon, hlong, and_self, if_true, biasSource_succ, bandCounter]

/-- R125: the switch closes BIAS_RETRY after it opened. -/
theorem State.biasRetry_of_due {t retry : Nat} (hopen : (s.band l5).shortAt = some (t, retry)) (hretry : retry ≠ 0)
    (hdue : t + retry * qtSec ≤ s.up) : s.biasRetry l5 = s.modBand l5 (fun b => { b with shortAt := none }) := by
  simp only [State.biasRetry, hopen, if_pos (And.intro hretry hdue)]

include hon in
/-- R125: a current below BIAS_OPEN, not reported yet. -/
theorem State.biasOpen_of_low (hopen : (s.band l5).open_ = false) {current : Nat} (hlow : current < 10 * s.param 0x100D) :
    s.biasOpen l5 current = (((s.biasSeen l5 current).modBand l5 (fun b => { b with open_ := true })).bump64 0x10
      (6 * b01 l5 + 5) 1).occur (36 + 2 * b01 l5) 1 (le 2 current) := by
  simp only [State.biasOpen, hon, hopen, hlow, Bool.not_false, and_self, if_true, biasSource, bandCounter]

include hon in
/-- R125: a short is left; no open antenna is reported, so none is left. -/
theorem State.biasRecovery_of_short (hshort : (s.band l5).short = true) (hopen : (s.band l5).open_ = false) {current : Nat}
    (hlow : current < s.biasLimit10 l5) :
    s.biasRecovery l5 current =
      ((s.biasSeen l5 current).modBand l5 (fun b => { b with short := false })).occur (37 + 2 * b01 l5) 0 (le 2 current) := by
  simp only [State.biasRecovery, hon, Bool.not_true, Bool.false_eq_true, if_false, State.band_biasSeen, State.biasLimit10_biasSeen,
    hshort, hlow, and_self, if_true, State.band_occur, State.band_modBand, hopen, false_and, biasSource_succ]

end Bias

/-- Settles O42: each row by the lemma of its function, on the branch that the hypotheses select. -/
theorem frontEndRowsComplete : Obligations.FrontEndRowsComplete := by
  intro s l5 i q inst lines k cur b
  refine ⟨fun hruns => ?agcUpdate, saturate_bounds, fun hruns hwindow hclip => ?clipped, fun hruns hwindow hclip => ?unclipped,
    fun hruns hwindow hduty => ?blanked,
    fun hruns hmode => congrArg Host.Outcome.next (State.notchSpectrum_of_fixed hruns hmode lines),
    fun hruns hmode => congrArg Host.Outcome.next (State.notchSpectrum_of_off hruns hmode lines),
    fun l hruns hmode hl hfree => ⟨_, rfl, State.notchSpectrum_of_line hruns hmode hl hfree⟩,
    fun id since hruns hmode hline hlow hlong => congrArg Host.Outcome.next (State.notchRelease_of_low hruns hmode hline hlow hlong),
    fun hon hlimit => ?limited, fun hon hlimit => ?unlimited,
    fun since hsince hon hlong => congrArg Host.Outcome.next (State.biasShort_of_limited hon hsince hlong),
    fun t retry hopen hretry hdue => congrArg Host.Outcome.next (State.biasRetry_of_due hopen hretry hdue),
    fun hon hopen hlow => congrArg Host.Outcome.next (State.biasOpen_of_low hon hopen hlow),
    fun hon hshort hopen hlow => congrArg Host.Outcome.next (State.biasRecovery_of_short hon hshort hopen hlow)⟩
  case agcUpdate =>
    obtain ⟨clipSamples, dutySamples, clipCount, dutyCount, gain, stream, other⟩ := State.agcUpdate_band hruns (i.zip q) inst
    exact ⟨s.agcUpdate l5 (i.zip q) inst, rfl, clipSamples, dutySamples, clipCount, dutyCount, State.frontSum_total _ _ _, gain, stream,
      other⟩
  case clipped => exact congrArg Host.Outcome.next ((State.adcClip_of_window hruns hwindow).trans (if_pos hclip))
  case unclipped => exact congrArg Host.Outcome.next ((State.adcClip_of_window hruns hwindow).trans (if_neg (Nat.not_lt.mpr hclip)))
  case blanked => exact congrArg Host.Outcome.next ((State.blankDuty_of_window hruns hwindow).trans (if_pos hduty))
  case limited => exact congrArg Host.Outcome.next ((State.biasLimited_of_on hon _).trans (if_pos hlimit))
  case unlimited => exact congrArg Host.Outcome.next ((State.biasLimited_of_on hon _).trans (if_neg (Nat.not_lt.mpr hlimit)))

end Sys2Proof.Machine

/-! PROOFS. Lath: searches and their snapshots, passes, hand-offs and results, and assistance (R130–R140). -/
namespace Sys2Proof.Machine

open Sys2Proof.Claims

/-! What queues, slots and completions leave of Lath -/

@[simp] theorem State.dropEvents_gnss (n : Nat) (s : State) : (s.dropEvents n).gnss = s.gnss := by
  simp only [State.dropEvents, State.occur_gnss]
  split
  · rw [State.occur_gnss, State.setPortErr_gnss]
  · rfl

@[simp] theorem State.offer_gnss (n : Nat) (e : QEntry) (s : State) : (s.offer n e).gnss = s.gnss := by
  unfold State.offer
  split
  · dsimp only
    split
    · rw [State.occur_gnss, State.modQueue_gnss]
    · rfl
  · rw [State.dropEvents_gnss, State.modQueue_gnss]

@[simp] theorem State.complete_gnss (opcode : Nat) (t : Ticket) (st : Status) (items : List Item) (s : State) :
    (s.complete opcode t st items).gnss = s.gnss := by
  unfold State.complete
  split
  · exact State.offer_gnss _ _ _
  · rfl

@[simp] theorem State.publish_gnss (n : Nat) (b : Bytes) (s : State) : (s.publish n b).gnss = s.gnss := (rfl)

/-! Assistance (R137) -/

/-- R137: where no item fails and there is no news, every item is stored and the completion says OK. -/
theorem State.assistLoadDone_of_good {items : List Bytes} {t : Ticket} {r : List (List Bytes × Ticket)} {s : State}
    (h : s.gnss.assists = (items, t) :: r) :
    s.assistLoadDone [] none = (items.foldl (fun u v => u.storeNav (navOfItem v))
      ({ s with gnss := { s.gnss with assists := r } } : State)).complete 0x1112 t .ok [] := by
  have hbad : (List.range items.length).filter (fun k => ([] : List Nat).contains k) = [] :=
    List.filter_eq_nil_iff.mpr fun k _ => by simp only [List.contains_nil, Bool.false_eq_true, not_false_eq_true]
  have hgood : (items.zipIdx.filter (fun p => !([] : List Nat).contains p.2)).map (·.1) = items := by
    rw [List.filter_eq_self.mpr fun p _ => by rw [List.contains_nil, Bool.not_false], List.zipIdx_map_fst]
  simp only [State.assistLoadDone, h, hbad, hgood, State.takeNews, List.isEmpty_nil, if_true, List.map_nil]

/-! The running search -/

@[simp] theorem State.run_modRun (f : Search → Search) (s : State) : (s.modRun f).gnss.run = s.gnss.run.map f := (rfl)

theorem State.modRun_of_run {x : Search} {s : State} (hrun : s.gnss.run = some x) (f : Search → Search) :
    s.modRun f = s.modRun (fun _ => f x) := by
  rw [State.modRun, State.modRun, hrun, Option.map_some, Option.map_some]

/-- R130: placing a snapshot writes where it is placed and nothing else of the search. -/
theorem State.placeSnapshot_run {x : Search} {s : State} (hrun : s.gnss.run = some x) (first : Nat) :
    ∃ placed, (s.placeSnapshot first).gnss.run = some { x with snapAt := placed } := by
  rw [State.placeSnapshot, State.run_modRun, hrun, Option.map_some]
  split
  · exact ⟨_, rfl⟩
  · exact ⟨x.snapAt, rfl⟩

/-- R134: what a search asks for stays as it was when it begins. -/
theorem State.beginSearch_run (x : Search) (s : State) :
    ∃ y, (s.beginSearch x).gnss.run = some y ∧ y.signal = x.signal ∧ y.host = x.host ∧ y.started = true ∧
      y.excludeTracked = x.excludeTracked ∧ y.mode = x.mode := by
  unfold State.beginSearch
  extract_lets svs y n full windows passes t
  obtain ⟨placed, hplaced⟩ := State.placeSnapshot_run
    (s := { t with gnss := { t.gnss with run := some { y with passes := passes, done := y.done || n == 0 } } }) rfl (tickAfter t.qt)
  exact ⟨_, hplaced, rfl, rfl, rfl, rfl, rfl⟩

theorem b01_beq_eq_one_iff (a b : Nat) : b01 (a == b) = 1 ↔ a = b := by
  cases h : a == b
  · simp [b01, beq_eq_false_iff_ne.mp h]
  · simp [b01, beq_iff_eq.mp h]

/-- R138: an automatic search runs at once; it is assisted in a hot start (R139). -/
theorem State.autoSearch_run {g : Nat} {s : State} (h : s.autoAllowed g = true) (visible lost : List Nat) (segments : Nat) :
    ∃ y, (s.autoSearch g visible lost segments).gnss.run = some y ∧ y.signal = g ∧ y.host = none ∧ y.started = true ∧
      y.excludeTracked = true ∧ (y.mode = 1 ↔ s.startClass = 2) := by
  rw [State.autoSearch, h, Bool.not_true, if_neg Bool.false_ne_true]
  extract_lets cls all svs span x
  obtain ⟨y, hrun, signal, host, started, excluded, mode⟩ := State.beginSearch_run x
    { s with gnss := { s.gnss with autoAt := Table.set 0 g s.up s.gnss.autoAt, autoLast := g } }
  exact ⟨y, hrun, signal, host, started, excluded, mode ▸ b01_beq_eq_one_iff cls 2⟩

/-! Snapshots (R130) -/

/-- R130: the place found lies within 20 code ticks. -/
theorem State.snapshotStart_bounds (coh first : Nat) (s : State) :
    first ≤ s.snapshotStart coh first ∧ s.snapshotStart coh first < first + 20 * qtMs := by
  have hms : 0 < qtMs := by decide
  unfold State.snapshotStart
  generalize hfound : (List.range 20).find? _ = found
  have hlt : found.getD 0 < 20 := by
    cases found with
    | none => exact Nat.zero_lt_succ 19
    | some k => exact List.mem_range.mp (List.mem_of_find?_eq_some hfound)
  exact ⟨Nat.le_add_right _ _, Nat.add_lt_add_left (Nat.mul_lt_mul_of_pos_right hlt hms) _⟩

theorem Search.accept_rejects (start thresh : Nat) (x : Search) : (x.accept start thresh).rejects = 0 := by
  unfold Search.accept
  dsimp only
  split <;> rfl

theorem Search.accept_of_verify {x : Search} (h : x.verify = true) (start thresh : Nat) :
    (x.accept start thresh).verifyAt = some start ∧ (x.accept start thresh).snapshots = x.snapshots := by
  simp only [Search.accept, h, if_true, and_self]

theorem Search.accept_of_search {x : Search} (h : x.verify = false) (start thresh : Nat) :
    (x.accept start thresh).snapshots = x.snapshots + 1 ∧ (x.accept start thresh).lastSnap = start := by
  simp only [Search.accept, h, Bool.false_eq_true, if_false, and_self]

/-- R130: the sixteenth reject in a row ends a search, and leaves no SV of it undecided. -/
theorem Search.reject_of_last {x : Search} (h : 16 ≤ x.rejects + 1) :
    x.reject.done = true ∧ ∀ v ∈ x.reject.svs, v.state ≠ 4 := by
  rw [Search.reject, if_neg (Nat.not_lt.mpr h)]
  refine ⟨rfl, fun v hv => ?_⟩
  obtain ⟨w, _, rfl⟩ := List.mem_map.mp hv
  split
  · exact (by decide : 5 ≠ 4)
  · assumption

section Running
variable {x : Search} {s : State} (hrunning : Running x s)
include hrunning

/-- R130: a snapshot that the search waits for is taken COH_MS after its start, and rejected above LATH_BLANK_MAX. -/
theorem State.snapshotDone_of_wants (hwants : x.wants = true) (samples : List (Int × Int)) :
    let p := s.snapshotOf x (tickAfter s.qt)
    let a := s.advance (p.1 + x.coh * qtMs)
    let v := a.snapshotBlank (signalL5 x.signal) p.1 x.coh samples
    let stored : State := { a with gnss := { a.gnss with area := storeSnapshot p.1 v.1 a.gnss.area } }
    s.snapshotDone samples =
      if p.2 * samples.length < v.2 * 100 then ((a.bump 0x11 6).modRun (fun _ => x.reject)).placeSnapshot (tickAfter a.qt)
      else (stored.modRun (fun _ => x.accept p.1 (a.param 0x1102))).placeSnapshot (tickAfter (a.qt - 1)) := by
  obtain ⟨hrun, hserves⟩ := hrunning
  intro p a v stored
  rw [← State.modRun_of_run (s := a.bump 0x11 6) hrun Search.reject,
    ← State.modRun_of_run (s := stored) hrun (Search.accept p.1 (a.param 0x1102))]
  simp only [State.snapshotDone, hrun, hwants, hserves, Bool.not_true, Bool.false_eq_true, or_self, if_false]
  rfl

theorem State.lathPass_of_running (peaks : List LathPeak) (hstarted : x.started = true) (hdone : x.done = false)
    (hheld : s.gnss.held.length < 4) :
    s.lathPass peaks = if x.verify = true then (if x.verifyAt.isSome = true then (s.bump 0x11 1).verifyPass x peaks else s)
      else if x.passesDone < x.snapshots * x.passes then (s.bump 0x11 1).searchPass x peaks else s := by
  obtain ⟨hrun, hserves⟩ := hrunning
  simp only [State.lathPass, hrun, hstarted, hdone, Nat.not_le.mpr hheld, hserves, Bool.not_true, Bool.false_eq_true, or_self, if_false]

/-- R140: with 4 signals held Lath pauses. -/
theorem State.lathPass_of_held (peaks : List LathPeak) (hheld : 4 ≤ s.gnss.held.length) : s.lathPass peaks = s := by
  obtain ⟨hrun, _⟩ := hrunning
  simp only [State.lathPass, hrun, hheld, true_or, or_true, if_true]

end Running

/-! Hand-offs and results (R135, R140) -/

theorem State.handoffResume_of_room {h : Handoff} {r : List Handoff} {s : State} (hheld : s.gnss.held = h :: r)
    (hroom : s.hasRoom 28 = true) : s.handoffResume = ({ s with gnss := { s.gnss with held := r } } : State).storeHandoff h := by
  simp only [State.handoffResume, hheld, hroom, if_true]

theorem State.nextSearch_of_empty {s : State} (hrun : s.gnss.run = none) (hqueue : s.gnss.queue = []) : s.nextSearch = s := by
  simp only [State.nextSearch, hrun, hqueue]

section Done
variable {x : Search} {s : State} (hrun : s.gnss.run = some x) (hdone : x.done = true) (hqueue : s.gnss.queue = [])
include hrun hdone hqueue

/-- R135: the end of an automatic search, after which none waits. -/
theorem State.searchDone_of_auto (hhost : x.host = none) :
    s.searchDone = (({ s with gnss := { s.gnss with run := none } } : State).bump 0x11 0).occur 44 0xFF
      (le 1 x.signal ++ le 1 x.found) := by
  simp only [State.searchDone, hrun, hdone, hhost, Bool.not_true, Bool.false_eq_true, if_false, Option.map_none, Option.getD_none]
  refine State.nextSearch_of_empty ?_ ?_ <;> rw [State.occur_gnss, State.bump_gnss]
  exact hqueue

/-- R135: the end of a host's search, after which none waits. -/
theorem State.searchDone_of_host {t : Ticket} {n : Nat} (hhost : x.host = some (t, n)) :
    s.searchDone = ((((({ s with gnss := { s.gnss with run := none } } : State).bump 0x11 0).publish n (x.result s.up)).occur 44 n
      (le 1 x.signal ++ le 1 x.found)).complete 0x1110 t .ok [{ id := 0x1110, value := le 1 n ++ le 1 x.found }]) := by
  simp only [State.searchDone, hrun, hdone, hhost, Bool.not_true, Bool.false_eq_true, if_false, Option.map_some, Option.getD_some]
  refine State.nextSearch_of_empty ?_ ?_ <;> rw [State.complete_gnss, State.occur_gnss, State.publish_gnss, State.bump_gnss]
  exact hqueue

end Done

/-- Settles O43: each row by the lemma of its function, on the branch that the hypotheses select. -/
theorem lathRowsComplete : Obligations.LathRowsComplete := by
  intro s x samples peaks g vis lost seg p a v
  have htaken (hrunning : Running x s) (hwants : x.wants = true) := State.snapshotDone_of_wants hrunning hwants samples
  refine ⟨fun items t r h => congrArg Host.Outcome.next (State.assistLoadDone_of_good h), fun hallowed => ?autoSearch,
    fun hrunning hwants hblank hmore => ?rejected, fun hrunning hwants hblank hlast => ?lastReject, fun hrunning hwants hclear => ?accepted,
    fun start th => ⟨Search.accept_rejects start th x, fun hv => Search.accept_of_verify hv start th,
      fun hv => Search.accept_of_search hv start th⟩,
    fun c first => State.snapshotStart_bounds c first s,
    fun hrunning hstarted hdone hheld hverify hpass => congrArg Host.Outcome.next ?searchPass,
    fun hrunning hstarted hdone hheld hverify hat => congrArg Host.Outcome.next ?verifyPass,
    fun hrunning hheld => congrArg Host.Outcome.next (State.lathPass_of_held hrunning peaks hheld),
    fun h r hheld hroom => congrArg Host.Outcome.next (State.handoffResume_of_room hheld hroom),
    fun hrun hdone hhost hqueue => congrArg Host.Outcome.next (State.searchDone_of_auto hrun hdone hqueue hhost),
    fun t n hrun hdone hhost hqueue => congrArg Host.Outcome.next (State.searchDone_of_host hrun hdone hqueue hhost)⟩
  case autoSearch =>
    obtain ⟨y, hrun, hy⟩ := State.autoSearch_run hallowed (vis.map BitVec.toNat) (lost.map BitVec.toNat) seg.toNat
    exact ⟨_, y, rfl, hrun, hy⟩
  case rejected =>
    refine congrArg Host.Outcome.next (((htaken hrunning hwants).trans (if_pos hblank)).trans ?_)
    rw [Search.reject, if_pos hmore]
  case lastReject =>
    obtain ⟨hdone, hsvs⟩ := Search.reject_of_last hlast
    obtain ⟨placed, hplaced⟩ := State.placeSnapshot_run (s := (a.bump 0x11 6).modRun (fun _ => x.reject))
      (congrArg (Option.map fun _ => x.reject) hrunning.1) (tickAfter a.qt)
    exact ⟨_, _, congrArg Host.Outcome.next ((htaken hrunning hwants).trans (if_pos hblank)), hplaced, hdone, hsvs⟩
  case accepted => exact congrArg Host.Outcome.next ((htaken hrunning hwants).trans (if_neg (Nat.not_lt.mpr hclear)))
  case searchPass =>
    rw [State.lathPass_of_running hrunning peaks hstarted hdone hheld, hverify, if_neg Bool.false_ne_true, if_pos hpass]
  case verifyPass =>
    rw [State.lathPass_of_running hrunning peaks hstarted hdone hheld, if_pos hverify, if_pos (Option.isSome_iff_ne_none.mpr hat)]

end Sys2Proof.Machine

/-! PROOFS. Tracking channels: dumps and their use, the timeouts, navigation data, the code tick and the set of an MT (R146–R162). -/
namespace Sys2Proof.Machine

open Sys2Proof.Claims

/-! What queues and event sources leave as it was -/

section Occur
variable (n code : Nat) (detail : Bytes) (s : State)

@[simp] theorem State.occur_plumb : (s.occur n code detail).plumb = s.plumb :=
  occurN_induction (P := fun t => t.plumb = s.plumb) (fun _ _ _ h => h) (fun _ _ h => h) (fun _ _ h => h) (fun _ _ h => h)
    (fun _ h => h) 8 n code detail s rfl

@[simp] theorem State.occur_track : (s.occur n code detail).track = s.track :=
  occurN_induction (P := fun t => t.track = s.track) (fun _ _ _ h => h) (fun _ _ h => h) (fun _ _ h => h) (fun _ _ h => h)
    (fun _ h => h) 8 n code detail s rfl

@[simp] theorem State.occur_power : (s.occur n code detail).power = s.power :=
  occurN_induction (P := fun t => t.power = s.power) (fun _ _ _ h => h) (fun _ _ h => h) (fun _ _ h => h) (fun _ _ h => h)
    (fun _ h => h) 8 n code detail s rfl

end Occur

/-- R98, R100: an offered entry changes its queue, and the port and the event sources by what it raises. -/
theorem State.offer_induction {P : State → Prop} (queue : ∀ n f s, P s → P (s.modQueue n f)) (err : ∀ s, P s → P s.setPortErr)
    (occur : ∀ n code detail s, P s → P (s.occur n code detail)) (n : Nat) (e : QEntry) (s : State) (h : P s) : P (s.offer n e) := by
  unfold State.offer
  dsimp only
  split
  · split
    · exact occur _ _ _ _ (queue _ _ _ h)
    · exact queue _ _ _ h
  · unfold State.dropEvents
    dsimp only
    split
    · exact occur _ _ _ _ (occur _ _ _ _ (err _ (queue _ _ _ h)))
    · exact occur _ _ _ _ (queue _ _ _ h)

section Offer
variable (n : Nat) (e : QEntry) (s : State)

@[simp] theorem State.offer_plumb : (s.offer n e).plumb = s.plumb :=
  State.offer_induction (P := fun t => t.plumb = s.plumb) (fun _ _ _ h => h) (fun _ h => h)
    (fun _ _ _ _ h => (State.occur_plumb _ _ _ _).trans h) n e s rfl

@[simp] theorem State.offer_power : (s.offer n e).power = s.power :=
  State.offer_induction (P := fun t => t.power = s.power) (fun _ _ _ h => h) (fun _ h => h)
    (fun _ _ _ _ h => (State.occur_power _ _ _ _).trans h) n e s rfl

end Offer

/-! A channel, and what leaves it as it was -/

theorem State.chan_modChan (n m : Nat) (f : Chan → Chan) (s : State) :
    (s.modChan n f).chan m = if m = n ∧ m < s.track.chans.length then f (s.chan m) else s.chan m := getD_modAt n m f s.track.chans {}

theorem State.chan_modChan_same {n : Nat} {s : State} (h : n < s.track.chans.length) (f : Chan → Chan) :
    (s.modChan n f).chan n = f (s.chan n) := by
  rw [State.chan_modChan, if_pos ⟨rfl, h⟩]

theorem State.chan_modChan_other {n m : Nat} (h : m ≠ n) (f : Chan → Chan) (s : State) : (s.modChan n f).chan m = s.chan m := by
  rw [State.chan_modChan, if_neg fun hmn => h hmn.1]

/-- A number beyond the channels reads as an idle one. -/
theorem State.chan_modChan_cases (n : Nat) (f : Chan → Chan) (s : State) :
    (s.modChan n f).chan n = f (s.chan n) ∨ (s.modChan n f).chan n = {} := by
  rw [State.chan_modChan]
  split
  · exact .inl rfl
  · rename_i h
    exact .inr (getD_of_length_le (Nat.le_of_not_lt fun hn => h ⟨rfl, hn⟩) _)

/-- What a function keeps of a channel, its update keeps of every channel. -/
theorem State.chan_modChan_field {α : Type} (g : Chan → α) {f : Chan → Chan} (hf : ∀ c, g (f c) = g c) (n m : Nat) (s : State) :
    g ((s.modChan n f).chan m) = g (s.chan m) := by
  rw [State.chan_modChan]
  split
  · exact hf _
  · rfl

@[simp] theorem State.chan_bump (m unit i : Nat) (s : State) : (s.bump unit i).chan m = s.chan m := (rfl)

@[simp] theorem State.chan_occur (m n code : Nat) (detail : Bytes) (s : State) : (s.occur n code detail).chan m = s.chan m :=
  congrArg (fun t : Track => t.chans.getD m {}) (State.occur_track n code detail s)

@[simp] theorem State.param_modChan (id n : Nat) (f : Chan → Chan) (s : State) : (s.modChan n f).param id = s.param id := (rfl)

/-- R153, R167: a lost channel is IDLE. -/
theorem State.chanLoss_chan (n reason : Nat) (s : State) : (s.chanLoss n reason).chan n = {} := by
  rw [State.chanLoss, State.chan_occur, State.chan_bump]
  exact (State.chan_modChan_cases n _ s).elim id id

/-! Dumps (R146, R148) -/

theorem Chan.settle_frame (t : Nat) (c : Chan) :
    ∃ dll ve due, c.settle t = { c with dllSpacing := dll, veSpacing := ve, spacingsDue := due } := by
  unfold Chan.settle
  split
  · split
    · exact ⟨_, _, _, rfl⟩
    · exact ⟨_, _, _, rfl⟩
  · exact ⟨_, _, _, rfl⟩

theorem Chan.turnInterval_frame (c : Chan) : ∃ k, c.turnInterval = { c with coh := k } ∧ (k = c.coh ∨ k = c.cohNext) := by
  unfold Chan.turnInterval
  split
  · exact ⟨_, rfl, .inr rfl⟩
  · exact ⟨_, rfl, .inl rfl⟩

/-- R144, R146: a dump waits with the spacings it was taken with; besides these and the interval's start nothing of the channel changes. -/
theorem State.holdDump_frame (d : Dump) (s : State) (c : Chan) :
    let taps := c.settle s.up
    let pos := c.pos + c.coh / cohPrimary c.signal
    ∃ dll ve due, s.holdDump d c =
      { c with
        dllSpacing := dll, veSpacing := ve, spacingsDue := due, pos := pos, began := s.up
        dumps := c.dumps ++
          [{ ms := c.coh, pos := pos, dllSpacing := taps.dllSpacing, veSpacing := taps.veSpacing, dump := s.blankDump taps d }] } := by
  obtain ⟨dll, ve, due, hnext⟩ := (c.settle s.up).settle_frame (s.up + 1)
  obtain ⟨dll', ve', due', hnow⟩ := c.settle_frame s.up
  refine ⟨dll, ve, due, ?_⟩
  rw [State.holdDump, hnext, hnow]

/-- R146: the end of an interval on a channel that tracks. -/
theorem State.correlatorDump_of_tracking {n : Nat} {s : State} (hserves : s.power.mode.serves = true)
    (hstate : within 1 5 (s.chan n).state = true) (d : Dump) :
    s.correlatorDump n d = s.modChan n (fun c =>
      let held := s.holdDump d c
      { held with cohNext := if held.state = 4 then s.cohSynced held.signal else held.cohNext }.turnInterval) := by
  rw [State.correlatorDump, hserves, hstate, if_neg (by simp only [Bool.not_true, Bool.false_eq_true, or_self, not_false_eq_true])]

/-! The use of a dump (R146, R152–R154) -/

/-- R152: a dump nine tenths blanked is skipped. -/
theorem State.useDump_of_blanked {n : Nat} {s : State} {h : HeldDump} (hstate : within 1 5 (s.chan n).state = true)
    (hblanked : 9000 ≤ h.dump.blanked) : s.useDump n h = s.modChan n Chan.skip := by
  simp only [State.useDump, hstate, hblanked, Bool.not_true, Bool.false_eq_true, if_false, if_true]

theorem State.estimate_state (n k : Nat) (d : Dump) (m : Nat) (s : State) : ((s.estimate n k d).chan m).state = (s.chan m).state := by
  rw [State.estimate]
  refine State.chan_modChan_field (·.state) ?_ n m _
  exact fun _ => rfl

/-- R146: a dump that is used on a channel before REACQ. -/
theorem State.useDump_of_used {n : Nat} {s : State} {h : HeldDump} (hstate : within 1 4 (s.chan n).state = true)
    (hblanked : h.dump.blanked < 9000) :
    s.useDump n h =
      let u := s.estimate n h.ms h.dump
      let e := (u.chan n).errors h
      let jumped := ((u.loopUpdate n h.ms e h.dump).modChan n Chan.resolveHalf).bumpJump n h.dump
      ((jumped.noteLoss n h.dump).stateDump n h.ms h.pos e h.dump).modChan n (Chan.keepSymbol h.dump) := by
  obtain ⟨hlo, hhi⟩ := by simpa only [within, Bool.and_eq_true, decide_eq_true_eq] using hstate
  have hnot5 : ¬ ((s.estimate n h.ms h.dump).chan n).state = 5 := by
    rw [State.estimate_state]
    omega
  simp only [State.useDump, within_of_mem hlo (Nat.le_succ_of_le hhi), Nat.not_le.mpr hblanked, hnot5, Bool.not_true, Bool.false_eq_true,
    if_false]

/-- R147: the jump of a BOC pilot changes the code phase and the counts of its channel, and a counter. -/
theorem State.bumpJump_induction {P : State → Prop} (n : Nat)
    (chan : ∀ f s, (∀ c, (f c).cn0 = c.cn0) → P s → P (s.modChan n f)) (bump : ∀ unit i s, P s → P (s.bump unit i))
    (d : Dump) (s : State) (h : P s) : P (s.bumpJump n d) := by
  unfold State.bumpJump
  extract_lets u c half
  split
  · exact h
  · have hu : P u := chan _ _ (fun _ => rfl) h
    split
    · exact bump _ _ _ (chan _ _ (fun _ => rfl) hu)
    · split
      · exact bump _ _ _ (chan _ _ (fun _ => rfl) hu)
      · exact hu

/-- R149, R151, R153, R154: the state changes of a dump update its channel, which keeps the time of its loss condition, count, and raise the
channel's events. -/
theorem State.stateDump_induction {P : State → Prop} (n : Nat)
    (chan : ∀ f s, (∀ c, (f c).lowSince = c.lowSince) → P s → P (s.modChan n f)) (bump : ∀ unit i s, P s → P (s.bump unit i))
    (occur : ∀ k code detail s, P s → P (s.occur k code detail)) (k pos : Nat) (x : LoopErrors) (d : Dump) (s : State) (h : P s) :
    P (s.stateDump n k pos x d) := by
  have slip : ∀ s, P s → P (s.chanSlip n) := fun s h => occur _ _ _ _ (bump _ _ _ (chan _ _ (fun _ => rfl) h))
  have carrier : ∀ s, P s → P (s.reachCarrier n) := by
    intro s h
    unfold State.reachCarrier
    extract_lets back entered locked
    have hlock : P locked := occur _ _ _ _ (bump _ _ _ (chan _ _ (fun _ => rfl) h))
    split
    · exact slip _ hlock
    · exact hlock
  have locked : ∀ s, P s → P (s.lockedDump n k pos d) := by
    intro s h
    unfold State.lockedDump
    extract_lets c bad u claims
    split
    · exact chan _ _ (fun _ => rfl) h
    · have hu : P u := by
        refine chan _ _ (fun c => ?_) h
        split <;> rfl
      clear_value claims
      split
      · split
        · exact chan _ _ (fun _ => rfl) hu
        · exact hu
      · split
        · exact chan _ _ (fun _ => rfl) hu
        · exact hu
  unfold State.stateDump
  extract_lets c near goodCode goodCarrier slipped
  have hslipped : P slipped := by
    unfold slipped
    split
    · exact slip _ h
    · exact h
  split
  · split
    · exact chan _ _ (fun _ => rfl) h
    · exact chan _ _ (fun _ => rfl) h
  · split
    · exact carrier _ h
    · exact chan _ _ (fun _ => rfl) h
  · exact locked _ hslipped
  · exact locked _ hslipped
  · exact h

/-- R153: the loss condition goes by the channel's C/N0. -/
theorem State.lossOf_modChan (n : Nat) (d : Dump) {f : Chan → Chan} (hf : ∀ c, (f c).cn0 = c.cn0) (s : State) :
    (s.modChan n f).lossOf n d = s.lossOf n d := by
  simp only [State.lossOf, State.chan_modChan_field (·.cn0) hf, State.param_modChan]

theorem Chan.resolveHalf_cn0 (c : Chan) : c.resolveHalf.cn0 = c.cn0 := by
  unfold Chan.resolveHalf
  split <;> rfl

theorem Chan.keepSymbol_lowSince (d : Dump) (c : Chan) : (c.keepSymbol d).lowSince = c.lowSince := by
  unfold Chan.keepSymbol
  split <;> rfl

theorem State.bumpJump_lossOf (n : Nat) (d : Dump) (s : State) : (s.bumpJump n d).lossOf n d = s.lossOf n d :=
  State.bumpJump_induction (P := fun t => t.lossOf n d = s.lossOf n d) n (fun _ t hf h => (State.lossOf_modChan n d hf t).trans h)
    (fun _ _ _ h => h) d s rfl

theorem State.loopUpdate_lossOf (n k : Nat) (x : LoopErrors) (d e : Dump) (s : State) :
    (s.loopUpdate n k x d).lossOf n e = s.lossOf n e := by
  rw [State.loopUpdate, State.lossOf_modChan]
  exact fun _ => rfl

/-- R153: a dump without the loss condition ends the time for which it has held. -/
theorem State.noteLoss_lowSince {n : Nat} {d : Dump} {s : State} (h : s.lossOf n d = false) :
    ((s.noteLoss n d).chan n).lowSince = none := by
  rw [State.noteLoss, h]
  rcases State.chan_modChan_cases n _ s with hc | hc <;> rw [hc]
  rfl

theorem State.stateDump_lowSince (n k pos : Nat) (x : LoopErrors) (d : Dump) (s : State) :
    ((s.stateDump n k pos x d).chan n).lowSince = (s.chan n).lowSince :=
  State.stateDump_induction (P := fun t => (t.chan n).lowSince = (s.chan n).lowSince) n
    (fun _ t hf h => (State.chan_modChan_field (·.lowSince) hf n n t).trans h) (fun _ _ _ h => h)
    (fun _ _ _ _ h => (congrArg Chan.lowSince (State.chan_occur _ _ _ _ _)).trans h) k pos x d s rfl

/-- R147, R153: the loss condition of a used dump is that of the estimates with it. -/
theorem State.useDump_lowSince {n : Nat} {s : State} {h : HeldDump} (hstate : within 1 4 (s.chan n).state = true)
    (hblanked : h.dump.blanked < 9000) (hloss : (s.estimate n h.ms h.dump).lossOf n h.dump = false) :
    ((s.useDump n h).chan n).lowSince = none := by
  rw [State.useDump_of_used hstate hblanked]
  dsimp only
  rw [State.chan_modChan_field (·.lowSince) (Chan.keepSymbol_lowSince h.dump), State.stateDump_lowSince]
  refine State.noteLoss_lowSince ?_
  rw [State.bumpJump_lossOf, State.lossOf_modChan n h.dump Chan.resolveHalf_cn0, State.loopUpdate_lossOf]
  exact hloss

/-! Timeouts (R153) and navigation data (R150) -/

theorem State.pullInTimeout_of_due {n : Nat} {s : State} (h : ChanIn n 1 s) (hdue : (s.chan n).since + 200 * qtMs ≤ s.up) :
    s.pullInTimeout n = (s.bump 0x12 3).chanLoss n 2 := by
  obtain ⟨hserves, _, hstate⟩ := h
  exact if_pos ⟨hserves, hstate, hdue⟩

theorem State.reacqTimeout_of_due {n : Nat} {s : State} (h : ChanIn n 5 s)
    (hdue : (s.chan n).since + (s.chan n).reacqMs * qtMs ≤ s.up) : s.reacqTimeout n = s.chanLoss n 0 := by
  obtain ⟨hserves, _, hstate⟩ := h
  exact if_pos ⟨hserves, hstate, hdue⟩

/-- R153, R166: where REACQ_MS is not 0 a lost channel enters REACQ, without synchronisation (log entry 67). -/
theorem State.lossTimeout_of_due {n k since : Nat} {s : State} (hlo : 2 ≤ k) (hhi : k ≤ 4) (h : ChanIn n k s)
    (hreacq : s.param 0x120D ≠ 0) (hsince : (s.chan n).lowSince = some since) (hdue : since + s.param 0x120C * qtMs ≤ s.up) :
    s.lossTimeout n = s.modChan n (fun c => { (s.unsync (c.enter 5 s.up)) with hadLock := false, reacqMs := s.param 0x120D }) := by
  obtain ⟨hserves, _, rfl⟩ := h
  have hlow : (s.chan n).lowSince.any (fun t => decide (t + s.param 0x120C * qtMs ≤ s.up)) = true := by
    rw [hsince, Option.any_some, decide_eq_true hdue]
  exact (if_pos ⟨hserves, within_of_mem hlo hhi, hlow⟩).trans (if_neg hreacq)

/-- R150: on a channel with carrier lock the messages are stored, and the symbols are taken. -/
theorem State.navDecode_of_locked {n k : Nat} {s : State} (hlo : 3 ≤ k) (hhi : k ≤ 4) (h : ChanIn n k s)
    (msgs : List (Fin 3 × Bytes)) :
    s.navDecode n msgs none none = ((msgs.foldl (fun u m =>
      u.storeNav { signal := (s.chan n).signal, sv := (s.chan n).sv, kind := m.1.val, data := m.2 }) s).modChan n
        (fun c => { c with symbols := [] })) := by
  obtain ⟨hserves, _, rfl⟩ := h
  simp only [State.navDecode, hserves, within_of_mem hlo hhi, Bool.not_true, Bool.false_eq_true, or_self, if_false, State.takeNews]

/-! The set (R162) -/

/-- R162, R384: outside a cell the set goes to Q03, to slot 0 and to EV052 alone. -/
theorem State.measSetReady_of_latch {l : Latch} {s : State} (h : s.track.latch = some l) (hmanager : s.power.mode ≠ .runManager)
    (hworker : s.power.mode ≠ .runWorker) :
    let q := wrap32 (s.track.setSeq + 1)
    let a : State := { s with track := { s.track with setSeq := q, latch := none, words := l.words } }
    s.measSetReady = ((a.offer 3 { data := l.entry q }).publish 0 (l.entry q)).occur 52 0 (le 4 q ++ le 1 l.records.length) := by
  intro q a
  have hpower : (((a.offer 3 { data := l.entry q }).publish 0 (l.entry q)).occur 52 0 (le 4 q ++ le 1 l.records.length)).power = s.power :=
    (State.occur_power _ _ _ _).trans (State.offer_power _ _ _)
  simp only [State.measSetReady, h]
  rw [State.measForCell, if_pos (.inl (by rw [hpower]; exact hmanager)), State.keepSet, if_pos (by rw [hpower]; exact hworker)]

/-! What the actions of a code tick leave of Plumb (R158) -/

theorem foldl_plumb {α : Type} {f : State → α → State} (hf : ∀ s x, (f s x).plumb = s.plumb) (l : List α) (s : State) :
    (l.foldl f s).plumb = s.plumb :=
  List.foldlRecOn (motive := fun t => t.plumb = s.plumb) l f rfl fun t ht x _ => (hf t x).trans ht

theorem State.offerWait_plumb (n : Nat) (b : Bytes) (s : State) : (s.offerWait n b).plumb = s.plumb := by
  unfold State.offerWait
  split
  · exact State.offer_plumb _ _ _
  · rfl

theorem State.askJournal_plumb (kind id : Nat) (new : Bytes) (s : State) : (s.askJournal kind id new).plumb = s.plumb :=
  foldl_plumb (fun _ _ => State.offerWait_plumb _ _ _) _ _

theorem State.refill_plumb (n : Nat) (s : State) : (s.refill n).plumb = s.plumb := by
  unfold State.refill
  split
  · rfl
  · split
    · exact State.offer_plumb _ _ _
    · rfl

theorem State.consume_plumb (n : Nat) (s : State) : (s.consume n).plumb = s.plumb := by
  rw [State.consume, State.refill_plumb, State.removeHead]
  split
  · rfl
  · split <;> rfl

theorem State.chanLoss_plumb (n reason : Nat) (s : State) : (s.chanLoss n reason).plumb = s.plumb := State.occur_plumb _ _ _ _

theorem State.retire_plumb (n : Nat) (s : State) : (s.retire n).plumb = s.plumb := State.askJournal_plumb _ _ _ _

theorem State.estimate_plumb (n k : Nat) (d : Dump) (s : State) : (s.estimate n k d).plumb = s.plumb := (rfl)

theorem State.loopUpdate_plumb (n k : Nat) (x : LoopErrors) (d : Dump) (s : State) : (s.loopUpdate n k x d).plumb = s.plumb := (rfl)

theorem State.noteLoss_plumb (n : Nat) (d : Dump) (s : State) : (s.noteLoss n d).plumb = s.plumb := (rfl)

theorem State.bumpJump_plumb (n : Nat) (d : Dump) (s : State) : (s.bumpJump n d).plumb = s.plumb :=
  State.bumpJump_induction (P := fun t => t.plumb = s.plumb) n (fun _ _ _ h => h) (fun _ _ _ h => h) d s rfl

theorem State.stateDump_plumb (n k pos : Nat) (x : LoopErrors) (d : Dump) (s : State) : (s.stateDump n k pos x d).plumb = s.plumb :=
  State.stateDump_induction (P := fun t => t.plumb = s.plumb) n (fun _ _ _ h => h) (fun _ _ _ h => h)
    (fun _ _ _ _ h => (State.occur_plumb _ _ _ _).trans h) k pos x d s rfl

theorem State.useDump_plumb (n : Nat) (h : HeldDump) (s : State) : (s.useDump n h).plumb = s.plumb := by
  unfold State.useDump
  extract_lets d u c e
  split
  · rfl
  · split
    · rfl
    · split
      · split <;> rfl
      · rw [State.modChan_plumb, State.stateDump_plumb, State.noteLoss_plumb, State.bumpJump_plumb, State.modChan_plumb,
          State.loopUpdate_plumb, State.estimate_plumb]

theorem State.selfCheck_plumb (mismatch : Nat) (s : State) : (s.selfCheck mismatch).plumb = s.plumb :=
  foldl_plumb (fun _ _ => State.retire_plumb _ _) _ _

theorem State.loopUpdates_plumb (s : State) : s.loopUpdates.plumb = s.plumb := by
  refine foldl_plumb (fun t n => ?_) _ _
  dsimp only
  split
  · rfl
  · exact foldl_plumb (fun _ _ => State.useDump_plumb _ _ _) _ _

theorem State.stopChan_plumb (s : State) (n : Nat) : (s.stopChan n).plumb = s.plumb := by
  unfold State.stopChan
  dsimp only
  split
  · rfl
  · split
    · rfl
    · split
      · exact State.chanLoss_plumb _ _ _
      · rfl

theorem State.stopChans_plumb (s : State) : s.stopChans.plumb = s.plumb := by
  unfold State.stopChans
  extract_lets turn
  have hturn : ∀ l5 u, (turn l5 u).plumb = u.plumb := by
    intro l5 u
    refine (State.modBand_plumb _ _ _).trans ?_
    split <;> rfl
  rw [foldl_plumb State.stopChan_plumb, hturn, hturn]

theorem State.reassign_plumb (s : State) (n : Nat) : (s.reassign n).plumb = s.plumb := by
  unfold State.reassign
  extract_lets c u target v
  split
  · rfl
  · refine (State.occur_plumb _ _ _ _).trans ?_
    clear_value target
    unfold v
    split <;> rfl

theorem State.startChan_plumb (n g sv : Nat) (code doppler age : Int) (host : Bool) (s : State) :
    (s.startChan n g sv code doppler age host).plumb = s.plumb := (rfl)

theorem State.takeHandoff_plumb (s : State) : s.takeHandoff.plumb = s.plumb := by
  unfold State.takeHandoff
  split
  · rfl
  · extract_lets g sv found
    split
    · rw [State.bump_plumb, State.consume_plumb]
    · split
      · rw [State.bump_plumb, State.consume_plumb]
      · split
        · rfl
        · rw [State.bump_plumb, State.startChan_plumb, State.consume_plumb]

theorem State.startAssigned_plumb (s : State) (n : Nat) : (s.startAssigned n).plumb = s.plumb := by
  unfold State.startAssigned
  split <;> rfl

/-- R158: a code tick that comes counts; its actions, from the last to the first, leave Plumb as it was. -/
theorem State.codeTick_codeIdx {s : State} (h : s.tickRuns 3 ((s.plumb.codeIdx + 1) * qtMs) = true) (mismatch : Nat) :
    (s.codeTick mismatch).plumb.codeIdx = s.plumb.codeIdx + 1 := by
  rw [State.codeTick]
  simp only [h, Bool.not_true, Bool.false_eq_true, if_false, foldl_plumb State.startAssigned_plumb, State.takeHandoff_plumb,
    apply_ite State.plumb, foldl_plumb State.reassign_plumb, ite_self, State.stopChans_plumb, State.loopUpdates_plumb,
    State.selfCheck_plumb, State.occur_plumb]

/-- Settles O44: each row by the lemma of its function, on the branch that the hypotheses select. -/
theorem trackRowsComplete : Obligations.TrackRowsComplete := by
  intro s n d mis msgs
  refine ⟨fun k hlo hhi hin => ?dump, fun htick => ⟨_, rfl, State.codeTick_codeIdx htick mis.toNat⟩,
    fun hin hdue => congrArg Host.Outcome.next (State.pullInTimeout_of_due hin hdue),
    fun k hlo hhi hin hreacq since hsince hdue => ?loss,
    fun hin hdue => congrArg Host.Outcome.next (State.reacqTimeout_of_due hin hdue),
    fun r _ => State.chanLoss_chan n.val r s,
    fun k hlo hhi hin => congrArg Host.Outcome.next (State.navDecode_of_locked hlo hhi hin msgs),
    fun l hlatch hmanager hworker => congrArg Host.Outcome.next (State.measSetReady_of_latch hlatch hmanager hworker),
    fun k h hlo hhi hin hblanked hloss => ?used, fun k h hlo hhi hin hblanked => ?skipped⟩
  case dump =>
    obtain ⟨hserves, hlen, rfl⟩ := hin
    refine ⟨_, congrArg Host.Outcome.next (State.correlatorDump_of_tracking hserves (within_of_mem hlo hhi) d), ?_⟩
    obtain ⟨dll, ve, due, hheld⟩ := s.holdDump_frame d (s.chan n.val)
    rw [State.chan_modChan_same hlen, hheld]
    obtain ⟨coh, hturn, hcoh⟩ := Chan.turnInterval_frame _
    rw [hturn]
    exact ⟨rfl, rfl, hcoh, rfl, rfl, rfl, fun j hj => State.chan_modChan_other hj _ s⟩
  case loss =>
    refine ⟨_, congrArg Host.Outcome.next (State.lossTimeout_of_due hlo hhi hin hreacq hsince hdue), ?_⟩
    obtain ⟨_, hlen, _⟩ := hin
    rw [State.chan_modChan_same hlen]
    exact ⟨rfl, rfl, rfl, rfl, fun j hj => State.chan_modChan_other hj _ s⟩
  case used =>
    obtain ⟨_, _, rfl⟩ := hin
    exact State.useDump_lowSince (within_of_mem hlo hhi) hblanked hloss
  case skipped =>
    obtain ⟨_, hlen, rfl⟩ := hin
    intro u c
    have hskip : u = c.skip := by
      unfold u
      rw [State.useDump_of_blanked (within_of_mem hlo hhi) hblanked, State.chan_modChan_same hlen]
    rw [hskip]
    exact ⟨rfl, rfl, rfl, rfl, rfl, rfl, rfl, rfl⟩

end Sys2Proof.Machine

/-! PROOFS. Plumb: changes of time state, holdover, steps, surveys, the edges of the time pulses and the time marks (R173, R176, R180,
R181, R187–R189, R192). -/
namespace Sys2Proof.Machine

/-! Time states, and the entry into holdover (R173, R176) -/

/-- R173: what of Plumb a change of time state can write. -/
theorem State.setTimeState_frame (n : Nat) (s : State) : ∃ origin all slews now,
    (s.setTimeState n).plumb = { s.plumb with state := n, recoverFrom := origin, slewAll := all, slewing := slews, slewNow := now } := by
  unfold State.setTimeState
  dsimp only
  split
  · subst n
    exact ⟨_, _, _, _, rfl⟩
  · exact ⟨_, _, _, _, State.occur_plumb _ _ _ _⟩

@[simp] theorem State.setTimeState_state (n : Nat) (s : State) : (s.setTimeState n).plumb.state = n := by
  obtain ⟨_, _, _, _, h⟩ := s.setTimeState_frame n
  rw [h]

@[simp] theorem State.setTimeState_source (n : Nat) (s : State) : (s.setTimeState n).plumb.source = s.plumb.source := by
  obtain ⟨_, _, _, _, h⟩ := s.setTimeState_frame n
  rw [h]

@[simp] theorem State.setTimeState_audioSteer (n : Nat) (s : State) : (s.setTimeState n).plumb.audioSteer = s.plumb.audioSteer := by
  obtain ⟨_, _, _, _, h⟩ := s.setTimeState_frame n
  rw [h]

@[simp] theorem State.growBound_source (s : State) : s.growBound.plumb.source = s.plumb.source := by
  unfold State.growBound
  split <;> rfl

@[simp] theorem State.growBound_audioSteer (s : State) : s.growBound.plumb.audioSteer = s.plumb.audioSteer := by
  unfold State.growBound
  split <;> rfl

/-- R173: HOLDOVER, once its bound has been compared, is HOLDOVER or HOLDOVER_EXPIRED, with the source and the steering it was entered
with. -/
theorem State.expire_holdover (s : State) :
    ((s.setTimeState 5).expire.plumb.state = 5 ∨ (s.setTimeState 5).expire.plumb.state = 6) ∧
    (s.setTimeState 5).expire.plumb.source = s.plumb.source ∧ (s.setTimeState 5).expire.plumb.audioSteer = s.plumb.audioSteer := by
  unfold State.expire
  split
  · simp only [State.setTimeState_state, State.setTimeState_source, State.setTimeState_audioSteer, or_true, and_self]
  · simp only [State.setTimeState_state, State.setTimeState_source, State.setTimeState_audioSteer, true_or, and_self]

/-- R173, R176: HOLDOVER is entered without a source, steered by −REF_FREQ alone. -/
theorem State.holdoverEntry_of_due {s : State} (hlo : 2 ≤ s.plumb.state) (hhi : s.plumb.state ≤ 4)
    (hdue : s.plumb.usableAt + s.param 0x1308 * qtMs ≤ s.up) :
    (s.holdoverEntry.plumb.state = 5 ∨ s.holdoverEntry.plumb.state = 6) ∧ s.holdoverEntry.plumb.source = 0 ∧
    s.holdoverEntry.plumb.audioSteer = clampSteer (-s.plumb.refFreq) := by
  rw [State.holdoverEntry, if_pos ⟨within_of_mem hlo hhi, hdue⟩]
  obtain ⟨hstate, hsource, hsteer⟩ := State.expire_holdover _
  exact ⟨hstate, hsource.trans (State.growBound_source _), hsteer.trans (State.growBound_audioSteer _)⟩

/-! Steps (R180, R181) -/

@[simp] theorem State.occur_qt (n code : Nat) (detail : Bytes) (s : State) : (s.occur n code detail).qt = s.qt :=
  occurN_induction (P := fun t => t.qt = s.qt) (fun _ _ _ h => h) (fun _ _ h => h) (fun _ _ h => h) (fun _ _ h => h)
    (fun _ h => h) 8 n code detail s rfl

/-- R181: at the boundary the scale reads T + Δ, and every tick goes on from that reading. -/
theorem State.applyStep_scale (p : PendingStep) (k : Nat) (s : State) :
    let d := p.delta.getD (-s.plumb.offset)
    let t := s.applyStep p k
    t.plumb.step = none ∧ t.plumb.offset = s.plumb.offset + d ∧ t.qt = (((k * qtSec : Nat) : Int) + d).toNat ∧
    t.plumb.secIdx = t.qt / qtSec ∧ t.plumb.codeIdx = t.qt / qtMs := by
  intro d t
  have hplumb : t.plumb = _ := State.occur_plumb _ _ _ _
  have hqt : t.qt = _ := State.occur_qt _ _ _ _
  rw [hplumb, hqt]
  exact ⟨rfl, rfl, rfl, rfl, rfl⟩

theorem State.stepApply_of_set {p : PendingStep} {k : Nat} {s : State} (hstep : s.plumb.step = some p) (hat : p.applyAt = some k) :
    s.stepApply = s.applyStep p k := by
  simp only [State.stepApply, hstep, hat]

/-- R193: an ask step without an instant is the one that waits for its answer. -/
theorem State.askStep_of_pending {p : PendingStep} {s : State} (hstep : s.plumb.step = some p) (hpolicy : p.policy = 1)
    (hat : p.applyAt = none) : s.askStep = some p := by
  simp only [State.askStep, hstep, hpolicy, hat, Option.bind_some, Option.isNone_none, and_self, if_true]

theorem State.stepAskTimeout_of_due {p : PendingStep} {s : State} (hask : s.askStep = some p) (hdue : p.deadline ≤ s.up) :
    s.stepAskTimeout = s.rejectStep := by
  simp only [State.stepAskTimeout, hask, hdue, if_true]

/-! Surveys (R192) -/

section Survey
variable {y : Survey} {sigma : Nat} {s : State} (h : s.plumb.survey = some y)
include h

theorem State.surveyDone_of_target (ok : Bool) (htarget : y.target ≠ 0) (hsigma : sigma ≤ y.target) (hepochs : 0 < y.epochs) :
    s.surveyDone sigma ok = s.storeSurvey y sigma ok := by
  simp only [State.surveyDone, h]
  exact if_pos ⟨htarget, hsigma, hepochs⟩

/-- R175, R192: a survey whose time is over short of its target (one of no target or of no epochs is short of it: log entry 47) stores
nothing. -/
theorem State.surveyDone_of_elapsed (ok : Bool) (hshort : y.target = 0 ∨ y.target < sigma ∨ y.epochs = 0) (hduration : y.duration ≠ 0)
    (hover : y.startAt + y.duration * qtSec ≤ s.up) : s.surveyDone sigma ok = s.endSurvey y sigma .outOfRange := by
  have hmissed : ¬(y.target ≠ 0 ∧ sigma ≤ y.target ∧ 0 < y.epochs) := by omega
  simp only [State.surveyDone, h]
  exact (if_neg hmissed).trans (if_pos ⟨hduration, hover⟩)

end Survey

/-! The edges of the time pulses (R187, R188) -/

/-- R188: an edge outside the squelch mask begins a pulse of the output's width and polarity. -/
theorem State.timePulseEdge_of_emitted {n e : Nat} {s : State} (henabled : (s.pulse n).enabled = true) (htime : s.plumb.state ≠ 0)
    (hserves : s.power.mode.serves = true) (hnext : (s.pulse n).next_ s.plumb.utcOffset = (e : Int)) (hstep : s.stepInstant ≠ some e)
    (hmask : (s.advance e).squelched (s.pulse n) = false) :
    s.timePulseEdge n = (s.advance e).modPulse n (fun p => { p with
      last := e, edge := some ((s.advance e).up, p.cfg.width, bit 2 p.cfg.flags)
      edgeOld := if p.inPulse (s.advance e).up = true then p.edge else none }) := by
  have hfalls : ¬((!(s.pulse n).enabled) = true ∨ s.plumb.state = 0 ∨ (!s.power.mode.serves) = true ∨ (e : Int) < 0 ∨
      s.stepInstant = some e) := by
    simp only [henabled, htime, hserves, hstep, Int.not_ofNat_neg, Bool.not_true, Bool.false_eq_true, or_self, not_false_eq_true]
  unfold State.timePulseEdge
  dsimp only
  rw [hnext, Int.toNat_natCast, if_neg hfalls, hmask, if_neg Bool.false_ne_true]

/-- R187: the edge instants of an output lie one period apart, so the next one is at most one period after the last. -/
theorem Pulse.next_within_period {p : Pulse} (utcOffset : Int) (hperiod : 0 < p.cfg.period) :
    (p.last : Int) < p.next_ utcOffset ∧ p.next_ utcOffset ≤ (p.last : Int) + ((p.cfg.period * 65536 : Nat) : Int) := by
  unfold Pulse.next_
  extract_lets base per
  have hper : 0 < per := Int.natCast_pos.mpr (Nat.mul_pos hperiod (by decide))
  have hlo : ((p.last : Int) - base) / per * per ≤ p.last - base := Int.ediv_mul_le _ (Int.ne_of_gt hper)
  have hhi : (p.last : Int) - base < (((p.last : Int) - base) / per + 1) * per := Int.lt_ediv_add_one_mul_self _ hper
  have hsucc : (((p.last : Int) - base) / per + 1) * per = ((p.last : Int) - base) / per * per + per := by
    rw [Int.add_mul, Int.one_mul]
  exact ⟨by omega, by omega⟩

/-! Time marks (R189) -/

/-- R189: the first selected edge of an input has no deadtime to lie in. -/
theorem State.timeMark_of_first {n inst : Nat} {f : Bool} {s : State} (hserves : s.power.mode.serves = true)
    (hedge : bit (b01 f) (s.mark n).flags = true) (hfirst : (s.mark n).last = none) :
    s.timeMark n f inst false = (s.advance (inst * 2048)).stampMark n (b01 f) (((inst : Int) - (s.mark n).delay) * 2048).toNat
      ((s.advance (inst * 2048)).up - ((s.advance (inst * 2048)).qt - inst * 2048)) := by
  simp only [State.timeMark, hserves, hedge, hfirst, Bool.not_true, Bool.false_eq_true, or_self, if_false, Bool.false_and]

/-- Settles O38: each row by the lemma of its function, on the branch that the hypotheses select. -/
theorem timebaseRowsComplete : Obligations.TimebaseRowsComplete := by
  intro s sigma ok o m f inst
  refine ⟨fun hlo hhi hdue => ⟨_, rfl, State.holdoverEntry_of_due hlo hhi hdue⟩, fun p k hstep hat => ?apply,
    fun p hstep hpolicy hat hdue =>
      congrArg Host.Outcome.next (State.stepAskTimeout_of_due (State.askStep_of_pending hstep hpolicy hat) hdue),
    fun y h htarget hsigma hepochs => congrArg Host.Outcome.next (State.surveyDone_of_target h ok htarget hsigma hepochs),
    fun y h hshort hduration hover => congrArg Host.Outcome.next (State.surveyDone_of_elapsed h ok hshort hduration hover),
    fun e henabled htime hserves hnext hstep hmask =>
      congrArg Host.Outcome.next (State.timePulseEdge_of_emitted henabled htime hserves hnext hstep hmask),
    fun hserves hedge hfirst => congrArg Host.Outcome.next (State.timeMark_of_first hserves hedge hfirst),
    fun p hperiod => p.next_within_period s.plumb.utcOffset hperiod⟩
  case apply => exact ⟨_, congrArg Host.Outcome.next (State.stepApply_of_set hstep hat), s.applyStep_scale p k⟩

end Sys2Proof.Machine

/-! PROOFS. Screed's arithmetic: narrowing to 32 bits and the 72-bit accumulators (R201, R202). -/
namespace Sys2Proof.Machine

open Sys2Proof.Claims

/-! Words, fields and narrowing (R202, R229, R232) -/

theorem sField_eq (x : Nat) : sField x = x % 4096 := by
  simp only [sField, bits, Nat.pow_zero, Nat.div_one, Nat.reduceAdd, Nat.reduceSub, Nat.reducePow]

theorem unsigned_cast {n : Nat} (i : Int) : ((unsigned n i : Nat) : Int) = i % 2 ^ n := by
  have hcast : ((2 ^ n : Nat) : Int) = 2 ^ n := Int.natCast_pow 2 n
  have hpos : (0 : Int) < 2 ^ n := Int.pow_pos (by decide)
  rw [unsigned, hcast, Int.toNat_of_nonneg (Int.emod_nonneg _ (Int.ne_of_gt hpos))]

theorem signed_unsigned_32 (v : Int) : signed 32 (unsigned 32 v) = (v + 2147483648) % 4294967296 - 2147483648 := by
  have hu : ((unsigned 32 v : Nat) : Int) = v % 4294967296 := unsigned_cast v
  simp only [signed, Nat.reducePow, Nat.reduceSub]
  split <;> omega

/-- R202: fitting 32 bits is narrowing a 33-bit result with d = 0. -/
theorem fit_32 (wrap : Bool) (v : Int) : fit wrap 32 v = narrow33 wrap v := by
  simp only [fit, narrow33, signed_unsigned_32, Nat.reduceSub, Nat.reducePow, Int.cast_ofNat_Int, Int.reduceNeg, Int.reduceSub]
  by_cases h : -2147483648 ≤ v ∧ v ≤ 2147483647
  · rw [if_pos h, if_pos h]
  · rw [if_neg h, if_neg h]
    have hneg : v < -2147483648 ↔ v < 0 := by omega
    simp only [hneg]

theorem roundShift_of_pos (floor : Bool) {d : Nat} (hd : 0 < d) (v : Int) :
    roundShift floor d v = if floor then v / 2 ^ d else (v + 2 ^ (d - 1)) / 2 ^ d := by
  have h0 : d ≠ 0 := Nat.ne_of_gt hd
  simp only [roundShift, h0, decide_false, Bool.or_false, Int.natCast_pow, Int.cast_ofNat_Int]

theorem narrow33_of_fits (wrap : Bool) {x : Int} (h : -2147483648 ≤ x ∧ x ≤ 2147483647) : narrow33 wrap x = (x, false) := if_pos h

theorem narrow33_wrap {x : Int} (h : ¬(-2147483648 ≤ x ∧ x ≤ 2147483647)) :
    narrow33 true x = ((x + 2147483648) % 4294967296 - 2147483648, false) := if_neg h

theorem narrow33_clamp {x : Int} (h : ¬(-2147483648 ≤ x ∧ x ≤ 2147483647)) :
    narrow33 false x = (if x < 0 then -2147483648 else 2147483647, true) := if_neg h

/-- Settles O8: narrowing is the rounding shift, then the fit of its result into 32 bits. -/
theorem narrowingRoundsAndClamps : Obligations.NarrowingRoundsAndClamps := by
  intro floor d v hd
  simp only [narrow, roundShift_of_pos floor hd, fit_32]
  generalize (if floor then v / 2 ^ d else (v + 2 ^ (d - 1)) / 2 ^ d : Int) = x
  by_cases h : -2147483648 ≤ x ∧ x ≤ 2147483647
  · rw [narrow33_of_fits false h, narrow33_of_fits true h]
    have hin : ¬(x < -2147483648 ∨ 2147483647 < x) := by omega
    exact ⟨by omega, iff_of_false Bool.false_ne_true hin, rfl, h.1, h.2, rfl⟩
  · rw [narrow33_clamp h, narrow33_wrap h]
    have hout : x < -2147483648 ∨ 2147483647 < x := by omega
    exact ⟨by omega, iff_of_true rfl hout, by omega, by omega, by omega, rfl⟩

/-! The accumulators (R201) -/

theorem signed_unsigned_72_eq_iff (v : Int) : signed 72 (unsigned 72 v) = v ↔ -(2 ^ 71) ≤ v ∧ v < 2 ^ 71 := by
  have hu : ((unsigned 72 v : Nat) : Int) = v % 2 ^ 72 := unsigned_cast v
  simp only [signed, Nat.reducePow, Nat.reduceSub, Int.reducePow] at hu ⊢
  split <;> omega

theorem State.sctx_modSctx (who : Nat) (f : ScreedCtx → ScreedCtx) (s : State) : (s.modSctx who f).sctx who = f (s.sctx who) := by
  by_cases h : who = 0 <;> simp only [State.sctx, State.modSctx, h, if_true, if_false]

theorem State.counter_modSctx (who u i : Nat) (f : ScreedCtx → ScreedCtx) (s : State) :
    (s.modSctx who f).counter u i = s.counter u i := by
  unfold State.modSctx
  split <;> rfl

theorem State.satMask_modSctx (who : Nat) (f : ScreedCtx → ScreedCtx) (s : State) :
    (s.modSctx who f).screed.satMask = s.screed.satMask := by
  unfold State.modSctx
  split <;> rfl

/-- The accumulator as it is written: a wrap leaves the word and counts. -/
theorem State.putAcc_eq (who l n : Nat) (v : Int) (s : State) :
    s.putAcc who l n v =
      let t := s.modSctx who (fun c => { c with acc := Table.set 0 (l * 8 + n % 8) (unsigned 72 v) c.acc })
      if -(2 ^ 71) ≤ v ∧ v < 2 ^ 71 then t else t.bump 0x20 (7 + 2 * l) := by
  simp only [State.putAcc, signed_unsigned_72_eq_iff]

/-- Settles O9: the word written is the sum modulo 2⁷², and only a sum that it does not hold counts. -/
theorem accumulatorsWrapModulo72Bits : Obligations.AccumulatorsWrapModulo72Bits := by
  intro who l n v s _ _ hn
  have hword : unsigned 72 v = (v % 2 ^ 72).toNat := rfl
  simp only [State.putAcc_eq, Nat.mod_eq_of_lt hn]
  split
  case isTrue =>
    refine ⟨?_, State.counter_modSctx _ _ _ _ _, fun k _ => State.counter_modSctx _ _ _ _ _, State.satMask_modSctx _ _ _⟩
    rw [State.sctx_modSctx, Table.get_set_self, hword]
  case isFalse =>
    refine ⟨?_, ?_, fun k hk => ?_, State.satMask_modSctx _ _ _⟩
    · show Table.get 0 _ (State.sctx who (State.modSctx who _ s)).acc = _
      rw [State.sctx_modSctx, Table.get_set_self, hword]
    · rw [State.bump, State.counter_bumpBy, if_pos rfl, State.counter_modSctx, wrap32]
    · have hkey : ctrKey 0x20 k ≠ ctrKey 0x20 (7 + 2 * l) := by
        simp only [ctrKey]
        omega
      rw [State.bump, State.counter_bumpBy, if_neg hkey, State.counter_modSctx]

end Sys2Proof.Machine

/-! PROOFS. What each instruction of Screed does when it issues, and how products land (R199, R200, R236–R249, R251, R252). -/
namespace Sys2Proof.Machine

open Sys2Proof.Claims

/-! An instruction issues (R199, R206, R237, R243, R251) -/

/-- The state an instruction takes effect in: the products due have landed, and its clamped tap reads count. -/
def State.issueState (who : Nat) (i : SIns) (s : State) : State :=
  let t := s.landDue who (s.sctx who).slot
  t.countClamps (if 0x50 ≤ i.op then [0] else t.sLanes who i) ((i.operands.filter (fun p => p.1 != 0)).map (·.2))

/-- The state after an instruction whose effect came to `r`: post-steps, slots, and the next instruction. -/
def State.afterEffect (who : Nat) (i : SIns) (slots : Nat) (r : State × Option Nat) : State :=
  ((r.1.modSctx who (fun c => c.postSteps (i.operands.map (·.2)))).countSlots who slots).sequence who r.2

section Issue
variable {op who slots : Nat} {i : SIns} {s : State} {fx : SFx} {f : State → State} {target : State → Option Nat}

theorem issued_eq : issued who i slots f target s =
    State.afterEffect who i slots (f (s.issueState who i), target (s.issueState who i)) := (rfl)

theorem State.issueIns_of_good (h : (s.landDue who (s.sctx who).slot).badPosition who i = none) :
    s.issueIns who i slots fx = State.afterEffect who i slots (fx who i (s.issueState who i)) := by
  unfold State.issueIns
  dsimp only
  rw [h]
  rfl

theorem State.screedRow_of_issues (h : Issues op who i s)
    (hfx : fx who i (s.issueState who i) = (f (s.issueState who i), target (s.issueState who i))) :
    s.screedRow op slots fx = issued who i slots f target s := by
  obtain ⟨hissuer, hfetch, hop, hgood⟩ := h
  simp only [State.screedRow, hissuer, hfetch, hop, if_true]
  rw [State.issueIns_of_good hgood, hfx, issued_eq]

/-- R251: a bad operand leaves its fault, its slots and the next word. -/
theorem State.screedRow_of_bad {pos : Nat} (hissuer : s.issuer = some who) (hfetch : s.fetchIns who = some i) (hop : i.op = op)
    (hbad : (s.landDue who (s.sctx who).slot).badPosition who i = some pos) :
    s.screedRow op slots fx =
      (((s.landDue who (s.sctx who).slot).screedFault who pos).countSlots who slots).sequence who none := by
  simp only [State.screedRow, hissuer, hfetch, hop, if_true, State.issueIns, hbad]

theorem next_of_issues (h : Issues op who i s)
    (hfx : fx who i (s.issueState who i) = (f (s.issueState who i), target (s.issueState who i))) :
    (Host.Outcome.next (s.screedRow op slots fx) : Step) = .next (issued who i slots f target s) :=
  congrArg Host.Outcome.next (State.screedRow_of_issues h hfx)

end Issue

/-! The effects that write one value in each lane (R240–R242) -/

theorem State.perLane_eq_writeLanes (who : Nat) (i : SIns) (g : Nat → Int × Bool) (s : State) :
    s.perLane who i g = writeLanes who i g s := by
  simp only [State.perLane, writeLanes, List.foldl_map]

theorem b01_decide (p : Prop) [Decidable p] : b01 (decide p) = flag p := by simp only [b01, flag, decide_eq_true_eq]

/-- A bitwise operation on 32-bit words stays within them. -/
theorem signed_bitwise {g : Nat → Nat → Nat} (hg : ∀ x y, x < 2 ^ 32 → y < 2 ^ 32 → g x y < 2 ^ 32) (a b : Int) :
    signed 32 (g (unsigned 32 a) (unsigned 32 b)) = bitwise g a b := by
  have hlt : ∀ v : Int, unsigned 32 v < 2 ^ 32 := by
    intro v
    have hv : ((unsigned 32 v : Nat) : Int) = v % 4294967296 := unsigned_cast v
    omega
  have hv : g (unsigned 32 a) (unsigned 32 b) < 4294967296 := hg _ _ (hlt a) (hlt b)
  show _ = if g (unsigned 32 a) (unsigned 32 b) < 2147483648 then _ else _
  simp only [signed, Nat.reducePow, Nat.reduceSub, Nat.mod_eq_of_lt hv]
  rfl

/-- An effect that writes in each lane `g` of its two sources, and does not branch. -/
def LaneEffect (wide : Bool) (g : SIns → Int → Int → Int × Bool) (fx : SFx) : Prop :=
  ∀ who i u, fx who i u = (writeLanes who i (fun l => g i (sourceOf wide who l i.a u) (sourceOf wide who l i.b u)) u, none)

theorem laneEffect_clr : LaneEffect false (fun _ _ _ => (0, false)) fxClr := by
  intro who i u
  simp only [fxClr, flow, State.perLane_eq_writeLanes]

theorem laneEffect_arith (g : Int → Int → Int) : LaneEffect false (fun i a b => narrow33 i.wrap (g a b)) (fxArith g) := by
  intro who i u
  simp only [fxArith, flow, State.perLane_eq_writeLanes, fit_32]
  rfl

theorem laneEffect_pick (g : Int → Int → Int) : LaneEffect false (fun _ a b => (g a b, false)) (fxPick g) := by
  intro who i u
  simp only [fxPick, flow, State.perLane_eq_writeLanes]
  rfl

theorem laneEffect_bits {g : Nat → Nat → Nat} (hg : ∀ x y, x < 2 ^ 32 → y < 2 ^ 32 → g x y < 2 ^ 32) :
    LaneEffect false (fun _ a b => (bitwise g a b, false)) (fxBits g) := by
  intro who i u
  simp only [fxBits, flow, State.perLane_eq_writeLanes, signed_bitwise hg]
  rfl

theorem laneEffect_cmp (p : Int → Int → Prop) [∀ a b, Decidable (p a b)] :
    LaneEffect true (fun _ a b => (flag (p a b), false)) (fxCmp (fun a b => decide (p a b))) := by
  intro who i u
  simp only [fxCmp, flow, State.perLane_eq_writeLanes, b01_decide]
  rfl

theorem laneEffect_cond (g : Bool → Bool → Bool) :
    LaneEffect false (fun _ a b => (b01 (g (a != 0) (b != 0)), false)) (fxCond g) := by
  intro who i u
  simp only [fxCond, flow, State.perLane_eq_writeLanes]
  rfl

/-- The value of an effect may be said in another way. -/
theorem LaneEffect.congr {wide : Bool} {g g' : SIns → Int → Int → Int × Bool} {fx : SFx} (h : LaneEffect wide g' fx)
    (hg : ∀ i a b, g' i a b = g i a b) : LaneEffect wide g fx :=
  have heq : g' = g := funext fun i => funext fun a => funext fun b => hg i a b
  heq ▸ h

/-- R240–R242: each row of the table issues its opcode in one slot, with the effect of its value. -/
theorem laneRow_effect {c : Instr} {op : Nat} {wide : Bool} {g : SIns → Int → Int → Int × Bool}
    (h : laneRow c = some (op, wide, g)) :
    ∃ fx, (∀ s, exec c s = .next (s.screedRow op 1 fx)) ∧ LaneEffect wide g fx := by
  unfold laneRow at h
  split at h <;> cases h
  case h_1 => exact ⟨fxClr, fun _ => rfl, laneEffect_clr⟩
  case h_2 => exact ⟨fxArith (· + ·), fun _ => rfl, laneEffect_arith _⟩
  case h_3 => exact ⟨fxArith (· - ·), fun _ => rfl, laneEffect_arith _⟩
  case h_4 => exact ⟨fxArith (fun a _ => -a), fun _ => rfl, laneEffect_arith _⟩
  case h_5 =>
    have habs : ∀ a : Int, (a.natAbs : Int) = if a < 0 then -a else a := by omega
    exact ⟨fxArith (fun a _ => a.natAbs), fun _ => rfl, (laneEffect_arith _).congr fun i a _ => by rw [habs]⟩
  case h_6 => exact ⟨fxPick min, fun _ => rfl, (laneEffect_pick _).congr fun _ a b => by rw [Int.min_def]⟩
  case h_7 => exact ⟨fxPick max, fun _ => rfl, (laneEffect_pick _).congr fun _ a b => by rw [Int.max_def]⟩
  case h_8 => exact ⟨fxBits Nat.land, fun _ => rfl, laneEffect_bits fun _ _ _ hy => Nat.and_lt_two_pow _ hy⟩
  case h_9 => exact ⟨fxBits Nat.lor, fun _ => rfl, laneEffect_bits fun _ _ hx hy => Nat.or_lt_two_pow hx hy⟩
  case h_10 => exact ⟨fxBits Nat.xor, fun _ => rfl, laneEffect_bits fun _ _ hx hy => Nat.xor_lt_two_pow hx hy⟩
  case h_11 => exact ⟨fxAcc (· + ·), fun _ => rfl, laneEffect_pick _⟩
  case h_12 => exact ⟨fxAcc (· - ·), fun _ => rfl, laneEffect_pick _⟩
  case h_13 => exact ⟨_, fun _ => rfl, laneEffect_cmp (· = ·)⟩
  case h_14 => exact ⟨_, fun _ => rfl, laneEffect_cmp (· ≠ ·)⟩
  case h_15 => exact ⟨_, fun _ => rfl, laneEffect_cmp (· < ·)⟩
  case h_16 => exact ⟨_, fun _ => rfl, laneEffect_cmp (· ≤ ·)⟩
  case h_17 => exact ⟨_, fun _ => rfl, (laneEffect_cond _).congr fun _ a b => by simp only [b01, flag, Bool.and_eq_true, bne_iff_ne]⟩
  case h_18 => exact ⟨_, fun _ => rfl, (laneEffect_cond _).congr fun _ a b => by simp only [b01, flag, Bool.or_eq_true, bne_iff_ne]⟩
  case h_19 =>
    exact ⟨_, fun _ => rfl, (laneEffect_cond _).congr fun _ a b => by
      simp only [b01, flag, Bool.not_eq_true', bne_eq_false_iff_eq]⟩

theorem screedLaneInstructionsComplete : ScreedLaneInstructionsComplete := by
  intro c op wide g who i s hrow hissues
  obtain ⟨fx, hexec, heffect⟩ := laneRow_effect hrow
  exact (hexec s).trans (next_of_issues hissues (heffect who i _))

theorem screedBadOperandDoesNothing : ScreedBadOperandDoesNothing := by
  intro c op wide g who pos i s hrow hissuer hfetch hop u hbad
  obtain ⟨fx, hexec, -⟩ := laneRow_effect hrow
  rw [hexec, State.screedRow_of_bad hissuer hfetch hop hbad]
  rfl

/-! NOP, MOV, ASH and FTAP (R240, R241, R249) -/

section Moves
variable {who : Nat} {i : SIns} (s : State)

theorem fxMov_wide_destination (h : sMode i.d = 8) :
    fxMov who i s = (writeLanes who i (fun l => (s.sourceWide who l i.a, false)) s, none) := by
  simp only [fxMov, flow, State.perLane_eq_writeLanes, h, if_true]

theorem fxMov_narrowing (hd : sMode i.d ≠ 8) (ha : sMode i.a = 7 ∨ sMode i.a = 8) :
    fxMov who i s = (writeLanes who i (fun l => narrow i.floor i.wrap i.depth (s.source who l i.a)) s, none) := by
  simp only [fxMov, flow, State.perLane_eq_writeLanes, hd, if_false, Bool.or_eq_true, beq_iff_eq, ha, if_true]

theorem fxMov_plain (hd : sMode i.d ≠ 8) (h7 : sMode i.a ≠ 7) (h8 : sMode i.a ≠ 8) :
    fxMov who i s = (writeLanes who i (fun l => (s.source who l i.a, false)) s, none) := by
  simp only [fxMov, flow, State.perLane_eq_writeLanes, hd, if_false, Bool.or_eq_true, beq_iff_eq, h7, h8, or_self]

end Moves

theorem screedMovesAndTapsComplete : ScreedMovesAndTapsComplete := by
  intro who i s
  refine ⟨fun h => next_of_issues h rfl, fun h hd => next_of_issues h (fxMov_wide_destination _ hd),
    fun h hd ha => next_of_issues h (fxMov_narrowing _ hd ha), fun h hd h7 h8 => next_of_issues h (fxMov_plain _ hd h7 h8),
    fun h => next_of_issues h ?ash, fun h => next_of_issues h ?ftap⟩
  case ash =>
    simp only [fxAsh, flow, State.perLane_eq_writeLanes, State.ashCount, fit_32, sField_eq, Int.natCast_pow, Int.cast_ofNat_Int]
  case ftap => simp only [fxFtap, flow, List.foldl_map]

/-- Settles O12: an instruction that issues is its effect on the state it issues in, and each effect writes what the table gives. -/
theorem screedDataInstructionsComplete : Obligations.ScreedDataInstructionsComplete :=
  ⟨screedLaneInstructionsComplete, screedMovesAndTapsComplete, screedBadOperandDoesNothing⟩

/-! Products (R200, R240, R243, R244) -/

theorem productRow_exec {c : Instr} {op : Nat} (h : productRow c = some op) (s : State) :
    exec c s = .next (s.screedRow op 1 fxMul) := by
  unfold productRow at h
  split at h <;> cases h <;> rfl

theorem screedProductsIssue : ScreedProductsIssue := by
  intro c op who i s hrow hissues
  refine (productRow_exec hrow s).trans (next_of_issues hissues ?_)
  simp only [fxMul, flow, sField_eq]

theorem screedProductsLand : ScreedProductsLand := by
  intro who l v p s aligned acc
  have haligned : ∀ op, alignProduct (SIns.cf { op := op, d := 0, a := 0, b := 0, m := p.mod }) v = aligned := fun _ => rfl
  refine ⟨fun h => ?mul, fun h => ?mac, fun h => ?msu, fun h => ?mula, fun h => ?muls, fun b r hflight hdue => ?lands⟩
  case mul => simp only [State.landLane, h]
  case mac => simp only [State.landLane, h, haligned, acc]
  case msu => simp only [State.landLane, h, haligned, acc]
  case mula => simp only [State.landLane, h, haligned]
  case muls =>
    simp only [State.landLane, h, haligned]
  case lands =>
    show Host.Outcome.next (s.productLands b) = _
    simp only [State.productLands, b01, hflight, hdue, if_true, State.landProduct]

/-- Settles O13: every multiplier row has one effect, and a landing product goes by its opcode. -/
theorem screedProductsComplete : Obligations.ScreedProductsComplete := ⟨screedProductsIssue, screedProductsLand⟩

/-! What landing products and counting clamps leave of the programs (R200, R203, R238) -/

/-- The programs' places and the customer's words. -/
def Screed.programs (x : Screed) : ScreedProg × ScreedProg × ScreedProg × ScreedBank := (x.fg, x.cust, x.solver, x.custBank)

theorem State.modSctx_programs (who : Nat) (f : ScreedCtx → ScreedCtx) (s : State) :
    (s.modSctx who f).screed.programs = s.screed.programs := by
  unfold State.modSctx
  split <;> rfl

theorem State.satIf_programs (l : Nat) (hit : Bool) (s : State) : (s.satIf l hit).screed.programs = s.screed.programs := by
  unfold State.satIf
  split <;> rfl

theorem State.putAcc_programs (who l n : Nat) (v : Int) (s : State) :
    (s.putAcc who l n v).screed.programs = s.screed.programs := by
  rw [State.putAcc_eq]
  dsimp only
  split
  · exact State.modSctx_programs _ _ _
  · exact State.modSctx_programs _ _ _

theorem State.landLane_programs (who : Nat) (p : Product) (x : Nat × Int) (s : State) :
    (s.landLane who p x).screed.programs = s.screed.programs := by
  unfold State.landLane
  dsimp only
  split
  · exact State.modSctx_programs _ _ _
  · exact State.putAcc_programs _ _ _ _ _
  · exact State.putAcc_programs _ _ _ _ _
  · exact State.putAcc_programs _ _ _ _ _
  · exact (State.satIf_programs _ _ _).trans (State.modSctx_programs _ _ _)

theorem foldl_programs {α : Type} {f : State → α → State} (hf : ∀ s x, (f s x).screed.programs = s.screed.programs) (l : List α)
    (s : State) : (l.foldl f s).screed.programs = s.screed.programs :=
  List.foldlRecOn (motive := fun t => t.screed.programs = s.screed.programs) l f rfl fun t ht x _ => (hf t x).trans ht

theorem State.landDue_programs (who slot : Nat) (s : State) : (s.landDue who slot).screed.programs = s.screed.programs :=
  (foldl_programs (fun t p => foldl_programs (fun u x => u.landLane_programs who p x) p.lanes t) _ _).trans
    (State.modSctx_programs _ _ _)

theorem State.issueState_programs (who : Nat) (i : SIns) (s : State) : (s.issueState who i).screed.programs = s.screed.programs :=
  State.landDue_programs who _ s

theorem State.sprog_congr {s t : State} (h : t.screed.programs = s.screed.programs) (who : Nat) : t.sprog who = s.sprog who := by
  simp only [Screed.programs, Prod.mk.injEq] at h
  obtain ⟨hfg, hcust, hsolver, -⟩ := h
  unfold State.sprog
  split <;> assumption

theorem State.issueState_sprog (who w : Nat) (i : SIns) (s : State) : (s.issueState who i).sprog w = s.sprog w :=
  State.sprog_congr (s.issueState_programs who i) w

theorem State.issueState_custBank (who : Nat) (i : SIns) (s : State) : (s.issueState who i).screed.custBank = s.screed.custBank :=
  congrArg (fun p => p.2.2.2) (s.issueState_programs who i)

/-! Branches (R248, R250) -/

theorem signed_12 (v : Nat) : signed 12 (v % 4096) =
    if ((v % 4096 : Nat) : Int) < 2048 then ((v % 4096 : Nat) : Int) else ((v % 4096 : Nat) : Int) - 4096 := by
  simp only [signed, Nat.reducePow, Nat.reduceSub, Nat.mod_mod]
  split <;> split <;> omega

section Branch
variable {who : Nat} {i : SIns} {s : State}

/-- The program branches from a word of its own, not from the fill of the customer's words (R250). -/
def InOwnWords (who : Nat) (s : State) : Prop := who = 1 → (s.sprog 1).pc < 0x7400 + s.screed.custBank.words.length

theorem State.branchTarget_of_own (h : InOwnWords who s) :
    (s.issueState who i).branchTarget who i = branchTo (s.sprog who).pc i := by
  have hfill : ¬(who = 1 ∧ 0x7400 + s.screed.custBank.words.length ≤ (s.sprog who).pc) := by
    rintro ⟨rfl, hle⟩
    exact absurd (h rfl) (Nat.not_lt.mpr hle)
  simp only [State.branchTarget, State.issueState_sprog, State.issueState_custBank, if_neg hfill, sField_eq, signed_12]
  rfl

theorem State.branchTarget_of_fill (h : 0x7400 + s.screed.custBank.words.length ≤ (s.sprog 1).pc) :
    (s.issueState 1 i).branchTarget 1 i = 0x7400 := by
  simp only [State.branchTarget, State.issueState_sprog, State.issueState_custBank, h, and_self, if_true]

theorem condIndex_eq (i : SIns) : bits 2 0 (sField i.a) = i.a % 8 := by
  simp only [bits, sField_eq]
  omega

theorem fxBranch_any (h : InOwnWords who s) :
    fxBranch false who i (s.issueState who i) = (s.issueState who i,
      if condLanes who (i.a % 8) (s.issueState who i) = [] then none else some (branchTo (s.sprog who).pc i)) := by
  have hany : ∀ u : State, (u.laneList.map fun l => (u.sctx who).cond l (i.a % 8)).any id = true ↔
      condLanes who (i.a % 8) u ≠ [] := by
    intro u
    simp only [condLanes, List.any_map, Function.id_comp, List.any_eq_true, ne_eq, List.filter_eq_nil_iff, Classical.not_forall,
      exists_prop, Classical.not_not]
  simp only [fxBranch, condIndex_eq, State.branchTarget_of_own h, Bool.false_eq_true, if_false, hany, ne_eq, ite_not]

theorem fxBranch_all (h : InOwnWords who s) :
    fxBranch true who i (s.issueState who i) = (s.issueState who i,
      if condLanes who (i.a % 8) (s.issueState who i) = (s.issueState who i).laneList
      then some (branchTo (s.sprog who).pc i) else none) := by
  have hall : ∀ u : State, (u.laneList.map fun l => (u.sctx who).cond l (i.a % 8)).all id = true ↔
      condLanes who (i.a % 8) u = u.laneList := by
    intro u
    simp only [condLanes, List.all_map, Function.id_comp, List.all_eq_true, List.filter_eq_self]
  simp only [fxBranch, condIndex_eq, State.branchTarget_of_own h, if_true, hall]

end Branch

/-! LOOP and the scalar instructions (R236, R240, R245) -/

theorem State.scalar_eq (who x : Nat) (u : State) :
    u.scalar who x = if sMode x = 9 then ((x % 4096 : Nat) : Int) else u.source who 0 x := by
  rw [State.scalar, sField_eq]

theorem unsigned_source_16 (who x : Nat) (u : State) : unsigned 16 (u.source who 0 x) = (u.source who 0 x % 65536).toNat := rfl

/-- R245: the loop count, an immediate or a word of data cut to its declared maximum. -/
theorem State.dataCount_eq (who x most : Nat) (u : State) :
    u.dataCount who x most =
      (min (u.source who 0 x % 65536).toNat most, decide (most < (u.source who 0 x % 65536).toNat)) := by
  unfold State.dataCount
  dsimp only
  rw [unsigned_source_16]
  split
  case isTrue h => rw [Nat.min_eq_right (Nat.le_of_lt h), decide_eq_true h]
  case isFalse h => rw [Nat.min_eq_left (Nat.not_lt.mp h), decide_eq_false h]

/-- The fields of LOOP's destination word. -/
theorem loopFields_eq (i : SIns) : bits 9 0 (sField i.d) = i.d % 1024 ∧ bits 11 10 (sField i.d) = i.d / 1024 % 4 := by
  simp only [bits, sField_eq]
  omega

theorem fxLoop_count (who : Nat) (i : SIns) (u : State) :
    (if sMode i.a = 9 then (sField i.a, false) else u.dataCount who i.a (sField i.b)) =
      (if sMode i.a = 9 then i.a % 4096 else min (u.source who 0 i.a % 65536).toNat (i.b % 4096),
        decide (¬sMode i.a = 9 ∧ i.b % 4096 < (u.source who 0 i.a % 65536).toNat)) := by
  simp only [State.dataCount_eq, sField_eq]
  split
  case isTrue h => simp only [h, not_true_eq_false, false_and, decide_false]
  case isFalse h => simp only [h, not_false_eq_true, true_and]

theorem register_eq (d : Nat) : sField d % 16 = d % 16 := by
  rw [sField_eq]
  omega

theorem fxLdar_eq (who : Nat) (i : SIns) (u : State) :
    fxLdar who i u = (u.modSctx who (fun c => { c with
      a := modAt (i.d % 16) (fun _ => ((if sMode i.a = 9 then ((i.a % 4096 : Nat) : Int) else u.source who 0 i.a) % 262144).toNat) c.a }),
      none) := by
  simp only [fxLdar, flow, State.scalar_eq, register_eq]
  rfl

theorem fxAdar_eq (who : Nat) (i : SIns) (u : State) :
    fxAdar who i u = (u.modSctx who (fun c => { c with
      a := modAt (i.d % 16) (fun x =>
        (((x : Int) + (if sMode i.a = 9 then signed 12 (i.a % 4096) else u.source who 0 i.a)) % 262144).toNat) c.a }), none) := by
  have hvalue : (if sMode i.a = 9 then signed 12 (sField i.a) else u.scalar who i.a) =
      if sMode i.a = 9 then signed 12 (i.a % 4096) else u.source who 0 i.a := by
    rw [sField_eq, State.scalar_eq]
    split <;> rfl
  simp only [fxAdar, flow, hvalue, register_eq]
  rfl

theorem fxSetdp_eq (who : Nat) (i : SIns) (u : State) :
    fxSetdp who i u = (u.modSctx who (fun c => { c with
      dpage := ((if sMode i.a = 9 then ((i.a % 4096 : Nat) : Int) else u.source who 0 i.a) % 8).toNat }), none) := by
  simp only [fxSetdp, flow, State.scalar_eq]
  rfl

theorem unsigned_scalar_32 (who x : Nat) (u : State) :
    unsigned 32 (u.scalar who x) = if sMode x = 9 then x % 4096 else (u.source who 0 x % 4294967296).toNat := by
  have hlt : x % 4096 < 4294967296 := by omega
  rw [State.scalar_eq]
  split
  · show (((x % 4096 : Nat) : Int) % ((4294967296 : Nat) : Int)).toNat = _
    rw [← Int.natCast_emod, Int.toNat_natCast, Nat.mod_eq_of_lt hlt]
  · rfl

theorem screedControlCompletes : ScreedControlCompletes := by
  intro who i s imm
  refine ⟨fun h => next_of_issues h ?loop, fun h hown => next_of_issues h ?jmp, fun h hfill => next_of_issues h ?fill,
    fun h hown => next_of_issues h (fxBranch_any hown), fun h hown => next_of_issues h (fxBranch_all hown),
    fun h => next_of_issues h (fxLdar_eq _ _ _), fun h => next_of_issues h (fxAdar_eq _ _ _),
    fun h => next_of_issues h (fxSetdp_eq _ _ _), fun h => next_of_issues h ?setmr⟩
  case loop =>
    obtain ⟨hend, hlevel⟩ := loopFields_eq i
    simp only [fxLoop, fxLoop_count, hend, hlevel, State.issueState_sprog, State.countFault, decide_eq_true_eq, imm]
  case jmp => rw [fxJmp, State.branchTarget_of_own hown]
  case fill => rw [fxJmp, State.branchTarget_of_fill hfill]
  case setmr =>
    simp only [fxSetmr, flow, unsigned_scalar_32, imm]

/-! REP, FGEND and EVWAIT (R205, R207, R246–R248) -/

/-- R246: a count of 0 in an instruction word stands for 4,096. -/
def fullCount (n : Nat) : Nat := if n = 0 then 4096 else n

section Rep
variable (who : Nat) (i : SIns) (u : State)

/-- The word of data of a count. -/
def State.repData : Nat := (u.source who 0 i.a % 65536).toNat

/-- What REP asks for: its immediate, or a word of data cut to its declared maximum. -/
def State.repAsked : Nat :=
  if sMode i.a = 9 then fullCount (i.a % 4096) else min (u.repData who i) (fullCount (i.b % 4096))

/-- R246, R247: in the background what is asked for is cut to MAXREP. -/
def State.repGranted : Nat := if who = 0 then u.repAsked who i else min (u.repAsked who i) u.screed.maxrep

/-- A count from data was cut (R251). -/
abbrev State.RepCut : Prop :=
  sMode i.a ≠ 9 ∧ (fullCount (i.b % 4096) < u.repData who i ∨ u.repGranted who i < u.repAsked who i)

/-- The count before MAXREP, and whether its declared maximum cut it. -/
theorem State.repAsked_eq :
    (if sMode i.a = 9 then (fullCount (sField i.a), false) else u.dataCount who i.a (fullCount (sField i.b))) =
      (u.repAsked who i, decide (sMode i.a ≠ 9 ∧ fullCount (i.b % 4096) < u.repData who i)) := by
  simp only [State.repAsked, State.repData, State.dataCount_eq, sField_eq]
  split
  case isTrue h => simp only [h, ne_eq, not_true_eq_false, false_and, decide_false]
  case isFalse h => simp only [h, ne_eq, not_false_eq_true, true_and]

theorem State.repCount_eq : u.repCount who i = (u.repGranted who i, decide (u.RepCut who i)) := by
  have hasked := u.repAsked_eq who i
  unfold fullCount at hasked
  simp only [State.repCount, hasked]
  by_cases hcut : who ≠ 0 ∧ u.screed.maxrep < u.repAsked who i
  · have hgranted : u.repGranted who i = u.screed.maxrep := by
      rw [State.repGranted, if_neg hcut.1, Nat.min_eq_right (Nat.le_of_lt hcut.2)]
    rw [if_pos hcut, ← Bool.decide_or]
    refine Prod.ext hgranted.symm (decide_eq_decide.mpr ?_)
    rw [State.RepCut, hgranted]
    simp only [hcut.2, or_true, and_true]
    exact or_iff_right_of_imp And.left
  · have hgranted : u.repGranted who i = u.repAsked who i := by
      unfold State.repGranted
      split <;> omega
    rw [if_neg hcut]
    refine Prod.ext hgranted.symm (decide_eq_decide.mpr ?_)
    rw [State.RepCut, hgranted, fullCount]
    simp only [Nat.lt_irrefl, or_false]

end Rep

theorem State.repRow_of_issues {who : Nat} {i : SIns} {s : State} (h : Issues 0x51 who i s) : s.repRow = s.issueRep who i := by
  obtain ⟨hissuer, hfetch, hop, -⟩ := h
  simp only [State.repRow, hissuer, hfetch, hop, if_true]

theorem State.issueRep_of_good {who : Nat} {i : SIns} {s : State} (h : (s.landDue who (s.sctx who).slot).badPosition who i = none) :
    s.issueRep who i =
      let s1 := (s.landDue who (s.sctx who).slot).countClamps [0] [i.a]
      let n := s1.repCount who i
      let s2 := ((s1.countFault who n.2).modSctx who (fun c => c.postSteps [i.a])).countSlots who 1
      let s3 := (s2.startRep who n.1).checkFetch who
      if n.1 = 0 then (s3.stepPast who true).checkFetch who else s3 := by
  unfold State.issueRep
  dsimp only
  rw [h]
  dsimp only
  split
  case isTrue h0 => rw [h0]
  case isFalse => rfl

theorem State.fgendRow_of_fetched {s : State} (hissuer : s.issuer = some 0) (hop : ∀ j, s.fetchIns 0 = some j → j.op = 0x52)
    (hfetch : (s.fetchIns 0).isSome = true) :
    s.fgendRow = ((s.landDue 0 s.screed.f.slot).countSlots 0 1).endPass := by
  obtain ⟨j, hj⟩ := Option.isSome_iff_exists.mp hfetch
  simp only [State.fgendRow, hissuer, hj, hop j hj, if_true, State.issueFgend, Option.isSome_some]

theorem State.fgendRow_of_fault {s : State} (hissuer : s.issuer = some 0) (hfetch : s.fetchIns 0 = none) :
    s.fgendRow = (((s.screedFault 0 3).landDue 0 (s.screedFault 0 3).screed.f.slot).countSlots 0 1).endPass := by
  simp only [State.fgendRow, hissuer, hfetch, if_true, State.issueFgend, Option.isSome_none, Bool.false_eq_true, if_false]

theorem waitSource_eq (i : SIns) : i.source = i.a % 4096 % 128 := by rw [SIns.source, sField_eq]

theorem State.evwaitRow_of_issues {who : Nat} {i : SIns} {s : State} (hissuer : s.issuer = some who) (hwho : who ≠ 0)
    (hfetch : s.fetchIns who = some i) (hop : i.op = 0x53) : s.evwaitRow = s.issueEvwait who i := by
  simp only [State.evwaitRow, hissuer, hfetch, hwho, hop, ne_eq, not_false_eq_true, and_self, if_true]

theorem State.waitMet_iff (n : Nat) (s : State) : s.waitMet n = true ↔ (s.event n).stat = true ∧ (s.event n).toScreed = true := by
  rw [State.waitMet, Bool.and_eq_true]

theorem screedSequencesComplete : ScreedSequencesComplete := by
  intro who n i s
  refine ⟨fun h => congrArg Host.Outcome.next ?rep,
    fun hissuer hop hfetch => congrArg Host.Outcome.next (State.fgendRow_of_fetched hissuer hop hfetch),
    fun hissuer hfetch => congrArg Host.Outcome.next (State.fgendRow_of_fault hissuer hfetch),
    fun hissuer hwho hfetch hop => congrArg Host.Outcome.next ?evwait,
    fun b hwait hstat hroute => congrArg Host.Outcome.next ?satisfied⟩
  case rep =>
    rw [State.repRow_of_issues h]
    obtain ⟨-, -, -, hgood⟩ := h
    rw [State.issueRep_of_good hgood]
    simp only [State.repCount_eq, State.countFault, decide_eq_true_eq]
    rfl
  case evwait =>
    rw [State.evwaitRow_of_issues hissuer hwho hfetch hop, State.issueEvwait, waitSource_eq]
    simp only [State.waitMet_iff]
  case satisfied =>
    simp only [State.evwaitSatisfied, hwait, State.waitMet_iff, hstat, hroute, and_self, if_true]

/-- Settles O14: what lands and is counted before the effect leaves PC and the customer's words, so a target is the one of the issue. -/
theorem screedFlowComplete : Obligations.ScreedFlowComplete := ⟨screedControlCompletes, screedSequencesComplete⟩

end Sys2Proof.Machine

/-! PROOFS. The events of Screed's units and the beginning of the foreground (R208, R209, R217, R221, R257, R261, R275). -/
namespace Sys2Proof.Machine

open Sys2Proof.Claims

/-! Loads, copies, temperatures, scrubbing and reloading (R217, R221, R257, R261, R275) -/

section Events
variable {s : State}

theorem State.screedLoadDone_of_load {w : LoadWork} {r : List LoadWork} (h : s.screed.loads = w :: r) (ok : Bool) :
    s.screedLoadDone ok =
      let x := State.loadWork w ok { s with screed := { s.screed with loads := r } }
      x.2.2.complete 0x2010 w.ticket x.1 x.2.1 := by
  simp only [State.screedLoadDone, h]

/-- R257: BEGIN of an entry that the library has room for opens its staging. -/
theorem State.loadWork_of_begin {w : LoadWork} (hpart : w.part = 0) (hroom : s.libUsed + 8 * w.words.length ≤ 1048576) (ok : Bool) :
    s.loadWork w ok = (.ok, [], { s with screed := { s.screed with
      staging := some { target := w.target, entry := w.entry, total := w.words.length } } }) := by
  simp only [State.loadWork, hpart, Nat.not_lt.mpr hroom, if_false]

theorem State.finishCopy_of_copying (h : s.screed.copying = true) :
    s.finishCopy = { s with screed := { s.screed with copying := false, coefPending := s.screed.coefActive } } := if_pos h

section TempLine
variable {uart : Nat} {line : Bytes} (h : s.param 0x2003 = uart + 1)
include h

theorem State.airTempLine_of_number {v : Int} (hv : parseTemp line = some v) : s.airTempLine uart line = s.airTempFrom (uart + 1) v := by
  simp only [State.airTempLine, h, hv, ne_eq, not_true_eq_false, false_and, if_false]

theorem State.airTempLine_of_garbled (hv : parseTemp line = none) : s.airTempLine uart line = s.bump 0x20 42 := by
  simp only [State.airTempLine, h, hv, ne_eq, not_true_eq_false, false_and, if_false]

end TempLine

theorem State.airTempOld_of_old (h : ∀ x, s.airTempOf = some x → x.2 + s.param 0x2005 * qtSec < s.up) : s.airTempOld = true := by
  unfold State.airTempOld
  split
  case h_1 x t hx => exact decide_eq_true (h _ hx)
  case h_2 => rfl

theorem State.airTempStale_of_old (h : s.airTempOld = true) :
    s.airTempStale = { s with screed := { s.screed with airNow := none, staleTemp := true } } := if_pos h

theorem State.scrub_of_lane {w : ScrubWord} (hserves : s.power.mode.serves = true) (hlane : (scrubPlace w).2.1 < s.laneCount) (bad : Bool) :
    s.scrub w bad = (if bad then s.uncorrectable w else s).secded bad (scrubPlace w).1 (scrubPlace w).2.1 (scrubPlace w).2.2 := by
  simp only [State.scrub, hserves, Bool.not_true, Bool.false_eq_true, false_or, Nat.not_le.mpr hlane, if_false]

theorem State.bankReload_of_active (hreloads : s.screed.reloads = [s.screed.activeB]) (hbg : s.screed.bgReload = 0) :
    s.bankReload = State.reloadBank { s with screed := { s.screed with reloads := [] } } s.screed.activeB := by
  simp only [State.bankReload, hreloads, List.foldl_cons, List.foldl_nil]
  exact if_pos hbg

theorem State.reloadBank_active (b : Bool) (h : s.screed.activeB = b) :
    (s.reloadBank b).screed.halted = false ∧ (s.reloadBank b).screed.active.words = s.libWords s.screed.active.entry ∧
      (s.reloadBank b).screed.idle = s.screed.idle := by
  subst h
  refine ⟨by simp only [State.reloadBank, bne_self_eq_false, Bool.and_false], ?_, ?_⟩
  · simp only [State.reloadBank, Screed.active]
    split <;> rfl
  · simp only [State.reloadBank, Screed.idle]
    split <;> rfl

theorem State.windowFetchDone_of_fetching {d t : Nat} (hfetching : s.screed.fetching.contains (4 * d + t) = true)
    (hnew : s.screed.fetched (4 * d + t) = false) :
    s.windowFetchDone d t none = State.bump 0x21 2 { s with screed := { s.screed with
      winNext := s.screed.winNext ++ s.laneList.map (fun l => s.fetchLane d t l) } } := by
  simp only [State.windowFetchDone, hfetching, hnew, Bool.not_true, Bool.or_false, Bool.false_eq_true, if_false, Option.map_none,
    Option.getD_none]

end Events

theorem screedEventsComplete : ScreedEventsComplete := by
  intro s ok w r u line v d t word
  refine ⟨fun h => congrArg Host.Outcome.next (State.screedLoadDone_of_load h ok),
    fun h hpart hroom => congrArg Host.Outcome.next ?begins,
    fun h => congrArg Host.Outcome.next (State.finishCopy_of_copying h),
    fun h hv => congrArg Host.Outcome.next (State.airTempLine_of_number h hv),
    fun h hv => congrArg Host.Outcome.next (State.airTempLine_of_garbled h hv),
    fun h => congrArg Host.Outcome.next (State.airTempStale_of_old (State.airTempOld_of_old h)),
    fun hserves hlane => ⟨congrArg Host.Outcome.next (State.scrub_of_lane hserves hlane false),
      congrArg Host.Outcome.next (State.scrub_of_lane hserves hlane true)⟩,
    fun h hbg => ⟨_, congrArg Host.Outcome.next (State.bankReload_of_active h hbg), State.reloadBank_active _ rfl⟩,
    fun hfetching hnew => congrArg Host.Outcome.next (State.windowFetchDone_of_fetching hfetching hnew)⟩
  case begins =>
    have hwork := State.loadWork_of_begin (s := { s with screed := { s.screed with loads := r } }) hpart hroom ok
    exact (State.screedLoadDone_of_load h ok).trans (congrArg (fun x => State.complete 0x2010 w.ticket x.1 x.2.1 x.2.2) hwork)

/-! The line of a temperature sensor (R275) -/

theorem digitOf_ascii (n : Fin 10) : digitOf (BitVec.ofNat 8 (0x30 + n.val)) = some n.val := by
  revert n
  decide

/-- The sign of a sensor line. -/
def signByte (minus : Bool) : Byte := if minus then 0x2D else 0x2B

section Line
variable {x y a b : Byte} {p q j k : Nat} (hx : digitOf x = some p) (ha : digitOf a = some j) (hb : digitOf b = some k) (minus : Bool)
include hx ha hb

theorem parseTemp_one_digit : parseTemp [0x54, signByte minus, x, 0x2E, a, b, 0x0D, 0x0A] =
    some (if minus then -((100 * p + 10 * j + k : Nat) : Int) else ((100 * p + 10 * j + k : Nat) : Int)) := by
  simp only [parseTemp, BitVec.ofNat_eq_ofNat, hx, ha, hb, Option.bind_some]
  cases minus <;> rfl

theorem parseTemp_two_digits (hy : digitOf y = some q) : parseTemp [0x54, signByte minus, x, y, 0x2E, a, b, 0x0D, 0x0A] =
    some (if minus then -((100 * (10 * p + q) + 10 * j + k : Nat) : Int) else ((100 * (10 * p + q) + 10 * j + k : Nat) : Int)) := by
  simp only [parseTemp, BitVec.ofNat_eq_ofNat, hx, hy, ha, hb, Option.bind_some]
  cases minus <;> rfl

end Line

theorem temperatureLineIsParsed : TemperatureLineIsParsed := by
  intro a b c d minus ch sg v w
  have hv : ((100 * (10 * a.val + b.val) + 10 * c.val + d.val : Nat) : Int) = v := by omega
  have hw : ((100 * b.val + 10 * c.val + d.val : Nat) : Int) = w := by omega
  have two := parseTemp_two_digits (digitOf_ascii a) (digitOf_ascii c) (digitOf_ascii d) minus (digitOf_ascii b)
  have one := parseTemp_one_digit (digitOf_ascii b) (digitOf_ascii c) (digitOf_ascii d) minus
  rw [hv] at two
  rw [hw] at one
  exact ⟨two, one⟩

/-- Settles O15: each event by the lemma of its function, on the branch that the hypotheses select. -/
theorem screedUnitEventsComplete : Obligations.ScreedUnitEventsComplete := ⟨screedEventsComplete, temperatureLineIsParsed⟩

/-! The foreground begins (R208, R209) -/

theorem State.startPass_of_program {s : State} (hloaded : s.screed.active.loaded = true) (hhalted : s.screed.halted = false) :
    s.startPass = { s with screed := { s.screed with passOpen := true, fg := { on := true, pc := s.screed.fgBase } } } := by
  simp only [State.startPass, hloaded, hhalted, Bool.not_false, Bool.and_self, if_true]

theorem State.startPass_of_none {s : State} (hloaded : s.screed.active.loaded = false) :
    s.startPass = { s with screed := { s.screed with passOpen := false, staged := [] } } := by
  simp only [State.startPass, hloaded, Bool.false_and, Bool.false_eq_true, if_false]

/-- Settles O11: the two branches of `State.startPass`. -/
theorem foregroundBeginsAtWordZero : Obligations.ForegroundBeginsAtWordZero := by
  intro s
  refine ⟨fun hloaded hhalted => ?program, fun hloaded => ?none⟩
  case program =>
    rw [State.startPass_of_program hloaded hhalted]
    exact ⟨rfl, rfl⟩
  case none =>
    rw [State.startPass_of_none hloaded]
    exact ⟨rfl, rfl⟩

end Sys2Proof.Machine

/-! PROOFS. The receivers of the audio ports and the rate converters: locks, status blocks, frames (R282–R296). -/
namespace Sys2Proof.Machine

open Sys2Proof.Claims

/-! A port, and what leaves it as it was -/

@[simp] theorem State.occur_audio (n code : Nat) (detail : Bytes) (s : State) : (s.occur n code detail).audio = s.audio :=
  occurN_induction (P := fun t => t.audio = s.audio) (fun _ _ _ h => h) (fun _ _ h => h) (fun _ _ h => h) (fun _ _ h => h)
    (fun _ h => h) 8 n code detail s rfl

@[simp] theorem State.advance_audio (t : Nat) (s : State) : (s.advance t).audio = s.audio := (rfl)

theorem State.aesPort_congr {s t : State} (h : t.audio.aes = s.audio.aes) (n : Nat) : t.aesPort n = s.aesPort n := by
  rw [State.aesPort, h, State.aesPort]

@[simp] theorem State.aesPort_occur (m n code : Nat) (detail : Bytes) (s : State) : (s.occur n code detail).aesPort m = s.aesPort m :=
  State.aesPort_congr (congrArg Audio.aes (State.occur_audio n code detail s)) m

@[simp] theorem State.aesPort_advance (m t : Nat) (s : State) : (s.advance t).aesPort m = s.aesPort m := (rfl)

@[simp] theorem State.aesPort_bumpBy (m unit i k : Nat) (s : State) : (s.bumpBy unit i k).aesPort m = s.aesPort m := (rfl)

@[simp] theorem State.aesPort_bump (m unit i : Nat) (s : State) : (s.bump unit i).aesPort m = s.aesPort m := (rfl)

theorem State.aesPort_modAes (n m : Nat) (f : AesPort → AesPort) (s : State) :
    (s.modAes n f).aesPort m = if m = n ∧ m < s.audio.aes.length then f (s.aesPort m) else s.aesPort m := getD_modAt n m f s.audio.aes {}

theorem State.aesPort_modAes_same {n : Nat} {s : State} (h : n < s.audio.aes.length) (f : AesPort → AesPort) :
    (s.modAes n f).aesPort n = f (s.aesPort n) := by
  rw [State.aesPort_modAes, if_pos ⟨rfl, h⟩]

/-- What a function keeps of a port, its update keeps of every port. -/
theorem State.aesPort_modAes_field {α : Type} (g : AesPort → α) {f : AesPort → AesPort} (hf : ∀ p, g (f p) = g p) (n m : Nat)
    (s : State) : g ((s.modAes n f).aesPort m) = g (s.aesPort m) := by
  rw [State.aesPort_modAes]
  split
  · exact hf _
  · rfl

@[simp] theorem State.modAes_aes_length (n : Nat) (f : AesPort → AesPort) (s : State) :
    (s.modAes n f).audio.aes.length = s.audio.aes.length := length_modAt n f s.audio.aes

/-! Locks of the receivers (R284) -/

theorem State.aesLock_of_unlocked {n rate : Nat} {s : State} (hreceives : s.aesReceives n = true) (hlocked : (s.aesPort n).locked = false)
    (hlow : 32000 ≤ rate) (hhigh : rate ≤ 192000) :
    let t := s.modAes n (fun p => { p with locked := true, rate := rate, blockSeq := 0 })
    s.aesLock n rate = t.occur 82 n (aesLockDetail (if t.aesMismatch n then 2 else 1) rate) := by
  simp only [State.aesLock, within, hreceives, hlocked, hlow, hhigh, decide_true, Bool.and_self, Bool.not_true, Bool.false_eq_true,
    or_self, if_false]

theorem State.aesLockLoss_of_locked {n : Nat} {s : State} (hserves : s.power.mode.serves = true) (hlocked : (s.aesPort n).locked = true) :
    s.aesLockLoss n = ((s.modAes n (fun p => { p with locked := false })).bump 0x23 (6 * n + 5)).occur 82 n
      (le 1 0 ++ le 4 (s.aesPort n).rate) := by
  have hrate := State.aesPort_modAes_field AesPort.rate (f := fun p => { p with locked := false }) (fun _ => rfl) n n s
  simp only [State.aesLockLoss, aesCounter, aesLockDetail, hserves, hlocked, Bool.not_true, Bool.false_eq_true, or_self, if_false,
    State.aesPort_bump, hrate]

/-! Status blocks (R287) -/

section Channel
variable {n ch seq : Nat} {b : Bytes} {s : State}

theorem State.channelBlock_aes_of_fails (h : csPasses b = false) : (s.channelBlock n ch seq b).audio.aes = s.audio.aes := by
  simp only [State.channelBlock, h, Bool.not_false, if_true, State.occur_audio, State.bump_audio]

theorem State.channelBlock_aes_of_passes (h : csPasses b = true) : (s.channelBlock n ch seq b).audio.aes =
    (s.modAes n (fun p => if ch = 0 then { p with csA := b, gotA := true } else { p with csB := b, gotB := true })).audio.aes := by
  rw [State.channelBlock, h, if_neg (by decide)]
  extract_lets had old t
  split
  · rw [State.occur_audio]
  · rfl

@[simp] theorem State.channelBlock_aes_length (n ch seq : Nat) (b : Bytes) (s : State) :
    (s.channelBlock n ch seq b).audio.aes.length = s.audio.aes.length := by
  cases h : csPasses b with
  | false => rw [State.channelBlock_aes_of_fails h]
  | true => rw [State.channelBlock_aes_of_passes h, State.modAes_aes_length]

theorem State.channelBlock_port_of_passes (h : csPasses b = true) (hlen : n < s.audio.aes.length) :
    (s.channelBlock n ch seq b).aesPort n =
      if ch = 0 then { s.aesPort n with csA := b, gotA := true } else { s.aesPort n with csB := b, gotB := true } := by
  rw [State.aesPort_congr (State.channelBlock_aes_of_passes h), State.aesPort_modAes_same hlen]

end Channel

section Block
variable {n : Nat} {a b : Bytes} {s : State} (h : Locked n s)
include h

theorem State.aesBlock_of_locked : s.aesBlock n a b =
    let seq := wrap32 ((s.aesPort n).blockSeq + b01 (csPasses (padTo 24 a) || csPasses (padTo 24 b)))
    let t := s.modAes n (fun p => { p with
      blockSeq := seq, crcGood := csPasses (padTo 24 a) && csPasses (padTo 24 b), consumer := !bit 0 (fieldAt 0 1 (padTo 24 a)) })
    (t.channelBlock n 0 seq (padTo 24 a)).channelBlock n 1 seq (padTo 24 b) := by
  obtain ⟨hreceives, hlocked, -⟩ := h
  simp only [State.aesBlock, hreceives, hlocked, Bool.not_true, Bool.false_eq_true, or_self, if_false]

/-- R287, R288: both channels' status is accepted, and the block counts. -/
theorem State.aesBlock_port_of_passes (ha : csPasses (padTo 24 a) = true) (hb : csPasses (padTo 24 b) = true) :
    (s.aesBlock n a b).aesPort n = { s.aesPort n with
      blockSeq := wrap32 ((s.aesPort n).blockSeq + 1), crcGood := true, consumer := !bit 0 (fieldAt 0 1 (padTo 24 a))
      csA := padTo 24 a, gotA := true, csB := padTo 24 b, gotB := true } := by
  have ⟨_, _, hn⟩ := h
  have hlen : ∀ f, n < (s.modAes n f).audio.aes.length := fun f => by rw [State.modAes_aes_length]; exact hn
  rw [State.aesBlock_of_locked h, ha, hb]
  dsimp only
  rw [State.channelBlock_port_of_passes hb (by rw [State.channelBlock_aes_length]; exact hlen _),
    State.channelBlock_port_of_passes ha (hlen _), State.aesPort_modAes_same hn]
  rfl

/-- R287, R288: no status is accepted, and the block does not count. -/
theorem State.aesBlock_port_of_fails (ha : csPasses (padTo 24 a) = false) (hb : csPasses (padTo 24 b) = false) :
    (s.aesBlock n a b).aesPort n = { s.aesPort n with
      blockSeq := wrap32 (s.aesPort n).blockSeq, crcGood := false, consumer := !bit 0 (fieldAt 0 1 (padTo 24 a)) } := by
  have ⟨_, _, hn⟩ := h
  rw [State.aesBlock_of_locked h, ha, hb]
  dsimp only
  rw [State.aesPort_congr (State.channelBlock_aes_of_fails hb), State.aesPort_congr (State.channelBlock_aes_of_fails ha),
    State.aesPort_modAes_same hn]
  rfl

end Block

/-! Frames of an AES3 port (R282, R289, R290) -/

/-- R290: a user bit changes of a port the receive buffer and its overflow run alone. -/
theorem State.aesPort_userBitIn_field {α : Type} (g : AesPort → α) (hg : ∀ p l r, g { p with userRx := l, ovfRun := r } = g p)
    (n m : Nat) (b : Bool) (s : State) : g ((s.userBitIn n b).aesPort m) = g (s.aesPort m) := by
  have hfull : g (((s.bump 0x23 (aesCounter n 3)).modAes n (fun p => { p with ovfRun := true })).aesPort m) = g (s.aesPort m) :=
    State.aesPort_modAes_field g (fun p => hg p p.userRx true) n m _
  unfold State.userBitIn
  dsimp only
  split
  · exact State.aesPort_modAes_field g (fun p => hg p _ false) n m s
  · split
    · exact hfull
    · rw [State.aesPort_occur]
      exact hfull

@[simp] theorem State.streamLate_aes (id first k : Nat) (s : State) : (s.streamLate id first k).audio.aes = s.audio.aes := by
  unfold State.streamLate
  dsimp only
  split
  · rfl
  · split
    · rfl
    · rw [State.occur_audio]
      rfl

@[simp] theorem State.storeFrame_aes (id i : Nat) (words : List Nat) (s : State) : (s.storeFrame id i words).audio.aes = s.audio.aes := by
  unfold State.storeFrame
  dsimp only
  split
  · exact State.streamLate_aes _ _ _ _
  · split
    · exact State.streamLate_aes _ _ _ _
    · rfl

/-- R289: of a frame a port keeps the last good sample of each channel, whatever its user bits and its storing do besides. -/
theorem State.aesFrame_good {n : Nat} {s : State} (h : Locked n s) (t : Nat) (f : AesFrame) :
    let mode := bits 5 4 ((s.advance t).param (0x2300 + n))
    (((s.aesFrame n t f).aesPort n).goodA, ((s.aesFrame n t f).aesPort n).goodB) =
      ((validSample mode (f.wordA.toNat * 256) (s.aesPort n).goodA (f.validityA || f.parityA)).2,
       (validSample mode (f.wordB.toNat * 256) (s.aesPort n).goodB (f.validityB || f.parityB)).2) := by
  obtain ⟨hreceives, hlocked, hlen⟩ := h
  have hskip : ¬ ((!s.aesReceives n) = true ∨ (!(s.aesPort n).locked) = true) := by rw [hreceives, hlocked]; decide
  intro mode
  rw [State.aesFrame, if_neg hskip]
  extract_lets u mode' p badA badB a b kept parity validity heard
  have hkept : kept.aesPort n = { s.aesPort n with goodA := a.2, goodB := b.2 } := State.aesPort_modAes_same (s := u) hlen _
  have hheard : ((heard.aesPort n).goodA, (heard.aesPort n).goodB) = ((kept.aesPort n).goodA, (kept.aesPort n).goodB) :=
    (State.aesPort_userBitIn_field (fun p => (p.goodA, p.goodB)) (fun _ _ _ => rfl) n n f.userB _).trans
      (State.aesPort_userBitIn_field (fun p => (p.goodA, p.goodB)) (fun _ _ _ => rfl) n n f.userA validity)
  rw [hkept] at hheard
  split
  · exact hheard
  · rw [State.aesPort_congr (State.storeFrame_aes _ _ _ _)]
    exact hheard

/-! Frames of a TDM port (R282, R293) -/

@[simp] theorem State.slaveFrame_ins (n i : Nat) (s : State) : (s.slaveFrame n i).audio.ins = s.audio.ins := by
  unfold State.slaveFrame
  dsimp only
  split
  · rfl
  · split <;> rfl

section Tdm
variable {n t period : Nat} {slots : List (BitVec 32)} {s : State} (hserves : s.power.mode.serves = true) (hn : n < s.tdmCount)
  (hon : (s.tdmPort n).rx.on = true)
include hserves hn hon

/-- R293: a slave takes nothing from a frame of the wrong length, and counts it. -/
theorem State.tdmFrame_of_misfit (hslave : bit 0 (s.param (0x2400 + n)) = false)
    (hperiod : period ≠ 32 * tdmSlotCount (bits 2 1 (s.param (0x2400 + n))) (s.param 0x2000)) :
    let a := (s.advance t).modTdm n (fun p => { p with period := period })
    s.tdmFrame n t period slots =
      (a.slaveFrame n (t * a.fs / qtSec - bits 15 8 (s.param (0x2400 + n)))).bump 0x24 (2 * n + 1) := by
  simp only [State.tdmFrame, hserves, Nat.not_le.mpr hn, hon, hslave, hperiod, ne_eq, not_false_eq_true, and_self, Bool.true_or,
    Bool.not_true, Bool.not_false, Bool.false_eq_true, or_self, if_false, if_true]

/-- R282, R293: the enabled slots of a frame that fits join the port's stream at its index. -/
theorem State.tdmFrame_of_fit :
    let cfg := s.param (0x2400 + n)
    let count := tdmSlotCount (bits 2 1 cfg) (s.param 0x2000)
    let a := (s.advance t).modTdm n (fun p => { p with period := period })
    let a := if bit 0 cfg = true then a else a.slaveFrame n (t * a.fs / qtSec - bits 15 8 cfg)
    let i := a.frameIndex t 2
    (a.tdmPort n).rx = (s.tdmPort n).rx → (bit 0 cfg = true ∨ period = 32 * count) → (s.tdmPort n).rx.s0 ≤ i → a.tdmBound n = false →
    s.tdmFrame n t period slots = a.storeFrame (0x10 + n) i ((List.range 16).map (fun k =>
      if k < count ∧ bit k (bits 15 0 (a.param (0x2404 + n))) = true then slotWord (bit 5 cfg) (slots.getD k 0).toNat else 0)) := by
  intro cfg count u a i hrx hfit hs0 hbound
  have hruns : ¬ ((!s.power.mode.serves) = true ∨ s.tdmCount ≤ n ∨
      (!((s.tdmPort n).rx.on || (s.tdmPort n).tx.on || !(s.tdmPort n).pipe.isEmpty)) = true) := by
    rw [hserves, hon]
    simp only [Bool.not_true, Bool.true_or, Bool.false_eq_true, Nat.not_le.mpr hn, or_self, not_false_eq_true]
  have hlength : ¬ ((!bit 0 cfg) = true ∧ period ≠ 32 * count) := by
    rintro ⟨hslave, hperiod⟩
    exact hfit.elim (fun hmaster => absurd hslave (by rw [hmaster]; decide)) hperiod
  have hstores : ¬ ((!(a.tdmPort n).rx.on) = true ∨ i < (a.tdmPort n).rx.s0 ∨ a.tdmBound n = true) := by
    rw [hrx, hon, hbound]
    simp only [Bool.not_true, Bool.false_eq_true, Nat.not_lt.mpr hs0, or_self, not_false_eq_true]
  rw [State.tdmFrame]
  exact (if_neg hruns).trans ((if_neg hlength).trans (if_neg hstores))

end Tdm

/-! The converters (R296) -/

section Converter
variable {k : Nat} {s : State} (hserves : s.power.mode.serves = true)
include hserves

theorem State.asrcLock_of_input {ratio : Nat} (hk : k < s.asrcCount) (hinput : s.inputThere (s.audio.asrc.getD k {}) = true)
    (hlocked : (s.audio.asrc.getD k {}).locked = false) (hratio : ratioLegal ratio = true) :
    s.asrcLock k ratio = ((s.setConverter k true ratio).bump 0x22 (2 * k)).occur 80 k (le 4 ratio) := by
  simp only [State.asrcLock, hserves, Nat.not_le.mpr hk, hinput, hlocked, hratio, Bool.not_true, Bool.false_eq_true, or_self, if_false]

theorem State.asrcUnlock_of_locked (hlocked : (s.audio.asrc.getD k {}).locked = true) :
    let ratio := (s.audio.asrc.getD k {}).ratio
    s.asrcUnlock k = ((s.setConverter k false ratio).bump 0x22 (2 * k + 1)).occur 81 k (le 4 ratio) := by
  simp only [State.asrcUnlock, hserves, hlocked, Bool.not_true, Bool.false_eq_true, or_self, if_false]

end Converter

/-- Settles O45: each row by the lemma of its function, on the branch that the hypotheses select. -/
theorem audioRowsComplete : Obligations.AudioRowsComplete := by
  intro s n p inst period f a b rate slots
  refine ⟨fun hreceives hlocked hlow hhigh =>
      ⟨_, congrArg Host.Outcome.next (State.aesLock_of_unlocked hreceives hlocked hlow hhigh), ?lockState⟩,
    fun hserves hlocked _ => congrArg Host.Outcome.next (State.aesLockLoss_of_locked hserves hlocked),
    fun h ha hb => ⟨_, rfl, ?statusAccepted⟩, fun h ha hb => ⟨_, rfl, ?statusRefused⟩,
    fun h hpa hpb hva hvb => ⟨_, rfl, ?goodSamples⟩,
    fun hserves hp hon _ hslave hperiod =>
      ⟨_, congrArg Host.Outcome.next (State.tdmFrame_of_misfit hserves hp hon hslave hperiod), ?noStream⟩,
    ?frameStored,
    fun hserves hn hinput hlocked hratio =>
      congrArg Host.Outcome.next (State.asrcLock_of_input hserves hn hinput hlocked hratio),
    fun hserves hlocked => congrArg Host.Outcome.next (State.asrcUnlock_of_locked hserves hlocked)⟩
  case lockState =>
    split
    · exact .inr rfl
    · exact .inl rfl
  case statusAccepted =>
    rw [State.aesBlock_port_of_passes h ha hb]
    exact ⟨rfl, rfl, rfl, rfl⟩
  case statusRefused =>
    rw [State.aesBlock_port_of_fails h ha hb]
    exact ⟨rfl, rfl, rfl⟩
  case goodSamples =>
    have hgood := State.aesFrame_good h inst f
    rw [hpa, hpb, hva, hvb] at hgood
    exact Prod.mk.inj hgood
  case noStream =>
    rw [State.bump_audio, State.slaveFrame_ins]
    rfl
  case frameStored =>
    intro cfg count u a i hserves hp hon hrx hfit hs0 hbound
    exact congrArg Host.Outcome.next (State.tdmFrame_of_fit hserves hp hon hrx hfit hs0 hbound)

end Sys2Proof.Machine

/-! PROOFS. The Steward's rows: a sensor scan in Watch (R316, R489, R490). -/
namespace Sys2Proof.Machine
open Sys2Proof.Claims

/-- A radio part in Watch, whose radio calibrated at 0 °C. -/
def watching : State := { power := { mode := .watch }, radio := { calibrated := true } }

/-- A request that no clause on the mailbox applies to. -/
def emptyMail : Mail := { kind := 0, seq := 0, entries := 0, body := [], ok := false }

/-- `watching` with the scan counted and the two readings of the power unit taken (R489). -/
def watchingCounted : State :=
  { watching with steward := { watching.steward with scanSeq := 1 }, power := { watching.power with
    vhold := (watching.sensor 20).value.toNat, vddIo33 := (watching.sensor 11).value.toNat } }

theorem modAt_eq_self {α : Type} {i : Nat} {f : α → α} {l : List α} (h : ∀ a ∈ l, f a = a) : modAt i f l = l := by
  induction l generalizing i with
  | nil => cases i <;> rfl
  | cons a r ih =>
    cases i
    · rw [modAt, h a (List.mem_cons_self ..)]
    · rw [modAt, ih (fun b hb => h b (List.mem_cons_of_mem _ hb))]

theorem sensors_watching : watching.steward.sensors = List.replicate 26 {} := rfl

theorem sensor_watching (n : Nat) : watching.sensor n = {} := by
  rw [State.sensor, sensors_watching, List.getD_eq_getElem?_getD, List.getElem?_replicate]
  split <;> rfl

theorem setSensor_watching (n : Nat) : watching.setSensor n {} = watching := by
  have h : modAt n (fun _ => ({} : Sensor)) watching.steward.sensors = watching.steward.sensors :=
    modAt_eq_self (fun a ha => (List.eq_of_mem_replicate (n := 26) ha).symm)
  unfold State.setSensor
  rw [h]

theorem sensorValue_watching (n : Nat) : watching.sensorValue n 0x8000 = -32768 := by
  unfold State.sensorValue
  split
  · rfl
  · split <;> rfl

/-- R489: a sensor without a value is within its limits and moves neither MIN nor MAX. -/
theorem scanSensor_watching (n : Nat) : watching.scanSensor n 0x8000 = watching := by
  simp only [State.scanSensor, sensor_watching, sensorValue_watching, outside, if_true]
  exact setSensor_watching n

theorem scan_watching (l : List Nat) : l.foldl (fun u n => u.scanSensor n ((([] : List Nat)).getD n 0x8000)) watching = watching := by
  induction l with
  | nil => rfl
  | cons n r ih => rw [List.foldl_cons, List.getD_nil, scanSensor_watching, ih]

/-- R316: in Watch the scan hands the radio's die temperature on, so a calibration is due. -/
theorem sensorScan_watching : watching.sensorScan [] = (watchingCounted.temperatureCal (-32768)).thermal := by
  have hvalue : (watchingCounted.sensor (Config.radioPoint % 8)).value = -32768 := congrArg Sensor.value (sensor_watching _)
  unfold State.sensorScan
  rw [if_neg (by decide), scan_watching, ← hvalue]
  rfl

theorem cal_sensorScan_watching : (watching.sensorScan []).radio.cal = some 1 := by
  rw [sensorScan_watching]
  decide

theorem cal_thermal_watching : watchingCounted.thermal.radio.cal = none := by decide

/-- Refutes O40: in Watch, which does not serve, a scan also makes a calibration of the radio due (R316); the clause on the scan in the
modes that do not serve leaves that out. -/
theorem not_stewardRowsComplete : ¬ Obligations.StewardRowsComplete := by
  unfold Obligations.StewardRowsComplete
  intro h
  obtain ⟨-, -, -, -, -, -, -, -, -, -, -, -, hscan, -⟩ := h watching watching emptyMail true [] []
  have hnext : exec (.sensorScan []) watching = .next watchingCounted.thermal :=
    hscan watching (.inl (by decide)) (scan_watching _).symm rfl
  have hscanned : watching.sensorScan [] = watchingCounted.thermal := Host.Outcome.next.inj hnext
  have hcal := cal_sensorScan_watching
  rw [hscanned, cal_thermal_watching] at hcal
  exact absurd hcal (by decide)

end Sys2Proof.Machine

/-! PROOFS. The radio front-end: states, calibration, tokens, mismatch and coexistence (R314–R333). -/
namespace Sys2Proof.Machine
open Sys2Proof.Claims

/-! ## What an occurrence leaves unchanged (R109) -/

section Occur
variable (n code : Nat) (detail : Bytes) (s : State)

@[simp] theorem State.occur_radio : (s.occur n code detail).radio = s.radio :=
  occurN_induction (P := fun t => t.radio = s.radio) (fun _ _ _ h => h) (fun _ _ h => h) (fun _ _ h => h) (fun _ _ h => h)
    (fun _ h => h) 8 n code detail s rfl

@[simp] theorem State.occur_up : (s.occur n code detail).up = s.up :=
  occurN_induction (P := fun t => t.up = s.up) (fun _ _ _ h => h) (fun _ _ h => h) (fun _ _ h => h) (fun _ _ h => h)
    (fun _ h => h) 8 n code detail s rfl

end Occur

/-! ## The sub-bands of the radio (R312, R324, R325) -/

theorem State.subBand_congr {s t : State} (h : t.radio = s.radio) (n : Nat) : t.band_ n = s.band_ n := by
  simp only [State.band_, h]

theorem State.subBand_modSubBand {n : Nat} (f : SubBand → SubBand) {s : State} (hn : n < s.radio.bands.length) :
    (s.modSubBand n f).band_ n = f (s.band_ n) :=
  (getD_modAt n n f s.radio.bands {}).trans (if_pos ⟨rfl, hn⟩)

/-- What BURST_END measures in a sub-band (R324): the VSWR, the forward and the reflected power. -/
def SubBand.measured (b : SubBand) : Nat × Int × Int := (b.vswr, b.forward, b.reflected)

theorem State.measured_modSubBand {f : SubBand → SubBand} (hf : ∀ b, (f b).measured = b.measured) (n m : Nat) (s : State) :
    ((s.modSubBand n f).band_ m).measured = (s.band_ m).measured := by
  have h : (s.modSubBand n f).band_ m = if m = n ∧ m < s.radio.bands.length then f (s.band_ m) else s.band_ m :=
    getD_modAt n m f s.radio.bands {}
  rw [h]
  split
  · exact hf _
  · rfl

/-- `t` is `s` with other contents of as many sub-bands: the rest of the radio and the uptime stand. -/
def BandsOnly (s t : State) : Prop :=
  t.up = s.up ∧ ∃ l : List SubBand, l.length = s.radio.bands.length ∧ t.radio = { s.radio with bands := l }

theorem BandsOnly.of_radio {s t : State} (hup : t.up = s.up) (h : t.radio = s.radio) : BandsOnly s t := ⟨hup, _, rfl, h⟩

theorem BandsOnly.trans {s t u : State} : BandsOnly s t → BandsOnly t u → BandsOnly s u
  | ⟨hup, l, hl, hr⟩, ⟨hup', l', hl', hr'⟩ => ⟨hup'.trans hup, l', by rw [hl', hr, hl], by rw [hr', hr]⟩

theorem bandsOnly_modSubBand (n : Nat) (f : SubBand → SubBand) (s : State) : BandsOnly s (s.modSubBand n f) :=
  ⟨rfl, _, length_modAt n f _, rfl⟩

theorem bandsOnly_bump (unit i : Nat) (s : State) : BandsOnly s (s.bump unit i) := .of_radio rfl rfl

theorem bandsOnly_occur (n code : Nat) (detail : Bytes) (s : State) : BandsOnly s (s.occur n code detail) :=
  .of_radio (State.occur_up ..) (State.occur_radio ..)

theorem bandsOnly_tune (mode sub : Nat) (reflected : Int) (s : State) : BandsOnly s (s.tune mode sub reflected) := by
  unfold State.tune
  split
  · exact .of_radio rfl rfl
  · exact (BandsOnly.of_radio rfl rfl : BandsOnly s s.draw).trans
      ((bandsOnly_modSubBand ..).trans (bandsOnly_bump ..))

@[simp] theorem State.tune_off (sub : Nat) (reflected : Int) (s : State) : s.tune 0 sub reflected = s := if_pos rfl

/-- R325: entering REDUCED and judging a burst write the mismatch state alone, never what was measured. -/
theorem reduce_keeps (sub vswr : Nat) (s : State) :
    BandsOnly s (s.reduce sub vswr) ∧ ∀ m, ((s.reduce sub vswr).band_ m).measured = (s.band_ m).measured := by
  refine ⟨(bandsOnly_modSubBand ..).trans ((bandsOnly_bump ..).trans (bandsOnly_occur ..)), fun m => ?_⟩
  rw [State.reduce, State.vswrEvent, State.subBand_congr (State.occur_radio ..), State.subBand_congr (State.bump_radio ..),
    State.measured_modSubBand (fun _ => by rfl)]

theorem vswrEvent_modSubBand_keeps (ev code sub vswr n : Nat) {f : SubBand → SubBand} (hf : ∀ b, (f b).measured = b.measured) (s : State) :
    BandsOnly s ((s.modSubBand n f).vswrEvent ev code sub vswr) ∧
      ∀ m, (((s.modSubBand n f).vswrEvent ev code sub vswr).band_ m).measured = (s.band_ m).measured :=
  ⟨(bandsOnly_modSubBand ..).trans (bandsOnly_occur ..), fun m => by
    rw [State.vswrEvent, State.subBand_congr (State.occur_radio ..), State.measured_modSubBand hf]⟩

theorem judge_keeps (sub vswr reduce : Nat) (probe : Bool) (s : State) :
    BandsOnly s (s.judge sub vswr reduce probe) ∧ ∀ m, ((s.judge sub vswr reduce probe).band_ m).measured = (s.band_ m).measured := by
  have same : BandsOnly s s ∧ ∀ m, (s.band_ m).measured = (s.band_ m).measured := ⟨.of_radio rfl rfl, fun _ => rfl⟩
  unfold State.judge
  extract_lets b high t
  have ht : BandsOnly s t ∧ ∀ m, (t.band_ m).measured = (s.band_ m).measured := vswrEvent_modSubBand_keeps _ _ _ _ _ (fun _ => by rfl) s
  split
  · split
    · split
      · have hr := reduce_keeps sub vswr t
        exact ⟨ht.1.trans hr.1, fun m => (hr.2 m).trans (ht.2 m)⟩
      · exact ht
    · exact same
  · split
    · split
      · exact reduce_keeps sub vswr s
      · exact same
    · split
      · split
        · exact ⟨bandsOnly_modSubBand .., fun m => State.measured_modSubBand (fun _ => by rfl) sub m s⟩
        · exact vswrEvent_modSubBand_keeps _ _ _ _ _ (fun _ => by rfl) s
      · exact ⟨bandsOnly_modSubBand .., fun m => State.measured_modSubBand (fun _ => by rfl) sub m s⟩

/-! ## The synthesiser of the radio (R314, R448) -/

@[simp] theorem State.steerRadio_radio (s : State) : s.steerRadio.radio = s.radio := by
  unfold State.steerRadio
  split
  · rfl
  · extract_lets v c t
    split <;> rfl

@[simp] theorem State.steerRadio_up (s : State) : s.steerRadio.up = s.up := by
  unfold State.steerRadio
  split
  · rfl
  · extract_lets v c t
    split <;> rfl

/-- R314: a new channel leaves the accepted bursts, the blanking and the sub-bands. -/
theorem channelChange_keeps (s : State) :
    s.channelChange.up = s.up ∧ s.channelChange.radio.bursts = s.radio.bursts ∧ s.channelChange.radio.blanks = s.radio.blanks ∧
      s.channelChange.radio.bands = s.radio.bands := by
  unfold State.channelChange
  split
  · exact ⟨rfl, rfl, rfl, rfl⟩
  · split
    · simp only [State.steerRadio_radio, State.steerRadio_up]
      exact ⟨rfl, rfl, rfl, rfl⟩
    · simp only [State.steerRadio_radio, State.steerRadio_up]
      exact ⟨rfl, rfl, rfl, rfl⟩

theorem State.channelChange_of_tuned {s : State} (h : s.radio.plan.key = s.radio.tuned) : s.channelChange = s := if_pos (.inl h)

/-! ## Calibration and sleep (R314, R316, R317) -/

/-- R317: a due calibration that may begin takes the chain to CAL for at least 260 µs; an open receive window is given up. -/
theorem calStart_of_due {s : State} (hpart : s.part.radio = true) (hcal : s.radio.cal ≠ none) (h6 : s.radio.state ≠ 6)
    (h5 : s.radio.state ≠ 5) (hfree : s.radio.immediate = true ∨ s.idleGap = true) (hserves : s.power.mode.serves = true)
    (hallowed : s.calAllowed = true) (hwindow : s.modem.window = none) :
    s.calStart.radio.state = 6 ∧ s.up + 260 * qtUs ≤ s.calStart.radio.readyAt ∧ s.calStart.modem.window = none := by
  have hdue : s.part.radio ∧ s.radio.cal.isSome ∧ s.radio.state ≠ 6 ∧ s.radio.state ≠ 5 ∧ (s.radio.immediate || s.idleGap) ∧
      s.calAllowed ∧ s.power.mode.serves :=
    ⟨hpart, Option.isSome_iff_ne_none.mpr hcal, h6, h5, Bool.or_eq_true_iff.mpr hfree, hallowed, hserves⟩
  have hbase : s.up ≤ if within 1 2 s.radio.state then s.standbyBy else max s.radio.readyAt s.up := by
    unfold State.standbyBy
    split
    · split <;> omega
    · omega
  unfold State.calStart
  simp only [hdue, hwindow, Option.isSome_none, if_true, Bool.false_eq_true, if_false, and_self, ne_eq, not_false_eq_true, true_and, and_true]
  exact Nat.add_le_add_right hbase _

/-- R316: the end of a calibration that no command waits for. -/
theorem calComplete_of_untracked {s : State} (temp : Int) (vco : Nat) (h6 : s.radio.state = 6) (hticket : s.radio.calTicket = none)
    (hmode : s.power.mode ≠ .watch) :
    s.calComplete temp vco =
      let mode := radioPfd s.clocks.refHz (radioVco s.radio.plan)
      let m := (s.tuneRadio mode).measureDc
      ((({ m with radio := { m.radio with
        state := 3, calibrated := true, calTemp := temp, vcoBand := vco, cal := none, immediate := false, calTicket := none
        pfd := Table.insert m.radio.plan.key mode m.radio.pfd } } : State).bump 0x30 (9 + s.radio.cal.getD 0)).occur 88
        (s.radio.cal.getD 0) (leInt 2 temp ++ le 1 vco)) := by
  unfold State.calComplete
  rw [if_neg (fun h => h h6), if_neg hmode, hticket]

theorem radioIdleSleep_of_idle {s : State} (hlow : 2 ≤ s.radio.state) (hhigh : s.radio.state ≤ 4) (hbursts : s.radio.bursts = [])
    (hwindow : s.modem.window = none) (hcal : s.radio.cal = none) :
    s.radioIdleSleep = { s with radio := { s.radio with state := 1 } } := by
  have hidle : within 2 4 s.radio.state = true := by simp [within, hlow, hhigh]
  exact if_pos ⟨hidle, by rw [hbursts]; rfl, by rw [hwindow]; rfl, by rw [hcal]; rfl⟩

/-! ## Tokens (R329) -/

theorem State.tokenBinRoll_minute (s : State) : s.tokenBinRoll.radio.minute = s.tokenBinRoll.qt / (60 * qtSec) := rfl

theorem State.le_tokenBinRoll_qt (s : State) : (s.radio.minute + 1) * (60 * qtSec) ≤ s.tokenBinRoll.qt :=
  Nat.le_trans (Nat.le_max_right _ _) (Nat.le_max_right s.qt (max s.qt ((s.radio.minute + 1) * (60 * qtSec))))

theorem State.length_bands_tokenBinRoll (s : State) : s.tokenBinRoll.radio.bands.length = s.radio.bands.length := by
  simp [State.tokenBinRoll, State.advance]

theorem State.bins_tokenBinRoll {n : Nat} {s : State} (hn : n < s.radio.bands.length) :
    (s.tokenBinRoll.band_ n).bins = rollBins (s.tokenBinRoll.radio.minute - s.radio.minute) (s.band_ n).bins := by
  simp [State.tokenBinRoll, State.band_, State.advance, hn]

theorem rollBins_one (l : List Nat) : rollBins 1 l = 0 :: l.take 60 := rfl

/-! ## Coexistence (R332, R333) -/

/-- R333: the grant decides of nothing else by which EXT_BLANK is reckoned. -/
theorem State.extBlank_coexGnt {gnt : Bool} {s : State} (h : s.part.radio = true) :
    (s.coexGnt gnt).extBlank = (s.radioOn && bit 2 (s.radioParam 0x3007) && !gnt && !s.coexReq) := by
  rw [State.coexGnt, if_pos h]
  rfl

/-! ## Mismatch (R324, R325) -/

/-- A sub-band that a mismatch stops now (R325). -/
def State.stoppedBand (s : State) (b : SubBand) : SubBand :=
  { b with state := 2, probe := false, stoppedAt := s.up, retry := s.param 0x3004, goodBursts := 0 }

theorem vswrStop_of_onAir {s : State} {vswr : Nat} {x : Burst} {r : List Burst} (hbursts : s.radio.bursts = x :: r)
    (hair : x.onAir = true) (hcut : x.cut = false) (hvswr : 600 < vswr) :
    s.vswrStop vswr = (({ s with radio := { s.radio with
      bands := modAt x.subband s.stoppedBand s.radio.bands, bursts := { x with cut := true } :: r } } : State).bump 0x30 14).vswrEvent
        91 1 x.subband vswr := by
  have hgoes : ¬ (!x.onAir ∨ x.cut ∨ vswr ≤ 600) := by simp [hair, hcut, hvswr]
  have hcutFirst : modAt 0 (fun b : Burst => { b with cut := true }) s.radio.bursts = { x with cut := true } :: r := by
    rw [hbursts, modAt]
  rw [State.vswrStop]
  split
  · simp_all
  · next y l hy =>
    obtain ⟨rfl, rfl⟩ : x = y ∧ r = l := by simpa [hy] using hbursts.symm
    rw [if_neg hgoes, ← hcutFirst]
    rfl

theorem vswrStop_stops {s : State} {vswr : Nat} {x : Burst} {r : List Burst} (hbursts : s.radio.bursts = x :: r)
    (hair : x.onAir = true) (hcut : x.cut = false) (hvswr : 600 < vswr) (hsub : x.subband < s.radio.bands.length) :
    ((s.vswrStop vswr).band_ x.subband).state = 2 ∧ ((s.vswrStop vswr).band_ x.subband).stoppedAt = s.up ∧
      (s.vswrStop vswr).radio.bursts = { x with cut := true } :: r := by
  rw [vswrStop_of_onAir hbursts hair hcut hvswr, State.vswrEvent, State.occur_radio, State.subBand_congr (State.occur_radio ..)]
  have hband := State.subBand_modSubBand s.stoppedBand hsub
  exact ⟨congrArg SubBand.state hband, congrArg SubBand.stoppedAt hband, rfl⟩

/-- The end of the ramp-down of a burst has come (R325). -/
def State.rampedDown (x : Burst) (s : State) : State :=
  s.advance (if x.cut then s.qt + (2 + x.ramp) * qtUs else x.start + x.airtime * qtUs - x.ramp * qtUs)

/-- The state in which BURST_END judges its burst (R324): the time is its end, the tuner has moved, and the figures are stored. -/
def State.burstMeasured (x : Burst) (vswr : Nat) (forward reflected : Int) (s : State) : State :=
  let s := (s.rampedDown x).tune x.tuner x.subband reflected
  s.modSubBand x.subband (fun b => { b with vswr := vswr, forward := forward, reflected := reflected, lastEnd := some s.up })

theorem State.burstMeasured_radio (x : Burst) (vswr : Nat) (forward reflected : Int) (s : State) :
    ∃ l : List SubBand, l.length = s.radio.bands.length ∧
      (s.burstMeasured x vswr forward reflected).radio = { s.radio with bands := l } := by
  exact ((bandsOnly_tune x.tuner x.subband reflected (s.rampedDown x)).trans (bandsOnly_modSubBand ..)).2

theorem State.measured_burstMeasured {x : Burst} (vswr : Nat) (forward reflected : Int) {s : State} (htuner : x.tuner = 0)
    (hsub : x.subband < s.radio.bands.length) :
    ((s.burstMeasured x vswr forward reflected).band_ x.subband).measured = (vswr, forward, reflected) := by
  unfold State.burstMeasured
  rw [htuner]
  simp only [State.tune_off]
  rw [State.subBand_modSubBand (s := s.rampedDown x) _ hsub]
  rfl

/-- BURST_END, by the state that it judges (R324, R325). -/
theorem burstEnd_of_onAir {s : State} {vswr : Nat} {forward reflected : Int} {x : Burst} {r : List Burst}
    (hbursts : s.radio.bursts = x :: r) (hair : x.onAir = true) :
    ∃ t, BandsOnly (s.burstMeasured x vswr forward reflected) t ∧
      (∀ m, (t.band_ m).measured = ((s.burstMeasured x vswr forward reflected).band_ m).measured) ∧
      s.burstEnd vswr forward reflected = ({ t with radio := { t.radio with
        bursts := r, state := if t.radio.state = 5 then 3 else t.radio.state
        blanks := t.radio.blanks.filter (fun r => decide (t.up < r.2 + 40 * qtMs)) ++ [(x.rampAt - x.guard, t.up + x.guard)] } } :
        State).channelChange := by
  refine ⟨if x.cut then s.burstMeasured x vswr forward reflected else
    (s.burstMeasured x vswr forward reflected).judge x.subband vswr x.reduce x.probe, ?_, ?_, ?_⟩
  · split
    · exact .of_radio rfl rfl
    · exact (judge_keeps ..).1
  · split
    · exact fun _ => rfl
    · exact (judge_keeps ..).2
  · rw [State.burstEnd]
    split
    · simp_all
    · next y l hy =>
      obtain ⟨rfl, rfl⟩ : x = y ∧ r = l := by simpa [hy] using hbursts.symm
      rw [if_neg (by simp [hair])]
      rfl

theorem burstEnd_leaves {s : State} {vswr : Nat} {forward reflected : Int} {x : Burst} {r : List Burst}
    (hbursts : s.radio.bursts = x :: r) (hair : x.onAir = true) :
    (s.burstEnd vswr forward reflected).radio.bursts = r ∧
      (s.radio.state = 5 → s.radio.plan.key = s.radio.tuned → (s.burstEnd vswr forward reflected).radio.state = 3) ∧
      (x.rampAt - x.guard, (s.burstEnd vswr forward reflected).up + x.guard) ∈ (s.burstEnd vswr forward reflected).radio.blanks ∧
      (x.tuner = 0 → x.subband < s.radio.bands.length →
        ((s.burstEnd vswr forward reflected).band_ x.subband).measured = (vswr, forward, reflected)) := by
  obtain ⟨t, ⟨-, l, -, htr⟩, hmeasured, hend⟩ := burstEnd_of_onAir (vswr := vswr) (forward := forward) (reflected := reflected) hbursts hair
  obtain ⟨l', -, hr⟩ := State.burstMeasured_radio x vswr forward reflected s
  rw [hend]
  obtain ⟨hup, hb, hblanks, hbands⟩ := channelChange_keeps ({ t with radio := { t.radio with
        bursts := r, state := if t.radio.state = 5 then 3 else t.radio.state
        blanks := t.radio.blanks.filter (fun r => decide (t.up < r.2 + 40 * qtMs)) ++ [(x.rampAt - x.guard, t.up + x.guard)] } } : State)
  refine ⟨hb, fun h5 htuned => ?_, ?_, fun htuner hsub => ?_⟩
  · have ht5 : t.radio.state = 5 := by rw [htr, hr]; exact h5
    rw [State.channelChange_of_tuned (by rw [htr, hr]; exact htuned)]
    exact if_pos ht5
  · rw [hblanks, hup]
    exact List.mem_append_right _ (List.mem_singleton_self _)
  · rw [← State.measured_burstMeasured vswr forward reflected htuner hsub, ← hmeasured]
    simp only [State.band_, hbands]

/-- Settles O46, rule by rule: each clause is what the row of the radio does under the guards it names. -/
theorem radioRowsComplete : Obligations.RadioRowsComplete := by
  unfold Obligations.RadioRowsComplete
  intro s temp vswr fwd refl vco sub gnt
  refine ⟨fun hpart hcal h6 h5 hfree hserves hallowed hwindow =>
      ⟨_, rfl, calStart_of_due hpart hcal h6 h5 hfree hserves hallowed hwindow⟩,
    fun h6 hticket hmode => congrArg Host.Outcome.next (calComplete_of_untracked _ _ h6 hticket hmode),
    fun hlow hhigh hbursts hwindow hcal => congrArg Host.Outcome.next (radioIdleSleep_of_idle hlow hhigh hbursts hwindow hcal),
    ⟨_, rfl, s.tokenBinRoll_minute, s.le_tokenBinRoll_qt, s.length_bands_tokenBinRoll, fun hm n _ hn => ?_⟩,
    fun hpart => ⟨_, rfl, ?_, State.extBlank_coexGnt hpart⟩,
    fun hstopped hretry hdue => congrArg Host.Outcome.next (if_pos ⟨hstopped, hretry, hdue⟩),
    fun x r hbursts hair hcut hvswr hsub => ⟨_, rfl, vswrStop_stops hbursts hair hcut hvswr hsub⟩,
    fun x r hbursts hair => ?_⟩
  · rw [State.bins_tokenBinRoll hn, hm, Nat.add_sub_cancel_left, rollBins_one]
  · rw [State.coexGnt, if_pos hpart]
  · obtain ⟨hrest, hstate, hblank, hband⟩ := burstEnd_leaves (vswr := vswr.toNat) (forward := signed 16 fwd.toNat)
      (reflected := signed 16 refl.toNat) hbursts hair
    refine ⟨_, rfl, hrest, hstate, hblank, fun htuner hsub => ?_⟩
    simpa only [SubBand.measured, Prod.mk.injEq] using hband htuner hsub

end Sys2Proof.Machine

/-! PROOFS. The lock region stays legal (R326, R327): what only a few commands write, and the commands that write it. -/
namespace Sys2Proof.Machine
open Sys2Proof.Claims

/-! ## The sealed part of the state

Almost every step leaves the regulatory locks, the keys, the PIN and the JTAG fuse alone. For each function of the model in
turn, one lemma says so. -/

/-- What only the commands of R327, R479, R480 and R498 and the boot write, with the part and the queue of commands. -/
structure Sealed where
  part : Part
  pending : List Instr
  locks : List Locks
  locksValid : Bool
  keys : List Key
  pin : Option (Bytes × Bytes)
  jtagBlown : Bool

/-- What `s` holds of it. -/
def State.sealed (s : State) : Sealed :=
  { part := s.part, pending := s.pending, locks := s.nv.locks, locksValid := s.nv.locksValid, keys := s.nv.keys, pin := s.nv.pin
    jtagBlown := s.nv.boot.jtagBlown }

@[simp] theorem Sealed.eta (s : State) :
    (Sealed.mk s.part s.pending s.nv.locks s.nv.locksValid s.nv.keys s.nv.pin s.nv.boot.jtagBlown) = s.sealed := (rfl)

@[simp] theorem State.sealed_mk {x0 x1 x2 x3 x4 x5 x6 x7 x8 x9 x10 x11 x12 x13 x14 x15 x16 x17 x18 x19 x20 x21 x22 x23 x24 x25 x26 x27 x28
    x29 x30 x31 x32 x33 x34 x35} :
    (State.mk x0 x1 x2 x3 x4 x5 x6 x7 x8 x9 x10 x11 x12 x13 x14 x15 x16 x17 x18 x19 x20 x21 x22 x23 x24 x25 x26 x27 x28 x29 x30 x31 x32 x33
      x34 x35).sealed = Sealed.mk x0 x1 x19.locks x19.locksValid x19.keys x19.pin x19.boot.jtagBlown := (rfl)

@[simp] theorem State.sealed_ite (c : Prop) [Decidable c] (a b : State) : (if c then a else b).sealed = if c then a.sealed else b.sealed :=
  apply_ite State.sealed c a b

@[simp] theorem Result.state_ite (c : Prop) [Decidable c] (a b : Result) : (if c then a else b).state = if c then a.state else b.state :=
  apply_ite Result.state c a b

@[simp] theorem foldl_sealed {α : Type} {f : State → α → State} (h : ∀ s a, (f s a).sealed = s.sealed) (l : List α) (s : State) :
    (l.foldl f s).sealed = s.sealed := by
  induction l generalizing s with
  | nil => rfl
  | cons a l ih => exact (ih _).trans (h s a)

theorem foldl_pair_sealed {α β : Type} {f : β × State → α → β × State} (h : ∀ p a, (f p a).2.sealed = p.2.sealed) (l : List α)
    (p : β × State) : (l.foldl f p).2.sealed = p.2.sealed := by
  induction l generalizing p with
  | nil => rfl
  | cons a l ih => exact (ih _).trans (h p a)

theorem sealed_of_eq {α : Type} {p : α × State} {x : α} {s t : State} (h : p = (x, t)) (hp : p.2.sealed = s.sealed) : t.sealed = s.sealed := by
  rw [h] at hp
  exact hp


/-! ### Params -/

@[simp] theorem State.setParam_sealed (id v : Nat) (s : State) : (s.setParam id v).sealed = s.sealed := by simp [State.setParam]
@[simp] theorem State.release_sealed (e : Effect) (s : State) : (s.release e).sealed = s.sealed := (rfl)
@[simp] theorem State.applyParams_sealed (s : State) : s.applyParams.sealed = s.sealed := (rfl)

/-! ### Ops -/

@[simp] theorem State.bumpBy_sealed (unit i n : Nat) (s : State) : (s.bumpBy unit i n).sealed = s.sealed := (rfl)
@[simp] theorem State.bump_sealed (unit i : Nat) (s : State) : (s.bump unit i).sealed = s.sealed := (rfl)
@[simp] theorem State.bump64_sealed (unit i n : Nat) (s : State) : (s.bump64 unit i n).sealed = s.sealed := (rfl)
@[simp] theorem State.draw_sealed (s : State) : s.draw.sealed = s.sealed := (rfl)
@[simp] theorem State.modQueue_sealed (n : Nat) (f : Queue → Queue) (s : State) : (s.modQueue n f).sealed = s.sealed := (rfl)
@[simp] theorem State.modEvent_sealed (n : Nat) (f : EventSource → EventSource) (s : State) : (s.modEvent n f).sealed = s.sealed := (rfl)

@[simp] theorem pulseLine_sealed (k : Nat) (s : State) : (pulseLine k s).1.sealed = s.sealed := by
  unfold pulseLine
  split <;> simp

@[simp] theorem State.setPortErr_sealed (s : State) : s.setPortErr.sealed = s.sealed := (rfl)

@[simp] theorem occurN_sealed (fuel n code : Nat) (detail : Bytes) (s : State) : (occurN fuel n code detail s).sealed = s.sealed :=
  occurN_induction (P := fun t => t.sealed = s.sealed) (fun _ _ _ h => h) (fun _ _ h => h) (fun _ _ h => h) (fun _ _ h => h)
    (fun _ h => h) fuel n code detail s rfl

@[simp] theorem State.occur_sealed (n code : Nat) (detail : Bytes) (s : State) : (s.occur n code detail).sealed = s.sealed := by
  simp [State.occur]
@[simp] theorem State.occurFree_sealed (n : Nat) (s : State) : (s.occurFree n).sealed = s.sealed := by simp [State.occurFree]
@[simp] theorem State.postEvent_sealed (n : Nat) (s : State) : (s.postEvent n).sealed = s.sealed := by simp [State.postEvent]
@[simp] theorem State.ascending_sealed {f : State → State} (hf : ∀ s, (f s).sealed = s.sealed) (s : State) :
    (s.ascending f).sealed = s.sealed := hf s
@[simp] theorem State.clearStat_sealed (n : Nat) (s : State) : (s.clearStat n).sealed = s.sealed := (rfl)
@[simp] theorem State.dropEvents_sealed (n : Nat) (s : State) : (s.dropEvents n).sealed = s.sealed := by simp [State.dropEvents]
@[simp] theorem State.offer_sealed (n : Nat) (e : QEntry) (s : State) : (s.offer n e).sealed = s.sealed := by simp [State.offer]
@[simp] theorem State.offerInput_sealed (n : Nat) (b : Bytes) (s : State) : (s.offerInput n b).sealed = s.sealed := by
  simp [State.offerInput]
@[simp] theorem State.offerAny_sealed (n : Nat) (b : Bytes) (s : State) : (s.offerAny n b).sealed = s.sealed := by simp [State.offerAny]
@[simp] theorem State.reclaimEvent_sealed (n k reason station : Nat) (s : State) :
    (s.reclaimEvent n k reason station).sealed = s.sealed := by simp [State.reclaimEvent]
@[simp] theorem State.offerWait_sealed (n : Nat) (b : Bytes) (s : State) : (s.offerWait n b).sealed = s.sealed := by simp [State.offerWait]
@[simp] theorem State.post_sealed (q kind seq : Nat) (body : Bytes) (s : State) : (s.post q kind seq body).sealed = s.sealed := by
  simp [State.post]

@[simp] theorem State.refill_sealed (n : Nat) (s : State) : (s.refill n).sealed = s.sealed := by
  unfold State.refill
  split <;> simp

@[simp] theorem State.refillN_sealed (n k : Nat) (s : State) : (s.refillN n k).sealed = s.sealed := by
  induction k generalizing s with
  | zero => rfl
  | succ k ih => simp [State.refillN, ih]

@[simp] theorem State.removeHead_sealed (n : Nat) (s : State) : (s.removeHead n).sealed = s.sealed := by simp [State.removeHead]
@[simp] theorem State.consume_sealed (n : Nat) (s : State) : (s.consume n).sealed = s.sealed := by simp [State.consume]

@[simp] theorem State.occurDrops_sealed (n k : Nat) (s : State) : (s.occurDrops n k).sealed = s.sealed := by
  induction k generalizing s with
  | zero => rfl
  | succ k ih => simp [State.occurDrops, ih]

@[simp] theorem State.rewindStream_sealed (n : Nat) (s : State) : (s.rewindStream n).sealed = s.sealed := (rfl)
@[simp] theorem State.rewindUart_sealed (n : Nat) (s : State) : (s.rewindUart n).sealed = s.sealed := by simp [State.rewindUart]
@[simp] theorem State.flushQueue_sealed (n : Nat) (s : State) : (s.flushQueue n).sealed = s.sealed := by simp [State.flushQueue]
@[simp] theorem State.complete_sealed (opcode : Nat) (t : Ticket) (st : Status) (items : List Item) (s : State) :
    (s.complete opcode t st items).sealed = s.sealed := by simp [State.complete]
@[simp] theorem State.publish_sealed (n : Nat) (b : Bytes) (s : State) : (s.publish n b).sealed = s.sealed := (rfl)
@[simp] theorem State.allocate_sealed (n session : Nat) (s : State) : (s.allocate n session).sealed = s.sealed := (rfl)
@[simp] theorem State.log_sealed (unit kind : Nat) (data : Bytes) (s : State) : (s.log unit kind data).sealed = s.sealed := by
  simp [State.log]
@[simp] theorem State.logFree_sealed (unit kind : Nat) (s : State) : (s.logFree unit kind).sealed = s.sealed := by simp [State.logFree]
@[simp] theorem State.logAny_sealed (unit : Nat) (s : State) : (s.logAny unit).sealed = s.sealed := by simp [State.logAny]
@[simp] theorem State.logSession_sealed (action session role keyId : Nat) (s : State) :
    (s.logSession action session role keyId).sealed = s.sealed := by simp [State.logSession]
@[simp] theorem State.endTestAccess_sealed (s : State) : s.endTestAccess.sealed = s.sealed := by simp [State.endTestAccess]
@[simp] theorem State.nvFault_sealed (s : State) : s.nvFault.sealed = s.sealed := by simp [State.nvFault]
@[simp] theorem State.readBack_sealed (s : State) : s.readBack.2.sealed = s.sealed := (rfl)
@[simp] theorem State.appendRecord_sealed (r : JournalRecord) (s : State) : (s.appendRecord r).sealed = s.sealed := (rfl)
@[simp] theorem State.mailed_sealed (s : State) : s.mailed.sealed = s.sealed := (rfl)

@[simp] theorem State.stewardAppend_sealed (ok : Bool) (kind role keyId id : Nat) (old new : Bytes) (s : State) :
    (s.stewardAppend ok kind role keyId id old new).2.sealed = s.sealed := by
  unfold State.stewardAppend
  repeat' split
  all_goals simp

@[simp] theorem State.journalAppend_sealed (ok : Bool) (kind role keyId id : Nat) (old new : Bytes) (s : State) :
    (s.journalAppend ok kind role keyId id old new).2.sealed = s.sealed := by simp [State.journalAppend]

/-! ### Command -/

@[simp] theorem refuse_sealed (st : Status) (s : State) : (refuse st s).state.sealed = s.sealed := (rfl)
@[simp] theorem done_sealed (s : State) : (done s).state.sealed = s.sealed := (rfl)
@[simp] theorem reply_sealed (id : Nat) (v : Bytes) (s : State) : (reply id v s).state.sealed = s.sealed := (rfl)

theorem guarded_cases (l : List (Bool × Status)) (s : State) (r : Result) : guarded l s r = r ∨ ∃ st, guarded l s r = refuse st s := by
  unfold guarded
  split
  · exact .inr ⟨_, rfl⟩
  · exact .inl rfl

@[simp] theorem guarded_sealed {l : List (Bool × Status)} {s : State} {r : Result} (h : r.state.sealed = s.sealed) :
    (guarded l s r).state.sealed = s.sealed := by
  obtain hr | ⟨st, hr⟩ := guarded_cases l s r
  · rw [hr, h]
  · rw [hr, refuse_sealed]

theorem Cmd.guardItems_cases (c : Cmd) (f : Bytes → List (Bool × Status)) (s : State) (r : Result) :
    c.guardItems f s r = r ∧ failItem f c.items = none ∨ ∃ st, c.guardItems f s r = refuse st s := by
  unfold Cmd.guardItems
  split
  · exact .inr ⟨_, rfl⟩
  · next h => exact .inl ⟨rfl, h⟩

@[simp] theorem Cmd.guardItems_sealed {c : Cmd} {f : Bytes → List (Bool × Status)} {s : State} {r : Result} (h : r.state.sealed = s.sealed) :
    (c.guardItems f s r).state.sealed = s.sealed := by
  obtain ⟨hr, _⟩ | ⟨st, hr⟩ := c.guardItems_cases f s r
  · rw [hr, h]
  · rw [hr, refuse_sealed]

@[simp] theorem State.modSession_sealed (n : Nat) (f : Session → Session) (s : State) : (s.modSession n f).sealed = s.sealed := (rfl)
@[simp] theorem State.putReply_sealed (flags opcode seq session : Nat) (payload : Bytes) (tag : ReplyTag) (s : State) :
    (s.putReply flags opcode seq session payload tag).sealed = s.sealed := by simp [State.putReply]
@[simp] theorem State.refuseItems_sealed (p : Packet) (st : Status) (items : List Item) (s : State) :
    (s.refuseItems p st items).sealed = s.sealed := by simp [State.refuseItems]
@[simp] theorem State.refusePacket_sealed (p : Packet) (st : Status) (s : State) : (s.refusePacket p st).sealed = s.sealed := by
  simp [State.refusePacket]
@[simp] theorem State.closeSession_sealed (n action : Nat) (s : State) : (s.closeSession n action).sealed = s.sealed := by
  simp [State.closeSession]
@[simp] theorem State.finish_sealed (c : Cmd) (r : Result) : (State.finish c r).sealed = r.state.sealed := by simp [State.finish]

theorem CmdSpec.execute_cases (k : CmdSpec) (c : Cmd) (s : State) : k.execute c s = k.body c s ∨ ∃ st, k.execute c s = refuse st s := by
  unfold CmdSpec.execute
  split
  · exact .inl rfl
  iterate 4
    split
    · exact .inr ⟨_, rfl⟩
  split
  · exact .inr ⟨_, rfl⟩
  · iterate 3
      split
      · exact .inr ⟨_, rfl⟩
    exact .inl rfl

theorem CmdSpec.execute_sealed {P : Sealed → Prop} {k : CmdSpec} {c : Cmd} {s : State} (h : P (k.body c s).state.sealed) (hs : P s.sealed) :
    P (k.execute c s).state.sealed := by
  obtain hr | ⟨st, hr⟩ := k.execute_cases c s
  · rwa [hr]
  · rwa [hr, refuse_sealed]

@[simp] theorem State.touch_sealed (n : Nat) (s : State) : (s.touch n).sealed = s.sealed := (rfl)
@[simp] theorem State.spendNonce_sealed (op n : Nat) (s : State) : (s.spendNonce op n).sealed = s.sealed := by simp [State.spendNonce]

theorem CmdSpec.enter_sealed {P : Sealed → Prop} {k : CmdSpec} {p : Packet} {items : List Item}
    (h : ∀ c t, c.items = items → P t.sealed → P (k.execute c t).state.sealed) {s : State} (hs : P s.sealed) :
    P (k.enter p items s).sealed := by
  have htouch : P (s.touch p.session).sealed := hs
  by_cases hstands : SessionStands p s
  · rw [CmdSpec.enter_of_session hstands]
    split
    · rwa [← State.refusePacket_eq_refused, State.refusePacket_sealed]
    · rwa [State.putReply_sealed]
    · rw [State.spendNonce_sealed, State.finish_sealed]
      exact h _ _ rfl htouch
  · rwa [CmdSpec.enter_of_no_session hstands, ← State.refusePacket_eq_refused, State.refusePacket_sealed]

theorem CmdSpec.run_sealed {P : Sealed → Prop} {k : CmdSpec}
    (h : ∀ c t, k.selects c.items = true → P t.sealed → P (k.execute c t).state.sealed) {s : State} (hs : P s.sealed) :
    P (k.run s).sealed := by
  have hpop : P (s.modQueue 0 (Queue.pop 16)).sealed := hs
  unfold CmdSpec.run
  split
  · exact hs
  · dsimp only
    split
    · exact hs
    · split
      · split
        · exact hs
        · simpa only [↓apply_ite State.sealed, State.refusePacket_sealed, ite_self] using hpop
      · split
        · exact hs
        · next hsel =>
          rw [Bool.not_eq_true', Bool.not_eq_false] at hsel
          split
          · rwa [State.refusePacket_sealed]
          · split
            · rwa [State.refusePacket_sealed]
            · split
              · rwa [State.refuseItems_sealed]
              · exact CmdSpec.enter_sealed (fun c t hc => h c t (by rwa [hc])) hpop

/-- A command whose body keeps the sealed state keeps it, whatever packet brings it. -/
@[simp] theorem CmdSpec.run_sealed_eq {k : CmdSpec} (h : ∀ c t, (k.body c t).state.sealed = t.sealed) (s : State) : (k.run s).sealed = s.sealed :=
  CmdSpec.run_sealed (P := (· = s.sealed)) (fun c t _ ht => CmdSpec.execute_sealed (P := (· = s.sealed)) ((h c t).trans ht) ht) rfl

/-! ### Resets -/

@[simp] theorem State.putLog_sealed (ok : Bool) (r : LogRecord) (s : State) : (s.putLog ok r).sealed = s.sealed := by simp [State.putLog]
@[simp] theorem State.flushQueueLog_sealed (s : State) : s.flushQueueLog.sealed = s.sealed := by simp [State.flushQueueLog]
@[simp] theorem State.gapMarker_sealed (g : Nat × Nat × Nat) (s : State) : (s.gapMarker g).sealed = s.sealed := by simp [State.gapMarker]
@[simp] theorem State.gapMarkers_sealed (s : State) : s.gapMarkers.sealed = s.sealed := by simp [State.gapMarkers]
@[simp] theorem State.flushLog_sealed (s : State) : s.flushLog.sealed = s.sealed := by simp [State.flushLog]
@[simp] theorem State.commitLate_sealed (r : JournalRecord) (s : State) : (s.commitLate r).sealed = s.sealed := by simp [State.commitLate]

@[simp] theorem State.flushAppend_sealed (s : State) : s.flushAppend.sealed = s.sealed := by
  unfold State.flushAppend
  split <;> simp

@[simp] theorem State.revertTrial_sealed (s : State) : s.revertTrial.sealed = s.sealed := by
  unfold State.revertTrial Nv.revertTrial
  rw [State.sealed_mk]
  split <;> rfl

@[simp] theorem State.writeBundle_sealed (cause jtail logrec : Nat) (s : State) : (s.writeBundle cause jtail logrec).sealed = s.sealed := by
  unfold State.writeBundle
  dsimp only
  split
  · rw [State.sealed_mk]; rfl
  · rw [State.nvFault_sealed, State.sealed_mk]; rfl

@[simp] theorem State.commitAsked_sealed (k : Nat) (s : State) : (s.commitAsked k).sealed = s.sealed := by simp [State.commitAsked]
@[simp] theorem State.bundleBeforeReset_sealed (s : State) : s.bundleBeforeReset.sealed = s.sealed := by simp [State.bundleBeforeReset]

@[simp] theorem State.startReset_sealed (cause : Nat) (s : State) : (s.startReset cause).sealed = s.sealed := by
  unfold State.startReset State.nvAfterReset Nv.revertTrial
  rw [State.sealed_mk]
  split
  · split <;> rfl
  · rfl

@[simp] theorem State.stewardReset_sealed (cause : Nat) (s : State) : (s.stewardReset cause).sealed = s.sealed := by
  simp [State.stewardReset]

@[simp] theorem State.closeKeySessions_sealed (keyId k : Nat) (s : State) : (s.closeKeySessions keyId k).sealed = s.sealed := by
  induction k generalizing s with
  | zero => rfl
  | succ k ih => simp [State.closeKeySessions, ih]

@[simp] theorem State.replyConsumed_sealed (t : ReplyTag) (s : State) : (s.replyConsumed t).sealed = s.sealed := by
  unfold State.replyConsumed
  split <;> simp

@[simp] theorem State.consumeReply_sealed (s : State) : s.consumeReply.sealed = s.sealed := by
  unfold State.consumeReply
  split <;> simp

@[simp] theorem State.startHostReset_sealed (code : Nat) (s : State) : (s.startHostReset code).sealed = s.sealed := (rfl)

@[simp] theorem State.resetInputs_sealed (k : Nat) (s : State) : (s.resetInputs k).sealed = s.sealed := by
  induction k generalizing s with
  | zero => rfl
  | succ k ih => simp [State.resetInputs, ih]

@[simp] theorem State.closeAll_sealed (k : Nat) (s : State) : (s.closeAll k).sealed = s.sealed := by
  induction k generalizing s with
  | zero => rfl
  | succ k ih => simp [State.closeAll, ih]

@[simp] theorem State.disownSlots_sealed (s : State) : s.disownSlots.sealed = s.sealed := (rfl)

@[simp] theorem State.hostReset_sealed (s : State) : s.hostReset.sealed = s.sealed := by
  have htag : ∀ (u : State) (t : ReplyTag), (match t with | .lanes _ => u | t => u.replyConsumed t).sealed = u.sealed := by
    intro u t
    cases t
    case lanes => rfl
    all_goals exact State.replyConsumed_sealed _ u
  unfold State.hostReset
  refine (foldl_sealed htag _ _).trans ?_
  simp

/-! ### Host -/

@[simp] theorem State.framingError_sealed (s : State) : s.framingError.sealed = s.sealed := by simp [State.framingError]
@[simp] theorem State.discardPacket_sealed (s : State) : s.discardPacket.sealed = s.sealed := by simp [State.discardPacket]

@[simp] theorem storePackets_sealed (fuel : Nat) (b : Bytes) (s : State) : (storePackets fuel b s).sealed = s.sealed := by
  induction fuel generalizing b s with
  | zero => rfl
  | succ fuel ih =>
    simp [storePackets, ih]

@[simp] theorem State.writeQueue_sealed (n : Nat) (data : Bytes) (s : State) : (s.writeQueue n data).sealed = s.sealed := by
  simp [State.writeQueue]
@[simp] theorem State.readQueue_sealed (n clocked : Nat) (s : State) : (s.readQueue n clocked).sealed = s.sealed := by
  simp [State.readQueue]
@[simp] theorem State.readStatus_sealed (s : State) : s.readStatus.sealed = s.sealed := by simp [State.readStatus]
@[simp] theorem State.latchWake_sealed (code : Nat) (s : State) : (s.latchWake code).sealed = s.sealed := (rfl)
@[simp] theorem State.addressFrame_sealed (a : Byte) (s : State) : (s.addressFrame a).sealed = s.sealed := by simp [State.addressFrame]
@[simp] theorem State.portResetCommand_sealed (s : State) : s.portResetCommand.sealed = s.sealed := by simp [State.portResetCommand]

@[simp] theorem State.rawTransaction_sealed (x : PortCycles) (s : State) : (s.rawTransaction x).sealed = s.sealed := by
  simp only [State.rawTransaction]
  repeat' split
  all_goals simp

@[simp] theorem State.hostResetPin_sealed (s : State) : s.hostResetPin.sealed = s.sealed := by simp [State.hostResetPin]
@[simp] theorem State.hpRstN_sealed (lowNs : Nat) (s : State) : (s.hpRstN lowNs).sealed = s.sealed := by simp [State.hpRstN]
@[simp] theorem State.hostPortResetDone_sealed (s : State) : s.hostPortResetDone.sealed = s.sealed := by simp [State.hostPortResetDone]
@[simp] theorem identityGet_sealed (c : Cmd) (s : State) : (identityGet.body c s).state.sealed = s.sealed := by simp [identityGet]
@[simp] theorem deviceResetCommand_sealed (c : Cmd) (s : State) : (deviceResetCommand.body c s).state.sealed = s.sealed := by
  simp [deviceResetCommand]
@[simp] theorem echo_sealed (c : Cmd) (s : State) : (echo.body c s).state.sealed = s.sealed := by simp [echo]

@[simp] theorem sessionChallenge_sealed (c : Cmd) (s : State) : (sessionChallenge.body c s).state.sealed = s.sealed := by
  unfold sessionChallenge
  dsimp only
  repeat' split
  all_goals simp

@[simp] theorem State.authFailed_sealed (n role keyId : Nat) (s : State) : (s.authFailed n role keyId).sealed = s.sealed := by
  simp [State.authFailed]
@[simp] theorem State.openSession_sealed (n role keyId idle : Nat) (s : State) : (s.openSession n role keyId idle).sealed = s.sealed := by
  simp [State.openSession]

@[simp] theorem sessionOpen_sealed (c : Cmd) (s : State) : (sessionOpen.body c s).state.sealed = s.sealed := by
  simp only [sessionOpen]
  split <;> simp

@[simp] theorem sessionClose_sealed (c : Cmd) (s : State) : (sessionClose.body c s).state.sealed = s.sealed := by simp [sessionClose]
@[simp] theorem sessionList_sealed (c : Cmd) (s : State) : (sessionList.body c s).state.sealed = s.sealed := by simp [sessionList]
@[simp] theorem resultRead_sealed (c : Cmd) (s : State) : (resultRead.body c s).state.sealed = s.sealed := by simp [resultRead]
@[simp] theorem resultRelease_sealed (c : Cmd) (s : State) : (resultRelease.body c s).state.sealed = s.sealed := by simp [resultRelease]
@[simp] theorem portStatusClear_sealed (c : Cmd) (s : State) : (portStatusClear.body c s).state.sealed = s.sealed := by
  simp [portStatusClear]
@[simp] theorem State.idleClosed_sealed (n : Nat) (s : State) : (s.idleClosed n).sealed = s.sealed := by simp [State.idleClosed]
@[simp] theorem State.nonceExpired_sealed (n : Nat) (s : State) : (s.nonceExpired n).sealed = s.sealed := by simp [State.nonceExpired]

@[simp] theorem State.badOpcode_sealed (s : State) : s.badOpcode.sealed = s.sealed := by
  simp only [State.badOpcode]
  repeat' split
  all_goals simp

/-! ### Queues -/

@[simp] theorem Cmd.journalValueThen_sealed {f : State → Result} (h : ∀ t, (f t).state.sealed = t.sealed) (c : Cmd) (ok : Bool) (keyBytes : Nat)
    (v : Bytes) (s : State) : (c.journalValueThen ok keyBytes v s f).state.sealed = s.sealed := by
  unfold Cmd.journalValueThen
  split
  · next hj => rw [h, sealed_of_eq hj (State.journalAppend_sealed ..)]
  · next hj => exact sealed_of_eq hj (State.journalAppend_sealed ..)

@[simp] theorem Cmd.journalThen_sealed {f : State → Result} (h : ∀ t, (f t).state.sealed = t.sealed) (c : Cmd) (ok : Bool) (keyBytes : Nat)
    (s : State) : (c.journalThen ok keyBytes s f).state.sealed = s.sealed := Cmd.journalValueThen_sealed h ..
@[simp] theorem queueStatusGet_sealed (c : Cmd) (s : State) : (queueStatusGet.body c s).state.sealed = s.sealed := by simp [queueStatusGet]
@[simp] theorem queueFlush_sealed (c : Cmd) (s : State) : (queueFlush.body c s).state.sealed = s.sealed := by simp [queueFlush]
@[simp] theorem State.setEvCfg_sealed (n cfg : Nat) (s : State) : (s.setEvCfg n cfg).sealed = s.sealed := by simp [State.setEvCfg]

@[simp] theorem State.setEvCfgs_sealed (cfg k n : Nat) (s : State) : (State.setEvCfgs cfg k n s).sealed = s.sealed := by
  induction k generalizing n s with
  | zero => rfl
  | succ k ih => rw [State.setEvCfgs, ih, State.setEvCfg_sealed]

@[simp] theorem eventRouteSet_sealed (ok : Bool) (c : Cmd) (s : State) : ((eventRouteSet ok).body c s).state.sealed = s.sealed := by
  simp [eventRouteSet]
@[simp] theorem eventClear_sealed (c : Cmd) (s : State) : (eventClear.body c s).state.sealed = s.sealed := by simp [eventClear]
@[simp] theorem State.countEdge_sealed (n : Nat) (s : State) : (s.countEdge n).sealed = s.sealed := (rfl)

@[simp] theorem State.edgeOccurrences_sealed (ev code edge level : Nat) (l : List Nat) (s : State) :
    (State.edgeOccurrences ev code edge level l s).sealed = s.sealed := by
  induction l generalizing s with
  | nil => rfl
  | cons n l ih => rw [State.edgeOccurrences, ih, State.occur_sealed, State.countEdge_sealed]

@[simp] theorem State.edgeSource_sealed (ev base old new : Nat) (s : State) : (s.edgeSource ev base old new).sealed = s.sealed := by
  unfold State.edgeSource
  split <;> simp

@[simp] theorem State.gpioSense_sealed (s : State) : s.gpioSense.sealed = s.sealed := by simp [State.gpioSense]
@[simp] theorem State.gpioStart_sealed (out : Nat) (s : State) : (s.gpioStart out).sealed = s.sealed := (rfl)
@[simp] theorem State.gpioSet_sealed (value mask : Nat) (s : State) : (s.gpioSet value mask).sealed = s.sealed := by simp [State.gpioSet]
@[simp] theorem State.gpioEdge_sealed (new : Nat) (s : State) : (s.gpioEdge new).sealed = s.sealed := by simp [State.gpioEdge]

@[simp] theorem gpioWrite_sealed (c : Cmd) (s : State) : (gpioWrite.body c s).state.sealed = s.sealed := by
  simp only [gpioWrite]
  split <;> simp

@[simp] theorem gpioRead_sealed (c : Cmd) (s : State) : (gpioRead.body c s).state.sealed = s.sealed := by simp [gpioRead]

/-! ### Rtc -/

@[simp] theorem State.rtcSupplySwitch_sealed (vdd vbat : Nat) (s : State) : (s.rtcSupplySwitch vdd vbat).sealed = s.sealed := by
  simp [State.rtcSupplySwitch]
@[simp] theorem State.brownOut_sealed (lowest : Nat) (s : State) : (s.brownOut lowest).sealed = s.sealed := by simp [State.brownOut]
@[simp] theorem State.brownOutCheck_sealed (s : State) : s.brownOutCheck.sealed = s.sealed := by simp [State.brownOutCheck]
@[simp] theorem State.modAlarm_sealed (k : Nat) (f : Alarm → Alarm) (s : State) : (s.modAlarm k f).sealed = s.sealed := (rfl)
@[simp] theorem State.raiseAlarm_sealed (k t : Nat) (s : State) : (s.raiseAlarm k t).sealed = s.sealed := by simp [State.raiseAlarm]
@[simp] theorem State.evalAlarm_sealed (t k : Nat) (s : State) : (s.evalAlarm t k).sealed = s.sealed := by simp [State.evalAlarm]
@[simp] theorem State.evalAlarms_sealed (t : Nat) (s : State) : (s.evalAlarms t).sealed = s.sealed := by simp [State.evalAlarms]
@[simp] theorem State.reportAlarm_sealed (k : Nat) (s : State) : (s.reportAlarm k).sealed = s.sealed := by simp [State.reportAlarm]
@[simp] theorem State.reportAlarms_sealed (s : State) : s.reportAlarms.sealed = s.sealed := by simp [State.reportAlarms]
@[simp] theorem State.clearValid_sealed (s : State) : s.clearValid.sealed = s.sealed := (rfl)
@[simp] theorem State.rtcAdvance_sealed (s : State) : s.rtcAdvance.sealed = s.sealed := by simp [State.rtcAdvance]
@[simp] theorem State.setZone_sealed (zone : Int) (dst : Nat) (s : State) : (s.setZone zone dst).sealed = s.sealed := (rfl)

@[simp] theorem State.applyZone_sealed (s : State) : s.applyZone.sealed = s.sealed := by
  unfold State.applyZone
  split <;> simp

@[simp] theorem State.rtcSecond_sealed (s : State) : s.rtcSecond.sealed = s.sealed := by simp [State.rtcSecond]

@[simp] theorem State.evalSpan_sealed (n t : Nat) (s : State) : (State.evalSpan n t s).sealed = s.sealed := by
  induction n generalizing t s with
  | zero => rfl
  | succ n ih => rw [State.evalSpan, ih, State.evalAlarms_sealed]

@[simp] theorem State.correct_sealed (target sub : Nat) (leap : Bool) (s : State) : (s.correct target sub leap).sealed = s.sealed := by
  simp [State.correct]
@[simp] theorem State.discipline_sealed (k sub : Nat) (s : State) : (s.discipline k sub).sealed = s.sealed := by simp [State.discipline]
@[simp] theorem State.journalZone_sealed (z : Int) (d : Nat) (s : State) : (s.journalZone z d).sealed = s.sealed := (rfl)
@[simp] theorem State.setTime_sealed (c : Cmd) (s : State) : (s.setTime c).sealed = s.sealed := by simp [State.setTime]
@[simp] theorem rtcSetTime_sealed (ok : Bool) (c : Cmd) (s : State) : ((rtcSetTime ok).body c s).state.sealed = s.sealed := by
  simp [rtcSetTime]
@[simp] theorem rtcSetZone_sealed (ok : Bool) (c : Cmd) (s : State) : ((rtcSetZone ok).body c s).state.sealed = s.sealed := by
  simp [rtcSetZone]
@[simp] theorem rtcGet_sealed (subsec : Nat) (c : Cmd) (s : State) : ((rtcGet subsec).body c s).state.sealed = s.sealed := by simp [rtcGet]
@[simp] theorem alarmSet_sealed (ok : Bool) (c : Cmd) (s : State) : ((alarmSet ok).body c s).state.sealed = s.sealed := by simp [alarmSet]
@[simp] theorem summerTime_sealed (ok : Bool) (c : Cmd) (s : State) : ((summerTime ok).body c s).state.sealed = s.sealed := by
  simp [summerTime]

/-! ### Plumb -/

@[simp] theorem State.advance_sealed (t : Nat) (s : State) : (s.advance t).sealed = s.sealed := (rfl)
@[simp] theorem State.rescale_sealed (t : Nat) (s : State) : (s.rescale t).sealed = s.sealed := (rfl)
@[simp] theorem State.setTimeState_sealed (n : Nat) (s : State) : (s.setTimeState n).sealed = s.sealed := by simp [State.setTimeState]
@[simp] theorem State.decideStep_sealed (o : Int) (s : State) : (s.decideStep o).sealed = s.sealed := by simp [State.decideStep]
@[simp] theorem State.quietStep_sealed (o : Int) (s : State) : (s.quietStep o).sealed = s.sealed := (rfl)
@[simp] theorem State.withdrawStep_sealed (p : PendingStep) (o : Int) (s : State) : (s.withdrawStep p o).sealed = s.sealed := by
  simp [State.withdrawStep]

@[simp] theorem State.reviewStep_sealed (o : Int) (s : State) : (s.reviewStep o).sealed = s.sealed := by
  unfold State.reviewStep
  split <;> simp

@[simp] theorem State.unannouncedStep_sealed (o : Int) (s : State) : (s.unannouncedStep o).sealed = s.sealed := by
  simp [State.unannouncedStep]
@[simp] theorem State.handleOffset_sealed (o : Int) (s : State) : (s.handleOffset o).sealed = s.sealed := by simp [State.handleOffset]
@[simp] theorem State.settle_sealed (s : State) : s.settle.sealed = s.sealed := by simp [State.settle]
@[simp] theorem State.takeResults_sealed (s : State) : s.takeResults.sealed = s.sealed := (rfl)
@[simp] theorem State.takeFigures_sealed (v : Solution) (s : State) : (s.takeFigures v).sealed = s.sealed := (rfl)
@[simp] theorem State.takePlace_sealed (v : Solution) (s : State) : (s.takePlace v).sealed = s.sealed := by simp [State.takePlace]
@[simp] theorem State.takeFrequency_sealed (v : Solution) (s : State) : (s.takeFrequency v).sealed = s.sealed := by
  simp [State.takeFrequency]
@[simp] theorem State.takeBound_sealed (v : Solution) (s : State) : (s.takeBound v).sealed = s.sealed := by simp [State.takeBound]

@[simp] theorem State.surveyEpoch_sealed (v : Solution) (s : State) : (s.surveyEpoch v).sealed = s.sealed := by
  unfold State.surveyEpoch
  split <;> simp

@[simp] theorem State.solutionState_sealed (v : Solution) (s : State) : (s.solutionState v).sealed = s.sealed := by
  unfold State.solutionState
  split <;> simp

@[simp] theorem State.takeSolution_sealed (v : Solution) (s : State) : (s.takeSolution v).sealed = s.sealed := by simp [State.takeSolution]
@[simp] theorem State.takeEpoch_sealed (v : Solution) (s : State) : (s.takeEpoch v).sealed = s.sealed := by simp [State.takeEpoch]
@[simp] theorem State.growBound_sealed (s : State) : s.growBound.sealed = s.sealed := by simp [State.growBound]
@[simp] theorem State.expire_sealed (s : State) : s.expire.sealed = s.sealed := by simp [State.expire]
@[simp] theorem State.holdoverEntry_sealed (s : State) : s.holdoverEntry.sealed = s.sealed := by simp [State.holdoverEntry]
@[simp] theorem State.slewOffset_sealed (s : State) : s.slewOffset.sealed = s.sealed := (rfl)
@[simp] theorem State.steerAudio_sealed (jitter : Int) (s : State) : (s.steerAudio jitter).sealed = s.sealed := by simp [State.steerAudio]
@[simp] theorem State.solverEnable_sealed (s : State) : s.solverEnable.sealed = s.sealed := by simp [State.solverEnable]

@[simp] theorem State.takePosition_sealed (s : State) : s.takePosition.sealed = s.sealed := by
  simp only [State.takePosition]
  split <;> simp

@[simp] theorem State.plumbTick_sealed (jitter : Int) (s : State) : (s.plumbTick jitter).sealed = s.sealed := by simp [State.plumbTick]
@[simp] theorem State.applyStep_sealed (p : PendingStep) (k : Nat) (s : State) : (s.applyStep p k).sealed = s.sealed := by
  simp [State.applyStep]

@[simp] theorem State.stepApply_sealed (s : State) : s.stepApply.sealed = s.sealed := by
  unfold State.stepApply
  repeat' split
  all_goals simp

@[simp] theorem State.rejectStep_sealed (s : State) : s.rejectStep.sealed = s.sealed := (rfl)

@[simp] theorem State.stepAskTimeout_sealed (s : State) : s.stepAskTimeout.sealed = s.sealed := by
  unfold State.stepAskTimeout
  split <;> simp

@[simp] theorem State.firstEstimate_sealed (source t b : Nat) (s : State) : (s.firstEstimate source t b).sealed = s.sealed := by
  simp [State.firstEstimate]
@[simp] theorem State.modPulse_sealed (n : Nat) (f : Pulse → Pulse) (s : State) : (s.modPulse n f).sealed = s.sealed := (rfl)
@[simp] theorem State.timePulseEdge_sealed (n : Nat) (s : State) : (s.timePulseEdge n).sealed = s.sealed := by simp [State.timePulseEdge]
@[simp] theorem State.modMark_sealed (n : Nat) (f : Mark → Mark) (s : State) : (s.modMark n f).sealed = s.sealed := (rfl)
@[simp] theorem State.stampMark_sealed (n edge stamp time : Nat) (s : State) : (s.stampMark n edge stamp time).sealed = s.sealed := by
  simp [State.stampMark]
@[simp] theorem State.timeMark_sealed (n : Nat) (falling : Bool) (at_ : Nat) (short : Bool) (s : State) :
    (s.timeMark n falling at_ short).sealed = s.sealed := by simp [State.timeMark]
@[simp] theorem timeGet_sealed (c : Cmd) (s : State) : (timeGet.body c s).state.sealed = s.sealed := by simp [timeGet]
@[simp] theorem positionSet_sealed (ok : Bool) (c : Cmd) (s : State) : ((positionSet ok).body c s).state.sealed = s.sealed := by
  simp [positionSet]
@[simp] theorem surveyStart_sealed (c : Cmd) (s : State) : (surveyStart.body c s).state.sealed = s.sealed := by simp [surveyStart]

@[simp] theorem State.endSurvey_sealed (y : Survey) (sigma : Nat) (st : Status) (s : State) :
    (s.endSurvey y sigma st).sealed = s.sealed := by
  unfold State.endSurvey
  split <;> simp

@[simp] theorem State.storeSurvey_sealed (y : Survey) (sigma : Nat) (ok : Bool) (s : State) :
    (s.storeSurvey y sigma ok).sealed = s.sealed := by
  unfold State.storeSurvey
  dsimp only
  split
  · next h =>
    have ht := sealed_of_eq h (State.journalAppend_sealed ..)
    rwa [State.endSurvey_sealed, State.setParam_sealed]
  · next h => rw [State.endSurvey_sealed, sealed_of_eq h (State.journalAppend_sealed ..)]

@[simp] theorem State.surveyDone_sealed (sigma : Nat) (ok : Bool) (s : State) : (s.surveyDone sigma ok).sealed = s.sealed := by
  unfold State.surveyDone
  split <;> simp

@[simp] theorem stepApprove_sealed (c : Cmd) (s : State) : (stepApprove.body c s).state.sealed = s.sealed := by simp [stepApprove]
@[simp] theorem State.setPulse_sealed (v : Bytes) (s : State) : (s.setPulse v).sealed = s.sealed := (rfl)

@[simp] theorem pulseConfig_sealed (ok : Bool) (c : Cmd) (s : State) : ((pulseConfig ok).body c s).state.sealed = s.sealed :=
  Cmd.guardItems_sealed (Cmd.journalThen_sealed
    (fun t => by simp) ..)

@[simp] theorem State.setMark_sealed (v : Bytes) (s : State) : (s.setMark v).sealed = s.sealed := (rfl)

@[simp] theorem markConfig_sealed (ok : Bool) (c : Cmd) (s : State) : ((markConfig ok).body c s).state.sealed = s.sealed :=
  Cmd.guardItems_sealed (Cmd.journalThen_sealed
    (fun t => by simp) ..)

/-! ### Clocks -/

@[simp] theorem State.modPll_sealed (k : Nat) (f : Pll → Pll) (s : State) : (s.modPll k f).sealed = s.sealed := (rfl)
@[simp] theorem State.startPll_sealed (k : Nat) (s : State) : (s.startPll k).sealed = s.sealed := (rfl)
@[simp] theorem State.startPlls_sealed (s : State) : s.startPlls.sealed = s.sealed := by simp [State.startPlls]
@[simp] theorem State.refGlitch_sealed (s : State) : s.refGlitch.sealed = s.sealed := by simp [State.refGlitch]
@[simp] theorem State.refEdgesReturn_sealed (s : State) : s.refEdgesReturn.sealed = s.sealed := by simp [State.refEdgesReturn]
@[simp] theorem State.refLost_sealed (s : State) : s.refLost.sealed = s.sealed := by simp [State.refLost]
@[simp] theorem State.pllUnlock_sealed (k : Nat) (s : State) : (s.pllUnlock k).sealed = s.sealed := by simp [State.pllUnlock]
@[simp] theorem State.pllLock_sealed (k : Nat) (s : State) : (s.pllLock k).sealed = s.sealed := by simp [State.pllLock]
@[simp] theorem State.pllUnlockTimeout_sealed (k : Nat) (s : State) : (s.pllUnlockTimeout k).sealed = s.sealed := by
  simp [State.pllUnlockTimeout]
@[simp] theorem pllStatusGet_sealed (refMeas : Nat) (c : Cmd) (s : State) : ((pllStatusGet refMeas).body c s).state.sealed = s.sealed := by
  simp [pllStatusGet]

@[simp] theorem State.loadAudio_sealed (s : State) : s.loadAudio.sealed = s.sealed := by
  unfold State.loadAudio
  split <;> simp

@[simp] theorem State.steerClocks_sealed (s : State) : s.steerClocks.sealed = s.sealed := by simp [State.steerClocks]
@[simp] theorem State.steerRadio_sealed (s : State) : s.steerRadio.sealed = s.sealed := by simp [State.steerRadio]

/-! ### Operands -/

@[simp] theorem State.modSctx_sealed (who : Nat) (f : ScreedCtx → ScreedCtx) (s : State) : (s.modSctx who f).sealed = s.sealed := by
  simp [State.modSctx]
@[simp] theorem State.setData_sealed (lane w v : Nat) (s : State) : (s.setData lane w v).sealed = s.sealed := (rfl)
@[simp] theorem State.storeWord_sealed (lane w v : Nat) (s : State) : (s.storeWord lane w v).sealed = s.sealed := by simp [State.storeWord]
@[simp] theorem State.satHit_sealed (lane : Nat) (s : State) : (s.satHit lane).sealed = s.sealed := (rfl)
@[simp] theorem State.satIf_sealed (lane : Nat) (hit : Bool) (s : State) : (s.satIf lane hit).sealed = s.sealed := by simp [State.satIf]
@[simp] theorem State.putV_sealed (who lane n : Nat) (v : Int) (s : State) : (s.putV who lane n v).sealed = s.sealed := by simp [State.putV]
@[simp] theorem State.putP_sealed (who lane n : Nat) (v : Int) (s : State) : (s.putP who lane n v).sealed = s.sealed := by simp [State.putP]
@[simp] theorem State.putC_sealed (who lane n : Nat) (v : Bool) (s : State) : (s.putC who lane n v).sealed = s.sealed := by
  simp [State.putC]
@[simp] theorem State.putAcc_sealed (who lane n : Nat) (v : Int) (s : State) : (s.putAcc who lane n v).sealed = s.sealed := by
  simp [State.putAcc]
@[simp] theorem State.putLine_sealed (lane d : Nat) (v : Int) (s : State) : (s.putLine lane d v).sealed = s.sealed := by
  simp [State.putLine]

@[simp] theorem State.putDest_sealed (who lane x : Nat) (c : ScreedCtx) (v : Int) (s : State) :
    (s.putDest who lane x c v).sealed = s.sealed := by
  unfold State.putDest
  split <;> simp

@[simp] theorem State.countClamps_sealed (ls xs : List Nat) (s : State) : (s.countClamps ls xs).sealed = s.sealed := (rfl)

/-! ### Screed -/

@[simp] theorem State.modSprog_sealed (who : Nat) (f : ScreedProg → ScreedProg) (s : State) : (s.modSprog who f).sealed = s.sealed := by
  unfold State.modSprog
  split <;> simp

@[simp] theorem State.landLane_sealed (who : Nat) (p : Product) (lv : Nat × Int) (s : State) : (s.landLane who p lv).sealed = s.sealed := by
  unfold State.landLane
  split <;> simp

@[simp] theorem State.landProduct_sealed (who : Nat) (s : State) (p : Product) : (s.landProduct who p).sealed = s.sealed := by
  simp [State.landProduct]
@[simp] theorem State.landDue_sealed (who slot : Nat) (s : State) : (s.landDue who slot).sealed = s.sealed := by simp [State.landDue]
@[simp] theorem State.landAll_sealed (who : Nat) (s : State) : (s.landAll who).sealed = s.sealed := by simp [State.landAll]

@[simp] theorem State.productLands_sealed (background : Bool) (s : State) : (s.productLands background).sealed = s.sealed := by
  simp only [State.productLands]
  split <;> simp

@[simp] theorem State.screedFault_sealed (who pos : Nat) (s : State) : (s.screedFault who pos).sealed = s.sealed := by
  simp [State.screedFault]
@[simp] theorem State.epochLate_sealed (s : State) : s.epochLate.sealed = s.sealed := by simp [State.epochLate]
@[simp] theorem State.solverReinit_sealed (s : State) : s.solverReinit.sealed = s.sealed := by simp [State.solverReinit]
@[simp] theorem State.checkFetch_sealed (who : Nat) (s : State) : (s.checkFetch who).sealed = s.sealed := by simp [State.checkFetch]

@[simp] theorem State.stepPast_sealed (who : Nat) (rep : Bool) (s : State) : (s.stepPast who rep).sealed = s.sealed := by
  simp only [State.stepPast]
  split <;> simp

@[simp] theorem State.sequence_sealed (who : Nat) (target : Option Nat) (s : State) : (s.sequence who target).sealed = s.sealed := by
  unfold State.sequence
  split <;> simp

@[simp] theorem State.countSlots_sealed (who n : Nat) (s : State) : (s.countSlots who n).sealed = s.sealed := by simp [State.countSlots]

@[simp] theorem State.issueIns_sealed (who : Nat) (i : SIns) (slots : Nat) {f : SFx} (hf : ∀ who i s, (f who i s).1.sealed = s.sealed) (s : State) :
    (s.issueIns who i slots f).sealed = s.sealed := by
  unfold State.issueIns
  dsimp only
  split
  · simp
  · simp [hf]

@[simp] theorem State.perLane_sealed (who : Nat) (i : SIns) (g : Nat → Int × Bool) (s : State) : (s.perLane who i g).sealed = s.sealed := by
  simp [State.perLane]
@[simp] theorem fxNop_sealed (who : Nat) (i : SIns) (s : State) : (fxNop who i s).1.sealed = s.sealed := (rfl)
@[simp] theorem fxMov_sealed (who : Nat) (i : SIns) (s : State) : (fxMov who i s).1.sealed = s.sealed := State.perLane_sealed ..
@[simp] theorem fxClr_sealed (who : Nat) (i : SIns) (s : State) : (fxClr who i s).1.sealed = s.sealed := State.perLane_sealed ..
@[simp] theorem fxArith_sealed (g : Int → Int → Int) (who : Nat) (i : SIns) (s : State) :
    (fxArith g who i s).1.sealed = s.sealed := State.perLane_sealed ..
@[simp] theorem fxPick_sealed (g : Int → Int → Int) (who : Nat) (i : SIns) (s : State) :
    (fxPick g who i s).1.sealed = s.sealed := State.perLane_sealed ..
@[simp] theorem fxBits_sealed (g : Nat → Nat → Nat) (who : Nat) (i : SIns) (s : State) :
    (fxBits g who i s).1.sealed = s.sealed := State.perLane_sealed ..
@[simp] theorem fxAsh_sealed (who : Nat) (i : SIns) (s : State) : (fxAsh who i s).1.sealed = s.sealed := State.perLane_sealed ..
@[simp] theorem fxAcc_sealed (g : Int → Int → Int) (who : Nat) (i : SIns) (s : State) :
    (fxAcc g who i s).1.sealed = s.sealed := State.perLane_sealed ..
@[simp] theorem fxMul_sealed (who : Nat) (i : SIns) (s : State) : (fxMul who i s).1.sealed = s.sealed := State.modSctx_sealed ..
@[simp] theorem fxCmp_sealed (g : Int → Int → Bool) (who : Nat) (i : SIns) (s : State) :
    (fxCmp g who i s).1.sealed = s.sealed := State.perLane_sealed ..
@[simp] theorem fxCond_sealed (g : Bool → Bool → Bool) (who : Nat) (i : SIns) (s : State) :
    (fxCond g who i s).1.sealed = s.sealed := State.perLane_sealed ..

@[simp] theorem fxFtap_sealed (who : Nat) (i : SIns) (s : State) : (fxFtap who i s).1.sealed = s.sealed := by
  refine (foldl_sealed (fun u v => ?_) _ _).trans (State.landAll_sealed who s)
  rw [State.satIf_sealed, State.putDest_sealed]

@[simp] theorem State.countFault_sealed (who : Nat) (hit : Bool) (s : State) : (s.countFault who hit).sealed = s.sealed := by
  simp [State.countFault]
@[simp] theorem fxLoop_sealed (who : Nat) (i : SIns) (s : State) : (fxLoop who i s).1.sealed = s.sealed := by simp [fxLoop]
@[simp] theorem State.startRep_sealed (who n : Nat) (s : State) : (s.startRep who n).sealed = s.sealed := by simp [State.startRep]

@[simp] theorem State.issueRep_sealed (who : Nat) (i : SIns) (s : State) : (s.issueRep who i).sealed = s.sealed := by
  simp only [State.issueRep]
  split <;> simp

@[simp] theorem State.endPass_sealed (s : State) : s.endPass.sealed = s.sealed := by simp [State.endPass]
@[simp] theorem State.issueFgend_sealed (s : State) : s.issueFgend.sealed = s.sealed := by simp [State.issueFgend]
@[simp] theorem State.issueEvwait_sealed (who : Nat) (i : SIns) (s : State) : (s.issueEvwait who i).sealed = s.sealed := by
  simp [State.issueEvwait]

@[simp] theorem State.evwaitSatisfied_sealed (solver : Bool) (s : State) : (s.evwaitSatisfied solver).sealed = s.sealed := by
  simp only [State.evwaitSatisfied]
  split <;> simp

@[simp] theorem fxJmp_sealed (who : Nat) (i : SIns) (s : State) : (fxJmp who i s).1.sealed = s.sealed := (rfl)
@[simp] theorem fxBranch_sealed (every : Bool) (who : Nat) (i : SIns) (s : State) : (fxBranch every who i s).1.sealed = s.sealed := (rfl)
@[simp] theorem fxLdar_sealed (who : Nat) (i : SIns) (s : State) : (fxLdar who i s).1.sealed = s.sealed := State.modSctx_sealed ..
@[simp] theorem fxAdar_sealed (who : Nat) (i : SIns) (s : State) : (fxAdar who i s).1.sealed = s.sealed := State.modSctx_sealed ..
@[simp] theorem fxSetdp_sealed (who : Nat) (i : SIns) (s : State) : (fxSetdp who i s).1.sealed = s.sealed := State.modSctx_sealed ..
@[simp] theorem fxSetmr_sealed (who : Nat) (i : SIns) (s : State) : (fxSetmr who i s).1.sealed = s.sealed := by simp [fxSetmr, flow]

theorem screedFx_sealed {op n : Nat} {f : SFx} (h : screedFx op = some (n, f)) (who : Nat) (i : SIns) (s : State) :
    (f who i s).1.sealed = s.sealed := by
  unfold screedFx at h
  split at h <;> cases h
  all_goals simp

@[simp] theorem State.issueAny_sealed (who : Nat) (i : SIns) (s : State) : (s.issueAny who i).sealed = s.sealed := by
  unfold State.issueAny
  split
  · next h => exact State.issueIns_sealed _ _ _ (screedFx_sealed h) _
  · split
    · exact State.issueRep_sealed ..
    · rw [apply_ite State.sealed, State.issueFgend_sealed, ite_self]
    · rw [apply_ite State.sealed, State.issueEvwait_sealed, ite_self]
    · rfl

@[simp] theorem State.screedRow_sealed (op slots : Nat) {f : SFx} (hf : ∀ who i s, (f who i s).1.sealed = s.sealed) (s : State) :
    (s.screedRow op slots f).sealed = s.sealed := by
  unfold State.screedRow
  split
  · rfl
  · split
    · rw [apply_ite State.sealed, State.issueIns_sealed _ _ _ hf, ite_self]
    · rfl

@[simp] theorem State.repRow_sealed (s : State) : s.repRow.sealed = s.sealed := by
  unfold State.repRow
  repeat' split
  all_goals simp

@[simp] theorem State.fgendRow_sealed (s : State) : s.fgendRow.sealed = s.sealed := by
  unfold State.fgendRow
  repeat' split
  all_goals simp

@[simp] theorem State.evwaitRow_sealed (s : State) : s.evwaitRow.sealed = s.sealed := by
  unfold State.evwaitRow
  repeat' split
  all_goals simp

/-! ### ScreedTick -/

@[simp] theorem drainRep_sealed (who k : Nat) (s : State) : (drainRep who k s).sealed = s.sealed := by
  induction k generalizing s with
  | zero => simp [drainRep]
  | succ k ih =>
    simp only [drainRep]
    repeat' split
    all_goals simp [ih]

@[simp] theorem State.drainBackground_sealed (s : State) : s.drainBackground.sealed = s.sealed := by simp [State.drainBackground]
@[simp] theorem State.endSaturation_sealed (s : State) : s.endSaturation.sealed = s.sealed := by simp [State.endSaturation]
@[simp] theorem State.noteSlots_sealed (received : Nat) (s : State) : (s.noteSlots received).sealed = s.sealed := (rfl)
@[simp] theorem State.overrun_sealed (s : State) : s.overrun.sealed = s.sealed := by simp [State.overrun]
@[simp] theorem State.modGlide_sealed (n : Nat) (f : Glide → Glide) (s : State) : (s.modGlide n f).sealed = s.sealed := (rfl)
@[simp] theorem State.askJournal_sealed (kind id : Nat) (new : Bytes) (s : State) : (s.askJournal kind id new).sealed = s.sealed := by
  simp [State.askJournal]
@[simp] theorem State.endGlide_sealed (n reason : Nat) (s : State) : (s.endGlide n reason).sealed = s.sealed := by simp [State.endGlide]
@[simp] theorem State.setCoef_sealed (lane w v : Nat) (s : State) : (s.setCoef lane w v).sealed = s.sealed := (rfl)
@[simp] theorem State.glideStep_sealed (n : Nat) (s : State) : (s.glideStep n).sealed = s.sealed := by simp [State.glideStep]
@[simp] theorem State.glideBegin_sealed (n : Nat) (s : State) : (s.glideBegin n).sealed = s.sealed := by simp [State.glideBegin]
@[simp] theorem State.glideTick_sealed (s : State) : s.glideTick.sealed = s.sealed := by simp [State.glideTick]
@[simp] theorem State.commitDone_sealed (c : ScreedCommit) (result : Nat) (s : State) : (s.commitDone c result).sealed = s.sealed := by
  simp [State.commitDone]
@[simp] theorem State.dropDirtyGlides_sealed (s : State) : s.dropDirtyGlides.sealed = s.sealed := by simp [State.dropDirtyGlides]
@[simp] theorem State.finishCopy_sealed (s : State) : s.finishCopy.sealed = s.sealed := by simp [State.finishCopy]
@[simp] theorem State.swapCoef_sealed (s : State) : s.swapCoef.sealed = s.sealed := by simp [State.swapCoef]
@[simp] theorem State.swapProgram_sealed (s : State) : s.swapProgram.sealed = s.sealed := (rfl)
@[simp] theorem State.takeCommit_sealed (c : ScreedCommit) (s : State) : (s.takeCommit c).sealed = s.sealed := by simp [State.takeCommit]
@[simp] theorem State.takeCommits_sealed (s : State) : s.takeCommits.sealed = s.sealed := by simp [State.takeCommits]
@[simp] theorem State.emptyLine_sealed (d : Nat) (s : State) : (s.emptyLine d).sealed = s.sealed := by simp [State.emptyLine]
@[simp] theorem State.applyDesc_sealed (d : Nat) (y : Descriptor) (s : State) : (s.applyDesc d y).sealed = s.sealed := by
  simp [State.applyDesc]
@[simp] theorem State.applyDescs_sealed (s : State) : s.applyDescs.sealed = s.sealed := by simp [State.applyDescs]
@[simp] theorem State.movePositions_sealed (s : State) : s.movePositions.sealed = s.sealed := (rfl)
@[simp] theorem State.writeBack_sealed (s : State) : s.writeBack.sealed = s.sealed := (rfl)

@[simp] theorem State.latchTap_sealed (lane d t : Nat) (s : State) : (s.latchTap lane d t).sealed = s.sealed := by
  unfold State.latchTap
  split <;> simp

@[simp] theorem State.latchTaps_sealed (s : State) : s.latchTaps.sealed = s.sealed :=
  foldl_sealed (fun _ _ => foldl_sealed (fun _ _ => foldl_sealed (fun _ _ => State.latchTap_sealed ..) _ _) _ _) _ _
@[simp] theorem State.lateWindows_sealed (s : State) : s.lateWindows.sealed = s.sealed := by simp [State.lateWindows]
@[simp] theorem State.showWindows_sealed (s : State) : s.showWindows.sealed = s.sealed := by simp [State.showWindows]
@[simp] theorem State.streamerTick_sealed (s : State) : s.streamerTick.sealed = s.sealed := by simp [State.streamerTick]
@[simp] theorem State.secded_sealed (bad : Bool) (memory lane addr : Nat) (s : State) :
    (s.secded bad memory lane addr).sealed = s.sealed := by simp [State.secded]
@[simp] theorem State.zeroDram_sealed (lane a : Nat) (s : State) : (s.zeroDram lane a).sealed = s.sealed := (rfl)

@[simp] theorem State.windowFetchDone_sealed (d t : Nat) (err : Option (Bool × Nat × Nat)) (s : State) :
    (s.windowFetchDone d t err).sealed = s.sealed := by
  unfold State.windowFetchDone
  repeat' split
  all_goals simp

@[simp] theorem State.startPass_sealed (s : State) : s.startPass.sealed = s.sealed := by simp [State.startPass]

/-! ### Router -/

@[simp] theorem State.mapOuts_sealed (f : AudioOut → AudioOut) (s : State) : (s.mapOuts f).sealed = s.sealed := (rfl)
@[simp] theorem State.rampSys_sealed (p : AudioOut → Bool) (up : Bool) (ms : Nat) (s : State) :
    (s.rampSys p up ms).sealed = s.sealed := (rfl)
@[simp] theorem State.setInStream_sealed (x : InStream) (s : State) : (s.setInStream x).sealed = s.sealed := (rfl)
@[simp] theorem State.streamMissing_sealed (id i : Nat) (s : State) : (s.streamMissing id i).sealed = s.sealed := by
  simp [State.streamMissing]
@[simp] theorem State.streamThere_sealed (id i : Nat) (s : State) : (s.streamThere id i).sealed = s.sealed := by simp [State.streamThere]
@[simp] theorem State.streamLate_sealed (id first n : Nat) (s : State) : (s.streamLate id first n).sealed = s.sealed := by
  simp [State.streamLate]
@[simp] theorem State.rememberWord_sealed (id ch w : Nat) (s : State) : (s.rememberWord id ch w).sealed = s.sealed := (rfl)
@[simp] theorem State.presentFrame_sealed (id : Nat) (word : Nat → Nat) (t : Table (Nat × Bool)) (s : State) :
    (s.presentFrame id word t).2.sealed = s.sealed := foldl_pair_sealed (fun ⟨_, _⟩ _ => State.rememberWord_sealed ..) _ _

@[simp] theorem dropLate_sealed (fuel k i first n : Nat) (s : State) : (dropLate fuel k i first n s).2.2.sealed = s.sealed := by
  induction fuel generalizing first n s with
  | zero => rfl
  | succ fuel ih =>
    unfold dropLate
    split
    · rfl
    · dsimp only
      split
      · split
        · rw [ih, State.consume_sealed, State.setInStream_sealed]
        · exact State.setInStream_sealed _ s
      · rfl

@[simp] theorem State.takeHost_sealed (k i : Nat) (t : Table (Nat × Bool)) (s : State) : (s.takeHost k i t).2.sealed = s.sealed := by
  simp only [State.takeHost]
  repeat' split
  all_goals simp

@[simp] theorem State.takeConverter_sealed (k i : Nat) (t : Table (Nat × Bool)) (s : State) :
    (s.takeConverter k i t).2.sealed = s.sealed := by
  unfold State.takeConverter
  split <;> simp

@[simp] theorem State.lateIndices_sealed (id : Nat) (l : List Nat) (s : State) : (s.lateIndices id l).sealed = s.sealed := by
  simp [State.lateIndices]

@[simp] theorem State.takeDownlink_sealed (i : Nat) (t : Table (Nat × Bool)) (s : State) : (s.takeDownlink i t).2.sealed = s.sealed := by
  unfold State.takeDownlink
  dsimp only
  split
  · simp
  · refine (foldl_pair_sealed (fun p c => ?_) _ _).trans ?_
    · split
      · exact State.rememberWord_sealed ..
      · rfl
    · simp

@[simp] theorem State.takeIndex_sealed (i : Nat) (s : State) : (s.takeIndex i).sealed = s.sealed := by
  refine (foldl_pair_sealed (fun p id => ?_) _ _ : _ = State.sealed _)
  dsimp only
  split
  · exact State.takeConverter_sealed ..
  · split
    · exact State.takeDownlink_sealed ..
    · exact State.takeHost_sealed ..

@[simp] theorem State.takeDirect_sealed (id i : Nat) (t : Table (Nat × Bool)) (s : State) : (s.takeDirect id i t).2.sealed = s.sealed := by
  simp only [State.takeDirect]
  split <;> simp

@[simp] theorem State.presentInputs_sealed (i : Nat) (s : State) : (s.presentInputs i).sealed = s.sealed := by
  have hput : ∀ (u : State) (p : Nat × Nat), (if chClass p.2 = 0x10 then
      u.setData (chNo p.2 % 16) (0x7FF0 + chNo p.2 / 16) (Table.get (0, false) p.1 u.audio.now).1 else u).sealed = u.sealed := by
    intro u p
    rw [apply_ite State.sealed, State.setData_sealed, ite_self]
  refine (foldl_sealed hput _ _).trans ?_
  refine (foldl_pair_sealed (fun _ _ => State.takeDirect_sealed ..) _ _).trans ?_
  simp

@[simp] theorem State.hostBlock_sealed (k : Nat) (s : State) : (s.hostBlock k).sealed = s.sealed := by simp [State.hostBlock]
@[simp] theorem State.modAes_sealed (n : Nat) (f : AesPort → AesPort) (s : State) : (s.modAes n f).sealed = s.sealed := (rfl)

@[simp] theorem State.userBitOut_sealed (n : Nat) (s : State) : (s.userBitOut n).sealed = s.sealed := by
  simp only [State.userBitOut]
  split <;> simp

@[simp] theorem State.aesTransmit_sealed (n : Nat) (s : State) : (s.aesTransmit n).sealed = s.sealed := by simp [State.aesTransmit]
@[simp] theorem State.aesSilent_sealed (n : Nat) (s : State) : (s.aesSilent n).sealed = s.sealed := (rfl)
@[simp] theorem State.modTdm_sealed (n : Nat) (f : TdmPort → TdmPort) (s : State) : (s.modTdm n f).sealed = s.sealed := (rfl)
@[simp] theorem State.slaveQueue_sealed (n i : Nat) (on : Bool) (pipe : List (Nat × List Nat)) (s : State) :
    (s.slaveQueue n i on pipe).sealed = s.sealed := (rfl)
@[simp] theorem State.tdmTransmit_sealed (n : Nat) (s : State) : (s.tdmTransmit n).sealed = s.sealed := by simp [State.tdmTransmit]
@[simp] theorem State.emitPorts_sealed (s : State) : s.emitPorts.sealed = s.sealed := by simp [State.emitPorts]
@[simp] theorem State.emitTick_sealed (s : State) : s.emitTick.sealed = s.sealed := by simp [State.emitTick]
@[simp] theorem State.noteOut_sealed (i : Nat) (held rep : Bool) (s : State) : (s.noteOut i held rep).sealed = s.sealed := (rfl)
@[simp] theorem State.muteLanes_sealed (m : Nat) (s : State) : (s.muteLanes m).sealed = s.sealed := (rfl)
@[simp] theorem State.jumpTick_sealed (n : Nat) (s : State) : (s.jumpTick n).sealed = s.sealed := by simp [State.jumpTick]
@[simp] theorem State.jumpTicks_sealed (s : State) : s.jumpTicks.sealed = s.sealed := by simp [State.jumpTicks]
@[simp] theorem State.underrunHoldExpiry_sealed (id : Nat) (s : State) : (s.underrunHoldExpiry id).sealed = s.sealed := by
  simp [State.underrunHoldExpiry]
@[simp] theorem State.startStreams_sealed (i : Nat) (s : State) : (s.startStreams i).sealed = s.sealed := (rfl)
@[simp] theorem State.syncOuts_sealed (i : Nat) (s : State) : (s.syncOuts i).sealed = s.sealed := by simp [State.syncOuts]

/-! ### SampleTick -/

@[simp] theorem State.rampsAhead_sealed (s : State) : s.rampsAhead.sealed = s.sealed := (rfl)

@[simp] theorem State.takeAnchor_sealed (n : Nat) (s : State) : (s.takeAnchor n).sealed = s.sealed := by
  unfold State.takeAnchor
  split <;> simp

@[simp] theorem State.tdmStops_sealed (s : State) : s.tdmStops.sealed = s.sealed := (rfl)
@[simp] theorem State.audioTick_sealed (s : State) : s.audioTick.sealed = s.sealed := by simp [State.audioTick]
@[simp] theorem State.switchCycle_sealed (n : Nat) (s : State) : (s.switchCycle n).sealed = s.sealed := by simp [State.switchCycle]
@[simp] theorem State.afterSwitch_sealed (n : Nat) (s : State) : (s.afterSwitch n).sealed = s.sealed := by simp [State.afterSwitch]
@[simp] theorem State.sampleTick_sealed (received : Nat) (s : State) : (s.sampleTick received).sealed = s.sealed := by
  simp [State.sampleTick]

/-! ### Audio -/

@[simp] theorem aesCsSet_sealed (ok : Bool) (c : Cmd) (s : State) : ((aesCsSet ok).body c s).state.sealed = s.sealed := by simp [aesCsSet]
@[simp] theorem aesCsGet_sealed (c : Cmd) (s : State) : (aesCsGet.body c s).state.sealed = s.sealed := by simp [aesCsGet]
@[simp] theorem aesUserRead_sealed (c : Cmd) (s : State) : (aesUserRead.body c s).state.sealed = s.sealed := by simp [aesUserRead]
@[simp] theorem aesUserWrite_sealed (c : Cmd) (s : State) : (aesUserWrite.body c s).state.sealed = s.sealed := by simp [aesUserWrite]
@[simp] theorem tdmStart_sealed (c : Cmd) (s : State) : (tdmStart.body c s).state.sealed = s.sealed := by simp [tdmStart]
@[simp] theorem tdmStop_sealed (c : Cmd) (s : State) : (tdmStop.body c s).state.sealed = s.sealed := by simp [tdmStop]
@[simp] theorem asrcAssign_sealed (ok : Bool) (c : Cmd) (s : State) : ((asrcAssign ok).body c s).state.sealed = s.sealed := by
  simp [asrcAssign]
@[simp] theorem State.setConverter_sealed (k : Nat) (on : Bool) (ratio : Nat) (s : State) :
    (s.setConverter k on ratio).sealed = s.sealed := (rfl)
@[simp] theorem State.asrcLock_sealed (k ratio : Nat) (s : State) : (s.asrcLock k ratio).sealed = s.sealed := by simp [State.asrcLock]
@[simp] theorem State.asrcUnlock_sealed (k : Nat) (s : State) : (s.asrcUnlock k).sealed = s.sealed := by simp [State.asrcUnlock]
@[simp] theorem routeSet_sealed (ok : Bool) (c : Cmd) (s : State) : ((routeSet ok).body c s).state.sealed = s.sealed := by simp [routeSet]
@[simp] theorem State.routeMapChange_sealed (m : List (Nat × Nat)) (t : Nat) (s : State) : (s.routeMapChange m t).sealed = s.sealed := (rfl)
@[simp] theorem State.bindConverter_sealed (b : Nat × Nat × Nat × Nat) (s : State) : (s.bindConverter b).sealed = s.sealed := (rfl)
@[simp] theorem State.turnQueue_sealed (n : Nat) (toOutput : Bool) (s : State) : (s.turnQueue n toOutput).sealed = s.sealed := by
  simp [State.turnQueue]
@[simp] theorem State.turnQueues_sealed (old new : Nat) (s : State) : (s.turnQueues old new).sealed = s.sealed := by simp [State.turnQueues]
@[simp] theorem State.audioBoundary_sealed (t : Nat) (old s : State) : (State.audioBoundary t old s).sealed = s.sealed := by
  simp [State.audioBoundary]
@[simp] theorem State.muteItem_sealed (v : Bytes) (s : State) : (s.muteItem v).sealed = s.sealed := (rfl)

@[simp] theorem muteSet_sealed (ok : Bool) (c : Cmd) (s : State) : ((muteSet ok).body c s).state.sealed = s.sealed :=
  Cmd.guardItems_sealed (Cmd.journalThen_sealed
    (fun t => by simp) ..)

@[simp] theorem groupSet_sealed (ok : Bool) (c : Cmd) (s : State) : ((groupSet ok).body c s).state.sealed = s.sealed := by simp [groupSet]
@[simp] theorem State.storeFrame_sealed (id i : Nat) (words : List Nat) (s : State) : (s.storeFrame id i words).sealed = s.sealed := by
  simp [State.storeFrame]
@[simp] theorem State.userBitIn_sealed (n : Nat) (b : Bool) (s : State) : (s.userBitIn n b).sealed = s.sealed := by simp [State.userBitIn]
@[simp] theorem State.aesFrame_sealed (n t : Nat) (f : AesFrame) (s : State) : (s.aesFrame n t f).sealed = s.sealed := by
  simp [State.aesFrame]
@[simp] theorem State.channelBlock_sealed (n ch seq : Nat) (b : Bytes) (s : State) : (s.channelBlock n ch seq b).sealed = s.sealed := by
  simp [State.channelBlock]
@[simp] theorem State.aesBlock_sealed (n : Nat) (a b : Bytes) (s : State) : (s.aesBlock n a b).sealed = s.sealed := by simp [State.aesBlock]
@[simp] theorem State.aesLock_sealed (n rate : Nat) (s : State) : (s.aesLock n rate).sealed = s.sealed := by simp [State.aesLock]
@[simp] theorem State.aesLockLoss_sealed (n : Nat) (s : State) : (s.aesLockLoss n).sealed = s.sealed := by simp [State.aesLockLoss]

@[simp] theorem State.slaveFrame_sealed (n i : Nat) (s : State) : (s.slaveFrame n i).sealed = s.sealed := by
  simp only [State.slaveFrame]
  split <;> simp

@[simp] theorem State.tdmFrame_sealed (n t period : Nat) (slots : List (BitVec 32)) (s : State) :
    (s.tdmFrame n t period slots).sealed = s.sealed := by simp [State.tdmFrame]

/-! ### ScreedLoad -/

@[simp] theorem loadCommand_sealed (part : Nat) (tests : Cmd → State → List (Bool × Status)) (c : Cmd) (s : State) :
    ((loadCommand part tests).body c s).state.sealed = s.sealed := by simp [loadCommand]
@[simp] theorem screedLoadBegin_sealed (c : Cmd) (s : State) : (screedLoadBegin.body c s).state.sealed = s.sealed := loadCommand_sealed ..
@[simp] theorem screedLoadData_sealed (c : Cmd) (s : State) : (screedLoadData.body c s).state.sealed = s.sealed := loadCommand_sealed ..
@[simp] theorem screedLoadEnd_sealed (c : Cmd) (s : State) : (screedLoadEnd.body c s).state.sealed = s.sealed := loadCommand_sealed ..
@[simp] theorem screedLoadLoad_sealed (c : Cmd) (s : State) : (screedLoadLoad.body c s).state.sealed = s.sealed := loadCommand_sealed ..
@[simp] theorem screedLoadDelete_sealed (c : Cmd) (s : State) : (screedLoadDelete.body c s).state.sealed = s.sealed := loadCommand_sealed ..
@[simp] theorem State.fillIdle_sealed (b : ScreedBank) (s : State) : (s.fillIdle b).sealed = s.sealed := by simp [State.fillIdle]
@[simp] theorem State.startCustomer_sealed (entry : Nat) (words : List Nat) (s : State) :
    (s.startCustomer entry words).sealed = s.sealed := by simp [State.startCustomer]

@[simp] theorem State.loadEntry_sealed (target entry : Nat) (words : List Nat) (s : State) :
    (s.loadEntry target entry words).2.sealed = s.sealed := by
  unfold State.loadEntry
  split <;> simp

@[simp] theorem State.endStaging_sealed (w : LoadWork) (g : Staging) (ok : Bool) (s : State) :
    (s.endStaging w g ok).2.2.sealed = s.sealed := by
  unfold State.endStaging
  extract_lets words whole st
  split
  · rfl
  · dsimp only
    split
    · next h =>
      have ht := sealed_of_eq h (State.journalAppend_sealed ..)
      rwa [State.loadEntry_sealed]
    · next h => exact sealed_of_eq h (State.journalAppend_sealed ..)

@[simp] theorem State.loadWork_sealed (w : LoadWork) (ok : Bool) (s : State) : (s.loadWork w ok).2.2.sealed = s.sealed := by
  unfold State.loadWork
  split
  · split <;> rfl
  · split
    · exact State.nvFault_sealed s
    · rfl
  · split
    · split
      · rfl
      · exact State.endStaging_sealed ..
    · rfl
  · split
    · extract_lets st
      split
      · rfl
      · exact State.loadEntry_sealed ..
    · rfl
  · split
    · rfl
    · split
      · next h =>
        have ht := sealed_of_eq h (State.journalAppend_sealed ..)
        exact ht
      · next h => exact sealed_of_eq h (State.journalAppend_sealed ..)

@[simp] theorem State.screedLoadDone_sealed (ok : Bool) (s : State) : (s.screedLoadDone ok).sealed = s.sealed := by
  unfold State.screedLoadDone
  split <;> simp

/-! ### ScreedCmd -/

@[simp] theorem State.addCommit_sealed (what index : Nat) (cell : Bool) (s : State) : (s.addCommit what index cell).sealed = s.sealed := by
  simp [State.addCommit]
@[simp] theorem screedCommit_sealed (c : Cmd) (s : State) : (screedCommit.body c s).state.sealed = s.sealed := by simp [screedCommit]
@[simp] theorem screedCommitCancel_sealed (c : Cmd) (s : State) : (screedCommitCancel.body c s).state.sealed = s.sealed := by
  simp [screedCommitCancel]
@[simp] theorem coefWrite_sealed (ok : Bool) (c : Cmd) (s : State) : ((coefWrite ok).body c s).state.sealed = s.sealed := by
  simp [coefWrite]

@[simp] theorem State.glideItem_sealed (v : Bytes) (s : State) : (s.glideItem v).2.sealed = s.sealed := by
  unfold State.glideItem
  split <;> simp

@[simp] theorem glideAll_sealed (l : List Item) (s : State) : (glideAll l s).2.sealed = s.sealed := by
  induction l generalizing s with
  | nil => rfl
  | cons i l ih => exact (ih _).trans (State.glideItem_sealed ..)

@[simp] theorem glideCommand_sealed (aborts : Bool) (c : Cmd) (s : State) : ((glideCommand aborts).body c s).state.sealed = s.sealed := by
  simp [glideCommand]
@[simp] theorem State.rebind_sealed (old : Configuration) (items : List Item) (s : State) : (s.rebind old items).sealed = s.sealed := (rfl)

@[simp] theorem geometrySet_sealed (ok : Bool) (c : Cmd) (s : State) : ((geometrySet ok).body c s).state.sealed = s.sealed :=
  Cmd.guardItems_sealed (guarded_sealed (Cmd.journalThen_sealed
    (fun t => by simp) ..))

@[simp] theorem State.geometryTargets_sealed (s : State) : s.geometryTargets.sealed = s.sealed := by
  unfold State.geometryTargets
  split <;> simp

@[simp] theorem State.airTempFrom_sealed (source : Nat) (v : Int) (s : State) : (s.airTempFrom source v).sealed = s.sealed := (rfl)
@[simp] theorem State.geometryMt_sealed (s : State) : s.geometryMt.sealed = s.sealed := (rfl)
@[simp] theorem airTempSet_sealed (c : Cmd) (s : State) : (airTempSet.body c s).state.sealed = s.sealed := by simp [airTempSet]

@[simp] theorem State.airTempLine_sealed (uart : Nat) (line : Bytes) (s : State) : (s.airTempLine uart line).sealed = s.sealed := by
  unfold State.airTempLine
  repeat' split
  all_goals simp

@[simp] theorem State.airTempStale_sealed (s : State) : s.airTempStale.sealed = s.sealed := by simp [State.airTempStale]
@[simp] theorem delayDescSet_sealed (ok : Bool) (c : Cmd) (s : State) : ((delayDescSet ok).body c s).state.sealed = s.sealed := by
  simp [delayDescSet]
@[simp] theorem State.haltForeground_sealed (s : State) : s.haltForeground.sealed = s.sealed := (rfl)
@[simp] theorem State.badFgWord_sealed (inB : Bool) (k : Nat) (s : State) : (s.badFgWord inB k).sealed = s.sealed := by
  simp [State.badFgWord]

@[simp] theorem State.uncorrectable_sealed (w : ScrubWord) (s : State) : (s.uncorrectable w).sealed = s.sealed := by
  unfold State.uncorrectable
  split <;> simp

@[simp] theorem State.scrub_sealed (w : ScrubWord) (bad : Bool) (s : State) : (s.scrub w bad).sealed = s.sealed := by simp [State.scrub]
@[simp] theorem State.startSolver_sealed (s : State) : s.startSolver.sealed = s.sealed := (rfl)
@[simp] theorem State.reloadBank_sealed (s : State) (inB : Bool) : (s.reloadBank inB).sealed = s.sealed := (rfl)
@[simp] theorem State.bankReload_sealed (s : State) : s.bankReload.sealed = s.sealed := by simp [State.bankReload]
@[simp] theorem State.withdrawCommits_sealed (result : Nat) (s : State) : (s.withdrawCommits result).sealed = s.sealed := by
  simp [State.withdrawCommits]
@[simp] theorem State.endGlides_sealed (reason : Nat) (s : State) : (s.endGlides reason).sealed = s.sealed := by simp [State.endGlides]
@[simp] theorem State.rateChanged_sealed (first : Nat) (s : State) : (s.rateChanged first).sealed = s.sealed := by simp [State.rateChanged]

/-! ### Uart -/

@[simp] theorem State.modUart_sealed (n : Nat) (f : Uart → Uart) (s : State) : (s.modUart n f).sealed = s.sealed := (rfl)
@[simp] theorem State.uartEvent_sealed (n code ch : Nat) (s : State) : (s.uartEvent n code ch).sealed = s.sealed := by
  simp [State.uartEvent]
@[simp] theorem State.updateRts_sealed (n : Nat) (s : State) : (s.updateRts n).sealed = s.sealed := (rfl)
@[simp] theorem State.blockCommit_sealed (n : Nat) (s : State) : (s.blockCommit n).sealed = s.sealed := by simp [State.blockCommit]
@[simp] theorem State.latchBlock_sealed (n : Nat) (s : State) : (s.latchBlock n).sealed = s.sealed := by simp [State.latchBlock]
@[simp] theorem State.blockStore_sealed (n ch : Nat) (s : State) : (s.blockStore n ch).sealed = s.sealed := by simp [State.blockStore]
@[simp] theorem State.blockDrain_sealed (n : Nat) (s : State) : (s.blockDrain n).sealed = s.sealed := by simp [State.blockDrain]
@[simp] theorem State.storeChar_sealed (n ch errs code : Nat) (s : State) : (s.storeChar n ch errs code).sealed = s.sealed := by
  simp [State.storeChar]
@[simp] theorem State.latchRx_sealed (n t : Nat) (s : State) : (s.latchRx n t).sealed = s.sealed := (rfl)
@[simp] theorem State.frameEnd_sealed (n raw : Nat) (stop : Bool) (s : State) : (s.frameEnd n raw stop).sealed = s.sealed := by
  simp [State.frameEnd]

@[simp] theorem State.characterReceived_sealed (n : Nat) (x : UartLine) (s : State) : (s.characterReceived n x).sealed = s.sealed := by
  simp only [State.characterReceived]
  repeat' split
  all_goals simp

@[simp] theorem State.idleLine_sealed (n : Nat) (s : State) : (s.idleLine n).sealed = s.sealed := by simp [State.idleLine]
@[simp] theorem State.blockFlushIdle_sealed (n : Nat) (s : State) : (s.blockFlushIdle n).sealed = s.sealed := by simp [State.blockFlushIdle]
@[simp] theorem State.startEdge_sealed (n cfg div : Nat) (s : State) : (s.startEdge n cfg div).sealed = s.sealed := (rfl)
@[simp] theorem State.endRun_sealed (n : Nat) (s : State) : (s.endRun n).sealed = s.sealed := (rfl)

@[simp] theorem State.characterTransmit_sealed (n : Nat) (cts : Bool) (s : State) : (s.characterTransmit n cts).sealed = s.sealed := by
  simp only [State.characterTransmit]
  repeat' split
  all_goals simp

@[simp] theorem State.blockTx_sealed (n : Nat) (s : State) : (s.blockTx n).sealed = s.sealed := by
  unfold State.blockTx
  split <;> simp

@[simp] theorem State.ustatRead_sealed (n : Nat) (s : State) : (s.ustatRead n).sealed = s.sealed := (rfl)
@[simp] theorem State.udataRead_sealed (n : Nat) (s : State) : (s.udataRead n).sealed = s.sealed := by simp [State.udataRead]
@[simp] theorem State.udataWrite_sealed (n v : Nat) (s : State) : (s.udataWrite n v).sealed = s.sealed := (rfl)
@[simp] theorem uartBreak_sealed (n : Nat) (c : Cmd) (s : State) : ((uartBreak n).body c s).state.sealed = s.sealed := by simp [uartBreak]

@[simp] theorem State.uartBreakAny_sealed (s : State) : s.uartBreakAny.sealed = s.sealed := by
  unfold State.uartBreakAny
  split
  · rfl
  · exact CmdSpec.run_sealed_eq (uartBreak_sealed _) s

@[simp] theorem State.breakBegin_sealed (n : Nat) (s : State) : (s.breakBegin n).sealed = s.sealed := by simp [State.breakBegin]
@[simp] theorem State.breakEnd_sealed (n : Nat) (s : State) : (s.breakEnd n).sealed = s.sealed := by simp [State.breakEnd]
@[simp] theorem State.seeCts_sealed (cts : BitVec 4) (s : State) : (s.seeCts cts).sealed = s.sealed := (rfl)
@[simp] theorem State.noteUart_sealed (n : Nat) (s : State) : (s.noteUart n).sealed = s.sealed := (rfl)
@[simp] theorem State.uartCfgChanged_sealed (n old : Nat) (s : State) : (s.uartCfgChanged n old).sealed = s.sealed := by
  simp [State.uartCfgChanged]

/-! ### Cell -/

@[simp] theorem State.offerOmba_sealed (n station f : Nat) (credit : Bool) (msg : Bytes) (s : State) :
    (s.offerOmba n station f credit msg).sealed = s.sealed := by simp [State.offerOmba]
@[simp] theorem State.passOmba_sealed (n station f : Nat) (msg : Bytes) (s : State) : (s.passOmba n station f msg).sealed = s.sealed := by
  simp [State.passOmba]
@[simp] theorem State.modMember_sealed (st : Nat) (f : Member → Member) (s : State) : (s.modMember st f).sealed = s.sealed := (rfl)
@[simp] theorem State.regrant_sealed (st : Nat) (s : State) : (s.regrant st).sealed = s.sealed := by simp [State.regrant]
@[simp] theorem State.restorePair_sealed (st : Nat) (s : State) : (s.restorePair st).sealed = s.sealed := (rfl)
@[simp] theorem State.takeAck_sealed (st ack limit : Nat) (s : State) : (s.takeAck st ack limit).sealed = s.sealed := by
  simp [State.takeAck]
@[simp] theorem State.dropPeer_sealed (st : Nat) (s : State) : (s.dropPeer st).2.2.sealed = s.sealed := by simp [State.dropPeer]
@[simp] theorem State.losePeer_sealed (st reason : Nat) (s : State) : (s.losePeer st reason).2.2.sealed = s.sealed := by
  simp [State.losePeer]
@[simp] theorem State.markAbsent_sealed (st : Nat) (s : State) : (s.markAbsent st).sealed = s.sealed := by simp [State.markAbsent]

@[simp] theorem State.uplinkMissed_sealed (st : Nat) (s : State) : (s.uplinkMissed st).sealed = s.sealed :=
  State.ascending_sealed (fun s => by
    simp) s

@[simp] theorem State.sendControl_sealed (st : Nat) (l : List QEntry) (i room : Nat) (s : State) :
    (State.sendControl st l i room s).2.sealed = s.sealed := by
  induction l generalizing i room s with
  | nil => rfl
  | cons e l ih =>
    unfold State.sendControl
    dsimp only
    split
    · rfl
    · simp [ih]

@[simp] theorem State.controlTo_sealed (st room : Nat) (s : State) : (s.controlTo st room).2.sealed = s.sealed := by simp [State.controlTo]

@[simp] theorem State.controlAll_sealed (l : List Nat) (room : Nat) (s : State) : (State.controlAll l room s).2.sealed = s.sealed := by
  induction l generalizing room s with
  | nil => rfl
  | cons st l ih => exact (ih _ _).trans (State.controlTo_sealed ..)

@[simp] theorem State.grantMessage_sealed (f : Nat) (s : State) : (s.grantMessage f).2.sealed = s.sealed := by
  simp only [State.grantMessage]
  split <;> simp

@[simp] theorem State.grantMessages_sealed (l : List Nat) (s : State) : (State.grantMessages l s).2.sealed = s.sealed := by
  induction l generalizing s with
  | nil => rfl
  | cons f l ih => exact (ih _).trans (State.grantMessage_sealed ..)

@[simp] theorem State.cellSection_sealed (f room : Nat) (s : State) : (s.cellSection f room).2.sealed = s.sealed := by
  simp [State.cellSection]

@[simp] theorem State.passAudio_sealed (station f first channels fsCode n : Nat) (b : Bytes) (s : State) :
    (State.passAudio station f first channels fsCode n b s).2.sealed = s.sealed := by
  induction n generalizing first b s with
  | zero => rfl
  | succ n ih =>
    unfold State.passAudio
    split
    · rfl
    · dsimp only
      split
      · exact State.passOmba_sealed ..
      · exact (ih _ _ _).trans (State.passOmba_sealed ..)

@[simp] theorem State.dropSent_sealed (f : Nat) (s : State) : (s.dropSent f).sealed = s.sealed := (rfl)
@[simp] theorem State.uplinkPayload_sealed (s : State) : s.uplinkPayload.2.sealed = s.sealed := by simp [State.uplinkPayload]

@[simp] theorem State.composeBurst_sealed (kind f : Nat) (s : State) : (s.composeBurst kind f).2.sealed = s.sealed := by
  unfold State.composeBurst
  split <;> simp

@[simp] theorem State.wholePayload_sealed (kind f : Nat) (x : Load) (s : State) : (s.wholePayload kind f x).2.sealed = s.sealed := by
  unfold State.wholePayload
  split <;> simp

@[simp] theorem State.burstSent_sealed (kind f : Nat) (x : Load) (payload : Bytes) (s : State) :
    (s.burstSent kind f x payload).sealed = s.sealed := by
  simp only [State.burstSent]
  split <;> simp

@[simp] theorem State.downlinkLost_sealed (f : Nat) (s : State) : (s.downlinkLost f).sealed = s.sealed := (rfl)

/-! ### StartUp -/

@[simp] theorem State.beginStreams_sealed (s : State) : s.beginStreams.sealed = s.sealed := (rfl)
@[simp] theorem State.takeStartStep_sealed (s : State) : s.takeStartStep.sealed = s.sealed := by simp [State.takeStartStep]

@[simp] theorem State.advanceStartN_sealed (k : Nat) (s : State) : (s.advanceStartN k).sealed = s.sealed := by
  induction k generalizing s with
  | zero => rfl
  | succ k ih => simp [State.advanceStartN, ih]

@[simp] theorem State.advanceStart_sealed (s : State) : s.advanceStart.sealed = s.sealed := by simp [State.advanceStart]
@[simp] theorem State.endStreams_sealed (s : State) : s.endStreams.sealed = s.sealed := (rfl)

@[simp] theorem State.loseAll_sealed (reason : Nat) (s : State) : (s.loseAll reason).sealed = s.sealed := by
  unfold State.loseAll
  split
  · refine (State.reclaimEvent_sealed ..).trans (foldl_pair_sealed (fun p m => ?_) _ _)
    split
    · exact State.dropPeer_sealed ..
    · rfl
  · refine foldl_sealed (fun s m => ?_) _ _
    rw [apply_ite State.sealed, State.losePeer_sealed, ite_self]

@[simp] theorem State.stopCell_sealed (reason : Nat) (s : State) : (s.stopCell reason).sealed = s.sealed := by simp [State.stopCell]

/-! ### CellRx -/

theorem State.takeDelivered_sealed {kind : Nat} {x : RxFrame} {s t : State} (h : s.takeDelivered kind = some (x, t)) :
    t.sealed = s.sealed := by
  obtain ⟨_, _, hx⟩ := Option.map_eq_some_iff.mp h
  cases hx
  rfl

@[simp] theorem State.heardAt_sealed (st : Nat) (s : State) : (s.heardAt st).sealed = s.sealed := (rfl)
@[simp] theorem State.heardFrom_sealed (st f : Nat) (s : State) : (s.heardFrom st f).sealed = s.sealed := (rfl)
@[simp] theorem State.beaconRegained_sealed (s : State) : s.beaconRegained.sealed = s.sealed := by simp [State.beaconRegained]
@[simp] theorem State.takeStepItem_sealed (b : Bytes) (s : State) : (s.takeStepItem b).sealed = s.sealed := by simp [State.takeStepItem]
@[simp] theorem State.takeLeapItem_sealed (b : Bytes) (s : State) : (s.takeLeapItem b).sealed = s.sealed := by simp [State.takeLeapItem]

@[simp] theorem State.takeItem_sealed (kind : Nat) (b : Bytes) (s : State) : (s.takeItem kind b).sealed = s.sealed := by
  unfold State.takeItem
  split <;> simp

@[simp] theorem State.takeBeacon_sealed (x : RxFrame) (lead : Int) (s : State) : (s.takeBeacon x lead).sealed = s.sealed := by
  simp [State.takeBeacon]

@[simp] theorem State.beaconRx_sealed (s : State) : s.beaconRx.sealed = s.sealed := by
  unfold State.beaconRx
  split
  · rfl
  · split
    · next h => rw [State.takeBeacon_sealed, State.takeDelivered_sealed h]
    · rfl

@[simp] theorem State.beaconLost_sealed (s : State) : s.beaconLost.sealed = s.sealed := by simp [State.beaconLost]

@[simp] theorem State.deliverMessage_sealed (f : Nat) (s : State) (m : CellMessage) : (s.deliverMessage f m).sealed = s.sealed := by
  unfold State.deliverMessage
  repeat' split
  all_goals simp

theorem State.takeMessage_sealed {kind : Nat} {m : CellMessage} {s t : State} (h : s.takeMessage kind = some (m, t)) :
    t.sealed = s.sealed := by
  obtain ⟨_, _, hx⟩ := Option.map_eq_some_iff.mp h
  cases hx
  rfl

@[simp] theorem State.takeAudio_sealed (x : RxFrame) (s : State) : (s.takeAudio x).sealed = s.sealed := by simp [State.takeAudio]
@[simp] theorem State.takeDownlinkBurst_sealed (x : RxFrame) (s : State) : (s.takeDownlinkBurst x).sealed = s.sealed := by
  simp [State.takeDownlinkBurst]

@[simp] theorem State.downlinkRx_sealed (s : State) : s.downlinkRx.sealed = s.sealed := by
  unfold State.downlinkRx
  split
  · rfl
  · split
    · next h => rw [State.takeDownlinkBurst_sealed, State.takeDelivered_sealed h]
    · rfl

@[simp] theorem State.offerResult_sealed (kind svs : Nat) (fail : Bool) (x : Int) (bound delay at_ : Nat) (s : State) :
    (s.offerResult kind svs fail x bound delay at_).sealed = s.sealed := by simp [State.offerResult]

@[simp] theorem State.takeTtManager_sealed (x : RxFrame) (t1 deviation combined : Nat) (s : State) :
    (s.takeTtManager x t1 deviation combined).sealed = s.sealed := by
  simp only [State.takeTtManager]
  repeat' split
  all_goals simp

@[simp] theorem State.ttManagerBurstRx_sealed (deviation combined : Nat) (s : State) :
    (s.ttManagerBurstRx deviation combined).sealed = s.sealed := by
  unfold State.ttManagerBurstRx
  split
  · rfl
  · split
    · next h => rw [State.takeTtManager_sealed, State.takeDelivered_sealed h]
    · rfl

@[simp] theorem State.takeTtReply_sealed (x : RxFrame) (t3 : Nat) (s : State) : (s.takeTtReply x t3).sealed = s.sealed := by
  simp [State.takeTtReply]

@[simp] theorem State.ttReplyRx_sealed (s : State) : s.ttReplyRx.sealed = s.sealed := by
  unfold State.ttReplyRx
  split
  · rfl
  · split
    · next h => rw [State.takeTtReply_sealed, State.takeDelivered_sealed h]
    · rfl

@[simp] theorem State.cvResult_sealed (bound instant : Nat) (s : State) : (s.cvResult bound instant).sealed = s.sealed := by
  simp [State.cvResult]

@[simp] theorem State.measMessage_sealed (ownRanges mgrRanges weights : List Nat) (bound : Nat) (s : State) :
    (s.measMessage ownRanges mgrRanges weights bound).sealed = s.sealed := by
  unfold State.measMessage
  split
  · rfl
  · split
    · rfl
    · next h =>
      split
      · exact State.takeMessage_sealed h
      · simp [State.takeMessage_sealed h]

@[simp] theorem State.ctrlMessage_sealed (s : State) : s.ctrlMessage.sealed = s.sealed := by
  unfold State.ctrlMessage
  split
  · rfl
  · next h =>
    simp [State.takeMessage_sealed h]

theorem State.takeQueued_sealed {n kind st : Nat} {b : Bytes} {s t : State} (h : s.takeQueued n kind = some (st, b, t)) :
    t.sealed = s.sealed := by
  unfold State.takeQueued at h
  split at h
  · cases h
  · split at h
    · cases h
      exact State.consume_sealed n s
    · cases h

@[simp] theorem State.grantMessageRx_sealed (s : State) : s.grantMessageRx.sealed = s.sealed := by
  unfold State.grantMessageRx
  split
  · next h => rw [State.takeAck_sealed, State.takeQueued_sealed h]
  · rfl

@[simp] theorem State.applyCellCommit_sealed (id what index : Nat) (s : State) : (s.applyCellCommit id what index).sealed = s.sealed := by
  simp only [State.applyCellCommit]
  split <;> simp

@[simp] theorem State.withdrawCellCommits_sealed (s : State) : s.withdrawCellCommits.sealed = s.sealed := by
  simp [State.withdrawCellCommits]

@[simp] theorem State.commitMessageRx_sealed (s : State) : s.commitMessageRx.sealed = s.sealed := by
  unfold State.commitMessageRx
  split
  · rfl
  · next h =>
    simp [State.takeQueued_sealed h]

@[simp] theorem State.admitMessageRx_sealed (s : State) : s.admitMessageRx.sealed = s.sealed := by
  unfold State.admitMessageRx
  split
  · rfl
  · next h =>
    simp
    exact State.takeQueued_sealed h

@[simp] theorem State.noteReport_sealed (st id outcome : Nat) (s : State) : (s.noteReport st id outcome).sealed = s.sealed := by
  simp [State.noteReport]

@[simp] theorem State.reportMessageRx_sealed (s : State) : s.reportMessageRx.sealed = s.sealed := by
  unfold State.reportMessageRx
  split
  · rfl
  · next h => rw [State.takeAck_sealed, State.noteReport_sealed, State.modMember_sealed, State.takeQueued_sealed h]

@[simp] theorem State.diagMessage_sealed (s : State) : s.diagMessage.sealed = s.sealed := by
  unfold State.diagMessage
  split
  · next h => rw [State.offerOmba_sealed, State.takeMessage_sealed h]
  · rfl

@[simp] theorem State.markPresent_sealed (st serial f lq : Nat) (s : State) : (s.markPresent st serial f lq).sealed = s.sealed := by
  simp [State.markPresent]

@[simp] theorem State.takeUplink_sealed (x : RxFrame) (s : State) : (s.takeUplink x).sealed = s.sealed := by
  unfold State.takeUplink
  split <;> simp

@[simp] theorem State.uplinkRx_sealed (s : State) : s.uplinkRx.sealed = s.sealed := by
  unfold State.uplinkRx
  split
  · rfl
  · split
    · next h => rw [State.takeUplink_sealed, State.takeDelivered_sealed h]
    · rfl

@[simp] theorem State.sendWired_sealed (kind u f : Nat) (s : State) : (s.sendWired kind u f).sealed = s.sealed := by simp [State.sendWired]
@[simp] theorem State.wireUp_sealed (t : Nat) (s : State) : (s.wireUp t).sealed = s.sealed := by simp [State.wireUp]
@[simp] theorem State.wiredFrame_sealed (f : Nat) (s : State) : (s.wiredFrame f).sealed = s.sealed := by simp [State.wiredFrame]

@[simp] theorem State.wiredBurstRx_sealed (kind station : Nat) (payload : Bytes) (intact : Bool) (start deviation combined : Nat)
    (s : State) : (s.wiredBurstRx kind station payload intact start deviation combined).sealed = s.sealed := by
  simp only [State.wiredBurstRx]
  repeat' split
  all_goals simp

@[simp] theorem State.endFrame_sealed (f : Nat) (s : State) : (s.endFrame f).sealed = s.sealed := by simp [State.endFrame]

/-! ### CellCmd -/

@[simp] theorem cellStatusGet_sealed (c : Cmd) (s : State) : (cellStatusGet.body c s).state.sealed = s.sealed := by simp [cellStatusGet]
@[simp] theorem cellConfigSet_sealed (ok : Bool) (c : Cmd) (s : State) : ((cellConfigSet ok).body c s).state.sealed = s.sealed := by
  simp [cellConfigSet]
@[simp] theorem State.cellBoundary_sealed (k : Nat) (s : State) : (s.cellBoundary k).sealed = s.sealed := (rfl)
@[simp] theorem State.commitAdmission_sealed (v : Bytes) (admitted : Bool) (s : State) :
    (s.commitAdmission v admitted).sealed = s.sealed := (rfl)
@[simp] theorem workerAdmit_sealed (ok : Bool) (c : Cmd) (s : State) : ((workerAdmit ok).body c s).state.sealed = s.sealed := by
  simp [workerAdmit]
@[simp] theorem workerRevoke_sealed (ok : Bool) (c : Cmd) (s : State) : ((workerRevoke ok).body c s).state.sealed = s.sealed := by
  simp [workerRevoke]
@[simp] theorem cellCommit_sealed (c : Cmd) (s : State) : (cellCommit.body c s).state.sealed = s.sealed := by simp [cellCommit]
@[simp] theorem cellCommitCancel_sealed (c : Cmd) (s : State) : (cellCommitCancel.body c s).state.sealed = s.sealed := by
  simp [cellCommitCancel]

@[simp] theorem State.cellCommitDone_sealed (s : State) : s.cellCommitDone.sealed = s.sealed := by
  unfold State.cellCommitDone
  split <;> simp

/-! ### Radio -/

@[simp] theorem State.modSubBand_sealed (n : Nat) (f : SubBand → SubBand) (s : State) : (s.modSubBand n f).sealed = s.sealed := (rfl)
@[simp] theorem State.tokenBinRoll_sealed (s : State) : s.tokenBinRoll.sealed = s.sealed := (rfl)
@[simp] theorem State.noteTokens_sealed (n : Nat) (s : State) : (s.noteTokens n).sealed = s.sealed := by simp [State.noteTokens]
@[simp] theorem State.charge_sealed (n airtime : Nat) (s : State) : (s.charge n airtime).sealed = s.sealed := by simp [State.charge]
@[simp] theorem State.coexGnt_sealed (level : Bool) (s : State) : (s.coexGnt level).sealed = s.sealed := by simp [State.coexGnt]
@[simp] theorem State.unfreezeAgc_sealed (s : State) : s.unfreezeAgc.sealed = s.sealed := by simp [State.unfreezeAgc]
@[simp] theorem State.retuneRadio_sealed (s : State) : s.retuneRadio.sealed = s.sealed := (rfl)
@[simp] theorem State.tunedTo_sealed (s : State) : s.tunedTo.sealed = s.sealed := (rfl)
@[simp] theorem State.tuneRadio_sealed (mode : Nat) (s : State) : (s.tuneRadio mode).sealed = s.sealed := (rfl)
@[simp] theorem State.wakeRadio_sealed (s : State) : s.wakeRadio.sealed = s.sealed := by simp [State.wakeRadio]
@[simp] theorem rfCal_sealed (c : Cmd) (s : State) : (rfCal.body c s).state.sealed = s.sealed := by simp [rfCal]
@[simp] theorem State.temperatureCal_sealed (t : Int) (s : State) : (s.temperatureCal t).sealed = s.sealed := by simp [State.temperatureCal]
@[simp] theorem State.calStart_sealed (s : State) : s.calStart.sealed = s.sealed := by simp [State.calStart]
@[simp] theorem State.probeStopped_sealed (s : State) : s.probeStopped.sealed = s.sealed := (rfl)
@[simp] theorem State.measureDc_sealed (s : State) : s.measureDc.sealed = s.sealed := (rfl)
@[simp] theorem State.watchCal_sealed (temp : Int) (vco : Nat) (s : State) : (s.watchCal temp vco).sealed = s.sealed := (rfl)

@[simp] theorem State.calComplete_sealed (temp : Int) (vco : Nat) (s : State) : (s.calComplete temp vco).sealed = s.sealed := by
  simp only [State.calComplete]
  repeat' split
  all_goals simp

@[simp] theorem State.radioIdleSleep_sealed (s : State) : s.radioIdleSleep.sealed = s.sealed := by simp [State.radioIdleSleep]
@[simp] theorem State.refuseBurst_sealed (reason b : Nat) (s : State) : (s.refuseBurst reason b).sealed = s.sealed := by
  simp [State.refuseBurst]
@[simp] theorem State.withPlan_sealed (p : ChannelPlan) (s : State) : (s.withPlan p).sealed = s.sealed := (rfl)

@[simp] theorem State.txRequest_sealed (kind : Nat) (s : State) : (s.txRequest kind).sealed = s.sealed := by
  simp only [State.txRequest]
  repeat' split
  all_goals simp

@[simp] theorem State.dropBurst_sealed (x : Burst) (s : State) : (s.dropBurst x).sealed = s.sealed := by simp [State.dropBurst]
@[simp] theorem State.lbtBlocked_sealed (x : Burst) (power : Int) (s : State) : (s.lbtBlocked x power).sealed = s.sealed := by
  simp [State.lbtBlocked]
@[simp] theorem State.startBurst_sealed (x : Burst) (temp : Int) (vdd : Nat) (s : State) : (s.startBurst x temp vdd).sealed = s.sealed := by
  simp [State.startBurst]

@[simp] theorem State.transitionStart_sealed (power temp : Int) (vdd : Nat) (s : State) :
    (s.transitionStart power temp vdd).sealed = s.sealed := by
  unfold State.transitionStart
  split <;> simp

@[simp] theorem State.vswrEvent_sealed (ev code sub vswr : Nat) (s : State) : (s.vswrEvent ev code sub vswr).sealed = s.sealed := by
  simp [State.vswrEvent]
@[simp] theorem State.tune_sealed (mode sub : Nat) (reflected : Int) (s : State) : (s.tune mode sub reflected).sealed = s.sealed := by
  simp [State.tune]
@[simp] theorem State.reduce_sealed (sub vswr : Nat) (s : State) : (s.reduce sub vswr).sealed = s.sealed := by simp [State.reduce]
@[simp] theorem State.judge_sealed (sub vswr reduce : Nat) (probe : Bool) (s : State) :
    (s.judge sub vswr reduce probe).sealed = s.sealed := by simp [State.judge]
@[simp] theorem State.channelChange_sealed (s : State) : s.channelChange.sealed = s.sealed := by simp [State.channelChange]

@[simp] theorem State.burstEnd_sealed (vswr : Nat) (forward reflected : Int) (s : State) :
    (s.burstEnd vswr forward reflected).sealed = s.sealed := by
  unfold State.burstEnd
  split <;> simp

@[simp] theorem State.vswrStop_sealed (vswr : Nat) (s : State) : (s.vswrStop vswr).sealed = s.sealed := by
  unfold State.vswrStop
  split <;> simp

@[simp] theorem State.vswrRetry_sealed (n : Nat) (s : State) : (s.vswrRetry n).sealed = s.sealed := by simp [State.vswrRetry]
@[simp] theorem rfChannelSet_sealed (ok : Bool) (c : Cmd) (s : State) : ((rfChannelSet ok).body c s).state.sealed = s.sealed := by
  simp [rfChannelSet]
@[simp] theorem State.planBoundary_sealed (k : Nat) (s : State) : (s.planBoundary k).sealed = s.sealed := by simp [State.planBoundary]
@[simp] theorem State.loadLocks_sealed (s : State) : s.loadLocks.sealed = s.sealed := by simp [State.loadLocks]
@[simp] theorem tunerStatusGet_sealed (c : Cmd) (s : State) : (tunerStatusGet.body c s).state.sealed = s.sealed := by simp [tunerStatusGet]

/-! ### Gnss -/

@[simp] theorem State.modBand_sealed (l5 : Bool) (f : GnssBand → GnssBand) (s : State) : (s.modBand l5 f).sealed = s.sealed := by
  simp [State.modBand]
@[simp] theorem State.noteSpacings_sealed (s : State) : s.noteSpacings.sealed = s.sealed := (rfl)
@[simp] theorem State.noteBlank_sealed (old : Nat × Nat) (s : State) : (s.noteBlank old).sealed = s.sealed := (rfl)
@[simp] theorem State.agcUpdate_sealed (l5 : Bool) (samples : List (Int × Int)) (t : Nat) (s : State) :
    (s.agcUpdate l5 samples t).sealed = s.sealed := by simp [State.agcUpdate]
@[simp] theorem State.adcClip_sealed (l5 : Bool) (s : State) : (s.adcClip l5).sealed = s.sealed := by simp [State.adcClip]
@[simp] theorem State.blankDuty_sealed (l5 : Bool) (s : State) : (s.blankDuty l5).sealed = s.sealed := by simp [State.blankDuty]
@[simp] theorem State.releaseNotch_sealed (l5 : Bool) (k : Nat) (s : State) : (s.releaseNotch l5 k).sealed = s.sealed := by
  simp [State.releaseNotch]
@[simp] theorem State.lockNotch_sealed (l5 : Bool) (k : Nat) (l : SpectrumLine) (s : State) : (s.lockNotch l5 k l).sealed = s.sealed := by
  simp [State.lockNotch]

@[simp] theorem State.placeLine_sealed (l5 : Bool) (waited : List Nat) (s : State) (l : SpectrumLine) :
    (s.placeLine l5 waited l).sealed = s.sealed := by
  simp only [State.placeLine]
  split <;> simp

@[simp] theorem State.notchSpectrum_sealed (l5 : Bool) (lines : List SpectrumLine) (s : State) :
    (s.notchSpectrum l5 lines).sealed = s.sealed := by
  unfold State.notchSpectrum
  repeat' split
  all_goals simp

@[simp] theorem State.notchRelease_sealed (l5 : Bool) (k : Nat) (s : State) : (s.notchRelease l5 k).sealed = s.sealed := by
  simp [State.notchRelease]
@[simp] theorem State.biasSeen_sealed (l5 : Bool) (current : Nat) (s : State) : (s.biasSeen l5 current).sealed = s.sealed := by
  simp [State.biasSeen]
@[simp] theorem State.biasLimited_sealed (l5 : Bool) (current : Nat) (s : State) : (s.biasLimited l5 current).sealed = s.sealed := by
  simp [State.biasLimited]

@[simp] theorem State.biasShort_sealed (l5 : Bool) (s : State) : (s.biasShort l5).sealed = s.sealed := by
  unfold State.biasShort
  split <;> simp

@[simp] theorem State.biasRetry_sealed (l5 : Bool) (s : State) : (s.biasRetry l5).sealed = s.sealed := by
  unfold State.biasRetry
  split <;> simp

@[simp] theorem State.biasOpen_sealed (l5 : Bool) (current : Nat) (s : State) : (s.biasOpen l5 current).sealed = s.sealed := by
  simp [State.biasOpen]
@[simp] theorem State.biasRecovery_sealed (l5 : Bool) (current : Nat) (s : State) : (s.biasRecovery l5 current).sealed = s.sealed := by
  simp [State.biasRecovery]
@[simp] theorem State.biasWritten_sealed (l5 : Bool) (s : State) : (s.biasWritten l5).sealed = s.sealed := by simp [State.biasWritten]

@[simp] theorem antBiasSet_sealed (ok : Bool) (c : Cmd) (s : State) : ((antBiasSet ok).body c s).state.sealed = s.sealed := by
  refine guarded_sealed ?_
  extract_lets l5 id en new rec_
  split
  · next h =>
    simp
    exact sealed_of_eq h (State.journalAppend_sealed ..)
  · next h => exact sealed_of_eq h (State.journalAppend_sealed ..)

@[simp] theorem State.storeNav_sealed (m : NavMessage) (s : State) : (s.storeNav m).sealed = s.sealed := (rfl)
@[simp] theorem State.takeLeap_sealed (v : LeapNews) (s : State) : (s.takeLeap v).sealed = s.sealed := by simp [State.takeLeap]

@[simp] theorem State.takeNews_sealed (v : Option LeapNews) (s : State) : (s.takeNews v).sealed = s.sealed := by
  unfold State.takeNews
  split <;> simp

@[simp] theorem assistLoad_sealed (c : Cmd) (s : State) : (assistLoad.body c s).state.sealed = s.sealed := by simp [assistLoad]

@[simp] theorem State.assistLoadDone_sealed (failed : List Nat) (leap : Option LeapNews) (s : State) :
    (s.assistLoadDone failed leap).sealed = s.sealed := by
  unfold State.assistLoadDone
  split <;> simp

@[simp] theorem State.modRun_sealed (f : Search → Search) (s : State) : (s.modRun f).sealed = s.sealed := (rfl)
@[simp] theorem State.placeSnapshot_sealed (first : Nat) (s : State) : (s.placeSnapshot first).sealed = s.sealed := (rfl)
@[simp] theorem State.beginSearch_sealed (x : Search) (s : State) : (s.beginSearch x).sealed = s.sealed := by simp [State.beginSearch]

@[simp] theorem State.nextSearch_sealed (s : State) : s.nextSearch.sealed = s.sealed := by
  unfold State.nextSearch
  split <;> simp

@[simp] theorem searchStart_sealed (c : Cmd) (s : State) : (searchStart.body c s).state.sealed = s.sealed := by simp [searchStart]
@[simp] theorem State.endSearches_sealed (f : Search → Bool) (s : State) : (s.endSearches f).sealed = s.sealed := (rfl)
@[simp] theorem searchStop_sealed (c : Cmd) (s : State) : (searchStop.body c s).state.sealed = s.sealed := by simp [searchStop]
@[simp] theorem State.stopBand_sealed (l5 : Bool) (s : State) : (s.stopBand l5).sealed = s.sealed := (rfl)
@[simp] theorem State.autoSearch_sealed (g : Nat) (visible lost : List Nat) (segments : Nat) (s : State) :
    (s.autoSearch g visible lost segments).sealed = s.sealed := by simp [State.autoSearch]

@[simp] theorem State.snapshotDone_sealed (samples : List (Int × Int)) (s : State) : (s.snapshotDone samples).sealed = s.sealed := by
  unfold State.snapshotDone
  split <;> simp

@[simp] theorem State.storeHandoff_sealed (h : Handoff) (s : State) : (s.storeHandoff h).sealed = s.sealed := by simp [State.storeHandoff]
@[simp] theorem State.handoff_sealed (s : State) (h : Handoff) : (s.handoff h).sealed = s.sealed := by simp [State.handoff]

@[simp] theorem State.handoffResume_sealed (s : State) : s.handoffResume.sealed = s.sealed := by
  unfold State.handoffResume
  split <;> simp

@[simp] theorem State.searchPass_sealed (x : Search) (peaks : List LathPeak) (s : State) : (s.searchPass x peaks).sealed = s.sealed := by
  simp [State.searchPass]
@[simp] theorem State.verifyPass_sealed (x : Search) (peaks : List LathPeak) (s : State) : (s.verifyPass x peaks).sealed = s.sealed := by
  simp [State.verifyPass]

@[simp] theorem State.lathPass_sealed (peaks : List LathPeak) (s : State) : (s.lathPass peaks).sealed = s.sealed := by
  unfold State.lathPass
  split <;> simp

@[simp] theorem State.searchDone_sealed (s : State) : s.searchDone.sealed = s.sealed := by
  unfold State.searchDone
  repeat' split
  all_goals simp

/-! ### Settings -/

@[simp] theorem State.biasParam_sealed (id : Nat) (s : State) : (s.biasParam id).sealed = s.sealed := by
  unfold State.biasParam
  split <;> simp

@[simp] theorem State.commitParam_sealed (id v : Nat) (s : State) : (s.commitParam id v).sealed = s.sealed := by simp [State.commitParam]

/-! ### Steward -/

@[simp] theorem State.notify_sealed (kind seq : Nat) (body : Bytes) (s : State) : (s.notify kind seq body).sealed = s.sealed := by
  simp [State.notify]
@[simp] theorem State.answer_sealed (m : Mail) (st : Status) (body : Bytes) (s : State) : (s.answer m st body).sealed = s.sealed := by
  simp [State.answer]

@[simp] theorem State.consumeMail_sealed (k : Nat) (s : State) : (s.consumeMail k).sealed = s.sealed := by
  induction k generalizing s with
  | zero => rfl
  | succ k ih => simp [State.consumeMail, ih]

@[simp] theorem State.takeMail_sealed (m : Mail) (s : State) : (s.takeMail m).sealed = s.sealed := by simp [State.takeMail]
@[simp] theorem State.refuseMail_sealed (m : Mail) (st : Status) (s : State) : (s.refuseMail m st).sealed = s.sealed := by
  simp [State.refuseMail]

@[simp] theorem State.mailRow_sealed (kind : Nat) {f : Mail → State → State} (hf : ∀ m s, (f m s).sealed = s.sealed) (s : State) :
    (s.mailRow kind f).sealed = s.sealed := by
  unfold State.mailRow
  split
  · rfl
  · simp [hf]

@[simp] theorem State.applyRecord_sealed (r : JournalRecord) (s : State) : (s.applyRecord r).sealed = s.sealed := by
  simp [State.applyRecord]
@[simp] theorem State.beginAppend_sealed (r : JournalRecord) (who : Option Nat) (s : State) :
    (s.beginAppend r who).sealed = s.sealed := (rfl)

@[simp] theorem State.serveRecord_sealed (ok : Bool) (r : DeviceRecord) (s : State) : (s.serveRecord ok r).sealed = s.sealed := by
  unfold State.serveRecord
  split <;> simp

@[simp] theorem State.serveOwn_sealed (ok : Bool) (r : DeviceRecord) (s : State) : (s.serveOwn ok r).sealed = s.sealed := by
  simp [State.serveOwn]

@[simp] theorem State.serveRequest_sealed (ok : Bool) (m : Mail) (s : State) : (s.serveRequest ok m).sealed = s.sealed := by
  simp only [State.serveRequest]
  repeat' split
  all_goals simp

@[simp] theorem State.takeRequest_sealed (ok : Bool) (s : State) : (s.takeRequest ok).sealed = s.sealed :=
  State.mailRow_sealed 1 (fun m s => by
    split
    · exact State.serveOwn_sealed ..
    · exact State.serveRequest_sealed ..) s

@[simp] theorem State.journalRequest_sealed (ok : Bool) (s : State) : (s.journalRequest ok).sealed = s.sealed := by
  unfold State.journalRequest
  repeat' split
  all_goals simp

@[simp] theorem State.setCompaction_sealed (c : Option Compaction) (s : State) : (s.setCompaction c).sealed = s.sealed := (rfl)
@[simp] theorem State.beginCompaction_sealed (s : State) : s.beginCompaction.sealed = s.sealed := (rfl)
@[simp] theorem State.snapshotSlice_sealed (k : Nat) (c : Compaction) (s : State) : (s.snapshotSlice k c).sealed = s.sealed := by
  simp [State.snapshotSlice]
@[simp] theorem State.switchSegment_sealed (c : Compaction) (s : State) : (s.switchSegment c).sealed = s.sealed := by
  simp [State.switchSegment]

@[simp] theorem State.verifiedWrite_sealed {f : State → State} (hf : ∀ s, (f s).sealed = s.sealed) (s : State) :
    (s.verifiedWrite f).sealed = s.sealed := by
  simp [State.verifiedWrite, hf]

@[simp] theorem State.compactionSlice_sealed (k : Nat) (s : State) : (s.compactionSlice k).sealed = s.sealed := by
  unfold State.compactionSlice
  split
  · rw [apply_ite State.sealed, State.verifiedWrite_sealed State.beginCompaction_sealed, ite_self]
  · simp [State.verifiedWrite_sealed (State.snapshotSlice_sealed _ _), State.verifiedWrite_sealed (State.switchSegment_sealed _)]

@[simp] theorem journalRead_sealed (c : Cmd) (s : State) : (journalRead.body c s).state.sealed = s.sealed := by
  simp only [journalRead]
  split <;> simp

@[simp] theorem State.journalPublish_sealed (s : State) : s.journalPublish.sealed = s.sealed := by
  unfold State.journalPublish
  split <;> simp

@[simp] theorem State.eventLogRequest_sealed (s : State) : s.eventLogRequest.sealed = s.sealed :=
  State.mailRow_sealed 2 (fun m s => by
    simp) s

@[simp] theorem State.logWrite_sealed (ok : Bool) (s : State) : (s.logWrite ok).sealed = s.sealed := by
  simp only [State.logWrite]
  repeat' split
  all_goals simp

@[simp] theorem logExport_sealed (c : Cmd) (s : State) : (logExport.body c s).state.sealed = s.sealed := by
  simp only [logExport, refuse_sealed, ↓apply_ite State.sealed, ↓apply_ite Result.state, ↓State.sealed_mk, Sealed.eta, ite_self]

@[simp] theorem State.exportEntry_sealed (s : State) : s.exportEntry.sealed = s.sealed := by
  simp only [State.exportEntry]
  repeat' split
  all_goals simp

@[simp] theorem State.exportDone_sealed (s : State) : s.exportDone.sealed = s.sealed := by
  unfold State.exportDone
  split <;> simp

@[simp] theorem State.sessionProofCheck_sealed (s : State) : s.sessionProofCheck.sealed = s.sealed :=
  State.mailRow_sealed 3 (fun m s => by
    simp) s

@[simp] theorem State.sessionTableChange_sealed (s : State) : s.sessionTableChange.sealed = s.sealed := by
  unfold State.sessionTableChange
  split <;> simp

@[simp] theorem State.firmwareBeat_sealed (s : State) : s.firmwareBeat.sealed = s.sealed := by simp [State.firmwareBeat]

@[simp] theorem State.heartbeat_sealed (s : State) : s.heartbeat.sealed = s.sealed := by
  unfold State.heartbeat
  split <;> simp

@[simp] theorem State.watchdogWarn_sealed (s : State) : s.watchdogWarn.sealed = s.sealed := by simp [State.watchdogWarn]
@[simp] theorem State.wdH_sealed (s : State) : s.wdH.sealed = s.sealed := by simp [State.wdH]
@[simp] theorem State.wdS_sealed (s : State) : s.wdS.sealed = s.sealed := by simp [State.wdS]

@[simp] theorem State.deviceResetRequest_sealed (s : State) : s.deviceResetRequest.sealed = s.sealed := by
  unfold State.deviceResetRequest
  split
  · exact State.mailRow_sealed 8 (fun m s => by
      simp) s
  · simp

@[simp] theorem State.regionRead_sealed (s : State) : s.regionRead.sealed = s.sealed :=
  State.mailRow_sealed 7 (fun m s => by
    simp) s

@[simp] theorem State.hourlyBundle_sealed (s : State) : s.hourlyBundle.sealed = s.sealed := by simp [State.hourlyBundle]
@[simp] theorem State.setSensor_sealed (n : Nat) (x : Sensor) (s : State) : (s.setSensor n x).sealed = s.sealed := (rfl)
@[simp] theorem State.sensorLimit_sealed (n st : Nat) (v limit : Int) (s : State) : (s.sensorLimit n st v limit).sealed = s.sealed := by
  simp [State.sensorLimit]
@[simp] theorem State.scanSensor_sealed (n raw : Nat) (s : State) : (s.scanSensor n raw).sealed = s.sealed := by simp [State.scanSensor]
@[simp] theorem State.thermal_sealed (s : State) : s.thermal.sealed = s.sealed := by simp [State.thermal]
@[simp] theorem State.sensorScan_sealed (values : List Nat) (s : State) : (s.sensorScan values).sealed = s.sealed := by
  simp [State.sensorScan]
@[simp] theorem sensorRead_sealed (c : Cmd) (s : State) : (sensorRead.body c s).state.sealed = s.sealed := by simp [sensorRead]

/-! ### Trowel -/

@[simp] theorem State.setCore_sealed (c : Nat) (t : Trowel) (s : State) : (s.setCore c t).sealed = s.sealed := by simp [State.setCore]
@[simp] theorem State.replyHandler_sealed (e : Executing) (payload : Bytes) (tag : ReplyTag) (s : State) :
    (s.replyHandler e payload tag).sealed = s.sealed := by simp [State.replyHandler]

@[simp] theorem State.stopApplet_sealed (cause : Nat) (s : State) : (s.stopApplet cause).sealed = s.sealed := by
  simp only [State.stopApplet]
  repeat' split
  all_goals simp

@[simp] theorem State.takeTrap_sealed (c cause : Nat) (s : State) : (s.takeTrap c cause).sealed = s.sealed := by simp [State.takeTrap]

@[simp] theorem State.handlerReturns_sealed (s : State) : s.handlerReturns.sealed = s.sealed := by
  unfold State.handlerReturns
  repeat' split
  all_goals simp

@[simp] theorem State.coprocessorDone_sealed (c n : Nat) (s : State) : (s.coprocessorDone c n).sealed = s.sealed := by
  simp [State.coprocessorDone]

/-! ### StewardImage -/

@[simp] theorem State.imageState_sealed (code target slot : Nat) (b : Bytes) (s : State) :
    (s.imageState code target slot b).sealed = s.sealed := by simp [State.imageState]
@[simp] theorem State.setStaged_sealed (target : Nat) (g : Image) (s : State) : (s.setStaged target g).sealed = s.sealed := by
  simp [State.setStaged]

@[simp] theorem State.imagePut_sealed (c : Cmd) (flash : Bytes) (s : State) : (s.imagePut c flash).sealed = s.sealed := by
  unfold State.imagePut
  split <;> simp

@[simp] theorem State.imageCheck_sealed (target : Nat) (ok : Bool) (s : State) : (s.imageCheck target ok).2.sealed = s.sealed := by
  simp only [State.imageCheck]
  repeat' split
  all_goals simp

@[simp] theorem State.imageWork_sealed (c : Cmd) (ok : Bool) (flash : Bytes) (s : State) : (s.imageWork c ok flash).sealed = s.sealed := by
  simp [State.imageWork]
@[simp] theorem imageWrite_sealed (sel : Nat → Bool) (ok : Bool) (flash : Bytes) (c : Cmd) (s : State) :
    ((imageWrite sel ok flash).body c s).state.sealed = s.sealed := by simp [imageWrite]

@[simp] theorem State.imageCheckDone_sealed (ok : Bool) (s : State) : (s.imageCheckDone ok).sealed = s.sealed := by
  unfold State.imageCheckDone
  split <;> simp

@[simp] theorem State.activate_sealed (ok : Bool) (c : Cmd) (target slot : Nat) (s : State) :
    (s.activate ok c target slot).2.sealed = s.sealed := by
  unfold State.activate
  split
  · next h =>
    have ht := sealed_of_eq h (State.stewardAppend_sealed ..)
    exact ht
  · exact State.stewardAppend_sealed ..

@[simp] theorem imageActivate_sealed (ok : Bool) (c : Cmd) (s : State) : ((imageActivate ok).body c s).state.sealed = s.sealed := by
  simp [imageActivate]

theorem BootRecord.jtagBlown_confirm (target slot level : Nat) (x : BootRecord) :
    (x.confirm target slot level).jtagBlown = x.jtagBlown := by
  unfold BootRecord.confirm
  split <;> rfl

@[simp] theorem State.confirm_sealed (ok : Bool) (c : Cmd) (s : State) : (s.confirm ok c).2.sealed = s.sealed := by
  unfold State.confirm
  split
  · rfl
  · dsimp only
    split
    · next h =>
      have ht := sealed_of_eq h (State.stewardAppend_sealed ..)
      simp [BootRecord.jtagBlown_confirm]
      exact ht
    · exact State.stewardAppend_sealed ..

@[simp] theorem bootConfirm_sealed (ok : Bool) (c : Cmd) (s : State) : ((bootConfirm ok).body c s).state.sealed = s.sealed := by
  simp [bootConfirm]
@[simp] theorem State.trialTimeout_sealed (s : State) : s.trialTimeout.sealed = s.sealed := by simp [State.trialTimeout]

@[simp] theorem State.updateWork_sealed (ok : Bool) (flash : Bytes) (s : State) : (s.updateWork ok flash).sealed = s.sealed := by
  refine State.mailRow_sealed 6 (fun m s => ?_) s
  split
  · dsimp only
    split
    · split
      · exact State.refuseMail_sealed ..
      · split
        · exact State.answer_sealed ..
        · simp
    · split
      · split
        · exact State.answer_sealed ..
        · rw [State.answer_sealed, State.activate_sealed]
      · split
        · split
          · exact State.answer_sealed ..
          · rw [State.answer_sealed, State.confirm_sealed]
        · exact State.refuseMail_sealed ..
  · exact State.refuseMail_sealed ..

/-! ### Track -/

@[simp] theorem State.modChan_sealed (n : Nat) (f : Chan → Chan) (s : State) : (s.modChan n f).sealed = s.sealed := (rfl)
@[simp] theorem State.loopUpdate_sealed (n k : Nat) (x : LoopErrors) (d : Dump) (s : State) :
    (s.loopUpdate n k x d).sealed = s.sealed := (rfl)
@[simp] theorem State.estimate_sealed (n k : Nat) (d : Dump) (s : State) : (s.estimate n k d).sealed = s.sealed := (rfl)
@[simp] theorem State.chanLock_sealed (n : Nat) (s : State) : (s.chanLock n).sealed = s.sealed := by simp [State.chanLock]
@[simp] theorem State.chanLoss_sealed (n reason : Nat) (s : State) : (s.chanLoss n reason).sealed = s.sealed := by simp [State.chanLoss]
@[simp] theorem State.chanSlip_sealed (n : Nat) (s : State) : (s.chanSlip n).sealed = s.sealed := by simp [State.chanSlip]
@[simp] theorem State.bumpJump_sealed (n : Nat) (d : Dump) (s : State) : (s.bumpJump n d).sealed = s.sealed := by simp [State.bumpJump]
@[simp] theorem State.noteLoss_sealed (n : Nat) (d : Dump) (s : State) : (s.noteLoss n d).sealed = s.sealed := (rfl)
@[simp] theorem State.reachSync_sealed (n : Nat) (x : Nat × Bool) (s : State) : (s.reachSync n x).sealed = s.sealed := (rfl)
@[simp] theorem State.reachCarrier_sealed (n : Nat) (s : State) : (s.reachCarrier n).sealed = s.sealed := by simp [State.reachCarrier]

@[simp] theorem State.lockedDump_sealed (n k pos : Nat) (d : Dump) (s : State) : (s.lockedDump n k pos d).sealed = s.sealed := by
  simp only [State.lockedDump]
  repeat' split
  all_goals simp

@[simp] theorem State.stateDump_sealed (n k pos : Nat) (x : LoopErrors) (d : Dump) (s : State) :
    (s.stateDump n k pos x d).sealed = s.sealed := by
  simp only [State.stateDump]
  split <;> simp

@[simp] theorem State.useDump_sealed (n : Nat) (s : State) (h : HeldDump) : (s.useDump n h).sealed = s.sealed := by simp [State.useDump]
@[simp] theorem State.correlatorDump_sealed (n : Nat) (d : Dump) (s : State) : (s.correlatorDump n d).sealed = s.sealed := by
  simp [State.correlatorDump]
@[simp] theorem State.pullInTimeout_sealed (n : Nat) (s : State) : (s.pullInTimeout n).sealed = s.sealed := by simp [State.pullInTimeout]
@[simp] theorem State.lossTimeout_sealed (n : Nat) (s : State) : (s.lossTimeout n).sealed = s.sealed := by simp [State.lossTimeout]
@[simp] theorem State.reacqTimeout_sealed (n : Nat) (s : State) : (s.reacqTimeout n).sealed = s.sealed := by simp [State.reacqTimeout]
@[simp] theorem State.notePolarity_sealed (n : Nat) (inverted : Bool) (s : State) : (s.notePolarity n inverted).sealed = s.sealed := (rfl)

@[simp] theorem State.navDecode_sealed (n : Nat) (messages : List (Fin 3 × Bytes)) (inverted : Option Bool) (leap : Option LeapNews) (s : State) :
    (s.navDecode n messages inverted leap).sealed = s.sealed := by
  unfold State.navDecode
  dsimp only
  split
  · rfl
  · rw [State.takeNews_sealed, State.modChan_sealed]
    split
    · rw [State.notePolarity_sealed, foldl_sealed (fun _ _ => State.storeNav_sealed ..)]
    · rw [foldl_sealed (fun _ _ => State.storeNav_sealed ..)]

@[simp] theorem State.assignFigures_sealed (c : Cmd) (s : State) : (s.assignFigures c).2.sealed = s.sealed := by
  unfold State.assignFigures
  split <;> simp

@[simp] theorem channelAssign_sealed (c : Cmd) (s : State) : (channelAssign.body c s).state.sealed = s.sealed := by simp [channelAssign]
@[simp] theorem channelRelease_sealed (c : Cmd) (s : State) : (channelRelease.body c s).state.sealed = s.sealed := by simp [channelRelease]
@[simp] theorem State.retire_sealed (n : Nat) (s : State) : (s.retire n).sealed = s.sealed := by simp [State.retire]
@[simp] theorem State.selfCheck_sealed (mismatch : Nat) (s : State) : (s.selfCheck mismatch).sealed = s.sealed := by simp [State.selfCheck]
@[simp] theorem State.loopUpdates_sealed (s : State) : s.loopUpdates.sealed = s.sealed := by simp [State.loopUpdates]
@[simp] theorem State.stopChan_sealed (s : State) (n : Nat) : (s.stopChan n).sealed = s.sealed := by simp [State.stopChan]
@[simp] theorem State.stopChans_sealed (s : State) : s.stopChans.sealed = s.sealed := by simp [State.stopChans]
@[simp] theorem State.startChan_sealed (n g sv : Nat) (code doppler age : Int) (host : Bool) (s : State) :
    (s.startChan n g sv code doppler age host).sealed = s.sealed := (rfl)

@[simp] theorem State.reassign_sealed (s : State) (n : Nat) : (s.reassign n).sealed = s.sealed := by
  simp only [State.reassign]
  repeat' split
  all_goals simp

@[simp] theorem State.takeHandoff_sealed (s : State) : s.takeHandoff.sealed = s.sealed := by
  unfold State.takeHandoff
  repeat' split
  all_goals simp

@[simp] theorem State.startAssigned_sealed (s : State) (n : Nat) : (s.startAssigned n).sealed = s.sealed := by
  unfold State.startAssigned
  split <;> simp

@[simp] theorem State.codeTick_sealed (mismatch : Nat) (s : State) : (s.codeTick mismatch).sealed = s.sealed := by simp [State.codeTick]
@[simp] theorem State.latchSet_sealed (s : State) : s.latchSet.sealed = s.sealed := (rfl)
@[simp] theorem State.measForCell_sealed (q : Nat) (l : Latch) (s : State) : (s.measForCell q l).sealed = s.sealed := by
  simp [State.measForCell]
@[simp] theorem State.keepSet_sealed (l : Latch) (s : State) : (s.keepSet l).sealed = s.sealed := by simp [State.keepSet]

@[simp] theorem State.measSetReady_sealed (s : State) : s.measSetReady.sealed = s.sealed := by
  unfold State.measSetReady
  split <;> simp

/-! ### Apply -/

@[simp] theorem State.startApplet_sealed (s : State) : s.startApplet.sealed = s.sealed := by simp [State.startApplet]
@[simp] theorem State.applyCoefs_sealed (keptActive keptPending : Bool) (s : State) :
    (s.applyCoefs keptActive keptPending).sealed = s.sealed := (rfl)

@[simp] theorem State.applyPrograms_sealed (s : State) : s.applyPrograms.sealed = s.sealed := by
  simp only [State.applyPrograms]
  repeat' split
  all_goals simp

@[simp] theorem State.applyAudio_sealed (s : State) : s.applyAudio.sealed = s.sealed := (rfl)
@[simp] theorem State.applyFabric_sealed (s : State) : s.applyFabric.sealed = s.sealed := by simp [State.applyFabric]
@[simp] theorem State.applyPlumb_sealed (s : State) : s.applyPlumb.sealed = s.sealed := (rfl)
@[simp] theorem State.applyLinks_sealed (s : State) : s.applyLinks.sealed = s.sealed := by simp [State.applyLinks]
@[simp] theorem State.reapply_sealed (keptActive keptPending : Bool) (s : State) :
    (s.reapply keptActive keptPending).sealed = s.sealed := by simp [State.reapply]
@[simp] theorem State.restoreBins_sealed (elapsed : Nat) (b : Bundle) (s : State) : (s.restoreBins elapsed b).sealed = s.sealed := (rfl)
@[simp] theorem State.emptyBuckets_sealed (s : State) : s.emptyBuckets.sealed = s.sealed := (rfl)
@[simp] theorem State.restoreRadio_sealed (b : Bundle) (s : State) : (s.restoreRadio b).sealed = s.sealed := (rfl)
@[simp] theorem State.restorePlumb_sealed (b : Bundle) (s : State) : (s.restorePlumb b).sealed = s.sealed := (rfl)

/-! ### Power -/

@[simp] theorem State.modeChanged_sealed (old : Mode) (reason : Nat) (s : State) : (s.modeChanged old reason).sealed = s.sealed := by
  simp [State.modeChanged]
@[simp] theorem State.leaveMode_sealed (new : Mode) (s : State) : (s.leaveMode new).sealed = s.sealed := by simp [State.leaveMode]
@[simp] theorem State.changeMode_sealed (new : Mode) (reason : Nat) (s : State) : (s.changeMode new reason).sealed = s.sealed := by
  simp [State.changeMode]
@[simp] theorem State.startReplaced_sealed (s : State) : s.startReplaced.sealed = s.sealed := (rfl)
@[simp] theorem modeSet_sealed (c : Cmd) (s : State) : (modeSet.body c s).state.sealed = s.sealed := by simp [modeSet]
@[simp] theorem powerEnter_sealed (c : Cmd) (s : State) : (powerEnter.body c s).state.sealed = s.sealed := by simp [powerEnter]
@[simp] theorem State.reportWithdrawn_sealed (s : State) : s.reportWithdrawn.sealed = s.sealed := by simp [State.reportWithdrawn]

@[simp] theorem State.endEntry_sealed (result cond refuser : Nat) (s : State) : (s.endEntry result cond refuser).sealed = s.sealed := by
  simp only [State.endEntry]
  split <;> simp

@[simp] theorem State.withdrawGlide_sealed (n : Nat) (s : State) : (s.withdrawGlide n).sealed = s.sealed := by simp [State.withdrawGlide]
@[simp] theorem State.stopSearches_sealed (s : State) : s.stopSearches.sealed = s.sealed := by simp [State.stopSearches]
@[simp] theorem State.prepare_sealed (s : State) : s.prepare.sealed = s.sealed := by simp [State.prepare]
@[simp] theorem State.consent_sealed (e : PowerEntry) (s : State) : (s.consent e).sealed = s.sealed := by simp [State.consent]

@[simp] theorem State.powerStateConsent_sealed (s : State) : s.powerStateConsent.sealed = s.sealed := by
  unfold State.powerStateConsent
  split
  · split
    · split
      · rw [State.endEntry_sealed, State.mailed_sealed]
      · rw [State.consent_sealed, State.mailed_sealed]
    · rfl
  · refine State.mailRow_sealed 4 (fun m s => ?_) s
    split
    · exact State.refuseMail_sealed ..
    · split
      · exact State.answer_sealed ..
      · rw [State.answer_sealed, State.sealed_mk, Sealed.eta]

@[simp] theorem State.waitEntry_sealed (mode : Nat) (csLow : Bool) (s : State) : (s.waitEntry mode csLow).sealed = s.sealed := by
  unfold State.waitEntry
  split <;> simp

@[simp] theorem State.waitPowerEntry_sealed (csLow : Bool) (s : State) : (s.waitPowerEntry csLow).sealed = s.sealed := by
  unfold State.waitPowerEntry
  split <;> simp

@[simp] theorem State.drainTimeout_sealed (unit : Nat) (s : State) : (s.drainTimeout unit).sealed = s.sealed := by
  unfold State.drainTimeout
  split <;> simp

@[simp] theorem State.raiseDrops_sealed (n k : Nat) (s : State) : (s.raiseDrops n k).sealed = s.sealed := by
  induction k generalizing s with
  | zero => rfl
  | succ k ih => simp [State.raiseDrops, ih]

@[simp] theorem State.dropStored_sealed (n : Nat) (s : State) : (s.dropStored n).sealed = s.sealed := by simp [State.dropStored]
@[simp] theorem State.reclaimReplies_sealed (k : Nat) (s : State) : (s.reclaimReplies k).sealed = s.sealed := by simp [State.reclaimReplies]
@[simp] theorem State.reclaimInput_sealed (n : Nat) (s : State) : (s.reclaimInput n).sealed = s.sealed := by simp [State.reclaimInput]
@[simp] theorem State.drainQueues_sealed (s : State) : s.drainQueues.sealed = s.sealed := by
  simp only [State.drainQueues, State.reclaimInput_sealed, State.reclaimReplies_sealed, State.dropStored_sealed, foldl_sealed, implies_true]
@[simp] theorem State.lowState_sealed (target : Mode) (s : State) : (s.lowState target).sealed = s.sealed := (rfl)

@[simp] theorem State.drainEnd_sealed (s : State) : s.drainEnd.sealed = s.sealed := by
  unfold State.drainEnd
  split
  · rw [apply_ite State.sealed, State.lowState_sealed, State.drainQueues_sealed, State.bump_sealed, ite_self]
  · rfl

@[simp] theorem State.loadTrowelS_sealed (s : State) : s.loadTrowelS.sealed = s.sealed := (rfl)
@[simp] theorem State.loadTrowelH_sealed (wake : Bool) (s : State) : (s.loadTrowelH wake).sealed = s.sealed := (rfl)
@[simp] theorem State.countWakes_sealed (m : Nat) (s : State) : (s.countWakes m).sealed = s.sealed := by simp [State.countWakes]
@[simp] theorem State.issueInputs_sealed (s : State) : s.issueInputs.sealed = s.sealed := by simp [State.issueInputs]

@[simp] theorem State.restoreRecord_sealed (s : State) : s.restoreRecord.sealed = s.sealed := by
  unfold State.restoreRecord
  split <;> simp

@[simp] theorem State.applyLatchedReset_sealed (s : State) : s.applyLatchedReset.sealed = s.sealed := by simp [State.applyLatchedReset]
@[simp] theorem State.restoreUnits_sealed (s : State) : s.restoreUnits.sealed = s.sealed := by simp [State.restoreUnits]
@[simp] theorem State.reportWake_sealed (us : Nat) (low : Mode) (s : State) : (s.reportWake us low).sealed = s.sealed := by
  simp [State.reportWake]
@[simp] theorem State.wakeUp_sealed (us : Nat) (s : State) : (s.wakeUp us).sealed = s.sealed := by simp [State.wakeUp]
@[simp] theorem watchConfig_sealed (ok : Bool) (c : Cmd) (s : State) : ((watchConfig ok).body c s).state.sealed = s.sealed := by
  simp [watchConfig]
@[simp] theorem State.openRadioWatch_sealed (s : State) : s.openRadioWatch.sealed = s.sealed := (rfl)
@[simp] theorem State.openWatch_sealed (w : WatchCfg) (s : State) : (s.openWatch w).sealed = s.sealed := by simp [State.openWatch]

@[simp] theorem State.watchWindow_sealed (s : State) : s.watchWindow.sealed = s.sealed := by
  unfold State.watchWindow
  split <;> simp

@[simp] theorem State.closeWindow_sealed (met : Bool) (w : WatchCfg) (s : State) : (s.closeWindow met w).sealed = s.sealed := by
  simp [State.closeWindow]

@[simp] theorem State.watchWindowEnd_sealed (samples : List Int) (rssi : Int) (runs : List (BitVec 64)) (s : State) :
    (s.watchWindowEnd samples rssi runs).sealed = s.sealed := by
  unfold State.watchWindowEnd
  split <;> simp

@[simp] theorem State.watchNotReady_sealed (s : State) : s.watchNotReady.sealed = s.sealed := by
  unfold State.watchNotReady
  split <;> simp

@[simp] theorem State.setHoldReady_sealed (v : Bool) (vhold : Nat) (s : State) : (s.setHoldReady v vhold).sealed = s.sealed := by
  simp [State.setHoldReady]
@[simp] theorem State.holdSet_sealed (vhold : Nat) (s : State) : (s.holdSet vhold).sealed = s.sealed := by simp [State.holdSet]
@[simp] theorem State.holdClear_sealed (vhold : Nat) (s : State) : (s.holdClear vhold).sealed = s.sealed := by simp [State.holdClear]
@[simp] theorem State.supplySag_sealed (vdd : Nat) (s : State) : (s.supplySag vdd).sealed = s.sealed := by simp [State.supplySag]
@[simp] theorem State.saveTail_sealed (n : Nat) (s : State) : (s.saveTail n).sealed = s.sealed := by simp [State.saveTail]
@[simp] theorem State.saveLog_sealed (s : State) : s.saveLog.sealed = s.sealed := by simp [State.saveLog]
@[simp] theorem State.saveLogPart_sealed (n : Nat) (s : State) : (s.saveLogPart n).sealed = s.sealed := by simp [State.saveLogPart]

@[simp] theorem State.saveBundle_sealed (jtail logrec : Nat) (s : State) : (s.saveBundle jtail logrec).sealed = s.sealed := by
  simp only [State.saveBundle]
  split <;> simp

@[simp] theorem State.saveOver_sealed (logDone : Bool) (s : State) : (s.saveOver logDone).sealed = s.sealed := by simp [State.saveOver]
@[simp] theorem State.saveEnd_sealed (s : State) : s.saveEnd.sealed = s.sealed := by simp [State.saveEnd]
@[simp] theorem State.saveStop_sealed (done n : Nat) (s : State) : (s.saveStop done n).sealed = s.sealed := by simp [State.saveStop]
@[simp] theorem State.sagReset_sealed (s : State) : s.sagReset.sealed = s.sealed := by simp [State.sagReset]

/-! ### Dma -/

@[simp] theorem State.modDma_sealed (n : Nat) (f : DmaChannel → DmaChannel) (s : State) : (s.modDma n f).sealed = s.sealed := (rfl)
@[simp] theorem dmaProgramLoad_sealed (ok : Bool) (c : Cmd) (s : State) : ((dmaProgramLoad ok).body c s).state.sealed = s.sealed := by
  simp [dmaProgramLoad]
@[simp] theorem dmaStart_sealed (c : Cmd) (s : State) : (dmaStart.body c s).state.sealed = s.sealed := by simp [dmaStart]
@[simp] theorem State.dmaFinish_sealed (n : Nat) (p : DmaPhase) (s : State) : (s.dmaFinish n p).sealed = s.sealed := by
  simp [State.dmaFinish]
@[simp] theorem State.dmaEndIn_sealed (n : Nat) (p : DmaPhase) (s : State) : (s.dmaEndIn n p).sealed = s.sealed := by simp [State.dmaEndIn]
@[simp] theorem State.dmaFault_sealed (n code : Nat) (s : State) : (s.dmaFault n code).sealed = s.sealed := by simp [State.dmaFault]
@[simp] theorem dmaStop_sealed (c : Cmd) (s : State) : (dmaStop.body c s).state.sealed = s.sealed := by simp [dmaStop]
@[simp] theorem State.dmaGoto_sealed (n k : Nat) (s : State) : (s.dmaGoto n k).sealed = s.sealed := by simp [State.dmaGoto]

@[simp] theorem State.dmaRow_sealed (n : Nat) (is : Nat → Bool) {f : DmaChannel → Nat → State → State} (hf : ∀ c w s, (f c w s).sealed = s.sealed)
    (s : State) : (s.dmaRow n is f).sealed = s.sealed := by
  simp [State.dmaRow, hf]

@[simp] theorem State.takeLine_sealed (l : Nat) (s : State) : (s.takeLine l).sealed = s.sealed := by simp [State.takeLine]
@[simp] theorem State.dmaBegin_sealed (n : Nat) (c : DmaChannel) (w : Nat) (s : State) : (s.dmaBegin n c w).sealed = s.sealed := by
  simp [State.dmaBegin]
@[simp] theorem State.dmaLoop_sealed (n : Nat) (c : DmaChannel) (w : Nat) (s : State) : (s.dmaLoop n c w).sealed = s.sealed := by
  simp [State.dmaLoop]

@[simp] theorem State.dmaWaitTake_sealed (w : Nat) (s : State) : (s.dmaWaitTake w).sealed = s.sealed := by
  unfold State.dmaWaitTake
  split <;> simp

@[simp] theorem State.dmaWait_sealed (n : Nat) (c : DmaChannel) (w : Nat) (s : State) : (s.dmaWait n c w).sealed = s.sealed := by
  simp [State.dmaWait]
@[simp] theorem State.dmaWaitDone_sealed (n : Nat) (s : State) : (s.dmaWaitDone n).sealed = s.sealed := by simp [State.dmaWaitDone]

@[simp] theorem State.dmaSignal_sealed (kind n : Nat) {f : Nat → State → State} (hf : ∀ w s, (f w s).sealed = s.sealed) (s : State) :
    (s.dmaSignal kind n f).sealed = s.sealed :=
  State.dmaRow_sealed n _ (fun c w s => by
    simp [hf]) s

@[simp] theorem State.dmaCommit_sealed (w : Nat) (s : State) : (s.dmaCommit w).sealed = s.sealed := by simp [State.dmaCommit]

@[simp] theorem State.dmaRead_sealed (p : DmaPlace) (s : State) : (s.dmaRead p).2.sealed = s.sealed := by
  unfold State.dmaRead
  split <;> simp

@[simp] theorem State.dmaWrite_sealed (p : DmaPlace) (v : Nat) (s : State) : (s.dmaWrite p v).sealed = s.sealed := by
  unfold State.dmaWrite
  split <;> simp

@[simp] theorem State.readAt_sealed (a : Nat) (s : State) : (s.readAt a).2.sealed = s.sealed := by
  unfold State.readAt
  split <;> simp

@[simp] theorem State.writeAt_sealed (a v : Nat) (s : State) : (s.writeAt a v).sealed = s.sealed := by
  unfold State.writeAt
  split <;> simp

@[simp] theorem State.dmaBeat_sealed (n w : Nat) (x : DmaXfer) (i : Nat) (s : State) : (s.dmaBeat n w x i).sealed = s.sealed := by
  unfold State.dmaBeat
  repeat' split
  all_goals simp

@[simp] theorem State.afterBurst_sealed (n w : Nat) (x : DmaXfer) (s : State) : (s.afterBurst n w x).sealed = s.sealed := by
  simp [State.afterBurst]
@[simp] theorem State.dmaSecded_sealed (n l w : Nat) (s : State) : (s.dmaSecded n l w).sealed = s.sealed := by simp [State.dmaSecded]

@[simp] theorem State.runBurst_sealed (n : Nat) (secded : Option (Fin 64)) (writeError : Bool) (c : DmaChannel) (x : DmaXfer) (s : State) :
    (s.runBurst n secded writeError c x).sealed = s.sealed := by
  simp only [State.runBurst]
  repeat' split
  all_goals simp

@[simp] theorem State.dmaBurst_sealed (n : Nat) (secded : Option (Fin 64)) (writeError : Bool) (s : State) :
    (s.dmaBurst n secded writeError).sealed = s.sealed := by
  unfold State.dmaBurst
  repeat' split
  all_goals simp

@[simp] theorem State.dmaDrainDone_sealed (n : Nat) (s : State) : (s.dmaDrainDone n).sealed = s.sealed := by simp [State.dmaDrainDone]

/-! ### Boot -/

@[simp] theorem State.resetPin_sealed (lowNs : Nat) (s : State) : (s.resetPin lowNs).sealed = s.sealed := by simp [State.resetPin]
@[simp] theorem State.resetN_sealed (lowNs : Nat) (s : State) : (s.resetN lowNs).sealed = s.sealed := by simp [State.resetN]
@[simp] theorem State.powerOnReset_sealed (asserted : Bool) (s : State) : (s.powerOnReset asserted).sealed = s.sealed := by
  simp [State.powerOnReset]
@[simp] theorem State.bootFlag_sealed (m : Nat) (s : State) : (s.bootFlag m).sealed = s.sealed := (rfl)
@[simp] theorem State.recoverJournal_sealed (s : State) : s.recoverJournal.sealed = s.sealed := by simp [State.recoverJournal]
@[simp] theorem State.checkLocks_sealed (good : Bool) (s : State) : (s.checkLocks good).sealed = s.sealed := (rfl)

@[simp] theorem State.fellBack_sealed (target : Nat) (s : State) : (s.fellBack target).sealed = s.sealed := by
  simp only [State.fellBack]
  split <;> simp

@[simp] theorem State.recoveryPort_sealed (target : Nat) (s : State) : (s.recoveryPort target).sealed = s.sealed := by
  simp [State.recoveryPort]
@[simp] theorem State.bootTokens_sealed (b : Bundle) (s : State) : (s.bootTokens b).sealed = s.sealed := by simp [State.bootTokens]
@[simp] theorem State.bootBundle_sealed (s : State) : s.bootBundle.sealed = s.sealed := by simp [State.bootBundle]

@[simp] theorem State.startTrial_sealed (s : State) : s.startTrial.sealed = s.sealed := by
  simp only [State.startTrial]
  repeat' split
  all_goals simp

@[simp] theorem State.startUpDone_sealed (us : Nat) (s : State) : (s.startUpDone us).sealed = s.sealed := by simp [State.startUpDone]
@[simp] theorem State.startModeEntry_sealed (s : State) : s.startModeEntry.sealed = s.sealed := by simp [State.startModeEntry]

@[simp] theorem State.firstTimeEstimate_sealed (source t b : Nat) (s : State) : (s.firstTimeEstimate source t b).sealed = s.sealed := by
  unfold State.firstTimeEstimate
  repeat' split
  all_goals simp

@[simp] theorem State.audioClockResume_sealed (s : State) : s.audioClockResume.sealed = s.sealed := by simp [State.audioClockResume]
@[simp] theorem resetCauseGet_sealed (c : Cmd) (s : State) : (resetCauseGet.body c s).state.sealed = s.sealed := by simp [resetCauseGet]

/-! ### Modem -/

@[simp] theorem State.slotMissed_sealed (kind station unit counter : Nat) (s : State) :
    (s.slotMissed kind station unit counter).sealed = s.sealed := by simp [State.slotMissed]
@[simp] theorem State.openWindow_sealed (kind station f close : Nat) (s : State) :
    (s.openWindow kind station f close).sealed = s.sealed := by simp [State.openWindow]

@[simp] theorem State.rxWindowOpen_sealed (kind : Nat) (s : State) : (s.rxWindowOpen kind).sealed = s.sealed := by
  unfold State.rxWindowOpen
  repeat' split
  all_goals simp

@[simp] theorem State.rxWindowClose_sealed (s : State) : s.rxWindowClose.sealed = s.sealed := by
  unfold State.rxWindowClose
  split <;> simp

@[simp] theorem State.resumeSearch_sealed (s : State) : s.resumeSearch.sealed = s.sealed := by simp [State.resumeSearch]
@[simp] theorem State.burstOver_sealed (t : Nat) (s : State) : (s.burstOver t).sealed = s.sealed := by simp [State.burstOver]
@[simp] theorem State.freezeAgc_sealed (x : RxFront) (s : State) : (s.freezeAgc x).sealed = s.sealed := (rfl)

@[simp] theorem State.syncDetect_sealed (hard : Nat) (x : RxFront) (at_ : Nat) (s : State) :
    (s.syncDetect hard x at_).sealed = s.sealed := by
  unfold State.syncDetect
  split <;> simp

@[simp] theorem State.decodeFail_sealed (reason mcs failed : Nat) (b : RxBurst) (s : State) :
    (s.decodeFail reason mcs failed b).sealed = s.sealed := by simp [State.decodeFail]

@[simp] theorem State.headerDecode_sealed (h : Nat) (s : State) : (s.headerDecode h).sealed = s.sealed := by
  unfold State.headerDecode
  split <;> simp

@[simp] theorem State.headerRow_sealed (x : HeaderSymbols) (s : State) : (s.headerRow x).sealed = s.sealed := by
  unfold State.headerRow
  split <;> simp

@[simp] theorem State.codewordDecode_sealed (samples : List (Int × Int)) (noise : Nat) (s : State) :
    (s.codewordDecode samples noise).sealed = s.sealed := by
  unfold State.codewordDecode
  split <;> simp

@[simp] theorem State.burstDelivered_sealed (x : PayloadSymbols) (evm : Int) (scale : Nat) (s : State) :
    (s.burstDelivered x evm scale).sealed = s.sealed := by
  simp only [State.burstDelivered]
  repeat' split
  all_goals simp

@[simp] theorem modemQualityGet_sealed (c : Cmd) (s : State) : (modemQualityGet.body c s).state.sealed = s.sealed := by
  simp only [modemQualityGet]
  split <;> simp

@[simp] theorem State.superframe_sealed (s : State) : s.superframe.sealed = s.sealed := by simp [State.superframe]

/-! ### Generic -/

@[simp] theorem refuseParam_sealed (st : Status) (id : Nat) (s : State) : (refuseParam st id s).state.sealed = s.sealed := (rfl)

@[simp] theorem paramGetOf_sealed (unit : Nat) (c : Cmd) (s : State) : ((paramGetOf unit).body c s).state.sealed = s.sealed := by
  simp only [paramGetOf]
  split <;> simp

@[simp] theorem State.paramGet_sealed (s : State) : s.paramGet.sealed = s.sealed := by
  unfold State.paramGet
  split
  · exact CmdSpec.run_sealed_eq (paramGetOf_sealed _) s
  · rfl

@[simp] theorem State.takeParam_sealed (s : State) (i : Item) : (s.takeParam i).sealed = s.sealed := by simp [State.takeParam]

@[simp] theorem Cmd.setParams_sealed (c : Cmd) (ok : Bool) (s : State) : (c.setParams ok s).state.sealed = s.sealed := by
  have htake : ∀ u : State, (c.items.foldl State.takeParam u).sealed = u.sealed := foldl_sealed (fun _ _ => State.takeParam_sealed ..) _
  unfold Cmd.setParams
  dsimp only
  split
  · exact htake s
  · split
    · next h => exact (htake _).trans (sealed_of_eq h (State.journalAppend_sealed ..))
    · next h => exact sealed_of_eq h (State.journalAppend_sealed ..)

@[simp] theorem paramSetOf_sealed (unit : Nat) (ok : Bool) (c : Cmd) (s : State) :
    ((paramSetOf unit ok).body c s).state.sealed = s.sealed := by
  simp only [paramSetOf]
  split <;> simp

@[simp] theorem State.paramSet_sealed (ok : Bool) (s : State) : (s.paramSet ok).sealed = s.sealed := by
  unfold State.paramSet
  split
  · exact CmdSpec.run_sealed_eq (paramSetOf_sealed _ _) s
  · rfl

@[simp] theorem State.freeStatus_sealed (s : State) : s.freeStatus.2.sealed = s.sealed := (rfl)

@[simp] theorem statusGetOf_sealed (unit subsec ref : Nat) (c : Cmd) (s : State) :
    ((statusGetOf unit subsec ref).body c s).state.sealed = s.sealed := by
  simp only [statusGetOf]
  split <;> simp

@[simp] theorem State.statusGet_sealed (subsec ref : Nat) (s : State) : (s.statusGet subsec ref).sealed = s.sealed := by
  unfold State.statusGet
  split
  · exact CmdSpec.run_sealed_eq (statusGetOf_sealed _ _ _) s
  · rfl

@[simp] theorem State.clearSlots_sealed (v : Nat) (s : State) : (s.clearSlots v).sealed = s.sealed := by simp [State.clearSlots]
@[simp] theorem countersGetOf_sealed (unit : Nat) (c : Cmd) (s : State) : ((countersGetOf unit).body c s).state.sealed = s.sealed := by
  simp [countersGetOf]

@[simp] theorem State.countersGet_sealed (s : State) : s.countersGet.sealed = s.sealed := by
  unfold State.countersGet
  split
  · exact CmdSpec.run_sealed_eq (countersGetOf_sealed _) s
  · rfl

/-! ### Ticks -/

@[simp] theorem State.measurementTick_sealed (jitter : Int) (s : State) : (s.measurementTick jitter).sealed = s.sealed := by
  simp [State.measurementTick]
@[simp] theorem State.solutionPublished_sealed (v : Solution) (s : State) : (s.solutionPublished v).sealed = s.sealed := by
  simp [State.solutionPublished]
@[simp] theorem State.solverLate_sealed (s : State) : s.solverLate.sealed = s.sealed := by simp [State.solverLate]
@[simp] theorem State.cellFrame_sealed (f : Nat) (s : State) : (s.cellFrame f).sealed = s.sealed := by simp [State.cellFrame]
@[simp] theorem State.frameTick_sealed (s : State) : s.frameTick.sealed = s.sealed := by simp [State.frameTick]
@[simp] theorem State.rebaseMt_sealed (old k : Nat) (s : State) : (s.rebaseMt old k).sealed = s.sealed := by simp [State.rebaseMt]
@[simp] theorem State.leapEnds_sealed (k : Nat) (s : State) : (s.leapEnds k).sealed = s.sealed := by simp [State.leapEnds]
@[simp] theorem State.leapPassed_sealed (k : Nat) (s : State) : (s.leapPassed k).sealed = s.sealed := by simp [State.leapPassed]
@[simp] theorem State.retuneAudio_sealed (s : State) : s.retuneAudio.sealed = s.sealed := (rfl)
@[simp] theorem State.fsChange_sealed (old k : Nat) (s : State) : (s.fsChange old k).sealed = s.sealed := by simp [State.fsChange]
@[simp] theorem State.countHoldover_sealed (s : State) : s.countHoldover.sealed = s.sealed := by simp [State.countHoldover]
@[simp] theorem State.releaseSecond_sealed (s : State) : s.releaseSecond.sealed = s.sealed := (rfl)
@[simp] theorem State.secondWork_sealed (k sub : Nat) (s : State) : (s.secondWork k sub).sealed = s.sealed := by simp [State.secondWork]
@[simp] theorem State.secondTick_sealed (sub : Nat) (s : State) : (s.secondTick sub).sealed = s.sealed := by simp [State.secondTick]

/-! ### TrowelIo -/

@[simp] theorem State.takeVector_sealed (c v : Nat) (s : State) : (s.takeVector c v).sealed = s.sealed := by simp [State.takeVector]
@[simp] theorem State.callVector_sealed (a : Nat) (s : State) : (s.callVector a).sealed = s.sealed := (rfl)
@[simp] theorem State.pushLen_sealed (n len : Nat) (s : State) : (s.pushLen n len).sealed = s.sealed := by simp [State.pushLen]
@[simp] theorem State.popRelease_sealed (n : Nat) (s : State) : (s.popRelease n).sealed = s.sealed := by simp [State.popRelease]
@[simp] theorem State.writeStat_sealed (k v : Nat) (s : State) : (s.writeStat k v).sealed = s.sealed := (rfl)

@[simp] theorem State.swRaise_sealed (v k : Nat) (s : State) : (s.swRaise v k).sealed = s.sealed := by
  induction k generalizing s with
  | zero => rfl
  | succ k ih => simp [State.swRaise, ih]

@[simp] theorem State.snapQt_sealed (s : State) : s.snapQt.sealed = s.sealed := (rfl)

@[simp] theorem State.coreWrite_sealed (a v : Nat) (s : State) : (s.coreWrite a v).sealed = s.sealed := by
  unfold State.coreWrite
  repeat' split
  all_goals simp

@[simp] theorem State.portWrite_sealed (n r v : Nat) (s : State) : (s.portWrite n r v).sealed = s.sealed := by
  unfold State.portWrite
  split <;> simp

/-! ### TrowelSys -/

@[simp] theorem Cmd.callHandler_sealed (c : Cmd) (bank handler at_ limit : Nat) (s : State) :
    (c.callHandler bank handler at_ limit s).state.sealed = s.sealed := (rfl)
@[simp] theorem appletCommand_sealed (e : Nat × Nat × Nat × Nat × Bool) (at_ : Nat) (c : Cmd) (s : State) :
    ((appletCommand e at_).body c s).state.sealed = s.sealed := by simp [appletCommand]

@[simp] theorem State.takeAppletOpcode_sealed (at_ : Nat) (s : State) : (s.takeAppletOpcode at_).sealed = s.sealed := by
  unfold State.takeAppletOpcode
  split
  · rfl
  · split
    · exact CmdSpec.run_sealed_eq (appletCommand_sealed _ _) s
    · rfl

@[simp] theorem State.tagReply_sealed (tag : ReplyTag) (s : State) : (s.tagReply tag).sealed = s.sealed := by simp [State.tagReply]

@[simp] theorem State.sysSet_sealed (ok : Bool) (id : Nat) (v : Bytes) (s : State) : (s.sysSet ok id v).2.sealed = s.sealed := by
  unfold State.sysSet
  dsimp only
  split
  · rfl
  · rw [State.tagReply_sealed, Cmd.setParams_sealed]

@[simp] theorem State.sysRecord_sealed (ok : Bool) (v : Bytes) (s : State) : (s.sysRecord ok v).2.sealed = s.sealed := by
  unfold State.sysRecord
  repeat' split
  all_goals simp

@[simp] theorem State.sysGpio_sealed (w mask : Nat) (s : State) : (s.sysGpio w mask).2.sealed = s.sealed := by
  unfold State.sysGpio
  repeat' split
  all_goals simp

@[simp] theorem State.sysLogged_sealed (v : Bytes) (s : State) : (s.sysLogged v).2.sealed = s.sealed := by
  unfold State.sysLogged
  split <;> simp

/-! ### Step -/

@[simp] theorem State.withFetchWord_sealed (s : State) (nbits w : Nat) : (s.withFetchWord nbits w).sealed = s.sealed := (rfl)

end Sys2Proof.Machine

namespace Sys2Proof.Machine
open Sys2Proof.Claims

/-! ## Trowel's instructions -/

/-- Whatever `r` ends in, the state within it holds `z`. -/
def EndsIn {α : Type} (p : α → State) (z : Sealed) (r : TR α) : Prop := ∀ a, r = .ok a → (p a).sealed = z

section EndsIn
variable {α β : Type} {p : α → State} {q : β → State} {z : Sealed}

theorem EndsIn.ok {a : α} (h : (p a).sealed = z) : EndsIn p z (.ok a) := by
  rintro b ⟨⟩
  exact h

theorem EndsIn.error (e : Stop) : EndsIn p z (.error e) := by
  rintro b ⟨⟩

theorem EndsIn.bind {r : TR α} {f : α → TR β} (hr : EndsIn p z r) (hf : ∀ a, (p a).sealed = z → EndsIn q z (f a)) :
    EndsIn q z (r >>= f) := by
  cases r with
  | ok a => exact hf a (hr a rfl)
  | error e => exact .error e

/-- A step that yields no state of its own: what it yields is free. -/
theorem EndsIn.bind_any {r : TR α} {f : α → TR β} (hf : ∀ a, EndsIn q z (f a)) : EndsIn q z (r >>= f) := by
  cases r with
  | ok a => exact hf a
  | error e => exact .error e

theorem EndsIn.ite {c : Prop} [Decidable c] {a b : TR α} (ha : EndsIn p z a) (hb : EndsIn p z b) : EndsIn p z (if c then a else b) := by
  split
  · exact ha
  · exact hb

end EndsIn

section Registers
variable {s : State} {z : Sealed} (h : s.sealed = z) (c a v : Nat)
include h

theorem setCore_endsIn (t : Trowel) : EndsIn id z (.ok (s.setCore c t)) := .ok ((State.setCore_sealed ..).trans h)

theorem popB_endsIn : EndsIn Prod.snd z (s.popB c) := .bind_any fun _ => .ok ((State.setCore_sealed ..).trans h)
theorem popW_endsIn : EndsIn Prod.snd z (s.popW c) := .bind_any fun _ => .ok ((State.setCore_sealed ..).trans h)
theorem pushB_endsIn : EndsIn id z (s.pushB c v) := .bind_any fun _ => setCore_endsIn h c _
theorem pushW_endsIn : EndsIn id z (s.pushW c v) := .bind_any fun _ => setCore_endsIn h c _

theorem ioRead_endsIn : EndsIn Prod.snd z (s.ioRead a) := by
  unfold State.ioRead
  split
  · exact .error _
  iterate 4
    split
    · exact .ok h
  split
  · refine .ok ?_
    simp only [↓apply_ite State.sealed, State.modQueue_sealed, ite_self]
    exact h
  · exact .ok h

theorem ioWrite_endsIn : EndsIn id z (s.ioWrite a v) := by
  unfold State.ioWrite
  exact .ite (.error _) (.ite (.ok ((State.coreWrite_sealed ..).trans h)) (.ite (.ok h) (.ite (.ok ((State.swRaise_sealed ..).trans h))
    (.ite (.ok ((State.setEvCfg_sealed ..).trans h)) (.ite (.ok ((State.portWrite_sealed ..).trans h)) (.ok h))))))

theorem instrRead_endsIn : EndsIn Prod.snd z (s.instrRead c a) :=
  .ite (.error _) (.ite (.error _) (ioRead_endsIn h _))

theorem instrWrite_endsIn : EndsIn id z (s.instrWrite c a v) :=
  .ite (.error _) (.ite (.error _) (ioWrite_endsIn h _ v))

theorem popGpios_endsIn : EndsIn Prod.snd z (s.popGpios c) :=
  .bind (popW_endsIn h c) fun _ h => .bind (popW_endsIn h c) fun _ h => .ok h

end Registers

/-- An instruction of Trowel that keeps the sealed state. -/
def CoreOp.Seals (f : CoreOp) : Prop := ∀ c i s, EndsIn id s.sealed (f c i s)

@[simp] theorem onCore_seals (f : Nat → Trowel → TR Trowel) : CoreOp.Seals (onCore f) := fun c _ _ => .bind_any fun _ => setCore_endsIn rfl c _

@[simp] theorem effBranch_seals (want : Bool) (put : Option Bool) : CoreOp.Seals (effBranch want put) := by
  intro c i s
  refine .bind_any fun b => .ite ?_ (.ok rfl)
  cases put with
  | none => exact setCore_endsIn rfl c _
  | some v => exact .bind_any fun t => setCore_endsIn rfl c _

@[simp] theorem effRet_seals : CoreOp.Seals effRet := by
  intro c i s
  refine .bind_any fun e => .ite (.error _) (.ok ?_)
  simp only [id, ↓apply_ite State.sealed, State.handlerReturns_sealed, State.setCore_sealed, ite_self]

@[simp] theorem effIn_seals : CoreOp.Seals effIn := fun c _ _ =>
  .bind (popW_endsIn rfl c) fun _ h => .bind (instrRead_endsIn h c _) fun _ h => pushB_endsIn h c _
@[simp] theorem effOut_seals : CoreOp.Seals effOut := fun c _ _ =>
  .bind (popW_endsIn rfl c) fun _ h => .bind (popB_endsIn h c) fun _ h => instrWrite_endsIn h c _ _
@[simp] theorem effIna_seals : CoreOp.Seals effIna := fun c i _ => .bind (instrRead_endsIn rfl c i) fun _ h => pushB_endsIn h c _
@[simp] theorem effOuta_seals : CoreOp.Seals effOuta := fun c i _ => .bind (popB_endsIn rfl c) fun _ h => instrWrite_endsIn h c i _
@[simp] theorem effInw_seals : CoreOp.Seals effInw := fun c i _ =>
  .bind (instrRead_endsIn rfl c i) fun _ h => .bind (instrRead_endsIn h c (i + 1)) fun _ h => pushW_endsIn h c _
@[simp] theorem effOutw_seals : CoreOp.Seals effOutw := fun c i _ =>
  .bind (popW_endsIn rfl c) fun _ h => .bind (instrWrite_endsIn h c i _) fun _ h => instrWrite_endsIn h c (i + 1) _
@[simp] theorem effWaitIdle_seals : CoreOp.Seals effWaitIdle := fun c _ _ => .ite (.ok rfl) (setCore_endsIn rfl c _)

@[simp] theorem effReplyItem_seals : CoreOp.Seals effReplyItem := fun c _ _ =>
  .bind (popW_endsIn rfl c) fun _ h => .bind (popW_endsIn h c) fun _ h => .bind (popW_endsIn h c) fun _ h => .bind_any fun _ => .ok h
@[simp] theorem effSysParamGet_seals : CoreOp.Seals effSysParamGet := fun c _ _ =>
  .bind (popW_endsIn rfl c) fun _ h => .bind (popW_endsIn h c) fun _ h =>
    .ite (.bind_any fun _ => pushW_endsIn ((State.setCore_sealed ..).trans h) c _)
      (.bind_any fun _ => pushW_endsIn ((State.setCore_sealed ..).trans h) c _)
@[simp] theorem effSysParamSet_seals (ok : Bool) : CoreOp.Seals (effSysParamSet ok) := fun c _ _ =>
  .bind (popW_endsIn rfl c) fun _ h => .bind (popW_endsIn h c) fun _ h => .bind_any fun _ =>
    pushW_endsIn ((State.sysSet_sealed ..).trans h) c _
@[simp] theorem effSysJournal_seals (ok : Bool) : CoreOp.Seals (effSysJournal ok) := fun c _ _ =>
  .bind (popW_endsIn rfl c) fun _ h => .bind (popW_endsIn h c) fun _ h => .bind_any fun _ =>
    pushW_endsIn ((State.sysRecord_sealed ..).trans h) c _
@[simp] theorem effSysGpioWrite_seals : CoreOp.Seals effSysGpioWrite := fun c _ _ =>
  .bind (popGpios_endsIn rfl c) fun _ h => .bind (popGpios_endsIn h c) fun _ h =>
    pushW_endsIn ((State.sysGpio_sealed ..).trans h) c _
@[simp] theorem effSysGpioRead_seals : CoreOp.Seals effSysGpioRead := fun c _ _ =>
  .bind (pushW_endsIn rfl c _) fun _ h => pushW_endsIn h c _
@[simp] theorem effSysLog_seals : CoreOp.Seals effSysLog := fun c _ _ =>
  .bind (popW_endsIn rfl c) fun _ h => .bind (popW_endsIn h c) fun _ h => .bind_any fun _ =>
    pushW_endsIn ((State.sysLogged_sealed ..).trans h) c _

/-! ## Steps -/

/-- Whatever state the step leads to holds `z`. -/
def StepSeals (z : Sealed) (o : Step) : Prop := ∀ t, o = .next t → t.sealed = z

theorem StepSeals.next {s : State} {z : Sealed} (h : s.sealed = z) : StepSeals z (.next s) := by
  rintro t ⟨⟩
  exact h

theorem trowelDo_endsIn {f : CoreOp} (hf : f.Seals) (c : Nat) (s : State) : EndsIn id s.sealed (trowelDo c f s) := by
  have hstart : ∀ t, EndsIn id s.sealed (f c (s.core c).imm (s.setCore c t)) := fun t =>
    State.setCore_sealed c t s ▸ hf c (s.core c).imm (s.setCore c t)
  exact .bind (hstart _) fun t ht => .ite (.ok ((State.setCore_sealed ..).trans ht)) (.ok ht)

theorem trowelStep_seals {r : TR State} {s : State} (h : EndsIn id s.sealed r) (c : Nat) : StepSeals s.sealed (trowelStep c s r) := by
  unfold trowelStep
  split
  · exact .next (h _ rfl)
  · exact .next (State.takeTrap_sealed ..)
  · rintro t ⟨⟩

theorem trowelRow_seals {f : CoreOp} (hf : f.Seals) (p : Nat → Bool) (c : Nat) (s : State) : StepSeals s.sealed (trowelRow p f c s) := by
  unfold trowelRow
  dsimp only
  split
  · exact trowelStep_seals (trowelDo_endsIn hf c s) c
  · exact .next rfl

theorem cpRow_seals (n k : Nat) (f : Nat → Trowel → TR Trowel) (c : Nat) (s : State) : StepSeals s.sealed (cpRow n k f c s) := by
  unfold cpRow
  split
  · exact trowelRow_seals (onCore_seals f) _ c s
  · exact .next rfl

theorem sysRow_seals {f : CoreOp} (hf : f.Seals) (n : Nat) (s : State) : StepSeals s.sealed (sysRow n f s) := by
  unfold sysRow
  split
  · exact trowelRow_seals hf _ 0 s
  · exact .next rfl

theorem execWaitIdle_seals (core : Fin 2) (s : State) : StepSeals s.sealed (execWaitIdle core s) := by
  unfold execWaitIdle
  dsimp only
  split
  · exact .next rfl
  · have hrow := trowelRow_seals effWaitIdle_seals (isOp 0x9E) core.val (s.setCore core.val { s.core core.val with waiting := false })
    rwa [State.setCore_sealed] at hrow

theorem execCpset_seals (core : Fin 2) (s : State) : StepSeals s.sealed (execCpset core s) := trowelRow_seals (onCore_seals effCpset) _ _ _
theorem execCpget_seals (core : Fin 2) (s : State) : StepSeals s.sealed (execCpget core s) := trowelRow_seals (onCore_seals effCpget) _ _ _
theorem execCpwait_seals (core : Fin 2) (s : State) : StepSeals s.sealed (execCpwait core s) := trowelRow_seals (onCore_seals effCpwait) _ _ _

theorem execTrap_seals (core : Fin 2) (s : State) : StepSeals s.sealed (execTrap core s) := by
  unfold execTrap
  split
  · exact .next rfl
  · split
    · exact .next (State.takeTrap_sealed ..)
    · exact .next rfl

theorem execRegisterWrite_seals (address : BitVec 16) (value : Byte) (s : State) : StepSeals s.sealed (execRegisterWrite address value s) :=
  trowelStep_seals (ioWrite_endsIn rfl _ _) 0

theorem execVectorTaken_seals (s : State) : StepSeals s.sealed (execVectorTaken s) := by
  refine .next ?_
  split
  · exact State.takeVector_sealed ..
  · exact State.callVector_sealed ..
  · exact State.takeVector_sealed ..
  · rfl

theorem execHandlerTimeLimit_seals (s : State) : StepSeals s.sealed (execHandlerTimeLimit s) := by
  refine .next ?_
  split
  · exact State.stopApplet_sealed ..
  · rfl

end Sys2Proof.Machine

namespace Sys2Proof.Machine
open Sys2Proof.Claims

/-! ## The commands that keep the sealed part -/

/-- The commands that write a part of it: those of R327, R479, R480 and R498, a journal commit and the boot. -/
def opensSeal : Instr → Bool
  | .locksWrite _ | .keyAdd _ | .keyRevoke _ | .pinSetEnable _ | .pinSetDisable _ | .testAccessClose _ | .testAccessOpen _
  | .testAccessJtag _ | .jtagFuseBlow _ | .journalCommit _ | .bootSequence _ | .refInRemeasure _ => true
  | _ => false

theorem exec_seals {i : Instr} (h : opensSeal i = false) (s : State) : StepSeals s.sealed (exec i s) := by
  -- `over` alone is a token of Mathlib's: its case is reached by its full tag
  refine ?keeps
  cases i
  case locksWrite | keyAdd | keyRevoke | pinSetEnable | pinSetDisable | testAccessClose | testAccessOpen | testAccessJtag | jtagFuseBlow |
    journalCommit | bootSequence | refInRemeasure => cases h
  case trowelNop | lit8 | lit16 | drop | dup | swap | keeps.over | rot | dropw | dupw | swapw | overw | pick | toR | rFrom | rFetch | trowelAdd |
    addc | trowelSub | subb | trowelAnd | trowelOr | trowelXor | notByte | shl | shr | asr | inc | dec | trowelNeg | mulu | addw | subw
    | incw | decw | andw | orw | xorw | shlw | shrw | ext | eq | ne | ltu | leu | lts | les | zeq | eqw | ltuw | ltsw | zeqw | ld | st |
    ldw | stw | lda | sta | ldaw | staw | ldp | stp | ldc | ldcf | inIo | outIo | ina | outa | inw | outw | bset | bclr | bcpl | bpush |
    bpop | bpushi | bpopi | trowelJmp | jr | jz | jnz | call | callf | ret | reti | jmpi | calli | jmpf | ei | di | trowelLoop | lbrk |
    lcnt | crc16 | crc32 | par | brev | brevw | brb1 | brb0 | brb1c | brb0s =>
    exact trowelRow_seals (by simp) _ _ _
  case sha256Init | sha256Update | sha256Final | ed25519Verify | cp2Add | cp2Sub | cp2Mulu | cp2Muls | cp2Divu | cp2Cmpu | cp2Shl | cp2Shr =>
    exact cpRow_seals _ _ _ _ _
  case replyItem | sysParamGet | sysParamSet | sysJournal | sysGpioWrite | sysGpioRead | sysLog =>
    exact sysRow_seals (by simp) _ _
  case cpset => exact execCpset_seals _ _
  case cpget => exact execCpget_seals _ _
  case cpwait => exact execCpwait_seals _ _
  case waitIdle => exact execWaitIdle_seals _ _
  case trap => exact execTrap_seals _ _
  case registerWrite => exact execRegisterWrite_seals _ _ _
  case vectorTaken => exact execVectorTaken_seals _
  case handlerTimeLimit => exact execHandlerTimeLimit_seals _
  all_goals exact .next (by simp)

end Sys2Proof.Machine

namespace Sys2Proof.Machine
open Sys2Proof.Claims

/-! ## Lock regions within the ranges of R327 -/

/-- R312, R327: a lock region whose three entries are within their ranges. -/
def RegionLegal (l : List Locks) : Prop := l.length = 3 ∧ ∀ n, n < 3 → locksLegal n (l.getD n {}) = true

theorem locksLegal_iff_region (s : State) : LocksLegal s ↔ RegionLegal s.nv.locks := Iff.rfl

theorem locks_of_sealed {s t : State} (h : t.sealed = s.sealed) : t.nv.locks = s.nv.locks := congrArg Sealed.locks h

theorem locksLegal_of_locks {s t : State} (h : t.nv.locks = s.nv.locks) (hs : LocksLegal s) : LocksLegal t := by
  rw [locksLegal_iff_region] at hs ⊢
  rwa [h]

theorem locksLegal_of_sealed {s t : State} (h : t.sealed = s.sealed) (hs : LocksLegal s) : LocksLegal t :=
  locksLegal_of_locks (locks_of_sealed h) hs

theorem firstFail_eq_none_iff (l : List (Bool × Status)) : firstFail l = none ↔ ∀ p ∈ l, p.1 = false := by
  induction l with
  | nil => simp [firstFail]
  | cons p r ih =>
    obtain ⟨b, st⟩ := p
    cases b <;> simp [firstFail, ih]

theorem firstFail_of_failItem {f : Bytes → List (Bool × Status)} {l : List Item} (h : failItem f l = none) {i : Item} (hi : i ∈ l) :
    firstFail (f i.value) = none := by
  induction l with
  | nil => cases hi
  | cons a r ih =>
    rw [failItem] at h
    split at h
    · cases h
    · next ha =>
      rcases List.mem_cons.mp hi with rfl | hr
      · exact ha
      · exact ih h hr

theorem le_of_onlyBits {mask v : Nat} (h : onlyBits mask v = true) : v ≤ mask := by
  have hv : v &&& mask = v := of_decide_eq_true h
  exact hv ▸ Nat.and_le_right

/-- R327: an item that stands up to its tests holds legal locks. -/
theorem locksLegal_locksItem {v : Bytes} (h : firstFail (locksTests v) = none) : locksLegal (fieldAt 0 1 v) (locksItem v) = true := by
  have htests := (firstFail_eq_none_iff _).mp h
  simp only [locksTests, List.forall_mem_cons, Bool.not_eq_false', Bool.and_eq_true, decide_eq_false_iff_not,
    decide_eq_true_eq, Nat.not_lt, Int.not_lt, within] at htests
  obtain ⟨-, hrates, hmargin, hcond, ⟨heirpLow, heirpHigh⟩, ⟨hgainLow, hgainHigh⟩, ⟨hdutyLow, hdutyHigh⟩, ⟨hlbtLow, hlbtHigh⟩, -, hchannels, -⟩ :=
    htests
  have hrates' := le_of_onlyBits hrates
  have hchannels' := Nat.lt_of_le_pred (Nat.two_pow_pos _) (le_of_onlyBits hchannels)
  simp [locksLegal, *]

/-- An item of R327 takes effect on the lock region. -/
def putLocks (l : List Locks) (v : Bytes) : List Locks := modAt (fieldAt 0 1 v) (fun _ => locksItem v) l

theorem RegionLegal.putLocks {l : List Locks} (hl : RegionLegal l) {v : Bytes} (hv : firstFail (locksTests v) = none) :
    RegionLegal (putLocks l v) := by
  obtain ⟨hlen, hlegal⟩ := hl
  refine ⟨(length_modAt ..).trans hlen, fun n hn => ?_⟩
  rw [Machine.putLocks, getD_modAt]
  split
  · next hat => exact hat.1 ▸ locksLegal_locksItem hv
  · exact hlegal n hn

theorem RegionLegal.foldl_putLocks {vs : List Bytes} (hvs : ∀ v ∈ vs, firstFail (locksTests v) = none) {l : List Locks} (hl : RegionLegal l) :
    RegionLegal (vs.foldl Machine.putLocks l) := by
  induction vs generalizing l with
  | nil => exact hl
  | cons v r ih => exact ih (fun u hu => hvs u (List.mem_cons_of_mem _ hu)) (hl.putLocks (hvs v (List.mem_cons_self ..)))

/-! ## The commands that write the sealed part -/

/-- A command whose body keeps the lock region within its ranges keeps it so, whatever packet brings it. -/
theorem CmdSpec.run_locksLegal {k : CmdSpec} (h : ∀ c t, LocksLegal t → LocksLegal (k.body c t).state) {s : State} (hs : LocksLegal s) :
    LocksLegal (k.run s) :=
  CmdSpec.run_sealed (P := fun x => RegionLegal x.locks) (fun c t _ ht =>
    CmdSpec.execute_sealed (P := fun x => RegionLegal x.locks) (h c t ht) ht) hs

theorem locks_of_append {st : Status} {s t : State} {ok : Bool} {kind role keyId id : Nat} {old new : Bytes}
    (h : s.journalAppend ok kind role keyId id old new = (st, t)) : t.nv.locks = s.nv.locks :=
  locks_of_sealed (sealed_of_eq h (State.journalAppend_sealed ..))

theorem guarded_locks {l : List (Bool × Status)} {s : State} {r : Result} (h : r.state.nv.locks = s.nv.locks) :
    (guarded l s r).state.nv.locks = s.nv.locks := by
  obtain hr | ⟨st, hr⟩ := guarded_cases l s r
  · rw [hr, h]
  · rw [hr, locks_of_sealed (refuse_sealed ..)]

theorem State.logFree_locks (unit kind : Nat) (s : State) : (s.logFree unit kind).nv.locks = s.nv.locks :=
  locks_of_sealed (State.logFree_sealed ..)

theorem keyProvision_locks (sel : Nat → Bool) (ok : Bool) (f : Cmd → State → List Key) (c : Cmd) (s : State) :
    ((keyProvision sel ok f).body c s).state.nv.locks = s.nv.locks := by
  refine guarded_locks ?_
  split
  · next h =>
    refine Eq.trans ?_ (locks_of_append h)
    exact State.logFree_locks ..
  · next h => exact locks_of_append h

theorem pinSet_locks (sel : Nat → Bool) (ok : Bool) (c : Cmd) (s : State) : ((pinSet sel ok).body c s).state.nv.locks = s.nv.locks := by
  refine guarded_locks ?_
  split
  · next h =>
    refine Eq.trans ?_ (locks_of_append h)
    refine (locks_of_sealed ((done_sealed _).trans (State.logFree_sealed ..))).trans ?_
    split <;> rfl
  · next h => exact locks_of_append h

theorem State.testAction_locks (action session : Nat) (s : State) : (s.testAction action session).nv.locks = s.nv.locks := by
  unfold State.testAction
  split <;> rfl

theorem testAccess_locks (sel : Nat → Bool) (ok : Bool) (c : Cmd) (s : State) : ((testAccess sel ok).body c s).state.nv.locks = s.nv.locks := by
  refine guarded_locks ?_
  split
  · next h =>
    refine (locks_of_sealed ((done_sealed _).trans (State.logAny_sealed ..))).trans ?_
    rw [State.testAction_locks, locks_of_append h]
  · next h => exact locks_of_append h

/-- LOCKS_WRITE: every item has stood up to its tests when the region takes it. -/
theorem locksWrite_locksLegal (ok : Bool) (c : Cmd) {s : State} (hs : LocksLegal s) : LocksLegal ((locksWrite ok).body c s).state := by
  obtain ⟨hr, hitems⟩ | ⟨st, hr⟩ := c.guardItems_cases locksTests s _
  · refine (congrArg (fun r => LocksLegal r.state) hr).mpr ?_
    dsimp only
    split
    · next t h =>
      have ht : RegionLegal t.nv.locks := (locks_of_append h).symm ▸ hs
      have hput : RegionLegal ((c.items.map Item.value).foldl putLocks t.nv.locks) := by
        refine RegionLegal.foldl_putLocks (fun v hv => ?_) ht
        obtain ⟨i, hi, rfl⟩ := List.mem_map.mp hv
        exact firstFail_of_failItem hitems hi
      rw [List.foldl_map] at hput
      exact (congrArg RegionLegal (locks_of_sealed ((done_sealed _).trans (State.logFree_sealed ..)))).mpr hput
    · next h => exact locksLegal_of_locks (locks_of_append h) hs
  · refine (congrArg (fun r => LocksLegal r.state) hr).mpr ?_
    exact locksLegal_of_sealed (refuse_sealed ..) hs

/-! ## Journal records and the boot -/

theorem Nv.takePart_legal (p : Nat × Nat × Bytes) {x : Nv} (hx : RegionLegal x.locks) : RegionLegal (x.takePart p).locks := by
  unfold Nv.takePart
  extract_lets v _ y
  split
  case h_2 =>
    split
    · split <;> exact hx
    · split
      · split <;> exact hx
      · have hy : y.locks = x.locks := by
          unfold y
          split <;> rfl
        exact (congrArg RegionLegal hy).mpr hx
  case h_5 =>
    refine RegionLegal.foldl_putLocks (fun i hi => ?_) hx
    have htests := (List.mem_filter.mp hi).2
    rw [Bool.and_eq_true, Option.isNone_iff_eq_none] at htests
    exact htests.2
  case h_6 => split <;> exact hx
  all_goals exact hx

theorem Nv.takeRecord_legal (r : JournalRecord) {x : Nv} (hx : RegionLegal x.locks) : RegionLegal (x.takeRecord r).locks :=
  List.foldlRecOn (motive := fun y : Nv => RegionLegal y.locks) r.parts _ hx (fun _ hy p _ => Nv.takePart_legal p hy)

theorem State.takeRecord_legal (r : JournalRecord) {s : State} (hs : LocksLegal s) : LocksLegal (s.takeRecord r) := by
  unfold State.takeRecord
  split
  · exact locksLegal_of_sealed (State.applyRecord_sealed ..) hs
  · exact Nv.takeRecord_legal r hs

theorem State.foldLate_legal {s : State} (hs : LocksLegal s) : LocksLegal s.foldLate :=
  List.foldlRecOn (motive := fun x : Nv => RegionLegal x.locks) s.nv.late _ hs (fun _ hy r _ => Nv.takeRecord_legal r hy)

theorem State.journalCommit_legal (ok : Bool) {s : State} (hs : LocksLegal s) : LocksLegal (s.journalCommit ok) := by
  unfold State.journalCommit
  split
  · exact hs
  · next r who _ =>
    extract_lets _ t u
    have ht : LocksLegal t := hs
    have hu : LocksLegal u := by
      unfold u
      split
      · exact State.takeRecord_legal r (locksLegal_of_sealed (State.appendRecord_sealed ..) ht)
      · exact locksLegal_of_sealed (State.nvFault_sealed ..) ht
    split
    · exact hu
    · exact locksLegal_of_sealed (State.notify_sealed ..) hu

theorem State.bootTrowelH_legal {s : State} (hs : LocksLegal s) : LocksLegal s.bootTrowelH := by
  unfold State.bootTrowelH
  split
  · exact locksLegal_of_sealed (State.recoveryPort_sealed ..) hs
  · next slot fell _ =>
    extract_lets t g _ u v
    have ht : LocksLegal t := by
      unfold t
      split
      · exact locksLegal_of_sealed (State.fellBack_sealed ..) hs
      · exact hs
    have hu : LocksLegal (u.loadTrowelH false).foldLate := State.foldLate_legal ht
    have hv : LocksLegal v := locksLegal_of_sealed ((State.gpioStart_sealed ..).trans (State.reapply_sealed ..)) hu
    exact hv

theorem State.bootTrowelS_legal {s : State} (hs : LocksLegal s) : LocksLegal s.bootTrowelS := by
  unfold State.bootTrowelS
  split
  · exact locksLegal_of_sealed (State.recoveryPort_sealed ..) hs
  · exact State.bootTrowelH_legal (locksLegal_of_sealed (by simp) hs)

theorem State.bootPlls_legal (refHz : Nat) (mismatch : Bool) {s : State} (hs : LocksLegal s) : LocksLegal (s.bootPlls refHz mismatch) :=
  State.bootTrowelS_legal (locksLegal_of_sealed (by simp) hs)

theorem State.measureRef_legal (refIn : Nat) {s : State} (hs : LocksLegal s) : LocksLegal (s.measureRef refIn) := by
  unfold State.measureRef
  extract_lets nominal
  split
  · exact State.bootPlls_legal _ _ hs
  · split
    · exact State.bootPlls_legal _ _ hs
    · exact hs

theorem State.bootSequence_legal (refIn : Nat) (good : Bool) {s : State} (hs : LocksLegal s) : LocksLegal (s.bootSequence refIn good) := by
  unfold State.bootSequence
  split
  · exact State.measureRef_legal _ (locksLegal_of_sealed (by simp) hs)
  · exact hs

theorem State.refInRemeasure_legal (refIn : Nat) {s : State} (hs : LocksLegal s) : LocksLegal (s.refInRemeasure refIn) := by
  unfold State.refInRemeasure
  split
  · exact State.measureRef_legal _ hs
  · exact hs

/-! ## Every step -/

/-- Whatever state the step leads to has a lock region within its ranges. -/
def StepLegal (o : Step) : Prop := ∀ t, o = .next t → LocksLegal t

theorem StepLegal.next {s : State} (h : LocksLegal s) : StepLegal (.next s) := by
  rintro t ⟨⟩
  exact h

theorem exec_legal (i : Instr) {s : State} (hs : LocksLegal s) : StepLegal (exec i s) := by
  cases hi : opensSeal i with
  | false => exact fun t ht => locksLegal_of_sealed (exec_seals hi s t ht) hs
  | true =>
    cases i
    case locksWrite ok => exact .next (CmdSpec.run_locksLegal (fun c t ht => locksWrite_locksLegal ok c ht) hs)
    case keyAdd | keyRevoke => exact .next (CmdSpec.run_locksLegal (fun c t ht => locksLegal_of_locks (keyProvision_locks ..) ht) hs)
    case pinSetEnable | pinSetDisable => exact .next (CmdSpec.run_locksLegal (fun c t ht => locksLegal_of_locks (pinSet_locks ..) ht) hs)
    case testAccessClose | testAccessOpen | testAccessJtag | jtagFuseBlow =>
      exact .next (CmdSpec.run_locksLegal (fun c t ht => locksLegal_of_locks (testAccess_locks ..) ht) hs)
    case journalCommit => exact .next (State.journalCommit_legal _ hs)
    case bootSequence => exact .next (State.bootSequence_legal _ _ hs)
    case refInRemeasure => exact .next (State.refInRemeasure_legal _ hs)
    all_goals cases hi

/-- Settles O56: the commands that reach the lock region put only items into it that stood up to the tests of R327. -/
theorem everyStepKeepsLocksLegal : Obligations.EveryStepKeepsLocksLegal := by
  unfold Obligations.EveryStepKeepsLocksLegal
  intro s t hs hstep
  unfold step at hstep
  split at hstep
  · exact StepLegal.next hs t hstep
  · next c rest _ => exact exec_legal c (s := { s with pending := rest }) hs t hstep

end Sys2Proof.Machine

/-! PROOFS. The step takes the front of the queue of commands (log entry 1). -/
namespace Sys2Proof.Machine
open Sys2Proof.Claims

/-- Settles O51: the queue of commands is read from its front. -/
theorem stepRunsFrontCommand : Obligations.StepRunsFrontCommand := by
  intro c r s h
  simp only [step, h]

/-- Settles O52: a step on an empty queue answers the same state. -/
theorem emptyQueueIdles : Obligations.EmptyQueueIdles := by
  intro s h
  simp only [step, h]
end Sys2Proof.Machine

/-! PROOFS. The data stack of a Trowel core: what a pop and a push do to it, spilled entries included (R402). -/
namespace Sys2Proof.Machine
open Sys2Proof.Claims

/-! ## The data stack in order (R402) -/

/-- What `stackWf` says of a core, part by part. -/
structure Trowel.InOrder (t : Trowel) : Prop where
  bytes : ∀ b ∈ t.stack, b < 256
  held : t.stack.length ≤ 32
  full : t.dsSpill ≤ t.dsBase ∨ t.stack.length = 32
  above : t.dsBase ≤ t.dsSpill
  below : t.dsSpill ≤ t.dsLimit
  limit : t.dsLimit < 65536
  space : t.steward = true → t.dsLimit ≤ 32768

theorem stackWf_iff (t : Trowel) : stackWf t = true ↔ t.InOrder := by
  simp only [stackWf, Bool.and_eq_true, Bool.or_eq_true, List.all_eq_true, decide_eq_true_eq, Bool.not_eq_true', Bool.or_eq_true]
  constructor
  · rintro ⟨⟨⟨⟨⟨⟨h1, h2⟩, h3⟩, h4⟩, h5⟩, h6⟩, h7⟩
    exact ⟨h1, h2, h3, h4, h5, h6, fun h => h7.resolve_left (by simp [h])⟩
  · rintro ⟨h1, h2, h3, h4, h5, h6, h7⟩
    refine ⟨⟨⟨⟨⟨⟨h1, h2⟩, h3⟩, h4⟩, h5⟩, h6⟩, ?_⟩
    cases hs : t.steward with
    | false => exact .inl rfl
    | true => exact .inr (h7 hs)

theorem Trowel.byteAt_lt (t : Trowel) (a : Nat) : t.byteAt a < 256 := (Table.get 0 (a % 65536) t.data).isLt

/-! The spilled entries -/

theorem spilled_of_le {t : Trowel} (h : t.dsSpill ≤ t.dsBase) : spilled t = [] := by
  simp only [spilled, Nat.sub_eq_zero_of_le h, List.range_zero, List.map_nil]

@[simp] theorem length_spilled (t : Trowel) : (spilled t).length = t.dsSpill - t.dsBase := by
  simp only [spilled, List.length_map, List.length_range]

/-- The entry spilled last stands first. -/
theorem spilled_of_lt {t u : Trowel} (h : t.dsBase < t.dsSpill) (hbase : u.dsBase = t.dsBase) (hspill : u.dsSpill = t.dsSpill - 1)
    (hbytes : ∀ x, t.dsBase ≤ x → x < t.dsSpill - 1 → u.byteAt x = t.byteAt x) :
    spilled t = t.byteAt (t.dsSpill - 1) :: spilled u := by
  obtain ⟨n, hn⟩ : ∃ n, t.dsSpill = t.dsBase + (n + 1) := ⟨t.dsSpill - t.dsBase - 1, by omega⟩
  have hcount : t.dsSpill - t.dsBase = n + 1 := by omega
  have hless : u.dsSpill - u.dsBase = n := by omega
  simp only [spilled, hcount, hless, List.range_succ_eq_map, List.map_cons, List.map_map, Nat.sub_zero]
  congr 1
  refine List.map_congr_left fun k hk => ?_
  have hk : k < n := List.mem_range.mp hk
  rw [Function.comp_apply, hspill, hbytes _ (by omega) (by omega)]
  congr 1
  omega

theorem mem_spilled_lt {t : Trowel} {b : Nat} (h : b ∈ spilled t) : b < 256 := by
  obtain ⟨k, -, rfl⟩ := List.mem_map.mp h
  exact t.byteAt_lt _

theorem Trowel.InOrder.mem_lt {t : Trowel} (h : t.InOrder) {b : Nat} (hb : b ∈ dataStack t) : b < 256 :=
  (List.mem_append.mp hb).elim (h.bytes b) mem_spilled_lt

/-- A stack without hardware entries is empty. -/
theorem Trowel.InOrder.dataStack_of_nil {t : Trowel} (h : t.InOrder) (hs : t.stack = []) : dataStack t = [] := by
  have hspill : t.dsSpill ≤ t.dsBase := h.full.resolve_right (by simp [hs])
  simp only [dataStack, hs, spilled_of_le hspill, List.append_nil]

/-! Pops and pushes -/

/-- `u` is `t` after pops that leave `l`. -/
structure PoppedTo (t u : Trowel) (l : List Nat) : Prop where
  popped : Popped t u
  falls : u.dsSpill ≤ t.dsSpill
  left : dataStack u = l
  order : u.InOrder

/-- `v` is `w` after pushes of `out`, top first. -/
structure PushedTo (w v : Trowel) (out : List Nat) : Prop where
  pushed : Pushed w v
  rises : w.dsSpill ≤ v.dsSpill
  top : dataStack v = out ++ dataStack w
  order : v.InOrder

theorem PoppedTo.refl {t : Trowel} (h : t.InOrder) : PoppedTo t t (dataStack t) := ⟨rfl, Nat.le_refl _, rfl, h⟩

theorem PoppedTo.trans {t u v : Trowel} {l k : List Nat} (h : PoppedTo t u l) (h' : PoppedTo u v k) : PoppedTo t v k := by
  refine ⟨?_, Nat.le_trans h'.falls h.falls, h'.left, h'.order⟩
  show v = _
  rw [h'.popped, h.popped]

theorem PushedTo.refl {t : Trowel} (h : t.InOrder) : PushedTo t t [] := ⟨⟨rfl, fun _ _ _ => rfl⟩, Nat.le_refl _, rfl, h⟩

theorem PushedTo.trans {u v w : Trowel} {out more : List Nat} (h : PushedTo u v out) (h' : PushedTo v w more) :
    PushedTo u w (more ++ out) := by
  obtain ⟨⟨heq, hkeep⟩, hrise, htop, -⟩ := h
  obtain ⟨⟨heq', hkeep'⟩, hrise', htop', horder⟩ := h'
  refine ⟨⟨by rw [heq', heq], fun x hx hout => ?_⟩, Nat.le_trans hrise hrise', by rw [htop', htop, List.append_assoc], horder⟩
  rw [hkeep' x hx (by omega), hkeep x hx (by omega)]

/-- What pops took stands on top of what they left. -/
theorem PoppedTo.back {t u : Trowel} {l xs : List Nat} (h : PoppedTo t u l) (ht : t.InOrder) (hstack : dataStack t = xs ++ l) :
    PushedTo u t xs := by
  obtain ⟨hpop, hfall, hleft, -⟩ := h
  refine ⟨⟨by rw [hpop], fun x _ _ => by rw [hpop]; rfl⟩, hfall, by rw [hstack, hleft], ht⟩

theorem PushedTo.capacity {w v : Trowel} {out : List Nat} (h : PushedTo w v out) : capacity v = capacity w := by
  rw [h.pushed.1]; rfl

theorem PoppedTo.capacity {t u : Trowel} {l : List Nat} (h : PoppedTo t u l) : capacity u = capacity t := by
  rw [h.popped]; rfl

/-! What a pop and a push do, case by case (R402) -/

theorem Trowel.pop_of_spilled {t : Trowel} {b : Nat} {r : List Nat} (hs : t.stack = b :: r) (h : t.dsBase < t.dsSpill) :
    t.pop = .ok (b, { t with stack := r ++ [t.byteAt (t.dsSpill - 1)], dsSpill := t.dsSpill - 1 }) := by
  simp only [Trowel.pop, hs, if_pos h]

theorem Trowel.pop_of_plain {t : Trowel} {b : Nat} {r : List Nat} (hs : t.stack = b :: r) (h : t.dsSpill ≤ t.dsBase) :
    t.pop = .ok (b, { t with stack := r }) := by
  simp only [Trowel.pop, hs, if_neg (Nat.not_lt.mpr h)]

theorem Trowel.push_of_lt {t : Trowel} (b : Nat) (h : t.stack.length < 32) : t.push b = .ok { t with stack := b % 256 :: t.stack } :=
  if_pos h

theorem Trowel.push_of_full {t : Trowel} (b : Nat) (h : t.stack.length = 32) (hroom : t.dsSpill < t.dsLimit)
    (hspace : t.steward = true → t.dsLimit ≤ 32768) : t.push b = .ok { t.putByte t.dsSpill (t.stack.getLastD 0) with
      stack := b % 256 :: t.stack.dropLast, dsSpill := t.dsSpill + 1 } := by
  have hout : ¬ ((t.steward && decide (0x8000 ≤ t.dsSpill)) = true) := by
    rw [Bool.and_eq_true, decide_eq_true_eq]
    rintro ⟨hs, hd⟩
    have := hspace hs
    omega
  rw [Trowel.push, if_neg (by omega), if_neg (by omega), if_neg hout]

/-- R402: a pop takes the top entry, and refills from the spilled ones. -/
theorem Trowel.pop_of_cons {t : Trowel} {b : Nat} {l : List Nat} (h : t.InOrder) (hs : dataStack t = b :: l) :
    ∃ u, t.pop = .ok (b, u) ∧ PoppedTo t u l := by
  cases hstack : t.stack with
  | nil => rw [h.dataStack_of_nil hstack] at hs; nomatch hs
  | cons c r =>
    obtain ⟨hbytes, hheld, hfull, habove, hbelow, hlimit, hspace⟩ := h
    simp only [hstack, List.mem_cons, forall_eq_or_imp, List.length_cons] at hbytes hheld hfull
    simp only [dataStack, hstack, List.cons_append, List.cons.injEq] at hs
    obtain ⟨rfl, rfl⟩ := hs
    by_cases hspill : t.dsBase < t.dsSpill
    · refine ⟨_, Trowel.pop_of_spilled hstack hspill, rfl, Nat.sub_le _ _, ?_, ?_⟩
      · rw [spilled_of_lt hspill (u := { t with stack := r ++ [t.byteAt (t.dsSpill - 1)], dsSpill := t.dsSpill - 1 }) rfl rfl
          fun _ _ _ => rfl]
        exact List.append_assoc r _ _
      · have hlen : (r ++ [t.byteAt (t.dsSpill - 1)]).length = 32 := by
          rw [List.length_append]
          exact hfull.resolve_left (Nat.not_le.mpr hspill)
        refine ⟨fun x hx => ?_, Nat.le_of_eq hlen, .inr hlen, Nat.le_sub_one_of_lt hspill, Nat.le_trans (Nat.sub_le _ _) hbelow,
          hlimit, hspace⟩
        rcases List.mem_append.mp hx with hx | hx
        · exact hbytes.2 x hx
        · exact List.mem_singleton.mp hx ▸ t.byteAt_lt _
    · have hnone : t.dsSpill ≤ t.dsBase := Nat.le_of_not_lt hspill
      exact ⟨_, Trowel.pop_of_plain hstack hnone, rfl, Nat.le_refl _, rfl,
        hbytes.2, Nat.le_of_succ_le hheld, .inl hnone, habove, hbelow, hlimit, hspace⟩

theorem dropLast_append_getLastD {l : List Nat} (h : l ≠ []) (d : Nat) : l.dropLast ++ [l.getLastD d] = l := by
  rw [List.getLastD_eq_getLast?, List.getLast?_eq_some_getLast h, Option.getD_some, List.dropLast_append_getLast h]

/-- R402: a push with room for it; a 33rd entry spills the deepest. -/
theorem Trowel.push_of_room {w : Trowel} (b : Nat) (h : w.InOrder) (hroom : (dataStack w).length < capacity w) :
    ∃ v, w.push b = .ok v ∧ PushedTo w v [b % 256] := by
  obtain ⟨hbytes, hheld, hfull, habove, hbelow, hlimit, hspace⟩ := h
  have hb : b % 256 < 256 := Nat.mod_lt _ (by decide)
  rcases Nat.lt_or_eq_of_le hheld with hlen | hlen
  · exact ⟨_, Trowel.push_of_lt b hlen, ⟨rfl, fun _ _ _ => rfl⟩, Nat.le_refl _, rfl,
      fun x hx => (List.mem_cons.mp hx).elim (· ▸ hb) (hbytes x), hlen,
      .inl (hfull.resolve_right (Nat.ne_of_lt hlen)), habove, hbelow, hlimit, hspace⟩
  · have hne : w.stack ≠ [] := List.ne_nil_of_length_eq_add_one hlen
    have hspill : w.dsSpill < w.dsLimit := by
      simp only [dataStack, List.length_append, length_spilled, Claims.capacity] at hroom
      omega
    have hlast : w.stack.getLastD 0 < 256 := by
      have hmem := List.mem_append_right w.stack.dropLast (List.mem_singleton_self (w.stack.getLastD 0))
      rw [dropLast_append_getLastD hne] at hmem
      exact hbytes _ hmem
    have hkeep : ∀ x, x < 65536 → x ≠ w.dsSpill → (w.putByte w.dsSpill (w.stack.getLastD 0)).byteAt x = w.byteAt x := by
      intro x hx hxs
      rw [Trowel.byteAt_putByte, if_neg (by omega)]
    have hbyte : (w.putByte w.dsSpill (w.stack.getLastD 0)).byteAt w.dsSpill = w.stack.getLastD 0 := by
      rw [Trowel.byteAt_putByte, if_pos rfl, Nat.mod_eq_of_lt hlast]
    have hlen' : (b % 256 :: w.stack.dropLast).length = 32 := by
      rw [List.length_cons, List.length_dropLast, hlen]
    refine ⟨_, Trowel.push_of_full b hlen hspill hspace, ⟨rfl, fun x hx hout => hkeep x hx fun he => ?_⟩, Nat.le_succ _, ?_,
      fun x hx => (List.mem_cons.mp hx).elim (· ▸ hb) fun hx => hbytes x (List.mem_of_mem_dropLast hx),
      Nat.le_of_eq hlen', .inr hlen', Nat.le_succ_of_le habove, hspill, hlimit, hspace⟩
    · exact hout.elim (Nat.ne_of_lt · he) fun hle => Nat.not_succ_le_self _ (he ▸ hle)
    · have hspilled := spilled_of_lt (u := w) (t := { w.putByte w.dsSpill (w.stack.getLastD 0) with
        stack := b % 256 :: w.stack.dropLast, dsSpill := w.dsSpill + 1 }) (Nat.lt_succ_of_le habove) rfl rfl
        fun x _ hx => (hkeep x (Nat.lt_trans (Nat.lt_trans hx hspill) hlimit) (Nat.ne_of_lt hx)).symm
      calc b % 256 :: w.stack.dropLast ++ spilled _
          = b % 256 :: w.stack.dropLast ++ ((w.putByte w.dsSpill (w.stack.getLastD 0)).byteAt w.dsSpill :: spilled w) := by rw [hspilled]; rfl
        _ = b % 256 :: ((w.stack.dropLast ++ [w.stack.getLastD 0]) ++ spilled w) := by rw [hbyte, List.append_assoc]; rfl
        _ = [b % 256] ++ dataStack w := by rw [dropLast_append_getLastD hne]; rfl

end Sys2Proof.Machine

/-! PROOFS. What an instruction of a Trowel core comes to: pops, a change of the core, and pushes (R401, R404, R408). -/
namespace Sys2Proof.Machine
open Sys2Proof.Claims

/-! Several entries at once -/

/-- Push several bytes, the last of the list first. -/
def Trowel.pushAll : List Nat → Trowel → TR Trowel
  | [], t => .ok t
  | b :: r, t => do
    let t ← Trowel.pushAll r t
    t.push b

@[simp] theorem ok_bind {α β : Type} (a : α) (f : α → TR β) : ((Except.ok a : TR α) >>= f) = f a := (rfl)

/-- The bytes of a word as `Trowel.pushW` pushes them, the high byte first. -/
def wordBytes (w : Nat) : List Nat := [w / 256, w % 256]

theorem Trowel.pushAll_append (a b : List Nat) (t : Trowel) : t.pushAll (a ++ b) = t.pushAll b >>= Trowel.pushAll a := by
  induction a with
  | nil => exact (bind_pure _).symm
  | cons x r ih =>
    show (t.pushAll (r ++ b) >>= fun u => u.push x) = _
    rw [ih, bind_assoc]
    rfl

/-- R402: pushes with room for them. -/
theorem Trowel.pushAll_of_room (out : List Nat) {w : Trowel} (h : w.InOrder) (hroom : out.length + (dataStack w).length ≤ capacity w) :
    ∃ v, w.pushAll out = .ok v ∧ PushedTo w v (out.map (· % 256)) := by
  induction out with
  | nil => exact ⟨w, rfl, .refl h⟩
  | cons b r ih =>
    rw [List.length_cons] at hroom
    obtain ⟨u, hu, hpushed⟩ := ih (by omega)
    have hlen : (dataStack u).length = r.length + (dataStack w).length := by
      rw [hpushed.top, List.length_append, List.length_map]
    obtain ⟨v, hv, hlast⟩ := Trowel.push_of_room b hpushed.order (by rw [hpushed.capacity]; omega)
    refine ⟨v, ?_, hpushed.trans hlast⟩
    simp only [Trowel.pushAll, hu, bind, Except.bind, hv]

/-- R401: a word comes off with its high byte first. -/
theorem Trowel.popW_of_cons {t : Trowel} {b h : Nat} {l : List Nat} (ht : t.InOrder) (hs : dataStack t = h :: b :: l) :
    ∃ u, t.popW = .ok (b + 256 * h, u) ∧ PoppedTo t u l := by
  obtain ⟨u, hu, htu⟩ := Trowel.pop_of_cons ht hs
  obtain ⟨v, hv, huv⟩ := Trowel.pop_of_cons htu.order htu.left
  exact ⟨v, by simp only [Trowel.popW, hu, hv, bind, Except.bind, pure, Except.pure], htu.trans huv⟩

/-- R405 PICK: the entry `n` below the top, wherever it stands. -/
theorem Trowel.peek_of_getElem? {t : Trowel} {n b : Nat} (h : (dataStack t)[n]? = some b) : t.peek n = .ok b := by
  unfold Trowel.peek
  split
  case isTrue hn =>
    rw [dataStack, List.getElem?_append_left hn] at h
    rw [List.getD_eq_getElem?_getD, h]
    rfl
  case isFalse hn =>
    rw [dataStack, List.getElem?_append_right (Nat.le_of_not_lt hn)] at h
    obtain ⟨hk, hb⟩ := List.getElem?_eq_some_iff.mp h
    rw [length_spilled] at hk
    rw [if_pos (by omega)]
    simp only [spilled, List.getElem_map, List.getElem_range] at hb
    rw [hb]

/-- A change that leaves the data stack where it is; bytes of data RAM under it may differ. -/
structure SameStack (t u : Trowel) : Prop where
  stack : u.stack = t.stack
  spill : u.dsSpill = t.dsSpill
  base : u.dsBase = t.dsBase
  limit : u.dsLimit = t.dsLimit
  steward : u.steward = t.steward

theorem SameStack.refl (t : Trowel) : SameStack t t := ⟨rfl, rfl, rfl, rfl, rfl⟩

theorem SameStack.inOrder {t u : Trowel} (h : SameStack t u) (ht : t.InOrder) : u.InOrder := by
  obtain ⟨hstack, hspill, hbase, hlimit, hsteward⟩ := h
  obtain ⟨hbytes, hheld, hfull, habove, hbelow, hlim, hspace⟩ := ht
  constructor <;> simpa only [hstack, hspill, hbase, hlimit, hsteward]

theorem SameStack.capacity {t u : Trowel} (h : SameStack t u) : Claims.capacity u = Claims.capacity t := by
  simp only [Claims.capacity, h.limit, h.base]

theorem SameStack.length {t u : Trowel} (h : SameStack t u) : (dataStack u).length = (dataStack t).length := by
  simp only [dataStack, List.length_append, length_spilled, h.stack, h.spill, h.base]

/-- What pops leave unchanged: anything but the hardware entries and DS_SPILL. -/
theorem PoppedTo.frame {α : Type} {t u : Trowel} {l : List Nat} (h : PoppedTo t u l) (p : Trowel → α)
    (hp : ∀ st sp, p { t with stack := st, dsSpill := sp } = p t) : p u = p t := by
  have hu : u = { t with stack := u.stack, dsSpill := u.dsSpill } := h.popped
  rw [hu]
  exact hp _ _

/-! ## An instruction of a core (R404, R405) -/

theorem State.setCore_setCore (c : Nat) (t u : Trowel) (s : State) : (s.setCore c t).setCore c u = s.setCore c u := by
  unfold State.setCore
  split <;> rfl

/-- The core past the instruction at PC. -/
def Trowel.past (t : Trowel) : Trowel := { t with pc := t.after t.pc }

@[simp] theorem core_passPc (c : Nat) (s : State) : (passPc c s).core c = (s.core c).past := State.core_setCore _ _ _

theorem completed_setCore (c : Nat) (s : State) (v : Trowel) :
    completed c s (s.setCore c v) = s.setCore c (passed (s.core c).pc ((s.core c).after (s.core c).pc) (s.core c).cbank v) := by
  unfold completed
  rw [State.core_setCore, State.setCore_setCore]

/-- R404: the row of the instruction at PC, with an effect that succeeds. -/
theorem trowelRow_of_at {c : Nat} {p : Nat → Bool} {f : CoreOp} {s s' : State}
    (hat : ((s.core c).runs && (s.core c).bankPresent (s.core c).cbank && p (s.core c).opcode) = true)
    (h : f c (s.core c).imm (passPc c s) = .ok s') : trowelRow p f c s = .next (completed c s s') := by
  rw [trowelRow, if_pos hat, trowelDo_of_ok h, trowelStep]

theorem onCore_of_ok {c imm : Nat} {eff : Nat → Trowel → TR Trowel} {s : State} {v : Trowel} (h : eff imm (s.core c).past = .ok v) :
    onCore eff c imm (passPc c s) = .ok (s.setCore c v) := by
  simp only [onCore, core_passPc, h, bind, Except.bind, pure, Except.pure]
  rw [passPc, State.setCore_setCore]

/-- What a row of R405 comes to: `eff` is pops from `t` that leave `rest`, the change `g`, and pushes of `out`. -/
def Effects (t : Trowel) (rest : List Nat) (g : Trowel → Trowel) (out : List Nat) (eff : TR Trowel) : Prop :=
  ∃ u v, PoppedTo t u rest ∧ PushedTo (g u) v out ∧ eff = .ok v

section Rows
variable {i : Instr} {c : Fin 2} {op : Nat} {eff : Nat → Trowel → TR Trowel} {r : CoreRow}

/-- R404, R408: a row completes where its instruction has its effect on the core past PC. -/
theorem coreOp_completes {is p : Nat → Bool} {e : Trowel → Nat → List Nat → Option (List Nat × (Trowel → Trowel) × List Nat)}
    (f : CoreOp) (h : some ({ core := c, op := is, effect := e } : CoreRow) = some r) (hop : ∀ o, is o = true → p o = true)
    (heff : ∀ s t rest g out, s.core c.val = t → is t.opcode = true → t.past.InOrder →
      e t t.imm (dataStack t.past) = some (rest, g, out) → out.length + rest.length ≤ capacity t.past →
      exec i s = trowelRow p f c.val s ∧ ∃ eff : TR Trowel, Effects t.past rest g out eff ∧
        ∀ v, eff = .ok v → f c.val t.imm (passPc c.val s) = .ok (s.setCore c.val v)) :
    r.Completes i := by
  cases h
  intro s rest out g t hhere hwf heffect hroom
  simp only [CoreRow.here, Bool.and_eq_true] at hhere
  obtain ⟨⟨hruns, hbank⟩, hopcode⟩ := hhere
  obtain ⟨hexec, eff, ⟨u, v, hpop, hpush, heffv⟩, hok⟩ := heff s t rest g out rfl hopcode
    ((stackWf_iff t.past).mp hwf) heffect (List.length_append ▸ hroom)
  refine ⟨u, v, hpop.popped, hpop.left, (stackWf_iff u).mpr hpop.order, hpush.pushed, hpush.top, (stackWf_iff v).mpr hpush.order, ?_⟩
  have hat : (t.runs && t.bankPresent t.cbank && p t.opcode) = true := by
    rw [hruns, hbank, hop _ hopcode]
    rfl
  rw [hexec, trowelRow_of_at hat (hok v heffv), completed_setCore]

/-- A row whose effect is on the core alone. -/
theorem onCore_completes {p : Nat → Bool} {e : Trowel → Nat → List Nat → Option (List Nat × (Trowel → Trowel) × List Nat)}
    (h : some ({ core := c, op := p, effect := e } : CoreRow) = some r) (hexec : ∀ s, exec i s = trowelRow p (onCore eff) c.val s)
    (heff : ∀ t rest g out, p t.opcode = true → t.past.InOrder → e t t.imm (dataStack t.past) = some (rest, g, out) →
      out.length + rest.length ≤ capacity t.past → Effects t.past rest g out (eff t.imm t.past)) :
    r.Completes i := by
  refine coreOp_completes (onCore eff) h (fun _ ho => ho) fun s t rest g out hcore hopcode horder heffect hroom => ?_
  subst hcore
  exact ⟨hexec s, _, heff _ rest g out hopcode horder heffect hroom, fun _ => onCore_of_ok⟩

/-- Pops, a change, and pushes. -/
theorem effects_of_change {t u : Trowel} {rest out : List Nat} {x : TR Trowel} {g : Trowel → Trowel} (o : List Nat)
    (hpop : PoppedTo t u rest) (hsame : SameStack u (g u)) (hroom : out.length + rest.length ≤ capacity t)
    (hx : x = (g u).pushAll o) (ho : o.map (· % 256) = out) : Effects t rest g out x := by
  have hlen : o.length = out.length := by rw [← ho, List.length_map]
  obtain ⟨v, hv, hpush⟩ := Trowel.pushAll_of_room o (hsame.inOrder hpop.order)
    (by rw [hsame.length, hsame.capacity, hpop.left, hpop.capacity, hlen]; exact hroom)
  exact ⟨u, v, hpop, ho ▸ hpush, hx.trans hv⟩

/-- Pops, no other change, and pushes. -/
theorem effects_of_pushAll {t u : Trowel} {rest out : List Nat} {x : TR Trowel} (o : List Nat) (hpop : PoppedTo t u rest)
    (hroom : out.length + rest.length ≤ capacity t) (hx : x = u.pushAll o) (ho : o.map (· % 256) = out) :
    Effects t rest (fun t => t) out x :=
  effects_of_change o hpop (.refl u) hroom hx ho

/-- Pushes onto what the instruction only reads, `xs` of it on top. -/
theorem effects_of_reads {t u : Trowel} {xs rest out : List Nat} {x : TR Trowel} (o : List Nat) (ht : t.InOrder)
    (hstack : dataStack t = xs ++ rest) (hpop : PoppedTo t u rest)
    (hroom : (out ++ xs).length + rest.length ≤ capacity t) (hx : x = t.pushAll o) (ho : o.map (· % 256) = out) :
    Effects t rest (fun t => t) (out ++ xs) x := by
  have hlen : o.length = out.length := by rw [← ho, List.length_map]
  simp only [List.length_append] at hroom
  obtain ⟨v, hv, hpush⟩ := Trowel.pushAll_of_room o ht (by rw [hstack, List.length_append, hlen]; omega)
  exact ⟨u, v, hpop, ho ▸ (hpop.back ht hstack).trans hpush, hx.trans hv⟩

/-- The rows that only pop and push. -/
theorem pure1_completes {g : List Nat → Option (List Nat × List Nat)} (hexec : ∀ s, exec i s = trowelRow (isOp op) (onCore eff) c.val s)
    (heff : ∀ imm t rest out, t.InOrder → g (dataStack t) = some (rest, out) → out.length + rest.length ≤ capacity t →
      Effects t rest (fun t => t) out (eff imm t)) (h : pure1 c op g = some r) : r.Completes i := by
  refine onCore_completes h hexec fun t rest f out _ horder heffect hroom => ?_
  obtain ⟨⟨rest', out'⟩, hg, hp⟩ := Option.map_eq_some_iff.mp heffect
  cases hp
  exact heff _ _ _ _ horder hg hroom

/-- ( b -- … ): `o` is what the instruction pushes of the byte it pops. -/
theorem byte1_completes {g o : Nat → List Nat} (hexec : ∀ s, exec i s = trowelRow (isOp op) (onCore eff) c.val s)
    (heff : ∀ imm t u b, t.pop = .ok (b, u) → eff imm t = u.pushAll (o b)) (hval : ∀ b, b < 256 → (o b).map (· % 256) = g b)
    (h : byte1 c op g = some r) : r.Completes i := by
  refine pure1_completes hexec (fun imm t rest out horder hg hroom => ?_) h
  split at hg
  case h_2 => nomatch hg
  case h_1 b l hstack =>
    cases hg
    obtain ⟨u, hu, hpop⟩ := Trowel.pop_of_cons horder hstack
    exact effects_of_pushAll (o b) hpop hroom (heff _ _ _ _ hu) (hval b (horder.mem_lt (by simp [hstack])))

/-- ( b1 b2 -- … ) -/
theorem byte2_completes {g o : Nat → Nat → List Nat} (hexec : ∀ s, exec i s = trowelRow (isOp op) (onCore eff) c.val s)
    (heff : ∀ imm t u v b1 b2, t.pop = .ok (b2, u) → u.pop = .ok (b1, v) → eff imm t = v.pushAll (o b1 b2))
    (hval : ∀ b1 b2, b1 < 256 → b2 < 256 → (o b1 b2).map (· % 256) = g b1 b2)
    (h : byte2 c op g = some r) : r.Completes i := by
  refine pure1_completes hexec (fun imm t rest out horder hg hroom => ?_) h
  split at hg
  case h_2 => nomatch hg
  case h_1 b2 b1 l hstack =>
    cases hg
    obtain ⟨u, hu, hpop⟩ := Trowel.pop_of_cons horder hstack
    obtain ⟨v, hv, hpop'⟩ := Trowel.pop_of_cons hpop.order hpop.left
    exact effects_of_pushAll (o b1 b2) (hpop.trans hpop') hroom (heff _ _ _ _ _ _ hu hv)
      (hval b1 b2 (horder.mem_lt (by simp [hstack])) (horder.mem_lt (by simp [hstack])))

/-- ( w -- … ) -/
theorem word1_completes {g o : Nat → List Nat} (hexec : ∀ s, exec i s = trowelRow (isOp op) (onCore eff) c.val s)
    (heff : ∀ imm t u w, t.popW = .ok (w, u) → eff imm t = u.pushAll (o w)) (hval : ∀ w, w < 65536 → (o w).map (· % 256) = g w)
    (h : word1 c op g = some r) : r.Completes i := by
  refine pure1_completes hexec (fun imm t rest out horder hg hroom => ?_) h
  split at hg
  case h_2 => nomatch hg
  case h_1 h b l hstack =>
    cases hg
    obtain ⟨u, hu, hpop⟩ := Trowel.popW_of_cons horder hstack
    have hb : b < 256 := horder.mem_lt (by simp [hstack])
    have hh : h < 256 := horder.mem_lt (by simp [hstack])
    exact effects_of_pushAll (o (b + 256 * h)) hpop hroom (heff _ _ _ _ hu) (hval _ (by omega))

/-- ( w1 w2 -- … ) -/
theorem word2_completes {g o : Nat → Nat → List Nat} (hexec : ∀ s, exec i s = trowelRow (isOp op) (onCore eff) c.val s)
    (heff : ∀ imm t u v w1 w2, t.popW = .ok (w2, u) → u.popW = .ok (w1, v) → eff imm t = v.pushAll (o w1 w2))
    (hval : ∀ w1 w2, w1 < 65536 → w2 < 65536 → (o w1 w2).map (· % 256) = g w1 w2)
    (h : word2 c op g = some r) : r.Completes i := by
  refine pure1_completes hexec (fun imm t rest out horder hg hroom => ?_) h
  split at hg
  case h_2 => nomatch hg
  case h_1 h2 b2 h1 b1 l hstack =>
    cases hg
    obtain ⟨u, hu, hpop⟩ := Trowel.popW_of_cons horder hstack
    obtain ⟨v, hv, hpop'⟩ := Trowel.popW_of_cons hpop.order hpop.left
    have hb2 : b2 < 256 := horder.mem_lt (by simp [hstack])
    have hh2 : h2 < 256 := horder.mem_lt (by simp [hstack])
    have hb1 : b1 < 256 := horder.mem_lt (by simp [hstack])
    have hh1 : h1 < 256 := horder.mem_lt (by simp [hstack])
    exact effects_of_pushAll (o (b1 + 256 * h1) (b2 + 256 * h2)) (hpop.trans hpop') hroom (heff _ _ _ _ _ _ hu hv)
      (hval _ _ (by omega) (by omega))

/-! What the instructions push -/

theorem byteOut {x y : Nat} (h : x % 256 = y) : [x].map (· % 256) = [y] := h ▸ rfl

theorem wordBytes_out {x y : Nat} (h : x % 65536 = y % 65536) : (wordBytes x).map (· % 256) = wordOut y := by
  simp only [wordBytes, wordOut, List.map_cons, List.map_nil, List.cons.injEq, and_true]
  omega

theorem wordBytes_append_out {x y : Nat} {a b : List Nat} (h : x % 65536 = y % 65536) (hab : a.map (· % 256) = b) :
    (wordBytes x ++ a).map (· % 256) = wordOut y ++ b := by
  rw [List.map_append, wordBytes_out h, hab]

theorem unaryB_completes {f g : Nat → Nat} (hexec : ∀ s, exec i s = trowelRow (isOp op) (onCore (unaryB f)) c.val s)
    (hval : ∀ b, b < 256 → f b % 256 = g b) (h : byte1 c op (fun b => [g b]) = some r) : r.Completes i :=
  byte1_completes (o := fun b => [f b]) hexec (fun _ _ _ _ hu => by simp only [unaryB, hu]; rfl) (fun b hb => byteOut (hval b hb)) h

theorem binaryB_completes {f g : Nat → Nat → Nat} (hexec : ∀ s, exec i s = trowelRow (isOp op) (onCore (binaryB f)) c.val s)
    (hval : ∀ a b, a < 256 → b < 256 → f a b % 256 = g a b) (h : byte2 c op (fun a b => [g a b]) = some r) : r.Completes i :=
  byte2_completes (o := fun a b => [f a b]) hexec (fun _ _ _ _ _ _ hu hv => by simp only [binaryB, hu, hv, ok_bind]; rfl)
    (fun a b ha hb => byteOut (hval a b ha hb)) h

theorem unaryW_completes {f g : Nat → Nat} (hexec : ∀ s, exec i s = trowelRow (isOp op) (onCore (unaryW f)) c.val s)
    (hval : ∀ w, w < 65536 → f w % 65536 = g w % 65536) (h : word1 c op (fun w => wordOut (g w)) = some r) : r.Completes i :=
  word1_completes (o := fun w => wordBytes (f w)) hexec (fun _ _ _ _ hu => by simp only [unaryW, hu]; rfl)
    (fun w hw => wordBytes_out (hval w hw)) h

theorem binaryW_completes {f g : Nat → Nat → Nat} (hexec : ∀ s, exec i s = trowelRow (isOp op) (onCore (binaryW f)) c.val s)
    (hval : ∀ a b, a < 65536 → b < 65536 → f a b % 65536 = g a b % 65536) (h : word2 c op (fun a b => wordOut (g a b)) = some r) :
    r.Completes i :=
  word2_completes (o := fun a b => wordBytes (f a b)) hexec
    (fun _ _ _ _ _ _ hu hv => by simp only [binaryW, hu, hv, ok_bind]; rfl) (fun a b ha hb => wordBytes_out (hval a b ha hb)) h

theorem testW_completes {f : Nat → Nat → Bool} {g : Nat → Nat → Nat} (hexec : ∀ s, exec i s = trowelRow (isOp op) (onCore (testW f)) c.val s)
    (hval : ∀ a b, a < 65536 → b < 65536 → b01 (f a b) = g a b) (h : word2 c op (fun a b => [g a b]) = some r) : r.Completes i :=
  word2_completes (o := fun a b => [b01 (f a b)]) hexec
    (fun _ _ _ _ _ _ hu hv => by simp only [testW, hu, hv, ok_bind]; rfl)
    (fun a b ha hb => byteOut (by rw [← hval a b ha hb]; cases f a b <;> rfl)) h

end Rows
end Sys2Proof.Machine

/-! PROOFS. The stack, arithmetic and logic instructions of Trowel (R401, R402, R405). -/
namespace Sys2Proof.Machine
open Sys2Proof.Claims

/-! ## Stack, arithmetic and logic instructions (R401, R402, R405) -/

theorem flag_eq_b01 (p : Prop) [Decidable p] : flag p = b01 (decide p) := by simp only [flag, b01, decide_eq_true_eq]

@[simp] theorem b01_mod_256 (b : Bool) : b01 b % 256 = b01 b := by cases b <;> rfl

theorem signed_8 {a : Nat} (h : a < 256) : signed 8 a = s8 a := by
  simp only [signed, s8, Nat.reducePow, Nat.reduceSub, Nat.mod_eq_of_lt h]
  rfl

theorem signed_16 {a : Nat} (h : a < 65536) : signed 16 a = s16 a := by
  simp only [signed, s16, Nat.reducePow, Nat.reduceSub, Nat.mod_eq_of_lt h]
  rfl

theorem bitCount_succ (n a : Nat) : bitCount (n + 1) a = a % 2 + bitCount n (a / 2) := by
  simp only [bitCount, List.range_succ_eq_map, List.map_cons, List.map_map, List.sum_cons, Nat.pow_zero, Nat.div_one]
  congr 2
  refine List.map_congr_left fun k _ => ?_
  rw [Function.comp_apply, Nat.pow_succ', Nat.div_div_eq_div_mul]

theorem oddOnes_eq_bitCount (n a : Nat) : oddOnes n a = bitCount n a % 2 := by
  induction n generalizing a with
  | zero => rfl
  | succ n ih => rw [oddOnes, ih, bitCount_succ, Nat.add_mod_mod]

theorem mirrored_succ (n a : Nat) : mirrored (n + 1) a = a % 2 * 2 ^ n + mirrored n (a / 2) := by
  simp only [mirrored, List.range_succ_eq_map, List.map_cons, List.map_map, List.sum_cons, Nat.pow_zero, Nat.div_one,
    Nat.add_sub_cancel, Nat.sub_zero]
  congr 2
  refine List.map_congr_left fun k _ => ?_
  have hplace : n - (k + 1) = n - 1 - k := by omega
  rw [Function.comp_apply, Nat.pow_succ', Nat.div_div_eq_div_mul, Nat.succ_eq_add_one, hplace]

theorem reverseBits_eq_mirrored (n a : Nat) : reverseBits n a = mirrored n a := by
  induction n generalizing a with
  | zero => rfl
  | succ n ih => rw [reverseBits, ih, mirrored_succ]

theorem reverseBits_lt (n a : Nat) : reverseBits n a < 2 ^ n := by
  induction n generalizing a with
  | zero => exact Nat.one_pos
  | succ n ih =>
    have hrest := ih (a / 2)
    rw [reverseBits, Nat.pow_succ]
    rcases Nat.mod_two_eq_zero_or_one a with h | h <;> rw [h] <;> omega

/-- A byte sign-extended to a word (R405 EXT). -/
theorem wordBytes_ext {b : Nat} (h : b < 256) : (wordBytes (unsigned 16 (signed 8 b))).map (· % 256) = [if b < 128 then 0 else 255, b] := by
  simp only [signed_8 h, s8, unsigned, wordBytes, List.map_cons, List.map_nil, List.cons.injEq, and_true]
  split <;> constructor <;> omega

/-- R405: DUP, of a stack in order. -/
theorem effDup_completes {i : Instr} {c : Fin 2} {r : CoreRow} (hexec : ∀ s, exec i s = trowelRow (isOp 0x04) (onCore effDup) c.val s)
    (h : byte1 c 0x04 (fun b => [b, b]) = some r) : r.Completes i := by
  refine pure1_completes hexec (fun imm t rest out horder hg hroom => ?_) h
  split at hg
  case h_2 => nomatch hg
  case h_1 b l hstack =>
    cases hg
    obtain ⟨u, -, hpop⟩ := Trowel.pop_of_cons horder hstack
    have hb : b < 256 := horder.mem_lt (by simp [hstack])
    refine effects_of_reads (xs := [b]) (out := [b]) [b] horder hstack hpop hroom ?_ (byteOut (Nat.mod_eq_of_lt hb))
    simp only [effDup, Trowel.peek_of_getElem? (n := 0) (t := t) (b := b) (by simp [hstack])]
    rfl

/-- R405: OVER. -/
theorem effOver_completes {i : Instr} {c : Fin 2} {r : CoreRow} (hexec : ∀ s, exec i s = trowelRow (isOp 0x06) (onCore effOver) c.val s)
    (h : byte2 c 0x06 (fun b1 b2 => [b1, b2, b1]) = some r) : r.Completes i := by
  refine pure1_completes hexec (fun imm t rest out horder hg hroom => ?_) h
  split at hg
  case h_2 => nomatch hg
  case h_1 b2 b1 l hstack =>
    cases hg
    obtain ⟨u, -, hpop⟩ := Trowel.pop_of_cons horder hstack
    obtain ⟨v, -, hpop'⟩ := Trowel.pop_of_cons hpop.order hpop.left
    have hb : b1 < 256 := horder.mem_lt (by simp [hstack])
    refine effects_of_reads (xs := [b2, b1]) (out := [b1]) [b1] horder hstack (hpop.trans hpop') hroom ?_
      (byteOut (Nat.mod_eq_of_lt hb))
    simp only [effOver, Trowel.peek_of_getElem? (n := 1) (t := t) (b := b1) (by simp [hstack])]
    rfl

theorem effRot_completes {i : Instr} {c : Fin 2} {r : CoreRow} (hexec : ∀ s, exec i s = trowelRow (isOp 0x07) (onCore effRot) c.val s)
    (h : pure1 c 0x07 (fun l => match l with | b3 :: b2 :: b1 :: r => some (r, [b1, b3, b2]) | _ => none) = some r) :
    r.Completes i := by
  refine pure1_completes hexec (fun imm t rest out horder hg hroom => ?_) h
  split at hg
  case h_2 => nomatch hg
  case h_1 b3 b2 b1 l hstack =>
    cases hg
    obtain ⟨u, hu, hpop⟩ := Trowel.pop_of_cons horder hstack
    obtain ⟨v, hv, hpop'⟩ := Trowel.pop_of_cons hpop.order hpop.left
    obtain ⟨w, hw, hpop''⟩ := Trowel.pop_of_cons hpop'.order hpop'.left
    have hb : ∀ b ∈ dataStack t, b % 256 = b := fun b hb => Nat.mod_eq_of_lt (horder.mem_lt hb)
    simp only [hstack, List.mem_cons, forall_eq_or_imp] at hb
    obtain ⟨h3, h2, h1, -⟩ := hb
    refine effects_of_pushAll [b1, b3, b2] ((hpop.trans hpop').trans hpop'') hroom ?_
      (by simp only [List.map_cons, List.map_nil, h1, h2, h3])
    simp only [effRot, hu, hv, hw, ok_bind, Trowel.pushAll, bind_assoc]

theorem byteOuts {l : List Nat} (h : ∀ b ∈ l, b < 256) : l.map (· % 256) = l :=
  (List.map_congr_left fun b hb => Nat.mod_eq_of_lt (h b hb)).trans (List.map_id l)

/-- R401, R402, R405: each row's instruction pops its operands, pushes its results, and nothing else. -/
theorem trowelArithmeticCompletes : TrowelArithmeticCompletes := by
  intro i r h
  unfold pureRow at h
  split at h
  case h_1 =>
    refine pure1_completes (eff := effNop) (fun _ => rfl) (fun imm t rest out horder hg hroom => ?_) h
    cases hg
    exact effects_of_pushAll [] (.refl horder) hroom rfl rfl
  case h_2 => exact byte1_completes (eff := effDrop) (o := fun _ => []) (fun _ => rfl) (fun _ _ _ _ hu => by simp only [effDrop, hu]; rfl) (fun _ _ => rfl) h
  case h_3 => exact effDup_completes (fun _ => rfl) h
  case h_4 =>
    exact byte2_completes (eff := effSwap) (o := fun a b => [a, b]) (fun _ => rfl)
      (fun _ _ _ _ _ _ hu hv => by simp only [effSwap, hu, hv, ok_bind]; rfl)
      (fun a b ha hb => byteOuts (by simp [ha, hb])) h
  case h_5 => exact effOver_completes (fun _ => rfl) h
  case h_6 => exact effRot_completes (fun _ => rfl) h
  case h_7 =>
    exact word1_completes (eff := effDropw) (o := fun _ => []) (fun _ => rfl) (fun _ _ _ _ hu => by simp only [effDropw, hu]; rfl)
      (fun _ _ => rfl) h
  case h_8 =>
    exact word1_completes (eff := effDupw) (o := fun w => wordBytes w ++ wordBytes w) (fun _ => rfl)
      (fun _ _ _ _ hu => by simp only [effDupw, hu, ok_bind, Trowel.pushAll_append]; rfl) (fun _ _ => wordBytes_append_out rfl (wordBytes_out rfl)) h
  case h_9 =>
    exact word2_completes (eff := effSwapw) (o := fun a b => wordBytes a ++ wordBytes b) (fun _ => rfl)
      (fun _ _ _ _ _ _ hu hv => by simp only [effSwapw, hu, hv, ok_bind, Trowel.pushAll_append]; rfl)
      (fun _ _ _ _ => wordBytes_append_out rfl (wordBytes_out rfl)) h
  case h_10 =>
    exact word2_completes (eff := effOverw) (o := fun a b => wordBytes a ++ (wordBytes b ++ wordBytes a)) (fun _ => rfl)
      (fun _ _ _ _ _ _ hu hv => by simp only [effOverw, hu, hv, ok_bind, Trowel.pushAll_append, bind_assoc]; rfl)
      (fun _ _ _ _ => by
        rw [List.append_assoc]
        exact wordBytes_append_out rfl (wordBytes_append_out rfl (wordBytes_out rfl))) h
  case h_11 => exact binaryB_completes (f := addMod 8) (fun _ => rfl) (fun _ _ _ _ => Nat.mod_mod _ _) h
  case h_12 =>
    refine byte2_completes (eff := effAddc) (o := fun a b => [carryOut 8 a b, addMod 8 a b]) (fun _ => rfl)
      (fun _ _ _ _ _ _ hu hv => by simp only [effAddc, hu, hv, ok_bind]; rfl) (fun a b ha hb => ?_) h
    have hcarry : carryOut 8 a b = (a + b) / 256 := by
      simp only [carryOut, b01, decide_eq_true_eq, Nat.reducePow]
      split <;> omega
    rw [hcarry]
    exact byteOuts (by simp [addMod]; omega)
  case h_13 => exact binaryB_completes (f := subMod 8) (fun _ => rfl) (fun a b _ hb => by simp only [subMod, Nat.reducePow]; omega) h
  case h_14 =>
    refine byte2_completes (eff := effSubb) (o := fun a b => [borrow a b, subMod 8 a b]) (fun _ => rfl)
      (fun _ _ _ _ _ _ hu hv => by simp only [effSubb, hu, hv, ok_bind]; rfl) (fun a b ha hb => ?_) h
    simp only [List.map_cons, List.map_nil, borrow, b01_mod_256, flag_eq_b01, subMod, Nat.reducePow, Nat.mod_mod, Nat.mod_eq_of_lt hb]
  case h_15 => exact binaryB_completes (fun _ => rfl) (fun _ _ _ hb => Nat.mod_eq_of_lt (Nat.and_lt_two_pow (n := 8) _ hb)) h
  case h_16 => exact binaryB_completes (fun _ => rfl) (fun _ _ ha hb => Nat.mod_eq_of_lt (Nat.or_lt_two_pow (n := 8) ha hb)) h
  case h_17 => exact binaryB_completes (fun _ => rfl) (fun _ _ ha hb => Nat.mod_eq_of_lt (Nat.xor_lt_two_pow (n := 8) ha hb)) h
  case h_18 => exact unaryB_completes (f := fun b => 255 - b) (fun _ => rfl) (fun _ _ => by omega) h
  case h_19 => exact unaryB_completes (f := fun b => b * 2 % 256) (fun _ => rfl) (fun _ _ => by omega) h
  case h_20 => exact unaryB_completes (f := fun b => b / 2) (fun _ => rfl) (fun _ _ => by omega) h
  case h_21 =>
    refine unaryB_completes (f := asrOne 8) (fun _ => rfl) (fun b hb => ?_) h
    simp only [asrOne, Nat.reducePow, Nat.reduceSub]
    split <;> omega
  case h_22 => exact unaryB_completes (f := fun b => addMod 8 b 1) (fun _ => rfl) (fun _ _ => Nat.mod_mod _ _) h
  case h_23 => exact unaryB_completes (f := fun b => subMod 8 b 1) (fun _ => rfl) (fun _ _ => by simp only [subMod, Nat.reducePow]; omega) h
  case h_24 => exact unaryB_completes (f := subMod 8 0) (fun _ => rfl) (fun _ _ => by simp only [subMod, Nat.reducePow]; omega) h
  case h_25 =>
    exact byte2_completes (eff := effMulu) (o := fun a b => wordBytes (a * b)) (fun _ => rfl)
      (fun _ _ _ _ _ _ hu hv => by simp only [effMulu, hu, hv, ok_bind]; rfl) (fun _ _ _ _ => wordBytes_out rfl) h
  case h_26 => exact binaryW_completes (f := addMod 16) (fun _ => rfl) (fun _ _ _ _ => Nat.mod_mod _ _) h
  case h_27 => exact binaryW_completes (f := subMod 16) (fun _ => rfl) (fun _ _ _ _ => by simp only [subMod, Nat.reducePow]; omega) h
  case h_28 => exact unaryW_completes (f := fun w => addMod 16 w 1) (fun _ => rfl) (fun _ _ => Nat.mod_mod _ _) h
  case h_29 => exact unaryW_completes (f := fun w => subMod 16 w 1) (fun _ => rfl) (fun _ _ => by simp only [subMod, Nat.reducePow]; omega) h
  case h_30 => exact binaryW_completes (f := Nat.land) (fun _ => rfl) (fun _ _ _ _ => rfl) h
  case h_31 => exact binaryW_completes (f := Nat.lor) (fun _ => rfl) (fun _ _ _ _ => rfl) h
  case h_32 => exact binaryW_completes (f := Nat.xor) (fun _ => rfl) (fun _ _ _ _ => rfl) h
  case h_33 => exact unaryW_completes (f := fun w => w * 2 % 65536) (fun _ => rfl) (fun _ _ => by omega) h
  case h_34 => exact unaryW_completes (f := fun w => w / 2) (fun _ => rfl) (fun _ _ => rfl) h
  case h_35 =>
    exact byte1_completes (eff := effExt) (o := fun b => wordBytes (unsigned 16 (signed 8 b))) (fun _ => rfl)
      (fun _ _ _ _ hu => by simp only [effExt, hu]; rfl) (fun _ hb => wordBytes_ext hb) h
  case h_36 => exact binaryB_completes (f := fun a b => b01 (a == b)) (fun _ => rfl) (fun a b _ _ => by rw [b01_mod_256, flag_eq_b01]; rfl) h
  case h_37 => exact binaryB_completes (f := fun a b => b01 (a != b)) (fun _ => rfl) (fun a b _ _ => by rw [b01_mod_256, flag_eq_b01, decide_not]; rfl) h
  case h_38 => exact binaryB_completes (f := fun a b => b01 (decide (a < b))) (fun _ => rfl) (fun a b _ _ => by rw [b01_mod_256, flag_eq_b01]) h
  case h_39 => exact binaryB_completes (f := fun a b => b01 (decide (a ≤ b))) (fun _ => rfl) (fun a b _ _ => by rw [b01_mod_256, flag_eq_b01]) h
  case h_40 =>
    exact binaryB_completes (f := fun a b => b01 (ltSigned 8 a b)) (fun _ => rfl)
      (fun a b ha hb => by rw [b01_mod_256, ltSigned, signed_8 ha, signed_8 hb, flag_eq_b01]) h
  case h_41 =>
    exact binaryB_completes (f := fun a b => b01 (leSigned 8 a b)) (fun _ => rfl)
      (fun a b ha hb => by rw [b01_mod_256, leSigned, signed_8 ha, signed_8 hb, flag_eq_b01]) h
  case h_42 => exact unaryB_completes (f := fun b => b01 (b == 0)) (fun _ => rfl) (fun b _ => by rw [b01_mod_256, flag_eq_b01]; rfl) h
  case h_43 => exact testW_completes (f := fun a b => a == b) (fun _ => rfl) (fun a b _ _ => (flag_eq_b01 _).symm) h
  case h_44 => exact testW_completes (f := fun a b => decide (a < b)) (fun _ => rfl) (fun a b _ _ => (flag_eq_b01 _).symm) h
  case h_45 =>
    exact testW_completes (f := ltSigned 16) (fun _ => rfl)
      (fun a b ha hb => by rw [ltSigned, signed_16 ha, signed_16 hb, flag_eq_b01]) h
  case h_46 =>
    exact word1_completes (eff := effZeqw) (o := fun w => [b01 (w == 0)]) (fun _ => rfl)
      (fun _ _ _ _ hu => by simp only [effZeqw, hu]; rfl) (fun w _ => byteOut (by rw [b01_mod_256, flag_eq_b01]; rfl)) h
  case h_47 =>
    exact unaryB_completes (f := oddOnes 8) (fun _ => rfl) (fun b _ => by rw [oddOnes_eq_bitCount]; omega) h
  case h_48 =>
    exact unaryB_completes (f := reverseBits 8) (fun _ => rfl)
      (fun b _ => (Nat.mod_eq_of_lt (reverseBits_lt 8 b)).trans (reverseBits_eq_mirrored 8 b)) h
  case h_49 => exact unaryW_completes (f := reverseBits 16) (fun _ => rfl) (fun w _ => by rw [reverseBits_eq_mirrored]) h
  case h_50 => nomatch h

end Sys2Proof.Machine

/-! PROOFS. The moves between the stacks, and the loads and stores of Trowel (R401–R403, R405, R417). -/
namespace Sys2Proof.Machine
open Sys2Proof.Claims

/-! ## Literals, PICK and the moves between the two stacks (R402, R403, R405) -/

theorem Trowel.codeByte_lt (t : Trowel) (k a : Nat) : t.codeByte k a < 256 := (Table.get 0 (k * 65536 + a % 65536) t.code).isLt

theorem Trowel.imm_lt (t : Trowel) : t.imm < 65536 := by
  have hb := fun a => t.codeByte_lt t.cbank a
  unfold Trowel.imm
  split
  · exact Nat.lt_trans (hb _) (by decide)
  · have h1 := hb (t.pc + 1)
    have h2 := hb (t.pc + 2)
    omega
  · decide

theorem Trowel.imm_lt_256 {t : Trowel} (h : immBytes t.opcode = some 1) : t.imm < 256 := by
  simp only [Trowel.imm, h, t.codeByte_lt]

theorem rsEntry_eq_entry (t : Trowel) (bank addr : Nat) : rsEntry t.priv bank addr = entry t (bank % 8) (addr % 65536) := by
  simp only [rsEntry, entry, Trowel.priv, b01, decide_eq_true_eq]
  split <;> omega

theorem Trowel.rsPush_of_room {t : Trowel} (e : Nat) (h : t.rs.length < 64) : t.rsPush e = .ok { t with rs := e :: t.rs } := if_pos h

theorem Trowel.rsPop_of_cons {t : Trowel} {e : Nat} {r : List Nat} (h : t.rs = e :: r) : t.rsPop = .ok (e, { t with rs := r }) := by
  simp only [Trowel.rsPop, h]

/-- A word popped off a stack in order is one of 16 bits. -/
theorem word_lt_of_stack {t : Trowel} (ht : t.InOrder) {b h : Nat} {pre l : List Nat} (hs : dataStack t = pre ++ h :: b :: l) :
    b + 256 * h < 65536 := by
  have hb : b < 256 := ht.mem_lt (by simp [hs])
  have hh : h < 256 := ht.mem_lt (by simp [hs])
  omega

theorem trowelMovesComplete : TrowelMovesComplete := by
  intro i r h
  unfold moveRow at h
  split at h
  case h_1 =>
    refine onCore_completes (eff := effLit8) h (fun _ => rfl) fun t rest g out hop horder heffect hroom => ?_
    cases heffect
    have himm : t.imm < 256 := Trowel.imm_lt_256 (by rw [beq_iff_eq.mp hop]; rfl)
    exact effects_of_pushAll [t.imm] (.refl horder) hroom rfl (byteOut (Nat.mod_eq_of_lt himm))
  case h_2 =>
    refine onCore_completes (eff := effLit16) h (fun _ => rfl) fun t rest g out _ horder heffect hroom => ?_
    cases heffect
    exact effects_of_pushAll (wordBytes t.imm) (.refl horder) hroom rfl (wordBytes_out rfl)
  case h_3 =>
    refine onCore_completes (eff := effPick) h (fun _ => rfl) fun t rest g out _ horder heffect hroom => ?_
    obtain ⟨b, hb, heq⟩ := Option.map_eq_some_iff.mp heffect
    cases heq
    refine effects_of_pushAll [b] (.refl horder) hroom ?_ (byteOut (Nat.mod_eq_of_lt (horder.mem_lt (List.mem_of_getElem? hb))))
    simp only [effPick, Trowel.peek_of_getElem? hb]
    rfl
  case h_4 =>
    refine onCore_completes (eff := effToR) h (fun _ => rfl) fun t rest g out _ horder heffect hroom => ?_
    split at heffect
    case h_2 => nomatch heffect
    case h_1 hi lo l hstack =>
      split at heffect
      case isFalse => nomatch heffect
      case isTrue hrs =>
        cases heffect
        obtain ⟨u, hu, hpop⟩ := Trowel.popW_of_cons horder hstack
        have hrs : u.rs.length < 64 := hpop.frame Trowel.rs (fun _ _ => rfl) ▸ hrs
        refine effects_of_change [] hpop ⟨rfl, rfl, rfl, rfl, rfl⟩ hroom ?_ rfl
        simp only [effToR, hu, ok_bind, Trowel.rsPush_of_room _ hrs, rsEntry_eq_entry,
          Nat.mod_eq_of_lt (word_lt_of_stack (pre := []) horder hstack)]
        rfl
  case h_5 =>
    refine onCore_completes (eff := effRFrom) h (fun _ => rfl) fun t rest g out _ horder heffect hroom => ?_
    split at heffect
    case h_2 => nomatch heffect
    case h_1 e k hrs =>
      split at heffect
      case isTrue => nomatch heffect
      case isFalse hopen =>
        cases heffect
        refine effects_of_change (u := t.past) (wordBytes (e % 65536)) (.refl horder) ⟨rfl, rfl, rfl, rfl, rfl⟩ hroom ?_ (wordBytes_out (Nat.mod_mod _ _))
        simp only [effRFrom, Trowel.rsPop_of_cons (t := t.past) hrs, ok_bind]
        exact if_neg hopen
  case h_6 =>
    refine onCore_completes (eff := effRFetch) h (fun _ => rfl) fun t rest g out _ horder heffect hroom => ?_
    split at heffect
    case h_2 => nomatch heffect
    case h_1 e k hrs =>
      cases heffect
      refine effects_of_pushAll (wordBytes (e % 65536)) (.refl horder) hroom ?_ (wordBytes_out (Nat.mod_mod _ _))
      simp only [effRFetch, Trowel.rsPop_of_cons (t := t.past) hrs, ok_bind]
      rfl

  case h_7 => nomatch h

/-! ## Loads and stores (R401, R405, R417) -/

theorem Trowel.load_of_ok {t : Trowel} {a : Nat} (h : t.dataOk (a % 65536) = true) : t.load a = .ok (t.byteAt a) := if_pos h

theorem Trowel.store_of_ok {t : Trowel} {a : Nat} (v : Nat) (h : t.dataOk (a % 65536) = true) : t.store a v = .ok (t.putByte a v) := if_pos h

theorem Trowel.loadW_of_ok {t : Trowel} {a : Nat} (ha : t.dataOk (a % 65536) = true) (ha' : t.dataOk ((a + 1) % 65536) = true) :
    t.loadW a = .ok (t.byteAt a + 256 * t.byteAt (a + 1)) := by
  simp only [Trowel.loadW, Trowel.load_of_ok ha, Trowel.load_of_ok ha', ok_bind]
  rfl

theorem Trowel.storeW_of_ok {t : Trowel} {a b h : Nat} (hb : b < 256) (ha : t.dataOk (a % 65536) = true) (ha' : t.dataOk ((a + 1) % 65536) = true) :
    t.storeW a (b + 256 * h) = .ok ((t.putByte a b).putByte (a + 1) h) := by
  have hlow : (b + 256 * h) % 256 = b := by omega
  have hhigh : (b + 256 * h) / 256 = h := by omega
  simp only [Trowel.storeW, Trowel.store_of_ok _ ha, hlow, hhigh, ok_bind]
  exact Trowel.store_of_ok _ ha'

/-- What the running code may reach does not change with pops. -/
theorem PoppedTo.dataOk {t u : Trowel} {l : List Nat} (h : PoppedTo t u l) (a : Nat) : u.dataOk a = t.dataOk a :=
  h.frame (fun t => t.dataOk a) fun _ _ => rfl

theorem PoppedTo.byteAt {t u : Trowel} {l : List Nat} (h : PoppedTo t u l) (a : Nat) : u.byteAt a = t.byteAt a :=
  h.frame (fun t => t.byteAt a) fun _ _ => rfl

/-- What the code before the pops may reach, the code after them may. -/
theorem PoppedTo.reaches {t u : Trowel} {l : List Nat} {a : Nat} (h : PoppedTo t u l) (ha : a < 65536) (hok : t.dataOk a = true) :
    u.dataOk (a % 65536) = true := by
  rw [Nat.mod_eq_of_lt ha, h.dataOk]
  exact hok

theorem wordBytes_bytes {b h : Nat} (hb : b < 256) (hh : h < 256) : (wordBytes (b + 256 * h)).map (· % 256) = [h, b] := by
  simp only [wordBytes, List.map_cons, List.map_nil, List.cons.injEq, and_true]
  omega

theorem SameStack.putByte (t : Trowel) (a v : Nat) : SameStack t (t.putByte a v) := ⟨rfl, rfl, rfl, rfl, rfl⟩

theorem SameStack.putWord (t : Trowel) (a b h : Nat) : SameStack t ((t.putByte a b).putByte (a + 1) h) := ⟨rfl, rfl, rfl, rfl, rfl⟩

theorem trowelMemoryCompletes : TrowelMemoryCompletes := by
  intro i r h
  unfold memoryRow at h
  split at h
  case h_1 =>
    refine onCore_completes (eff := effLd) h (fun _ => rfl) fun t rest g out _ horder heffect hroom => ?_
    split at heffect
    case h_2 => nomatch heffect
    case h_1 hi lo l hstack =>
      obtain ⟨hok, heq⟩ := Option.ite_none_right_eq_some.mp heffect
      cases heq
      obtain ⟨u, hu, hpop⟩ := Trowel.popW_of_cons horder hstack
      have ha := word_lt_of_stack (pre := []) horder hstack
      refine effects_of_pushAll [t.byteAt (lo + 256 * hi)] hpop hroom ?_ (byteOuts (by simp [Trowel.byteAt_lt]))
      simp only [effLd, hu, ok_bind, Trowel.load_of_ok (hpop.reaches ha hok), hpop.byteAt]
      rfl
  case h_2 =>
    refine onCore_completes (eff := effSt) h (fun _ => rfl) fun t rest g out _ horder heffect hroom => ?_
    split at heffect
    case h_2 => nomatch heffect
    case h_1 hi lo v l hstack =>
      obtain ⟨hok, heq⟩ := Option.ite_none_right_eq_some.mp heffect
      cases heq
      obtain ⟨u, hu, hpop⟩ := Trowel.popW_of_cons horder hstack
      obtain ⟨w, hw, hpop'⟩ := Trowel.pop_of_cons hpop.order hpop.left
      have ha := word_lt_of_stack (pre := []) horder hstack
      refine effects_of_change [] (hpop.trans hpop') (.putByte _ _ _) hroom ?_ rfl
      simp only [effSt, hu, hw, ok_bind]
      exact Trowel.store_of_ok _ ((hpop.trans hpop').reaches ha hok)
  case h_3 =>
    refine onCore_completes (eff := effLdw) h (fun _ => rfl) fun t rest g out _ horder heffect hroom => ?_
    split at heffect
    case h_2 => nomatch heffect
    case h_1 hi lo l hstack =>
      obtain ⟨hok, heq⟩ := Option.ite_none_right_eq_some.mp heffect
      obtain ⟨hlow, hhigh⟩ := Bool.and_eq_true_iff.mp hok
      cases heq
      obtain ⟨u, hu, hpop⟩ := Trowel.popW_of_cons horder hstack
      have ha := word_lt_of_stack (pre := []) horder hstack
      refine effects_of_pushAll (wordBytes (t.byteAt (lo + 256 * hi) + 256 * t.byteAt (lo + 256 * hi + 1))) hpop hroom ?_
        (wordBytes_bytes (t.byteAt_lt _) (t.byteAt_lt _))
      simp only [effLdw, hu, ok_bind, Trowel.loadW_of_ok (hpop.reaches ha hlow) ((hpop.dataOk _).trans hhigh), hpop.byteAt]
      rfl
  case h_4 =>
    refine onCore_completes (eff := effStw) h (fun _ => rfl) fun t rest g out _ horder heffect hroom => ?_
    split at heffect
    case h_2 => nomatch heffect
    case h_1 hi lo v2 v1 l hstack =>
      obtain ⟨hok, heq⟩ := Option.ite_none_right_eq_some.mp heffect
      obtain ⟨hlow, hhigh⟩ := Bool.and_eq_true_iff.mp hok
      cases heq
      obtain ⟨u, hu, hpop⟩ := Trowel.popW_of_cons horder hstack
      obtain ⟨w, hw, hpop'⟩ := Trowel.popW_of_cons hpop.order hpop.left
      have ha := word_lt_of_stack (pre := []) horder hstack
      have hv1 : v1 < 256 := horder.mem_lt (by simp [hstack])
      refine effects_of_change [] (hpop.trans hpop') (.putWord _ _ _ _) hroom ?_ rfl
      simp only [effStw, hu, hw, ok_bind]
      exact Trowel.storeW_of_ok hv1 ((hpop.trans hpop').reaches ha hlow) (((hpop.trans hpop').dataOk _).trans hhigh)
  case h_5 =>
    refine onCore_completes (eff := effLda) h (fun _ => rfl) fun t rest g out _ horder heffect hroom => ?_
    obtain ⟨hok, heq⟩ := Option.ite_none_right_eq_some.mp heffect
    cases heq
    have hpop := PoppedTo.refl horder
    refine effects_of_pushAll [t.byteAt t.imm] hpop hroom ?_ (byteOuts (by simp [Trowel.byteAt_lt]))
    simp only [effLda, Trowel.load_of_ok (hpop.reaches t.imm_lt hok), ok_bind]
    rfl
  case h_6 =>
    refine onCore_completes (eff := effSta) h (fun _ => rfl) fun t rest g out _ horder heffect hroom => ?_
    split at heffect
    case h_2 => nomatch heffect
    case h_1 v l hstack =>
      obtain ⟨hok, heq⟩ := Option.ite_none_right_eq_some.mp heffect
      cases heq
      obtain ⟨u, hu, hpop⟩ := Trowel.pop_of_cons horder hstack
      refine effects_of_change [] hpop (.putByte _ _ _) hroom ?_ rfl
      simp only [effSta, hu, ok_bind]
      exact Trowel.store_of_ok _ (hpop.reaches t.imm_lt hok)
  case h_7 =>
    refine onCore_completes (eff := effLdaw) h (fun _ => rfl) fun t rest g out _ horder heffect hroom => ?_
    obtain ⟨hok, heq⟩ := Option.ite_none_right_eq_some.mp heffect
    obtain ⟨hlow, hhigh⟩ := Bool.and_eq_true_iff.mp hok
    cases heq
    have hpop := PoppedTo.refl horder
    refine effects_of_pushAll (wordBytes (t.byteAt t.imm + 256 * t.byteAt (t.imm + 1))) hpop hroom ?_
      (wordBytes_bytes (t.byteAt_lt _) (t.byteAt_lt _))
    simp only [effLdaw, Trowel.loadW_of_ok (hpop.reaches t.imm_lt hlow) ((hpop.dataOk _).trans hhigh), ok_bind]
    rfl
  case h_8 =>
    refine onCore_completes (eff := effStaw) h (fun _ => rfl) fun t rest g out _ horder heffect hroom => ?_
    split at heffect
    case h_2 => nomatch heffect
    case h_1 v2 v1 l hstack =>
      obtain ⟨hok, heq⟩ := Option.ite_none_right_eq_some.mp heffect
      obtain ⟨hlow, hhigh⟩ := Bool.and_eq_true_iff.mp hok
      cases heq
      obtain ⟨u, hu, hpop⟩ := Trowel.popW_of_cons horder hstack
      have hv1 : v1 < 256 := horder.mem_lt (by simp [hstack])
      refine effects_of_change [] hpop (.putWord _ _ _ _) hroom ?_ rfl
      simp only [effStaw, hu, ok_bind]
      exact Trowel.storeW_of_ok hv1 (hpop.reaches t.imm_lt hlow) ((hpop.dataOk _).trans hhigh)
  case h_9 =>
    refine onCore_completes (eff := effLdp) h (fun _ => rfl) fun t rest g out _ horder heffect hroom => ?_
    split at heffect
    case h_2 => nomatch heffect
    case h_1 hi lo l hstack =>
      obtain ⟨hok, heq⟩ := Option.ite_none_right_eq_some.mp heffect
      cases heq
      obtain ⟨u, hu, hpop⟩ := Trowel.popW_of_cons horder hstack
      have ha := word_lt_of_stack (pre := []) horder hstack
      refine effects_of_pushAll (t.byteAt (lo + 256 * hi) :: wordBytes ((lo + 256 * hi + 1) % 65536)) hpop hroom ?_ ?_
      · simp only [effLdp, hu, ok_bind, Trowel.load_of_ok (hpop.reaches ha hok), hpop.byteAt]
        rfl
      · rw [List.map_cons, Nat.mod_eq_of_lt (t.byteAt_lt _), wordBytes_out (Nat.mod_mod _ _)]
  case h_10 =>
    refine onCore_completes (eff := effStp) h (fun _ => rfl) fun t rest g out _ horder heffect hroom => ?_
    split at heffect
    case h_2 => nomatch heffect
    case h_1 hi lo v l hstack =>
      obtain ⟨hok, heq⟩ := Option.ite_none_right_eq_some.mp heffect
      cases heq
      obtain ⟨u, hu, hpop⟩ := Trowel.popW_of_cons horder hstack
      obtain ⟨w, hw, hpop'⟩ := Trowel.pop_of_cons hpop.order hpop.left
      have ha := word_lt_of_stack (pre := []) horder hstack
      refine effects_of_change (wordBytes ((lo + 256 * hi + 1) % 65536)) (hpop.trans hpop') (.putByte _ _ _) hroom ?_
        (wordBytes_out (Nat.mod_mod _ _))
      simp only [effStp, hu, hw, ok_bind, Trowel.store_of_ok _ ((hpop.trans hpop').reaches ha hok)]
      rfl
  case h_11 =>
    refine onCore_completes (eff := effLdc) h (fun _ => rfl) fun t rest g out _ horder heffect hroom => ?_
    split at heffect
    case h_2 => nomatch heffect
    case h_1 hi lo l hstack =>
      cases heffect
      obtain ⟨u, hu, hpop⟩ := Trowel.popW_of_cons horder hstack
      refine effects_of_pushAll [t.codeByte t.cbank (lo + 256 * hi)] hpop hroom ?_ (byteOuts (by simp [Trowel.codeByte_lt]))
      simp only [effLdc, hu, ok_bind, hpop.frame (fun t => t.codeByte t.cbank (lo + 256 * hi)) fun _ _ => rfl]
      rfl
  case h_12 =>
    refine onCore_completes (eff := effLdcf) h (fun _ => rfl) fun t rest g out _ horder heffect hroom => ?_
    split at heffect
    case h_2 => nomatch heffect
    case h_1 k hi lo l hstack =>
      obtain ⟨hok, heq⟩ := Option.ite_none_right_eq_some.mp heffect
      cases heq
      obtain ⟨u, hu, hpop⟩ := Trowel.pop_of_cons horder hstack
      obtain ⟨w, hw, hpop'⟩ := Trowel.popW_of_cons hpop.order hpop.left
      have hboth := hpop.trans hpop'
      refine effects_of_pushAll [t.codeByte k (lo + 256 * hi)] hboth hroom ?_ (byteOuts (by simp [Trowel.codeByte_lt]))
      have hbar : (!w.bankPresent k || (w.inApplet && decide (k < 6))) = false := by
        rw [hboth.frame (fun t => t.bankPresent k) (fun _ _ => rfl), hboth.frame Trowel.inApplet (fun _ _ => rfl),
          ← Bool.not_eq_true', Bool.not_or, Bool.not_not]
        exact hok
      simp only [effLdcf, hu, hw, ok_bind, hbar, hboth.frame (fun t => t.codeByte k (lo + 256 * hi)) fun _ _ => rfl]
      rfl
  case h_13 => nomatch h

/-- Settles O1: every row is pops that leave the stack in order, its change, and pushes for which there is room. -/
theorem trowelDataInstructionsComplete : Obligations.TrowelDataInstructionsComplete :=
  ⟨trowelArithmeticCompletes, trowelMovesComplete, trowelMemoryCompletes⟩

end Sys2Proof.Machine

/-! PROOFS. Bit space and the bit branches of Trowel (R405, R406). -/
namespace Sys2Proof.Machine
open Sys2Proof.Claims

theorem Trowel.getBit_of_ok {t : Trowel} {n : Nat} (h : t.bitOk n = true) : t.getBit n = .ok (bitAt t n) := if_pos h

theorem Trowel.setBit_of_ok {t : Trowel} {n : Nat} (b : Bool) (h : t.bitOk n = true) : t.setBit n b = .ok (putBit n b t) := if_pos h

theorem bitNumber_of_lt {n : Nat} (h : decide (n < 4096) = true) : bitNumber n = .ok n := if_pos (of_decide_eq_true h)

theorem bit_zero (b : Nat) : bit 0 b = decide (b % 2 = 1) := Nat.testBit_zero b

theorem SameStack.putBit (t : Trowel) (n : Nat) (b : Bool) : SameStack t (putBit n b t) := ⟨rfl, rfl, rfl, rfl, rfl⟩

theorem PoppedTo.bitOk {t u : Trowel} {l : List Nat} (h : PoppedTo t u l) (n : Nat) : u.bitOk n = t.bitOk n :=
  h.frame (fun t => t.bitOk n) fun _ _ => rfl

/-- A flag is one byte on the stack. -/
theorem flag_out (b : Bool) : [b01 b].map (· % 256) = [flag (b = true)] := by
  rw [flag_eq_b01, List.map_cons, List.map_nil, b01_mod_256]
  cases b <;> rfl

/-- R404, R406: a branch offset is one signed byte. -/
theorem Trowel.jumpBy_eq_branch {o : Nat} (h : o < 256) (t : Trowel) : t.jumpBy o = branch o t := by
  simp only [Trowel.jumpBy, branch, signed_8 h, unsigned, Nat.reducePow]
  rfl

theorem SameStack.branch (o : Nat) (t : Trowel) : SameStack t (branch o t) := ⟨rfl, rfl, rfl, rfl, rfl⟩

/-- The opcode of an instruction with `k` bytes after it, read back from past it. -/
theorem Trowel.opcode_before (t : Trowel) {k : Nat} (h : immBytes t.opcode = some k) (hk : k < 65535) :
    t.codeByte t.cbank (t.past.pc + 65536 - (k + 1)) = t.opcode := by
  have himm : immBytes (t.codeByte t.cbank t.pc) = some k := h
  have hplace : (t.past.pc + 65536 - (k + 1)) % 65536 = t.pc % 65536 := by
    simp only [Trowel.past, Trowel.after, himm, Option.getD_some]
    omega
  simp only [Trowel.opcode, Trowel.codeByte, hplace]

/-- What a bit branch writes into its bit, where it writes. -/
def putIfSome (n : Nat) (put : Option Bool) (t : Trowel) : Trowel := match put with | some b => putBit n b t | none => t

section BitBranch
variable {i : Instr} {c : Fin 2} {r : CoreRow}

/-- R406: a bit branch goes where the bit is the one it wants, and goes on where it is not. -/
theorem effBranch_of_ok {k n o imm : Nat} {want : Bool} {put : Option Bool} {s : State} {t : Trowel} (hcore : s.core k = t)
    (hbit : bitBranch (t.past.codeByte t.past.cbank (t.past.pc + 65536 - 3)) imm = (n, o)) (ho : o < 256) (hok : t.bitOk n = true) :
    effBranch want put k imm (passPc k s) =
      .ok (s.setCore k (if bitAt t n = want then branch o (putIfSome n put t.past) else t.past)) := by
  have hget : t.past.getBit n = .ok (bitAt t n) := Trowel.getBit_of_ok (t := t.past) hok
  subst hcore
  simp only [effBranch, core_passPc, hbit, hget, ok_bind]
  split
  case isFalse => rfl
  case isTrue =>
    cases put with
    | none =>
      simp only [Trowel.jumpBy_eq_branch ho, putIfSome, passPc, State.setCore_setCore]
      rfl
    | some b =>
      simp only [Trowel.setBit_of_ok (t := (s.core k).past) b hok, ok_bind, Trowel.jumpBy_eq_branch ho, putIfSome]
      rw [passPc, State.setCore_setCore]
      rfl

/-- R405, R406: the opcodes of a bit branch, and its immediate of two bytes. -/
theorem bitBranch_fetch {high o : Nat} (h1 : 0xB ≤ high) (h2 : high ≤ 0xE) (ho : o / 16 = high) :
    within (16 * high) (16 * high + 15) o = true ∧ immBytes o = some 2 := by
  have hlow : 0xB0 ≤ o := by omega
  have hhigh : o ≤ 0xEF := by omega
  refine ⟨within_of_mem (by omega) (by omega), ?_⟩
  clear ho
  interval_cases o <;> rfl

/-- R406: the four bit branches are one operation. -/
theorem bitBranchRow_completes {high : Nat} {want : Bool} {put : Option Bool} (p : Nat → Bool)
    (h : bitBranchRow c high want put = some r) (hexec : ∀ s, exec i s = trowelRow p (effBranch want put) c.val s)
    (hp : ∀ o, o / 16 = high → p o = true ∧ immBytes o = some 2) : r.Completes i := by
  refine coreOp_completes (effBranch want put) h (fun o ho => (hp o (beq_iff_eq.mp ho)).1)
    fun s t rest g out ht hop horder heffect hroom => ⟨hexec s, ?_⟩
  have himm : immBytes t.opcode = some 2 := (hp _ (beq_iff_eq.mp hop)).2
  have hoffset : bitOffset t.opcode t.imm < 256 := by
    have := t.imm_lt
    simp only [bitOffset]
    omega
  have hbit : bitBranch (t.past.codeByte t.past.cbank (t.past.pc + 65536 - 3)) t.imm = (t.imm % 4096, bitOffset t.opcode t.imm) :=
    congrArg (bitBranch · t.imm) (t.opcode_before himm (by decide))
  obtain ⟨hbar, heffect⟩ := Option.ite_none_left_eq_some.mp heffect
  have hok : t.bitOk (t.imm % 4096) = true := by simpa using hbar
  have heff := effBranch_of_ok (want := want) (put := put) ht hbit hoffset hok
  split at heffect
  case isTrue hwant =>
    cases heffect
    rw [if_pos hwant] at heff
    exact ⟨_, effects_of_change [] (.refl horder) (by cases put <;> exact ⟨rfl, rfl, rfl, rfl, rfl⟩) hroom rfl rfl,
      fun v hv => by cases hv; exact heff⟩
  case isFalse hwant =>
    cases heffect
    rw [if_neg hwant] at heff
    exact ⟨.ok t.past, effects_of_pushAll [] (.refl horder) hroom rfl rfl, fun v hv => by cases hv; exact heff⟩

end BitBranch

theorem trowelBitsComplete : TrowelBitsComplete := by
  intro i r h
  unfold bitRow at h
  split at h
  case h_1 =>
    refine onCore_completes (eff := effBset) h (fun _ => rfl) fun t rest g out _ horder heffect hroom => ?_
    obtain ⟨hnamed, heq⟩ := Option.ite_none_right_eq_some.mp heffect
    obtain ⟨hn, hok⟩ := Bool.and_eq_true_iff.mp hnamed
    cases heq
    refine effects_of_change [] (.refl horder) (.putBit _ _ _) hroom ?_ rfl
    simp only [effBset, bitNumber_of_lt hn, ok_bind]
    exact Trowel.setBit_of_ok _ hok
  case h_2 =>
    refine onCore_completes (eff := effBclr) h (fun _ => rfl) fun t rest g out _ horder heffect hroom => ?_
    obtain ⟨hnamed, heq⟩ := Option.ite_none_right_eq_some.mp heffect
    obtain ⟨hn, hok⟩ := Bool.and_eq_true_iff.mp hnamed
    cases heq
    refine effects_of_change [] (.refl horder) (.putBit _ _ _) hroom ?_ rfl
    simp only [effBclr, bitNumber_of_lt hn, ok_bind]
    exact Trowel.setBit_of_ok _ hok
  case h_3 =>
    refine onCore_completes (eff := effBcpl) h (fun _ => rfl) fun t rest g out _ horder heffect hroom => ?_
    obtain ⟨hnamed, heq⟩ := Option.ite_none_right_eq_some.mp heffect
    obtain ⟨hn, hok⟩ := Bool.and_eq_true_iff.mp hnamed
    cases heq
    refine effects_of_change [] (.refl horder) (.putBit _ _ _) hroom ?_ rfl
    simp only [effBcpl, bitNumber_of_lt hn, Trowel.getBit_of_ok (t := t.past) hok, ok_bind]
    exact Trowel.setBit_of_ok _ hok
  case h_4 =>
    refine onCore_completes (eff := effBpush) h (fun _ => rfl) fun t rest g out _ horder heffect hroom => ?_
    obtain ⟨hnamed, heq⟩ := Option.ite_none_right_eq_some.mp heffect
    obtain ⟨hn, hok⟩ := Bool.and_eq_true_iff.mp hnamed
    cases heq
    refine effects_of_pushAll [b01 (bitAt t t.imm)] (.refl horder) hroom ?_ (flag_out _)
    simp only [effBpush, bitNumber_of_lt hn, Trowel.getBit_of_ok (t := t.past) hok, ok_bind]
    rfl
  case h_5 =>
    refine onCore_completes (eff := effBpop) h (fun _ => rfl) fun t rest g out _ horder heffect hroom => ?_
    split at heffect
    case h_2 => nomatch heffect
    case h_1 b l hstack =>
      obtain ⟨hnamed, heq⟩ := Option.ite_none_right_eq_some.mp heffect
      obtain ⟨hn, hok⟩ := Bool.and_eq_true_iff.mp hnamed
      cases heq
      obtain ⟨u, hu, hpop⟩ := Trowel.pop_of_cons horder hstack
      refine effects_of_change [] hpop (.putBit _ _ _) hroom ?_ rfl
      simp only [effBpop, bitNumber_of_lt hn, hu, ok_bind, bit_zero]
      exact Trowel.setBit_of_ok _ ((hpop.bitOk _).trans hok)
  case h_6 =>
    refine onCore_completes (eff := effBpushi) h (fun _ => rfl) fun t rest g out _ horder heffect hroom => ?_
    split at heffect
    case h_2 => nomatch heffect
    case h_1 hi lo l hstack =>
      obtain ⟨hok, heq⟩ := Option.ite_none_right_eq_some.mp heffect
      cases heq
      obtain ⟨u, hu, hpop⟩ := Trowel.popW_of_cons horder hstack
      refine effects_of_pushAll [b01 (bitAt t ((lo + 256 * hi) % 4096))] hpop hroom ?_ (flag_out _)
      simp only [effBpushi, hu, ok_bind, Trowel.getBit_of_ok ((hpop.bitOk _).trans hok),
        hpop.frame (fun t => bitAt t ((lo + 256 * hi) % 4096)) fun _ _ => rfl]
      rfl
  case h_7 =>
    refine onCore_completes (eff := effBpopi) h (fun _ => rfl) fun t rest g out _ horder heffect hroom => ?_
    split at heffect
    case h_2 => nomatch heffect
    case h_1 hi lo v l hstack =>
      obtain ⟨hok, heq⟩ := Option.ite_none_right_eq_some.mp heffect
      cases heq
      obtain ⟨u, hu, hpop⟩ := Trowel.popW_of_cons horder hstack
      obtain ⟨w, hw, hpop'⟩ := Trowel.pop_of_cons hpop.order hpop.left
      refine effects_of_change [] (hpop.trans hpop') (.putBit _ _ _) hroom ?_ rfl
      simp only [effBpopi, hu, hw, ok_bind, bit_zero]
      exact Trowel.setBit_of_ok _ (((hpop.trans hpop').bitOk _).trans hok)
  case h_8 => exact bitBranchRow_completes (within 0xB0 0xBF) h (fun _ => rfl) fun o ho => bitBranch_fetch (by decide) (by decide) ho
  case h_9 => exact bitBranchRow_completes (within 0xC0 0xCF) h (fun _ => rfl) fun o ho => bitBranch_fetch (by decide) (by decide) ho
  case h_10 => exact bitBranchRow_completes (within 0xD0 0xDF) h (fun _ => rfl) fun o ho => bitBranch_fetch (by decide) (by decide) ho
  case h_11 => exact bitBranchRow_completes (within 0xE0 0xEF) h (fun _ => rfl) fun o ho => bitBranch_fetch (by decide) (by decide) ho
  case h_12 => nomatch h

end Sys2Proof.Machine

/-! PROOFS. Jumps, calls, returns, EI and DI of Trowel (R403, R405, R409, R417). -/
namespace Sys2Proof.Machine
open Sys2Proof.Claims

theorem SameStack.ite {t u v : Trowel} {p : Prop} [Decidable p] (hu : SameStack t u) (hv : SameStack t v) :
    SameStack t (if p then u else v) := by
  split
  · exact hu
  · exact hv

/-- R417: where a far jump or call may go. -/
theorem Trowel.farOk_eq (k : Nat) (t : Trowel) : t.farOk k = Claims.farOk t k := by
  have hlt : decide (k ≤ 7) = decide (k < 8) := decide_eq_decide.mpr Nat.lt_succ_iff.symm
  have hbank : (!decide (k < 6)) = decide (6 ≤ k) := by rw [← decide_not, decide_eq_decide]; omega
  rw [Trowel.farOk, Claims.farOk, hlt, Bool.not_and, hbank]

theorem PoppedTo.farOk {t u : Trowel} {l : List Nat} (h : PoppedTo t u l) (k : Nat) : u.farOk k = Claims.farOk t k := by
  rw [h.frame (fun t => t.farOk k) fun _ _ => rfl, t.farOk_eq]

theorem PoppedTo.rs {t u : Trowel} {l : List Nat} (h : PoppedTo t u l) : u.rs = t.rs := h.frame Trowel.rs fun _ _ => rfl

/-- R417: firmware calls into the applet. -/
theorem Trowel.into_iff (k : Nat) (t : Trowel) :
    (t.priv && !t.steward && decide (6 ≤ k)) = true ↔ t.cbank < 6 ∧ t.steward = false ∧ 6 ≤ k := by
  simp only [Trowel.priv, Bool.and_eq_true, decide_eq_true_eq, Bool.not_eq_true', and_assoc]

/-- R403, R409: an entry that RETI may take. -/
theorem Trowel.closedEntry_eq (e : Nat) (t : Trowel) :
    t.closedEntry e = (t.inApplet && (e.testBit 23 || decide (e / 65536 % 8 < 6))) := (rfl)

/-- R417: the entry on top is the one firmware called the applet with. -/
def Trowel.home (t : Trowel) : Bool := decide (t.calls.head? = some t.rs.length)

/-- R405: the core as RET leaves it, with the entry `e` taken and `k` left. -/
def Trowel.returned (e : Nat) (k : List Nat) (t : Trowel) : Trowel :=
  { t.past with rs := k, pc := e % 65536, cbank := e / 65536 % 8, calls := if t.home then t.calls.tail else t.calls }

/-- R405, R417: RET by an entry it may take; firmware replies where the entry ends a handler (R419). -/
theorem effRet_of_entry {c e imm : Nat} {k : List Nat} {s : State} {t : Trowel} (hcore : s.core c = t) (hrs : t.rs = e :: k)
    (hopen : (t.closedEntry e && !t.home) = false) :
    effRet c imm (passPc c s) =
      .ok (if c = 0 ∧ t.inApplet = true ∧ t.home = true ∧ s.executing.any (fun e => e.depth == t.rs.length) = true
        then (s.setCore c (t.returned e k)).handlerReturns else s.setCore c (t.returned e k)) := by
  subst hcore
  have hpop : (s.core c).past.rsPop = .ok (e, { (s.core c).past with rs := k }) := Trowel.rsPop_of_cons (t := (s.core c).past) hrs
  have hstate : (passPc c s).setCore c ((s.core c).returned e k) = s.setCore c ((s.core c).returned e k) := State.setCore_setCore _ _ _ _
  simp only [effRet, core_passPc, hpop, ok_bind]
  refine (if_neg (Bool.eq_false_iff.mp hopen)).trans ?_
  show Except.ok (if c = 0 ∧ (s.core c).inApplet = true ∧ (s.core c).home = true ∧
    ((passPc c s).setCore c ((s.core c).returned e k)).executing.any (fun e => e.depth == (s.core c).rs.length) = true
    then ((passPc c s).setCore c ((s.core c).returned e k)).handlerReturns else (passPc c s).setCore c ((s.core c).returned e k)) = _
  rw [hstate, State.setCore_executing]

/-- R417: an entry that no applet is barred from, and that leads home from none. -/
theorem effRet_of_other {t : Trowel} {e : Nat}
    (h : (t.inApplet && (e.testBit 23 || decide (e / 65536 % 8 < 6) || t.home)) = false) :
    (t.closedEntry e && !t.home) = false ∧ ¬ (t.inApplet = true ∧ t.home = true) := by
  rw [Trowel.closedEntry_eq]
  cases happ : t.inApplet with
  | false => exact ⟨rfl, fun hc => nomatch hc.1⟩
  | true =>
    rw [happ, Bool.true_and, Bool.or_eq_false_iff] at h
    rw [h.1, h.2]
    exact ⟨rfl, fun hc => nomatch hc.2⟩

theorem trowelControlFlowCompletes : TrowelControlFlowCompletes := by
  intro i r h
  unfold flowRow at h
  split at h
  case h_1 =>
    refine onCore_completes (eff := effJmp) h (fun _ => rfl) fun t rest g out _ horder heffect hroom => ?_
    cases heffect
    exact effects_of_change (g := fun u => { u with pc := t.imm }) [] (.refl horder) ⟨rfl, rfl, rfl, rfl, rfl⟩ hroom rfl rfl
  case h_2 =>
    refine onCore_completes (eff := effJr) h (fun _ => rfl) fun t rest g out hop horder heffect hroom => ?_
    cases heffect
    have himm : t.imm < 256 := Trowel.imm_lt_256 (by rw [beq_iff_eq.mp hop]; rfl)
    exact effects_of_change [] (.refl horder) (.branch _ _) hroom (by rw [effJr, Trowel.jumpBy_eq_branch himm]; rfl) rfl
  case h_3 =>
    refine onCore_completes (eff := effJz) h (fun _ => rfl) fun t rest g out hop horder heffect hroom => ?_
    split at heffect
    case h_2 => nomatch heffect
    case h_1 b l hstack =>
      cases heffect
      have himm : t.imm < 256 := Trowel.imm_lt_256 (by rw [beq_iff_eq.mp hop]; rfl)
      obtain ⟨u, hu, hpop⟩ := Trowel.pop_of_cons horder hstack
      refine effects_of_change [] hpop (.ite (.branch _ _) (.refl _)) hroom ?_ rfl
      simp only [effJz, hu, ok_bind, Trowel.jumpBy_eq_branch himm]
      rfl
  case h_4 =>
    refine onCore_completes (eff := effJnz) h (fun _ => rfl) fun t rest g out hop horder heffect hroom => ?_
    split at heffect
    case h_2 => nomatch heffect
    case h_1 b l hstack =>
      cases heffect
      have himm : t.imm < 256 := Trowel.imm_lt_256 (by rw [beq_iff_eq.mp hop]; rfl)
      obtain ⟨u, hu, hpop⟩ := Trowel.pop_of_cons horder hstack
      refine effects_of_change [] hpop (.ite (.refl _) (.branch _ _)) hroom ?_ rfl
      simp only [effJnz, hu, ok_bind, Trowel.jumpBy_eq_branch himm]
      rfl
  case h_5 =>
    refine onCore_completes (eff := effCall) h (fun _ => rfl) fun t rest g out _ horder heffect hroom => ?_
    obtain ⟨hrs, heq⟩ := Option.ite_none_right_eq_some.mp heffect
    cases heq
    refine effects_of_change [] (.refl horder) ⟨rfl, rfl, rfl, rfl, rfl⟩ hroom ?_ rfl
    simp only [effCall, Trowel.rsPush_of_room (t := t.past) _ hrs, ok_bind, rsEntry_eq_entry]
    rfl
  case h_6 =>
    refine onCore_completes (eff := effCallf) h (fun _ => rfl) fun t rest g out _ horder heffect hroom => ?_
    split at heffect
    case h_2 => nomatch heffect
    case h_1 k l hstack =>
      obtain ⟨hok, heq⟩ := Option.ite_none_right_eq_some.mp heffect
      obtain ⟨hfar, hrs⟩ := Bool.and_eq_true_iff.mp hok
      cases heq
      obtain ⟨u, hu, hpop⟩ := Trowel.pop_of_cons horder hstack
      have hrs : u.rs.length < 64 := hpop.rs ▸ of_decide_eq_true hrs
      have hfar : (!u.farOk k) = false := by rw [hpop.farOk]; exact congrArg not hfar
      refine effects_of_change [] hpop ⟨rfl, rfl, rfl, rfl, rfl⟩ hroom ?_ rfl
      simp only [effCallf, hu, ok_bind, hfar, Bool.false_eq_true, if_false, Trowel.rsPush_of_room _ hrs, rsEntry_eq_entry,
        List.length_cons, Trowel.into_iff]
      rfl
  case h_7 =>
    refine coreOp_completes effRet h (fun _ ho => ho) fun s t rest g out ht _ horder heffect hroom => ⟨rfl, ?_⟩
    split at heffect
    case h_2 => nomatch heffect
    case h_1 e k hrs =>
      obtain ⟨hopen, heq⟩ := Option.ite_none_left_eq_some.mp heffect
      cases heq
      obtain ⟨hentry, hfirm⟩ := effRet_of_other (Bool.eq_false_iff.mpr hopen)
      refine ⟨_, effects_of_change (t := t.past) [] (.refl horder) ⟨rfl, rfl, rfl, rfl, rfl⟩ hroom rfl rfl, fun v hv => ?_⟩
      cases hv
      rw [effRet_of_entry ht hrs hentry, if_neg fun hc => hfirm ⟨hc.2.1, hc.2.2.1⟩]
      rfl
  case h_8 =>
    refine onCore_completes (eff := effReti) h (fun _ => rfl) fun t rest g out _ horder heffect hroom => ?_
    split at heffect
    case h_2 => nomatch heffect
    case h_1 e k hrs =>
      obtain ⟨hopen, heq⟩ := Option.ite_none_left_eq_some.mp heffect
      cases heq
      refine effects_of_change [] (.refl horder) ⟨rfl, rfl, rfl, rfl, rfl⟩ hroom ?_ rfl
      simp only [effReti, Trowel.rsPop_of_cons (t := t.past) hrs, ok_bind]
      exact if_neg hopen
  case h_9 =>
    refine onCore_completes (eff := effJmpi) h (fun _ => rfl) fun t rest g out _ horder heffect hroom => ?_
    split at heffect
    case h_2 => nomatch heffect
    case h_1 hi lo l hstack =>
      cases heffect
      obtain ⟨u, hu, hpop⟩ := Trowel.popW_of_cons horder hstack
      refine effects_of_change [] hpop ⟨rfl, rfl, rfl, rfl, rfl⟩ hroom ?_ rfl
      simp only [effJmpi, hu, ok_bind]
      rfl
  case h_10 =>
    refine onCore_completes (eff := effCalli) h (fun _ => rfl) fun t rest g out _ horder heffect hroom => ?_
    split at heffect
    case h_2 => nomatch heffect
    case h_1 hi lo l hstack =>
      obtain ⟨hrs, heq⟩ := Option.ite_none_right_eq_some.mp heffect
      cases heq
      obtain ⟨u, hu, hpop⟩ := Trowel.popW_of_cons horder hstack
      have hrs : u.rs.length < 64 := hpop.rs ▸ hrs
      refine effects_of_change [] hpop ⟨rfl, rfl, rfl, rfl, rfl⟩ hroom ?_ rfl
      simp only [effCalli, hu, ok_bind, Trowel.rsPush_of_room _ hrs, rsEntry_eq_entry]
      rfl
  case h_11 =>
    refine onCore_completes (eff := effJmpf) h (fun _ => rfl) fun t rest g out _ horder heffect hroom => ?_
    split at heffect
    case h_2 => nomatch heffect
    case h_1 k l hstack =>
      obtain ⟨hfar, heq⟩ := Option.ite_none_right_eq_some.mp heffect
      cases heq
      obtain ⟨u, hu, hpop⟩ := Trowel.pop_of_cons horder hstack
      have hfar : (!u.farOk k) = false := by rw [hpop.farOk]; exact congrArg not hfar
      refine effects_of_change [] hpop ⟨rfl, rfl, rfl, rfl, rfl⟩ hroom ?_ rfl
      simp only [effJmpf, hu, ok_bind, hfar]
      rfl
  case h_12 =>
    refine onCore_completes (eff := effEi) h (fun _ => rfl) fun t rest g out _ horder heffect hroom => ?_
    obtain ⟨hfirm, heq⟩ := Option.ite_none_left_eq_some.mp heffect
    cases heq
    exact effects_of_change (g := fun u => { u with ie := true }) [] (.refl horder) ⟨rfl, rfl, rfl, rfl, rfl⟩ hroom (if_neg hfirm) rfl
  case h_13 =>
    refine onCore_completes (eff := effDi) h (fun _ => rfl) fun t rest g out _ horder heffect hroom => ?_
    obtain ⟨hfirm, heq⟩ := Option.ite_none_left_eq_some.mp heffect
    cases heq
    exact effects_of_change (g := fun u => { u with ie := false }) [] (.refl horder) ⟨rfl, rfl, rfl, rfl, rfl⟩ hroom (if_neg hfirm) rfl
  case h_14 => nomatch h

end Sys2Proof.Machine

/-! PROOFS. Loops and CRC steps of Trowel (R407, R408). -/
namespace Sys2Proof.Machine
open Sys2Proof.Claims

/-! CRC registers (R407) -/

/-- One bit of a register that shifts right, as R407 gives it. -/
def crcRightBit (poly x : Nat) : Nat := (x / 2) ^^^ (if x % 2 = 1 then poly else 0)

theorem crcBit_eq (poly x : Nat) : crcBit poly x = crcRightBit poly x := by
  unfold crcBit crcRightBit
  split
  · rfl
  · rw [Nat.xor_zero]

theorem crcRightBit_lt {poly x n : Nat} (hp : poly < 2 ^ n) (hx : x < 2 ^ n) : crcRightBit poly x < 2 ^ n := by
  have hhalf : x / 2 < 2 ^ n := Nat.lt_of_le_of_lt (Nat.div_le_self x 2) hx
  refine Nat.xor_lt_two_pow hhalf ?_
  split
  · exact hp
  · exact Nat.two_pow_pos n

theorem foldl_crcRightBit_lt {α : Type} {poly n : Nat} (hp : poly < 2 ^ n) (l : List α) {x : Nat} (hx : x < 2 ^ n) :
    l.foldl (fun x _ => crcRightBit poly x) x < 2 ^ n := by
  induction l generalizing x with
  | nil => exact hx
  | cons _ r ih => exact ih (crcRightBit_lt hp hx)

/-- R407: eight bits of a register that shifts right. -/
theorem crcByte_eq_crcRight {poly width state b : Nat} (hp : poly < 2 ^ width) (hs : state < 2 ^ width) (hb : b < 256)
    (hw : 256 ≤ 2 ^ width) : crcByte poly state (BitVec.ofNat 8 b) = crcRight poly width state b := by
  have hbyte : (BitVec.ofNat 8 b).toNat = b := by rw [BitVec.toNat_ofNat]; exact Nat.mod_eq_of_lt hb
  have hlt := foldl_crcRightBit_lt hp (List.range 8) (Nat.xor_lt_two_pow hs (Nat.lt_of_lt_of_le hb hw))
  have hright : crcRight poly width state b = (List.range 8).foldl (fun x _ => crcRightBit poly x) (state ^^^ b) :=
    Nat.mod_eq_of_lt hlt
  rw [hright, crcByte, hbyte]
  simp only [crcBit_eq]
  rfl

/-- R407: eight bits of the register that shifts left. -/
theorem crc16Step_eq_crcLeft (state b : Nat) : crc16Step state b = crcLeft state b := by
  have hbit : ∀ x, crc16Bit x = (2 * x % 65536) ^^^ (if 32768 ≤ x then 0x1021 else 0) := by
    intro x
    unfold crc16Bit
    split
    · rw [Nat.mul_comm]
      rfl
    · rw [Nat.xor_zero]
      omega
  simp only [crc16Step, hbit, Nat.mul_comm b 256]
  rfl

theorem trowelLoopsAndCrcComplete : TrowelLoopsAndCrcComplete := by
  intro i r h
  unfold loopRow at h
  split at h
  case h_1 =>
    refine onCore_completes (eff := effLoop) h (fun _ => rfl) fun t rest g out _ horder heffect hroom => ?_
    split at heffect
    case h_2 => nomatch heffect
    case h_1 hi lo l hstack =>
      dsimp only at heffect
      split at heffect
      case h_2 => nomatch heffect
      case h_1 k hidle =>
        cases heffect
        obtain ⟨u, hu, hpop⟩ := Trowel.popW_of_cons horder hstack
        have hidle : idleLevel u.loops = some k := (hpop.frame (fun t => idleLevel t.loops) fun _ _ => rfl).trans hidle
        refine effects_of_change [] hpop ⟨rfl, rfl, rfl, rfl, rfl⟩ hroom ?_ rfl
        simp only [effLoop, hu, ok_bind, hidle]
        rfl
  case h_2 =>
    refine onCore_completes (eff := effLbrk) h (fun _ => rfl) fun t rest g out _ horder heffect hroom => ?_
    split at heffect
    case h_1 k harmed =>
      cases heffect
      refine effects_of_change (t := t.past) (g := fun u => { u with loops := modAt k (fun v => { v with armed := false }) u.loops }) [] (.refl horder)
        ⟨rfl, rfl, rfl, rfl, rfl⟩ hroom ?_ rfl
      have harmed : innermost t.past.loops 3 = some k := harmed
      simp only [effLbrk, harmed]
      rfl
    case h_2 harmed =>
      cases heffect
      refine effects_of_pushAll (t := t.past) [] (.refl horder) hroom ?_ rfl
      have harmed : innermost t.past.loops 3 = none := harmed
      simp only [effLbrk, harmed]
      rfl
  case h_3 =>
    refine onCore_completes (eff := effLcnt) h (fun _ => rfl) fun t rest g out _ horder heffect hroom => ?_
    split at heffect
    case h_1 k harmed =>
      cases heffect
      have harmed : innermost t.past.loops 3 = some k := harmed
      refine effects_of_pushAll (t := t.past) (wordBytes (t.loops.getD k {}).lc) (.refl horder) hroom ?_ (wordBytes_out rfl)
      simp only [effLcnt, harmed]
      rfl
    case h_2 harmed =>
      cases heffect
      have harmed : innermost t.past.loops 3 = none := harmed
      refine effects_of_pushAll (t := t.past) (wordBytes 0) (.refl horder) hroom ?_ (wordBytes_out rfl)
      simp only [effLcnt, harmed]
      rfl
  case h_4 =>
    refine onCore_completes (eff := effCrc16) h (fun _ => rfl) fun t rest g out _ horder heffect hroom => ?_
    split at heffect
    case h_2 => nomatch heffect
    case h_1 b l hstack =>
      obtain ⟨hcrc, heq⟩ := Option.ite_none_right_eq_some.mp heffect
      cases heq
      obtain ⟨u, hu, hpop⟩ := Trowel.pop_of_cons horder hstack
      have hb : b < 256 := horder.mem_lt (by simp [hstack])
      have hcrc : u.crc16 < 2 ^ 16 := by rw [hpop.frame Trowel.crc16 fun _ _ => rfl]; exact hcrc
      refine effects_of_change [] hpop ⟨rfl, rfl, rfl, rfl, rfl⟩ hroom ?_ rfl
      simp only [effCrc16, hu, ok_bind, crc16Step_eq_crcLeft, crc16Reflected,
        crcByte_eq_crcRight (poly := 0x8408) (width := 16) (by decide) hcrc hb (by decide)]
      rfl
  case h_5 =>
    refine onCore_completes (eff := effCrc32) h (fun _ => rfl) fun t rest g out _ horder heffect hroom => ?_
    split at heffect
    case h_2 => nomatch heffect
    case h_1 b l hstack =>
      obtain ⟨hcrc, heq⟩ := Option.ite_none_right_eq_some.mp heffect
      cases heq
      obtain ⟨u, hu, hpop⟩ := Trowel.pop_of_cons horder hstack
      have hb : b < 256 := horder.mem_lt (by simp [hstack])
      have hcrc : u.crc32 < 2 ^ 32 := by rw [hpop.frame Trowel.crc32 fun _ _ => rfl]; exact hcrc
      refine effects_of_change [] hpop ⟨rfl, rfl, rfl, rfl, rfl⟩ hroom ?_ rfl
      simp only [effCrc32, hu, ok_bind, crc32Step,
        crcByte_eq_crcRight (poly := 0xEDB88320) (width := 32) (by decide) hcrc hb (by decide)]
      rfl
  case h_6 => nomatch h

end Sys2Proof.Machine

/-! PROOFS. The coprocessors of Trowel (R411, R412, R567). -/
namespace Sys2Proof.Machine
open Sys2Proof.Claims

/-! Bytes of a value -/

theorem le_congr {n v w : Nat} (h : v % 256 ^ n = w % 256 ^ n) : le n v = le n w := by
  induction n generalizing v w with
  | zero => rfl
  | succ n ih =>
    rw [Nat.pow_succ', Nat.mod_mul, Nat.mod_mul] at h
    have hbyte : v % 256 = w % 256 := by omega
    have hrest : v / 256 % 256 ^ n = w / 256 % 256 ^ n := by omega
    have hhead : BitVec.ofNat 8 v = BitVec.ofNat 8 w := BitVec.eq_of_toNat_eq (by simpa only [BitVec.toNat_ofNat] using hbyte)
    rw [le, le, hhead, ih hrest]

theorem ofLE_lt (b : Bytes) : ofLE b < 256 ^ b.length := by
  induction b with
  | nil => exact Nat.one_pos
  | cons x r ih =>
    have hx : x.toNat < 256 := x.isLt
    rw [ofLE, List.length_cons, Nat.pow_succ]
    omega

/-- R412: an operand in data RAM has 32 bits. -/
theorem operand_lt (u : Trowel) (a : Nat) : operand u a < 4294967296 := by
  have h := ofLE_lt (u.bytes a 4)
  rwa [Trowel.bytes, List.length_map, List.length_range] at h

theorem signed_32 {a : Nat} (h : a < 4294967296) : signed 32 a = s32 a := by
  simp only [signed, s32, Nat.reducePow, Nat.reduceSub, Nat.mod_eq_of_lt h]
  rfl

theorem SameStack.putBytes (a : Nat) (b : Bytes) (t : Trowel) : SameStack t (t.putBytes a b) := by
  induction b generalizing a t with
  | nil => exact .refl t
  | cons x r ih =>
    obtain ⟨h1, h2, h3, h4, h5⟩ := ih (a + 1) (t.putByte a x.toNat)
    exact ⟨h1, h2, h3, h4, h5⟩

/-! Fetch of a one-byte instruction -/

theorem immBytes_coprocessor {o : Nat} (h1 : 0xF0 ≤ o) (h2 : o < 256) : immBytes o = some 0 := by
  interval_cases o <;> rfl

/-- R411: the coprocessor that the instruction at PC names, read back from past it. -/
theorem Trowel.lastOp_past {t : Trowel} (h : 0xF0 ≤ t.opcode) : t.past.lastOp = t.opcode := by
  have hlast := t.opcode_before (immBytes_coprocessor h (t.codeByte_lt _ _)) (by decide)
  rw [Nat.add_sub_assoc (by decide)] at hlast
  exact hlast

theorem cpOf_of_ne {op : Nat} (h : op / 4 % 4 ≠ 3) : cpOf op = .ok (op / 4 % 4) := if_neg h

theorem PoppedTo.cp {t u : Trowel} {l : List Nat} (h : PoppedTo t u l) (n : Nat) : u.cp n = t.cp n :=
  h.frame (fun t => t.cp n) fun _ _ => rfl

/-! CPGO (R411) -/

/-- What a command that writes bytes leaves of the core. -/
def putSome (w : Option (Nat × Bytes)) (u : Trowel) : Trowel := match w with | some (a, v) => u.putBytes a v | none => u

theorem SameStack.putSome (w : Option (Nat × Bytes)) (u : Trowel) : SameStack u (Machine.putSome w u) :=
  match w with
  | some (a, v) => .putBytes a v u
  | none => .refl u

section Command
variable {i : Instr} {c : Fin 2} {r : CoreRow} {n k : Nat}

/-- The entry on top of the data stack stands in hardware. -/
theorem Trowel.InOrder.head?_of_cons {t : Trowel} {b : Nat} {l : List Nat} (h : t.InOrder) (hs : dataStack t = b :: l) :
    t.stack.head? = some b := by
  cases hstack : t.stack with
  | nil => rw [h.dataStack_of_nil hstack] at hs; nomatch hs
  | cons x r =>
    rw [dataStack, hstack] at hs
    cases hs
    rfl

/-- R411: a command of a coprocessor that is idle, with operand ranges that the code may reach. -/
theorem commandRow_completes {ranges : List Nat → List (Nat × Nat)} {f : List Nat → Trowel → Nat × Option (Nat × Bytes)}
    {m : List Nat → Trowel → Nat × Trowel} (h : commandRow c n k ranges f = some r)
    (hexec : ∀ s, exec i s = cpRow n k (cpgo n ranges m) c.val s)
    (hm : ∀ regs u, m regs u = ((f regs u).1, putSome (f regs u).2 u)) : r.Completes i := by
  refine coreOp_completes (onCore (cpgo n ranges m)) h (p := isOp (0xF2 + 4 * n)) (fun _ ho => ho)
    fun s t rest g out hcore _ horder heffect hroom => ?_
  split at heffect
  case h_2 => nomatch heffect
  case h_1 x l hstack =>
    obtain ⟨⟨rfl, hidle, hranges⟩, heq⟩ := Option.ite_none_right_eq_some.mp heffect
    cases heq
    obtain ⟨u, hu, hpop⟩ := Trowel.pop_of_cons horder hstack
    have hhead : (s.core c.val).stack.head? = some x := by
      rw [hcore]
      exact horder.head?_of_cons hstack
    refine ⟨by rw [hexec, cpRow, if_pos hhead], cpgo n ranges m t.imm t.past, ?_, fun v hv => hcore ▸ onCore_of_ok (hcore ▸ hv)⟩
    have hregs : lateRegs (u.cp n).regs (u.cp n).late = goRegs t n := by rw [hpop.cp]; rfl
    have hranges : (ranges (goRegs t n)).all u.rangeOk = true := by
      rw [hpop.frame Trowel.rangeOk fun _ _ => rfl]
      exact hranges
    have hidle : (t.past.cp n).busy = false := hidle
    refine effects_of_change [] hpop ?_ hroom ?_ rfl
    · obtain ⟨h1, h2, h3, h4, h5⟩ := SameStack.putSome (f (goRegs t n) u).2 u
      exact ⟨h1, h2, h3, h4, h5⟩
    · simp only [cpgo, hidle, Bool.false_eq_true, if_false, hu, ok_bind, hregs, hranges, if_true, hm]
      rfl

/-- R412: the commands of cp2 over A and B. -/
theorem arithRow_completes {bytes : Nat} {f m : Nat → Nat → Nat × Nat} (h : arithRow c k bytes f = some r)
    (hexec : ∀ s, exec i s = cpRow 2 k (cp2 bytes m) c.val s)
    (hm : ∀ a b, a < 4294967296 → b < 4294967296 →
      (m a b).1 = (f a b).1 ∧ (m a b).2 % 256 ^ bytes = (f a b).2 % 256 ^ bytes) : r.Completes i := by
  refine commandRow_completes h hexec fun regs u => ?_
  obtain ⟨hstatus, hvalue⟩ := hm (operand u (regs.getD 0 0)) (operand u (regs.getD 1 0)) (operand_lt _ _) (operand_lt _ _)
  show ((m _ _).1, u.putBytes (regs.getD 2 0) (le bytes (m _ _).2)) = ((f _ _).1, u.putBytes (regs.getD 2 0) (le bytes (f _ _).2))
  rw [← hstatus, ← le_congr hvalue]
  rfl

end Command

theorem trowelCoprocessorsComplete : TrowelCoprocessorsComplete := by
  intro i r h
  unfold coprocessorRow at h
  split at h
  case h_1 =>
    refine onCore_completes (eff := effCpset) h (fun _ => rfl) fun t rest g out hop horder heffect hroom => ?_
    split at heffect
    case h_2 => nomatch heffect
    case h_1 x hi lo l hstack =>
      obtain ⟨hn, heq⟩ := Option.ite_none_left_eq_some.mp heffect
      cases heq
      have hcp : 0xF0 ≤ t.opcode := of_decide_eq_true (Bool.and_eq_true_iff.mp hop).1
      obtain ⟨u, hu, hpop⟩ := Trowel.pop_of_cons horder hstack
      obtain ⟨w, hw, hpop'⟩ := Trowel.popW_of_cons hpop.order hpop.left
      refine effects_of_change [] (hpop.trans hpop') ⟨rfl, rfl, rfl, rfl, rfl⟩ hroom ?_ rfl
      simp only [effCpset, Trowel.lastOp_past hcp, cpOf_of_ne hn, hu, hw, ok_bind]
      rfl
  case h_2 =>
    refine onCore_completes (eff := effCpget) h (fun _ => rfl) fun t rest g out hop horder heffect hroom => ?_
    split at heffect
    case h_2 => nomatch heffect
    case h_1 x l hstack =>
      obtain ⟨hn, heq⟩ := Option.ite_none_left_eq_some.mp heffect
      cases heq
      have hcp : 0xF0 ≤ t.opcode := of_decide_eq_true (Bool.and_eq_true_iff.mp hop).1
      obtain ⟨u, hu, hpop⟩ := Trowel.pop_of_cons horder hstack
      refine effects_of_pushAll (wordBytes ((t.cp (t.opcode / 4 % 4)).regs.getD (x % 16) 0)) hpop hroom ?_ (wordBytes_out rfl)
      simp only [effCpget, Trowel.lastOp_past hcp, cpOf_of_ne hn, hu, ok_bind, hpop.cp]
      rfl
  case h_3 =>
    refine onCore_completes (eff := effCpwait) h (fun _ => rfl) fun t rest g out hop horder heffect hroom => ?_
    obtain ⟨hready, heq⟩ := Option.ite_none_left_eq_some.mp heffect
    obtain ⟨hn, hidle⟩ := not_or.mp hready
    cases heq
    have hcp : 0xF0 ≤ t.opcode := of_decide_eq_true (Bool.and_eq_true_iff.mp hop).1
    refine effects_of_pushAll [(t.cp (t.opcode / 4 % 4)).status] (.refl horder) hroom ?_ rfl
    simp only [effCpwait, Trowel.lastOp_past hcp, cpOf_of_ne hn, ok_bind]
    exact if_neg hidle
  case h_4 => exact commandRow_completes h (fun _ => rfl) fun _ _ => rfl
  case h_5 => exact commandRow_completes h (fun _ => rfl) fun _ _ => rfl
  case h_6 => exact commandRow_completes h (fun _ => rfl) fun _ _ => rfl
  case h_7 => exact commandRow_completes h (fun _ => rfl) fun _ _ => by simp only [cpReg, putSome]
  case h_8 =>
    refine arithRow_completes h (fun _ => rfl) fun a b ha hb => ⟨?_, by simp only [addMod, Nat.reducePow, Nat.mod_mod]⟩
    simp only [carryOut, b01, decide_eq_true_eq, Nat.reducePow]
    split <;> omega
  case h_9 =>
    refine arithRow_completes h (fun _ => rfl) fun a b ha hb => ⟨(flag_eq_b01 _).symm, ?_⟩
    simp only [subMod, Nat.reducePow]
    omega
  case h_10 => exact arithRow_completes h (fun _ => rfl) fun _ _ _ _ => ⟨rfl, rfl⟩
  case h_11 =>
    refine arithRow_completes h (fun _ => rfl) fun a b ha hb => ⟨rfl, ?_⟩
    rw [signed_32 ha, signed_32 hb]
    rfl
  case h_12 => exact arithRow_completes h (fun _ => rfl) fun _ _ _ _ => ⟨rfl, rfl⟩
  case h_13 => exact arithRow_completes h (fun _ => rfl) fun _ _ _ _ => ⟨rfl, by simp only [Nat.reducePow, Nat.mod_mod]⟩
  case h_14 => exact arithRow_completes h (fun _ => rfl) fun _ _ _ _ => ⟨rfl, rfl⟩
  case h_15 =>
    refine commandRow_completes h (fun _ => rfl) fun regs u => ?_
    dsimp only [operand, cpReg]
    split <;> rfl
  case h_16 => nomatch h

/-- Settles O2: bits and branches, control flow, loops and CRC, and the coprocessors, each row by its effect on the core. -/
theorem trowelControlInstructionsComplete : Obligations.TrowelControlInstructionsComplete :=
  ⟨trowelBitsComplete, trowelControlFlowCompletes, trowelLoopsAndCrcComplete, trowelCoprocessorsComplete⟩

end Sys2Proof.Machine

/-! PROOFS. Traps of the Trowel cores (R402, R410). -/
namespace Sys2Proof.Machine
open Sys2Proof.Claims

section Traps
variable {c : Fin 2} {s : State}

/-- R410: the instruction at PC of a core that runs takes its trap. -/
theorem exec_trap_of_cause {n : Nat} (hruns : (s.core c.val).runs = true) (h : s.trapCause c.val = some n) :
    exec (.trap c) s = .next (s.takeTrap c.val n) := by
  show execTrap c s = _
  simp only [execTrap, hruns, h, Bool.not_true, Bool.false_eq_true, if_false]

theorem trapEntryIsAsDescribed : TrapEntryIsAsDescribed := by
  intro core s n t hruns hcause hroom
  refine ⟨fun hfirst => ?_, fun hsecond => ?_⟩
  · have hroom : (s.core core.val).rs.length < 64 := hroom
    have hfirst : (s.core core.val).trapActive = false := hfirst
    rw [exec_trap_of_cause hruns hcause]
    simp only [State.takeTrap, hfirst, Bool.false_eq_true, if_false, if_pos hroom, rsEntry_eq_entry]
    rfl
  · rw [exec_trap_of_cause hruns hcause, State.takeTrap, if_pos hsecond]

/-! An operand that is not there (R402, R410) -/

/-- The effect takes an operand before it does anything else. -/
def NeedsOperand (eff : Nat → Trowel → TR Trowel) : Prop := ∀ imm t, t.stack = [] → eff imm t = trapOut 3

theorem Trowel.pop_of_nil {t : Trowel} (h : t.stack = []) : t.pop = trapOut 3 := by simp only [Trowel.pop, h]

theorem Trowel.popW_of_nil {t : Trowel} (h : t.stack = []) : t.popW = trapOut 3 := by
  simp only [Trowel.popW, Trowel.pop_of_nil h]
  rfl

theorem needsOperand_of_pop {eff : Nat → Trowel → TR Trowel} {f : Nat → Nat × Trowel → TR Trowel}
    (h : ∀ imm t, eff imm t = t.pop >>= f imm) : NeedsOperand eff := by
  intro imm t ht
  rw [h, Trowel.pop_of_nil ht]
  rfl

theorem needsOperand_of_popW {eff : Nat → Trowel → TR Trowel} {f : Nat → Nat × Trowel → TR Trowel}
    (h : ∀ imm t, eff imm t = t.popW >>= f imm) : NeedsOperand eff := by
  intro imm t ht
  rw [h, Trowel.popW_of_nil ht]
  rfl

theorem onCore_of_trap {k imm n : Nat} {eff : Nat → Trowel → TR Trowel} {u : State} (h : eff imm (u.core k) = trapOut n) :
    onCore eff k imm u = trapOut n := by
  simp only [onCore, h]
  rfl

theorem trowelDo_of_trap {k n : Nat} {f : CoreOp} {s : State} (h : f k (s.core k).imm (passPc k s) = trapOut n) :
    trowelDo k f s = trapOut n := by
  rw [passPc] at h
  simp only [trowelDo, h]
  rfl

/-- An opcode of which no plain trap comes (R410), and whose effect the table of effects gives. -/
def PlainOpcode (op : Nat) : Prop := (immBytes op).isSome = true ∧ op ≠ 0x9B ∧ op ≠ 0x9E ∧ within 0x50 0x55 op = false ∧ op < 0xF0

/-- R410: the trap of the effect at PC is the trap that the core takes. -/
theorem trapCause_of_plain {n : Nat} {f : CoreOp} (hbank : (s.core c.val).bankPresent (s.core c.val).cbank = true)
    (hop : PlainOpcode (s.core c.val).opcode) (hf : coreEffect (s.core c.val).opcode = some f)
    (hdo : trowelDo c.val f s = trapOut n) : s.trapCause c.val = some n := by
  obtain ⟨himm, h9B, h9E, hio, hcp⟩ := hop
  have hnone : (immBytes (s.core c.val).opcode).isNone = false := by rw [← Option.not_isSome, himm]; rfl
  have hplain : s.plainTrap c.val = none := by
    simp only [State.plainTrap, hbank, hnone, h9B, h9E, Bool.not_true, Bool.false_eq_true, if_false]
  have heffect : s.effectAt c.val = some f := by
    have hnot : ¬ (0xF0 ≤ (s.core c.val).opcode ∧ (s.core c.val).opcode % 4 = 2) := by omega
    simp only [State.effectAt, h9B, hio, hnot, hf, if_false, Bool.false_eq_true]
  simp only [State.trapCause, hplain, heffect, hdo, trapOut]

/-- R402, R405: the instruction of each such row takes an operand first. -/
theorem emptyStack_rows {i : Instr} {op : Nat}
    (h : (i, op) ∈ [(.drop c, 0x03), (.swap c, 0x05), (.rot c, 0x07), (.dropw c, 0x08), (.trowelAdd c, 0x10), (.addc c, 0x11),
      (.mulu c, 0x1E), (.addw c, 0x20), (.eq c, 0x30), (.zeqw c, 0x3B), (.ld c, 0x40), (.st c, 0x41), (.sta c, 0x45), (.jz c, 0x92),
      (.callf c, 0x95), (.jmpi c, 0x98), (.trowelLoop c, 0xA0), (.crc16 c, 0xA8), (.crc32 c, 0xA9), (.bpushi c, 0x5D)]) :
    ∃ eff, (∀ s, exec i s = trowelRow (isOp op) (onCore eff) c.val s) ∧ coreEffect op = some (onCore eff) ∧ PlainOpcode op ∧
      NeedsOperand eff := by
  simp only [List.mem_cons, Prod.mk.injEq, List.not_mem_nil, or_false] at h
  rcases h with ⟨rfl, rfl⟩ | ⟨rfl, rfl⟩ | ⟨rfl, rfl⟩ | ⟨rfl, rfl⟩ | ⟨rfl, rfl⟩ | ⟨rfl, rfl⟩ | ⟨rfl, rfl⟩ | ⟨rfl, rfl⟩ | ⟨rfl, rfl⟩ |
    ⟨rfl, rfl⟩ | ⟨rfl, rfl⟩ | ⟨rfl, rfl⟩ | ⟨rfl, rfl⟩ | ⟨rfl, rfl⟩ | ⟨rfl, rfl⟩ | ⟨rfl, rfl⟩ | ⟨rfl, rfl⟩ | ⟨rfl, rfl⟩ | ⟨rfl, rfl⟩ | ⟨rfl, rfl⟩
  all_goals refine ⟨_, fun _ => rfl, rfl, by unfold PlainOpcode; decide, ?_⟩
  · exact needsOperand_of_pop fun _ _ => rfl
  · exact needsOperand_of_pop fun _ _ => rfl
  · exact needsOperand_of_pop fun _ _ => rfl
  · exact needsOperand_of_popW fun _ _ => rfl
  · exact needsOperand_of_pop fun _ _ => rfl
  · exact needsOperand_of_pop fun _ _ => rfl
  · exact needsOperand_of_pop fun _ _ => rfl
  · exact needsOperand_of_popW fun _ _ => rfl
  · exact needsOperand_of_pop fun _ _ => rfl
  · exact needsOperand_of_popW fun _ _ => rfl
  · exact needsOperand_of_popW fun _ _ => rfl
  · exact needsOperand_of_popW fun _ _ => rfl
  · exact needsOperand_of_pop fun _ _ => rfl
  · exact needsOperand_of_pop fun _ _ => rfl
  · exact needsOperand_of_pop fun _ _ => rfl
  · exact needsOperand_of_popW fun _ _ => rfl
  · exact needsOperand_of_popW fun _ _ => rfl
  · exact needsOperand_of_pop fun _ _ => rfl
  · exact needsOperand_of_pop fun _ _ => rfl
  · exact needsOperand_of_popW fun _ _ => rfl

theorem emptyStackTraps : EmptyStackTraps := by
  intro i c op s hrow hruns hbank hop hempty
  obtain ⟨eff, hexec, heffect, hplain, hneeds⟩ := emptyStack_rows hrow
  subst hop
  have hpast : ((passPc c.val s).core c.val).stack = [] := by
    rw [core_passPc]
    exact hempty
  have hdo : trowelDo c.val (onCore eff) s = trapOut 3 := trowelDo_of_trap (onCore_of_trap (hneeds _ _ hpast))
  have hat : ((s.core c.val).runs && (s.core c.val).bankPresent (s.core c.val).cbank && isOp (s.core c.val).opcode (s.core c.val).opcode) = true := by
    rw [hruns, hbank]
    exact beq_self_eq_true _
  refine ⟨?_, exec_trap_of_cause hruns (trapCause_of_plain hbank hplain heffect hdo)⟩
  rw [hexec, trowelRow, if_pos hat, hdo]
  rfl

/-- Settles O5: entering a trap, and the trap of an instruction whose operand is missing. -/
theorem trapsActAsDescribed : Obligations.TrapsActAsDescribed := ⟨trapEntryIsAsDescribed, emptyStackTraps⟩

end Traps
end Sys2Proof.Machine

/-! PROOFS. The SYS services of an applet, its handlers and their return to firmware (R417, R419–R421). -/
namespace Sys2Proof.Machine
open Sys2Proof.Claims

/-! What posts to queues, and reports, leave as it was -/

/-- `s` with what a post to a queue may change as `t` has it: event sources, queues, the lines they drive and the free values drawn. -/
def State.posting (t s : State) : State :=
  { s with events := t.events, queues := t.queues, dma := t.dma, port := t.port, freeTick := t.freeTick }

/-- From `s` to `t` only what a post to a queue may change has changed. -/
def Posted (s t : State) : Prop := t = t.posting s

theorem Posted.refl (s : State) : Posted s s := (rfl)

theorem Posted.trans {s t u : State} (h : Posted s t) (h' : Posted t u) : Posted s u := by
  have heq : t = t.posting s := h
  have hu := congrArg u.posting heq
  exact Eq.trans h' hu

/-- R109, R111: an occurrence of an event source. -/
theorem Posted.occur (n code : Nat) (detail : Bytes) (s : State) : Posted s (s.occur n code detail) :=
  occurN_induction (P := Posted s) (fun _ _ _ h => h.trans rfl) (fun _ _ h => h.trans rfl) (fun _ _ h => h.trans rfl)
    (fun _ _ h => h.trans rfl) (fun _ h => h.trans rfl) 8 n code detail s (.refl s)

/-- R98, R100: an offer to a queue. -/
theorem Posted.offer (n : Nat) (e : QEntry) (s : State) : Posted s (s.offer n e) :=
  State.offer_induction (P := Posted s) (fun _ _ _ h => h.trans rfl) (fun _ h => h.trans rfl)
    (fun _ _ _ _ h => h.trans (.occur _ _ _ _)) n e s (.refl s)

/-- `s` with what a report may change as `t` has it: what a post may, the sessions, and the log in the Steward and the NV array. -/
def State.reporting (t s : State) : State :=
  { t.posting s with sessions := t.sessions, nv := t.nv, steward := t.steward }

/-- From `s` to `t` only what a report may change has changed. -/
def Reported (s t : State) : Prop := t = t.reporting s

theorem Reported.refl (s : State) : Reported s s := (rfl)

theorem Reported.trans {s t u : State} (h : Reported s t) (h' : Reported t u) : Reported s u := by
  have heq : t = t.reporting s := h
  have hu := congrArg u.reporting heq
  exact Eq.trans h' hu

theorem Posted.reported {s t : State} (h : Posted s t) : Reported s t := by
  have heq : t = t.posting s := h
  have hr := congrArg (fun x => State.reporting x s) heq
  exact Eq.trans heq hr.symm

theorem Reported.log (unit kind : Nat) (data : Bytes) (s : State) : Reported s (s.log unit kind data) := by
  obtain ⟨nv, st, h⟩ := State.log_frame unit kind data s
  exact h ▸ rfl

theorem Reported.logFree (unit kind : Nat) (s : State) : Reported s (s.logFree unit kind) :=
  .trans (t := { s with freeTick := s.freeTick + 16 }) rfl (.log _ _ _ _)

/-- R83, R95: the reply of an applet command goes to Q01, and its session stores it. -/
theorem Reported.replyHandler (e : Executing) (payload : Bytes) (tag : ReplyTag) (s : State) :
    Reported s (s.replyHandler e payload tag) := by
  unfold State.replyHandler
  split
  · exact .trans (Posted.offer _ _ _).reported rfl
  · exact .refl s

theorem Reported.executing {s t : State} (h : Reported s t) : t.executing = s.executing := by
  rw [h]
  rfl

theorem Reported.applet {s t : State} (h : Reported s t) : t.applet = s.applet := by
  rw [h]
  rfl

theorem Reported.trowelH {s t : State} (h : Reported s t) : t.trowelH = s.trowelH := by
  rw [h]
  rfl


/-! The services (R420) -/

/-- R420: the row of a service whose effect succeeds. -/
theorem sysRow_of_service {n : Nat} {f : CoreOp} {s s' : State} (hat : atService n s.trowelH = true)
    (h : f 0 s.trowelH.imm (passPc 0 s) = .ok s') : sysRow n f s = .next (completed 0 s s') := by
  obtain ⟨hop, hn⟩ := Bool.and_eq_true_iff.mp hat
  obtain ⟨hop, happ⟩ := Bool.and_eq_true_iff.mp hop
  rw [sysRow, if_pos (by rw [happ, hn]; rfl)]
  exact trowelRow_of_at hop h

theorem Trowel.length_loadBytes {t : Trowel} {a n : Nat} {v : Bytes} (h : t.loadBytes a n = .ok v) : v.length = n := by
  induction n generalizing a v with
  | zero => cases h; rfl
  | succ n ih =>
    rw [Trowel.loadBytes] at h
    cases hb : t.load a with
    | error e => rw [hb] at h; nomatch h
    | ok b =>
      cases hr : t.loadBytes (a + 1) n with
      | error e => rw [hb, ok_bind, hr] at h; nomatch h
      | ok r =>
        rw [hb, ok_bind, hr] at h
        cases h
        rw [List.length_cons, ih hr]

section Services
variable {s s1 s2 s3 : State} {a w id mask : Nat} {v : Bytes}

theorem replyItem_completes (hat : atService 1 s.trowelH = true) (h1 : (passPc 0 s).popW 0 = .ok (id, s1)) (h2 : s1.popW 0 = .ok (w, s2))
    (h3 : s2.popW 0 = .ok (a, s3)) (hv : s3.trowelH.loadBytes a w = .ok v) : exec .replyItem s =
      .next (completed 0 s { s3 with executing := s3.executing.map (Executing.addItem { id := id, value := v }) }) := by
  have hv : (s3.core 0).loadBytes a w = .ok v := hv
  exact sysRow_of_service hat (by simp only [effReplyItem, h1, h2, h3, hv, ok_bind]; rfl)

theorem sysParamGet_completes {t : Trowel} (hat : atService 2 s.trowelH = true) (h1 : (passPc 0 s).popW 0 = .ok (id, s1))
    (h2 : s1.popW 0 = .ok (a, s2)) (hst : s2.sysGetStatus id = .ok)
    (hput : s2.trowelH.storeBytes a (s2.paramItem id (s2.shownParam id)).value = .ok t)
    (hpush : State.pushW 0 Status.ok.code { s2 with trowelH := t } = .ok s3) : exec .sysParamGet s = .next (completed 0 s s3) := by
  have hput : (s2.core 0).storeBytes a (s2.paramItem id (s2.shownParam id)).value = .ok t := hput
  exact sysRow_of_service hat (by simp only [effSysParamGet, h1, h2, ok_bind, hst, if_true, hput]; exact hpush)

theorem sysParamSet_completes {nvOk : Bool} (hat : atService 3 s.trowelH = true) (h1 : (passPc 0 s).popW 0 = .ok (id, s1))
    (h2 : s1.popW 0 = .ok (a, s2)) (hv : s2.trowelH.loadBytes a (paramBytes id) = .ok v) (hst : (s2.sysSet nvOk id v).1 = .ok)
    (hpush : (s2.sysSet nvOk id v).2.pushW 0 Status.ok.code = .ok s3) : exec (.sysParamSet nvOk) s = .next (completed 0 s s3) := by
  have hv : (s2.core 0).loadBytes a (paramBytes id) = .ok v := hv
  exact sysRow_of_service hat (by simp only [effSysParamSet, h1, h2, hv, ok_bind, hst]; exact hpush)

theorem sysJournal_completes {nvOk : Bool} (hat : atService 4 s.trowelH = true) (h1 : (passPc 0 s).popW 0 = .ok (w, s1))
    (h2 : s1.popW 0 = .ok (a, s2)) (hv : s2.trowelH.loadBytes a w = .ok v) (hst : (s2.sysRecord nvOk v).1 = .ok)
    (hpush : (s2.sysRecord nvOk v).2.pushW 0 Status.ok.code = .ok s3) : exec (.sysJournal nvOk) s = .next (completed 0 s s3) := by
  have hv : (s2.core 0).loadBytes a w = .ok v := hv
  exact sysRow_of_service hat (by simp only [effSysJournal, h1, h2, hv, ok_bind, hst]; exact hpush)

theorem sysGpioWrite_completes (hat : atService 5 s.trowelH = true) (h1 : (passPc 0 s).popGpios 0 = .ok (mask, s1))
    (h2 : s1.popGpios 0 = .ok (w, s2)) (hbits : onlyBits s2.gpioBonded mask = true) (hnone : s2.gpioRefusal mask = none)
    (hpush : (s2.gpioSet w mask).pushW 0 Status.ok.code = .ok s3) : exec .sysGpioWrite s = .next (completed 0 s s3) := by
  have hset : s2.sysGpio w mask = (.ok, s2.gpioSet w mask) := by simp only [State.sysGpio, hbits, hnone]; rfl
  exact sysRow_of_service hat (by simp only [effSysGpioWrite, h1, h2, ok_bind, hset]; exact hpush)

theorem sysGpioRead_completes (hat : atService 6 s.trowelH = true)
    (h1 : (passPc 0 s).pushW 0 ((s.gpio.raw &&& s.gpioBonded) % 65536) = .ok s1)
    (h2 : s1.pushW 0 ((s.gpio.raw &&& s.gpioBonded) / 65536) = .ok s2) : exec .sysGpioRead s = .next (completed 0 s s2) :=
  sysRow_of_service hat ((congrArg (· >>= fun u => State.pushW 0 _ u) h1).trans h2)

theorem sysLog_completes (hat : atService 7 s.trowelH = true) (h1 : (passPc 0 s).popW 0 = .ok (w, s1)) (h2 : s1.popW 0 = .ok (a, s2))
    (hv : s2.trowelH.loadBytes a w = .ok v) (hw : w ≤ 16)
    (hpush : (s2.draw.log (Config.freeNat s2.freeTick % 256) 0x10 v).pushW 0 Status.ok.code = .ok s3) :
    exec .sysLog s = .next (completed 0 s s3) := by
  have hlen := Trowel.length_loadBytes hv
  have hv : (s2.core 0).loadBytes a w = .ok v := hv
  have hlog : s2.sysLogged v = (.ok, s2.draw.log (Config.freeNat s2.freeTick % 256) 0x10 v) := if_neg (by omega)
  exact sysRow_of_service hat (by simp only [effSysLog, h1, h2, hv, ok_bind, hlog]; exact hpush)

end Services

theorem servicesComplete : ServicesComplete := by
  intro s s1 s2 s3 a w id mask v t' ok t p
  exact ⟨replyItem_completes, sysParamGet_completes, sysParamSet_completes,
    fun hat h1 h2 hv _ _ => sysJournal_completes hat h1 h2 hv, sysGpioWrite_completes, sysGpioRead_completes, sysLog_completes⟩

/-! Handlers (R419, R421) -/

theorem Trowel.endWait_rs (t : Trowel) : t.endWait.rs = t.rs := by
  unfold Trowel.endWait
  split <;> rfl

theorem Trowel.putBytes_rs (a : Nat) (b : Bytes) (t : Trowel) : (t.putBytes a b).rs = t.rs := by
  induction b generalizing a t with
  | nil => rfl
  | cons x r ih => exact (ih (a + 1) (t.putByte a x.toNat)).trans rfl

/-- R419: a call of a handler, with the payload put for it. -/
theorem callHandler_eq (c : Cmd) (bank handler a limit : Nat) (s : State) :
    c.callHandler bank handler a limit s = {
      status := .ok, deferred := true
      state := { s with
        trowelH := (s.trowelH.putBytes a (itemBytes c.items)).callApplet bank handler s.applet.spill [a, (itemBytes c.items).length]
        executing := some {
          opcode := c.opcode, ticket := c.ticket s, role := c.role, keyId := c.keyId, due := s.up + limit, depth := s.trowelH.rs.length + 1 } } } := by
  have hrs : (s.trowelH.putBytes a (itemBytes c.items)).endWait.rs = s.trowelH.rs :=
    (Trowel.endWait_rs _).trans (Trowel.putBytes_rs _ _ _)
  simp only [Cmd.callHandler, Trowel.callApplet, hrs, List.length_cons]

/-- R419, R421: the applet stops, and no command is being handled. -/
theorem State.stopApplet_ends {s : State} (cause : Nat) (h : s.applet.running = true) :
    (s.stopApplet cause).executing = none ∧ (s.stopApplet cause).applet.running = false := by
  rw [State.stopApplet, if_neg (by rw [h]; decide)]
  extract_lets app u v
  have hv : Reported u v := .trans (Posted.occur _ _ _ _).reported (.logFree _ _ _)
  have hstop : v.applet.running = false := congrArg Applet.running hv.applet
  cases hx : v.executing with
  | none => exact ⟨hx, hstop⟩
  | some e =>
    have hr := Reported.replyHandler e (le 2 Status.internalFault.code) .none { v with executing := none }
    exact ⟨hr.executing, (congrArg Applet.running hr.applet).trans hstop⟩

theorem appletHandlersComplete : AppletHandlersComplete := by
  refine ⟨?command, ?call, ?limit, fun _ _ _ => rfl⟩
  case command =>
    intro s e a he hmay
    refine congrArg Host.Outcome.next ?_
    rw [State.takeAppletOpcode, he]
    exact if_pos hmay
  case call =>
    intro c bank handler a limit s
    rw [callHandler_eq]
    exact ⟨rfl, rfl⟩
  case limit =>
    intro s x hx hdue hrun
    refine ⟨s.stopApplet 0x0B, congrArg Host.Outcome.next (if_pos ?_), State.stopApplet_ends 0x0B hrun⟩
    rw [hx]
    exact decide_eq_true hdue

/-! The return to firmware (R417, R419) -/

theorem Trowel.pop_cbank {t u : Trowel} {b : Nat} (h : t.pop = .ok (b, u)) : u.cbank = t.cbank := by
  unfold Trowel.pop at h
  split at h
  · nomatch h
  · split at h <;> cases h <;> rfl

theorem Trowel.popW_cbank {t u : Trowel} {w : Nat} (h : t.popW = .ok (w, u)) : u.cbank = t.cbank := by
  unfold Trowel.popW at h
  cases h1 : t.pop with
  | error e => rw [h1] at h; nomatch h
  | ok p =>
    rw [h1, ok_bind] at h
    cases h2 : p.2.pop with
    | error e => simp only [h2] at h; nomatch h
    | ok q =>
      simp only [h2, ok_bind] at h
      cases h
      exact (Trowel.pop_cbank h2).trans (Trowel.pop_cbank h1)

theorem State.handlerReturns_cbank (s : State) : s.handlerReturns.trowelH.cbank = s.trowelH.cbank := by
  unfold State.handlerReturns
  split
  · rfl
  · rename_i e _
    split
    · rename_i w t hpop
      exact (congrArg Trowel.cbank (Reported.replyHandler e _ _ _).trowelH).trans (Trowel.popW_cbank hpop)
    · rfl

/-- R408: an instruction that leaves its bank completes no loop. -/
theorem completed_of_bank {c : Nat} {s s' : State} (h : (s'.core c).cbank ≠ (s.core c).cbank) : completed c s s' = s' := by
  have hpassed : passed (s.core c).pc ((s.core c).after (s.core c).pc) (s.core c).cbank (s'.core c) = s'.core c :=
    if_neg fun hc => h hc.2
  rw [completed, hpassed, State.setCore_core]

theorem appletReturnsToFirmware : AppletReturnsToFirmware := by
  intro s e r t hat happ hrs hhome hout u
  have hhome : t.home = true := decide_eq_true hhome
  have hu : s.setCore 0 (t.returned e r) = u := by
    unfold Trowel.returned
    rw [hhome]
    rfl
  have hbank : 6 ≤ t.cbank := of_decide_eq_true (Bool.and_eq_true_iff.mp happ).2
  have hret := effRet_of_entry (c := 0) (imm := t.imm) (s := s) (t := t) rfl hrs (by rw [hhome, Bool.not_true, Bool.and_false])
  rw [hu] at hret
  have hrow : ∀ v : State, v.trowelH.cbank = e / 65536 % 8 → effRet 0 t.imm (passPc 0 s) = .ok v → exec (.ret 0) s = .next v := by
    intro v hv heff
    have hne : (v.core 0).cbank ≠ (s.core 0).cbank := by
      show v.trowelH.cbank ≠ t.cbank
      omega
    exact (trowelRow_of_ok (f := effRet) hat heff).trans (congrArg Host.Outcome.next (completed_of_bank hne))
  constructor
  · intro x hx hdepth
    have hany : s.executing.any (fun e => e.depth == t.rs.length) = true := by rw [hx]; exact beq_iff_eq.mpr hdepth
    rw [if_pos ⟨rfl, happ, hhome, hany⟩] at hret
    exact hrow _ (State.handlerReturns_cbank u) hret
  · intro hnone
    have hany : ¬ s.executing.any (fun e => e.depth == t.rs.length) = true := by
      cases hx : s.executing with
      | none => exact fun hany => nomatch hany
      | some x => exact fun hany => hnone x hx (beq_iff_eq.mp hany)
    rw [if_neg fun hc => hany hc.2.2.2] at hret
    exact hrow u rfl hret

/-- Settles O6: each service runs its pops and its effect; a stopped applet's command is answered and leaves; RET to firmware's
entry leaves the applet's banks. -/
theorem appletsComplete : Obligations.AppletsComplete :=
  ⟨servicesComplete, appletHandlersComplete, appletReturnsToFirmware⟩

end Sys2Proof.Machine

/-! PROOFS. The services of an applet on a data stack in hardware (R401, R402, R417, R420). -/
namespace Sys2Proof.Machine
open Sys2Proof.Claims

/-! Words of the stack and bytes of the window -/

theorem passPc_eq_served {s : State} {l : List Nat} (h : s.trowelH.stack = l) : passPc 0 s = served l s := by
  subst h
  rfl

section Served
variable {s : State} (hspill : s.trowelH.dsSpill ≤ s.trowelH.dsBase)
include hspill

theorem popW_served (l h : Nat) (r : List Nat) : (served (h :: l :: r) s).popW 0 = .ok (l + 256 * h, served r s) := by
  have hhigh : (served (h :: l :: r) s).trowelH.pop = .ok (h, (served (l :: r) s).trowelH) := Trowel.pop_of_plain rfl hspill
  have hlow : (served (l :: r) s).trowelH.pop = .ok (l, (served r s).trowelH) := Trowel.pop_of_plain rfl hspill
  have hpop : ((served (h :: l :: r) s).core 0).popW = .ok (l + 256 * h, (served r s).trowelH) := by
    show (served (h :: l :: r) s).trowelH.popW = _
    simp only [Trowel.popW, hhigh, ok_bind, hlow]
    rfl
  rw [State.popW, hpop]
  rfl

theorem popGpios_served (a b c d : Nat) (r : List Nat) :
    (served (d :: c :: b :: a :: r) s).popGpios 0 = .ok (a + 256 * b + 65536 * (c + 256 * d), served r s) := by
  rw [State.popGpios, popW_served hspill, ok_bind]
  simp only [popW_served hspill, ok_bind]
  rfl

end Served

theorem pushW_of_room {u : State} (w : Nat) (h : u.trowelH.stack.length < 31) :
    u.pushW 0 w = .ok { u with trowelH := { u.trowelH with stack := w / 256 % 256 :: w % 256 % 256 :: u.trowelH.stack } } := by
  have hlow := Trowel.push_of_lt (t := u.trowelH) (w % 256) (Nat.lt_succ_of_lt h)
  have hhigh := Trowel.push_of_lt (t := { u.trowelH with stack := w % 256 % 256 :: u.trowelH.stack }) (w / 256) (Nat.succ_lt_succ h)
  have hpush : (u.core 0).pushW w = _ := (congrArg (· >>= Trowel.push (w / 256)) hlow).trans hhigh
  rw [State.pushW, hpush]
  rfl

/-- R420: OK, on top of a stack with room for it. -/
theorem pushW_ok {u : State} (h : u.trowelH.stack.length ≤ 28) : u.pushW 0 Status.ok.code = .ok (answered u) :=
  pushW_of_room 0 (by omega)

section Window
variable {a : Nat}

/-- R417: an applet reaches its window. -/
theorem Trowel.dataOk_of_window {t : Trowel} {x : Nat} (happ : t.inApplet = true) (h : 0xC000 ≤ x) : t.dataOk x = true := by
  obtain ⟨hsteward, -⟩ := Bool.and_eq_true_iff.mp happ
  rw [Trowel.dataOk, if_neg (Bool.eq_false_iff.mp (Bool.not_eq_true' _ |>.mp hsteward)), decide_eq_true h, Bool.or_true]

theorem windowed_head {n : Nat} (h : windowed a (n + 1)) : 0xC000 ≤ a % 65536 := h 0 (Nat.succ_pos n)

theorem windowed_tail {n : Nat} (h : windowed a (n + 1)) : windowed (a + 1) n :=
  fun k hk => by
    rw [Nat.add_right_comm]
    exact h (k + 1) (Nat.succ_lt_succ hk)

theorem dataAt_succ (t : Trowel) (a n : Nat) : dataAt t a (n + 1) = BitVec.ofNat 8 (t.byteAt a) :: dataAt t (a + 1) n := by
  simp only [dataAt, List.range_succ_eq_map, List.map_cons, List.map_map, Nat.add_zero]
  congr 2
  funext k
  rw [Function.comp_apply, Nat.succ_eq_add_one, ← Nat.add_assoc, Nat.add_right_comm]

theorem loadBytes_of_window {t : Trowel} (happ : t.inApplet = true) {n : Nat} (h : windowed a n) :
    t.loadBytes a n = .ok (dataAt t a n) := by
  induction n generalizing a with
  | zero => rfl
  | succ n ih =>
    rw [Trowel.loadBytes, Trowel.load_of_ok (Trowel.dataOk_of_window happ (windowed_head h)), ok_bind, ih (windowed_tail h), dataAt_succ]
    rfl

theorem storeBytes_of_window {t : Trowel} (happ : t.inApplet = true) {v : Bytes} (h : windowed a v.length) :
    t.storeBytes a v = .ok (t.putBytes a v) := by
  induction v generalizing a t with
  | nil => rfl
  | cons x r ih =>
    rw [Trowel.storeBytes, Trowel.store_of_ok _ (Trowel.dataOk_of_window happ (windowed_head h)), ok_bind]
    exact ih (t := t.putByte a x.toNat) happ (windowed_tail h)

end Window

theorem inApplet_of_service {n : Nat} {t : Trowel} (h : atService n t = true) : t.inApplet = true :=
  (Bool.and_eq_true_iff.mp (Bool.and_eq_true_iff.mp h).1).2

section Served
variable {s : State} {n a : Nat} (hat : atService n s.trowelH = true) (rest : List Nat)
include hat

theorem loadBytes_served {b : Nat} (h : windowed a b) : (served rest s).trowelH.loadBytes a b = .ok (dataAt s.trowelH a b) :=
  loadBytes_of_window (t := (served rest s).trowelH) (inApplet_of_service (t := s.trowelH) hat) h

theorem storeBytes_served {v : Bytes} (h : windowed a v.length) :
    (served rest s).trowelH.storeBytes a v = .ok ((served rest s).trowelH.putBytes a v) :=
  storeBytes_of_window (t := (served rest s).trowelH) (inApplet_of_service (t := s.trowelH) hat) h

end Served

/-- Settles O7: with the stack in hardware each pop takes the entries on top, and OK finds room on it. -/
theorem appletServicesAnswer : Obligations.AppletServicesAnswer := by
  intro s al ah bl bh cl ch dl dh rest nvOk t a b c hspill hrest
  have hpop : ∀ l h r, (served (h :: l :: r) s).popW 0 = .ok (l + 256 * h, served r s) := popW_served hspill
  have hpops : ∀ a b c d r, (served (d :: c :: b :: a :: r) s).popGpios 0 = .ok (a + 256 * b + 65536 * (c + 256 * d), served r s) :=
    popGpios_served hspill
  have hfirst : ∀ l h r, t.stack = h :: l :: r → (passPc 0 s).popW 0 = .ok (l + 256 * h, served r s) := by
    intro l h r hstack
    rw [passPc_eq_served hstack]
    exact hpop l h r
  refine ⟨?replyItem, ?paramGet, ?paramSet, ?journal, ?gpioWrite, ?gpioRead, ?log⟩
  case replyItem =>
    intro hat hstack hwin
    exact replyItem_completes hat (hfirst _ _ _ hstack) (hpop _ _ _) (hpop _ _ _) (loadBytes_served hat rest hwin)
  case paramGet =>
    intro hat hstack hst v hwin
    refine sysParamGet_completes hat (hfirst _ _ _ hstack) (hpop _ _ _) hst (storeBytes_served hat rest hwin) (pushW_ok ?_)
    exact (SameStack.putBytes a v (served rest s).trowelH).1 ▸ hrest
  case paramSet =>
    intro hat hstack hwin r hst hroom
    exact sysParamSet_completes hat (hfirst _ _ _ hstack) (hpop _ _ _) (loadBytes_served hat rest hwin) hst (pushW_ok hroom)
  case journal =>
    intro hat hstack hwin _ _ _ r hst hroom
    exact sysJournal_completes hat (hfirst _ _ _ hstack) (hpop _ _ _) (loadBytes_served hat rest hwin) hst (pushW_ok hroom)
  case gpioWrite =>
    intro hat hstack mask hbits hnone r hroom
    refine sysGpioWrite_completes hat ?_ (hpops _ _ _ _ _) hbits hnone (pushW_ok hroom)
    rw [passPc_eq_served hstack]
    exact hpops _ _ _ _ _
  case gpioRead =>
    intro hat hstack l
    have hlow : (passPc 0 s).pushW 0 (l % 65536) = .ok (served (l % 65536 / 256 % 256 :: l % 65536 % 256 % 256 :: rest) s) := by
      rw [passPc_eq_served hstack]
      exact pushW_of_room _ (Nat.lt_of_le_of_lt hrest (by decide))
    have hbyte : l % 65536 / 256 % 256 = l % 65536 / 256 := Nat.mod_eq_of_lt (by omega)
    rw [hbyte, Nat.mod_mod] at hlow
    refine sysGpioRead_completes hat hlow ((pushW_of_room _ ?_).trans ?_)
    · exact Nat.lt_of_le_of_lt (Nat.add_le_add_right hrest 2) (by decide)
    · rw [Nat.mod_mod]
      rfl
  case log =>
    intro hat hstack hwin hb u r hroom
    exact sysLog_completes hat (hfirst _ _ _ hstack) (hpop _ _ _) (loadBytes_served hat rest hwin) hb (pushW_ok hroom)

end Sys2Proof.Machine

/-! PROOFS. A registered opcode and the command that calls its handler (R76, R83, R419). -/
namespace Sys2Proof.Machine
open Sys2Proof.Claims

/-- R76, R83: a sound and fresh packet of a session that stands executes its row on the state it leaves. -/
theorem CmdSpec.run_of_fresh {k : CmdSpec} {p : Packet} {items : List Item} {s : State} (h : Sound k p items s) (hs : SessionStands p s)
    (hf : Fresh p s) : k.run s =
      (State.finish (commandAs p items s) (k.execute (commandAs p items s) (taken p s))).spendNonce p.opcode p.session := by
  obtain ⟨hrdy, hfree, hq, hcrc, hversion, hflags, hop, hitems, hsel, hshape⟩ := h
  have hs : SessionStands p (s.modQueue 0 (Queue.pop 16)) := hs
  have hf : Fresh p (s.modQueue 0 (Queue.pop 16)) := hf
  rw [CmdSpec.run_of_items ⟨hrdy, hfree, hq, hcrc, hop⟩ hitems hsel, CmdSpec.checkForm_of_sound hversion hflags hshape,
    CmdSpec.enter_of_session hs, Session.checkSeq_of_fresh hf]
  rfl

/-- R75, R419: a command whose reply comes later keeps its SEQ, and no reply yet. -/
theorem State.finish_of_deferred {c : Cmd} {r : Result} (h : r.deferred = true) : State.finish c r =
    r.state.modSession c.session (fun x => { x with baseline := some c.seq, storedOp := c.opcode, stored := [] }) := if_pos h

theorem handlerLimit_eq (journal : Bool) : handlerLimit journal = (if journal then 58000000 else 18000000) * 65536 := by
  cases journal <;> rfl

/-- Settles O17: an allowed command runs its body, which calls the handler; the rest is what O6 says of handlers. -/
theorem appletCommandsComplete : Obligations.AppletCommandsComplete := by
  obtain ⟨hcommand, hcall, hlimit, hdone⟩ := appletHandlersComplete
  refine ⟨?_, hlimit, hdone⟩
  intro s e a p items he hmay k c u hsound hstands hfresh hallowed
  obtain ⟨hdeferred, hstate⟩ := hcall c e.2.2.1 e.2.2.2.1 a.toNat (handlerLimit e.2.2.2.2) u
  rw [hcommand s e a he hmay, CmdSpec.run_of_fresh hsound hstands hfresh, CmdSpec.execute_of_allowed hallowed]
  have hbody : k.body c u = c.callHandler e.2.2.1 e.2.2.2.1 a.toNat (handlerLimit e.2.2.2.2) u := rfl
  rw [hbody, State.finish_of_deferred hdeferred, hstate, handlerLimit_eq]
  rfl

end Sys2Proof.Machine

/-! PROOFS. The refusal of a low-power entry (R506, R508). -/
namespace Sys2Proof.Machine
open Sys2Proof.Claims

/-- R508: consent is refused for the first of its conditions. -/
theorem consentRefusal_eq_firstOf (s : State) : s.consentRefusal = firstOf (consentConditions s) := by
  simp only [consentConditions, firstOf, State.consentRefusal, bne, beq_eq_decide, decide_not]

/-- R508: WAIT is refused for the first of its conditions. -/
theorem waitRefusal_eq_firstOf {s : State} {e : PowerEntry} (h : s.power.entry = some e) (mode : Nat) (csLow : Bool) :
    s.waitRefusal mode csLow = firstOf (waitConditions mode csLow e s) := by
  simp only [waitConditions, firstOf, State.waitRefusal, h, Bool.or_eq_true, decide_eq_true_eq, or_assoc, ne_eq]

section Wait
variable {s : State} {e : PowerEntry} (h : s.power.entry = some e) {mode : Nat} {csLow : Bool} (t : Trowel)
include h

/-- R506, R508: WAIT ends the entry by the first condition that holds. -/
theorem waitEntry_of_some {c : Nat × Nat} (hc : firstOf (waitConditions mode csLow e s) = some c) :
    State.waitEntry mode csLow { s with trowelH := t } = State.endEntry 1 c.1 c.2 { s with trowelH := t } := by
  have href : State.waitRefusal mode csLow { s with trowelH := t } = some c := (waitRefusal_eq_firstOf h mode csLow).trans hc
  rw [State.waitEntry, href]

/-- R506: WAIT begins the drain. -/
theorem waitEntry_of_none (hc : firstOf (waitConditions mode csLow e s) = none) :
    State.waitEntry mode csLow { s with trowelH := t } =
      { s with trowelH := t, power := { s.power with entry := some { e with stage := 2 } } } := by
  have href : State.waitRefusal mode csLow { s with trowelH := t } = none := (waitRefusal_eq_firstOf h mode csLow).trans hc
  rw [State.waitEntry, href]
  simp only [h, Option.map_some]

end Wait

/-- Settles O34: the nested refusals are the first condition of each list that holds. -/
theorem powerEntryIsRefusedInOrder : Obligations.PowerEntryIsRefusedInOrder := by
  intro s e csLow he
  have hconsent : e.stage = 0 → s.powerStateConsent =
      match firstOf (consentConditions s) with | some c => s.mailed.endEntry 1 c 0x60 | none => s.mailed.consent e := by
    intro h0
    rw [State.powerStateConsent, he, ← consentRefusal_eq_firstOf]
    exact if_pos h0
  have hwait : s.trowelH.waitsForPower = true → s.trowelH.inApplet = false → exec (.waitPowerEntry csLow) s =
      .next (State.waitEntry s.trowelH.pwrMode csLow { s with trowelH := { s.trowelH with waiting := true } }) := by
    intro hwaits happ
    refine congrArg Host.Outcome.next ?_
    rw [State.waitPowerEntry, if_pos hwaits, if_neg (Bool.eq_false_iff.mp happ)]
  refine ⟨?consentRefused, ?consentGiven, ?waitRefused, ?waitGoesOn, ?routine⟩
  case consentRefused =>
    intro h0 c hc
    refine congrArg Host.Outcome.next ?_
    rw [hconsent h0, hc]
  case consentGiven =>
    intro h0 hc
    refine congrArg Host.Outcome.next ?_
    rw [hconsent h0, hc]
  case waitRefused =>
    intro c hwaits happ hc
    rw [hwait hwaits happ]
    exact congrArg Host.Outcome.next (waitEntry_of_some he _ hc)
  case waitGoesOn =>
    intro hwaits happ hc
    rw [hwait hwaits happ]
    exact congrArg Host.Outcome.next (waitEntry_of_none he _ hc)
  case routine =>
    intro hwaits h1 hready hc
    refine congrArg Host.Outcome.next ?_
    rw [State.waitPowerEntry, if_neg (Bool.eq_false_iff.mp hwaits)]
    simp only [he]
    rw [if_pos ⟨h1, hready⟩]
    exact waitEntry_of_none he _ hc

end Sys2Proof.Machine

/-! PROOFS. Waking from a low-power mode when a reset is latched (R70, R512, R513). -/
namespace Sys2Proof.Machine
open Sys2Proof.Claims

/-! What the units' restoration leaves of the power controller (R512) -/

theorem foldl_power {α : Type} {f : State → α → State} (hf : ∀ s x, (f s x).power = s.power) (l : List α) (s : State) :
    (l.foldl f s).power = s.power := by
  induction l generalizing s with
  | nil => rfl
  | cons x r ih => exact (ih (f s x)).trans (hf s x)

theorem State.postEvent_power (n : Nat) (s : State) : (s.postEvent n).power = s.power := by
  unfold State.postEvent
  dsimp only
  split
  · split
    · exact State.occur_power _ _ _ _
    · rfl
  · rw [State.occur_power, State.occur_power]
    rfl

theorem State.setEvCfg_power (n cfg : Nat) (s : State) : (s.setEvCfg n cfg).power = s.power := by
  unfold State.setEvCfg
  dsimp only
  split
  · exact State.postEvent_power _ _
  · rfl

theorem State.applyFabric_power (s : State) : s.applyFabric.power = s.power := by
  unfold State.applyFabric
  dsimp only
  rw [foldl_power, foldl_power]
  · exact fun s p => s.setEvCfg_power p.1 p.2
  · exact fun _ _ => rfl

theorem State.noteTokens_power (n : Nat) (s : State) : (s.noteTokens n).power = s.power := by
  unfold State.noteTokens
  dsimp only
  split
  · exact State.occur_power _ _ _ _
  · rfl

theorem State.loadLocks_power (s : State) : s.loadLocks.power = s.power := by
  unfold State.loadLocks
  dsimp only
  split
  · exact (foldl_power (fun s n => s.noteTokens_power n) _ _).trans rfl
  · rfl

theorem State.applyLinks_power (s : State) : s.applyLinks.power = s.power := s.loadLocks_power

theorem State.applyDesc_power (d : Nat) (y : Descriptor) (s : State) : (s.applyDesc d y).power = s.power := by
  unfold State.applyDesc
  dsimp only
  rw [foldl_power fun _ _ => foldl_power (fun _ _ => State.setData_power _ _ _ _) _ _]
  split
  · rfl
  · unfold State.emptyLine
    dsimp only
    split <;> rfl

theorem State.applyPrograms_power (s : State) : s.applyPrograms.power = s.power := by
  have hactive : ∀ (u : State) (x : Screed) (p : Prop) [Decidable p], (if p then u else { u with screed := x }).power = u.power := by
    intro u x p _
    split <;> rfl
  unfold State.applyPrograms
  dsimp only
  rw [foldl_power fun s (p : Nat × Descriptor) => State.applyDesc_power p.1 p.2 s]
  split
  · rw [hactive]
    split
    · exact hactive _ _ _
    · rfl
  · split
    · exact hactive _ _ _
    · rfl

theorem State.reapply_power (a b : Bool) (s : State) : (s.reapply a b).power = s.power :=
  calc (s.reapply a b).power
      = (((s.applyParams.applyFabric.applyPlumb).applyLinks).applyCoefs a b).applyPrograms.power := by rw [State.reapply, State.applyAudio]
    _ = (((s.applyParams.applyFabric.applyPlumb).applyLinks).applyCoefs a b).power := State.applyPrograms_power _
    _ = (s.applyParams.applyFabric.applyPlumb).applyLinks.power := by rw [State.applyCoefs]
    _ = s.applyParams.applyFabric.applyPlumb.power := State.applyLinks_power _
    _ = s.applyParams.applyFabric.power := by rw [State.applyPlumb]
    _ = s.power := State.applyFabric_power _

theorem State.startPlls_power (s : State) : s.startPlls.power = s.power := by
  unfold State.startPlls
  dsimp only
  split <;> rfl

theorem State.restoreRecord_power (s : State) : s.restoreRecord.power = s.power := by
  unfold State.restoreRecord
  split
  · split <;> rfl
  · rfl

theorem State.issueInputs_power (s : State) : s.issueInputs.power = s.power := by
  refine foldl_power (fun s k => ?_) _ _
  split <;> rfl

/-- R512: of the units' restoration only the latched reset changes the power controller. -/
theorem State.restoreUnits_power (s : State) : s.restoreUnits.power = s.applyParams.applyLatchedReset.power := by
  have hplls : ∀ u : State, u.loadTrowelS.startPlls.power = u.power := fun u => u.loadTrowelS.startPlls_power
  have hcores : ∀ (u : State) (g : Gnss), (State.loadTrowelH true { u with gnss := g }).startSolver.power = u.power := fun _ _ => rfl
  have hstart : ∀ (u : State) (n : Nat), (u.gpioStart n).power = u.power := fun _ _ => rfl
  unfold State.restoreUnits
  dsimp only
  rw [hstart, State.issueInputs_power, State.restoreRecord_power, State.reapply_power, hcores]
  split
  · rfl
  · exact hplls _

/-! What the report of a wake leaves (R513) -/

theorem State.reportWithdrawn_power (s : State) :
    s.reportWithdrawn.power = { s.power with withdrawnCommits := [], withdrawnGlides := [] } := by
  have hcommit : ∀ (u : State) (c : ScreedCommit), (u.commitDone c 1).power = u.power := fun _ _ => State.occur_power _ _ _ _
  unfold State.reportWithdrawn
  dsimp only
  rw [foldl_power, foldl_power hcommit]
  exact fun s g => (State.occur_power _ _ _ _).trans (State.bump_power _ _ _)

theorem State.reportAlarms_power (s : State) : s.reportAlarms.power = s.power := by
  have halarm : ∀ k (u : State), (u.reportAlarm k).power = u.power := by
    intro k u
    unfold State.reportAlarm
    dsimp only
    split
    · rfl
    · exact State.occur_power _ _ _ _
  exact (halarm 1 _).trans (halarm 0 _)

theorem State.countWakes_power (m : Nat) (s : State) : (s.countWakes m).power = s.power := by
  refine foldl_power (fun s k => ?_) _ _
  split <;> rfl

theorem State.startApplet_power (s : State) : s.startApplet.power = s.power := by
  unfold State.startApplet
  dsimp only
  split <;> rfl

theorem State.takeStartStep_power (s : State) : s.takeStartStep.power = s.power := by
  unfold State.takeStartStep
  dsimp only
  split <;> rfl

theorem State.advanceStart_power (s : State) : s.advanceStart.power = s.power := by
  have hsteps : ∀ n (u : State), (State.advanceStartN n u).power = u.power := by
    intro n
    induction n with
    | zero => exact fun _ => rfl
    | succ n ih =>
      intro u
      rw [State.advanceStartN]
      split
      · exact (ih _).trans u.takeStartStep_power
      · rfl
  exact hsteps 4 s

/-- R513: the wake mask that is kept is what stood latched when HOST_RDY rose. -/
theorem State.reportWake_lastWakeMask (us : Nat) (low : Mode) (s : State) :
    (s.reportWake us low).power.lastWakeMask = s.power.wakeLatched := by
  unfold State.reportWake
  dsimp only
  rw [State.reportAlarms_power, State.reportWithdrawn_power]
  show (State.occur _ _ _ _).power.lastWakeMask = _
  rw [State.occur_power, State.modeChanged, State.occur_power]
  split
  · rw [State.bump_power, State.countWakes_power]
  · rw [State.countWakes_power]

/-- R512, R513: the mask that a wake reports, past the reset that it applied. -/
theorem State.wakeUp_lastWakeMask {us : Nat} {s : State} (hlow : s.power.mode.low = true) (hlatched : s.power.wakeLatched ≠ 0) :
    (s.wakeUp us).power.lastWakeMask = s.applyParams.applyLatchedReset.power.wakeLatched := by
  have hwakes : ¬ (!s.power.mode.low || s.power.wakeLatched == 0) = true := by
    rw [hlow]
    exact fun h => hlatched (beq_iff_eq.mp h)
  have hpower : ∀ (u : State) (r : ResetUnit), (State.advanceStart { u.startApplet with rst := r }).power = u.power := by
    intro u r
    rw [State.advanceStart_power]
    exact u.startApplet_power
  have heq : s.wakeUp us = State.advanceStart { (s.restoreUnits.reportWake us s.power.mode).startApplet with
      rst := { (s.restoreUnits.reportWake us s.power.mode).startApplet.rst with startStep := 3 } } := if_neg hwakes
  rw [heq, hpower, State.reportWake_lastWakeMask, State.restoreUnits_power]

/-- R69, R70, R93, R510: a part in Sleep with a wake source and HP_RST_N latched, and the reply of a DEVICE_RESET still in Q01. -/
def wakingUnderReset : State :=
  { power := { mode := .sleep, wakeLatched := 1 }, port := { resetLatched := true }
    queues := modAt 1 (fun q => { q with entries := [{ data := [], tag := .deviceReset 3 }] }) State.reset.queues }

/-- R70, R93, R95: the host-port reset drops the reply, which starts the device reset: it clears what had woken the part. -/
theorem wakeLatched_wakingUnderReset : wakingUnderReset.applyParams.applyLatchedReset.power.wakeLatched = 0 := by decide +kernel

/-- Refutes O35: a latched HP_RST_N that drops the reply of a DEVICE_RESET resets the part, so a wake need not report the sources
that had been latched. -/
theorem not_lowPowerRowsComplete : ¬ Obligations.LowPowerRowsComplete := by
  unfold Obligations.LowPowerRowsComplete
  intro h
  obtain ⟨-, -, -, hwake, -⟩ := h wakingUnderReset 0 0 [] 0 []
  obtain ⟨t, ht, -, -, -, hmask, -⟩ := hwake (by decide) (by decide)
  have hnext : wakingUnderReset.wakeUp 0 = t := Host.Outcome.next.inj ht
  rw [← hnext, State.wakeUp_lastWakeMask (by decide) (by decide), wakeLatched_wakingUnderReset] at hmask
  exact absurd hmask (by decide)

end Sys2Proof.Machine

/-! PROOFS. Where a step has no next state: accesses of a core to registers that R414 does not publish (R400, R414). -/
namespace Sys2Proof.Machine
open Sys2Proof.Claims

/-! The registers that stop a computation -/

/-- If the computation stops at a register that R414 does not publish, it is one of `P`. -/
def Stops {α : Type} (P : Nat → Prop) (x : TR α) : Prop := ∀ a, x = .error (.unpublished a) → P a

/-- The effect of an instruction on its core stops at none. -/
def EffStays (eff : Nat → Trowel → TR Trowel) : Prop := ∀ P imm t, Stops P (eff imm t)

/-- An effect stops at none. -/
def CoreOp.Stays (f : CoreOp) : Prop := ∀ P c imm s, Stops P (f c imm s)

section Stops
variable {α β : Type} {P : Nat → Prop}

@[simp] theorem Stops.ok (v : α) : Stops P (.ok v : TR α) := fun _ h => nomatch h

@[simp] theorem Stops.pure (v : α) : Stops P (Pure.pure v : TR α) := fun _ h => nomatch h

@[simp] theorem Stops.trapOut (n : Nat) : Stops P (trapOut n : TR α) := fun _ h => nomatch h

/-- A sequence stops where its first part stops, or the rest that follows it. -/
@[simp] theorem stops_bind {x : TR α} {f : α → TR β} : Stops P (x >>= f) ↔ Stops P x ∧ ∀ v, x = .ok v → Stops P (f v) := by
  cases x with
  | error e =>
    refine ⟨fun h => ⟨fun a ha => h a ?_, fun v hv => nomatch hv⟩, fun h a ha => h.1 a ?_⟩
    · cases ha; rfl
    · cases ha; rfl
  | ok v =>
    refine ⟨fun h => ⟨.ok v, fun w hw => ?_⟩, fun h => h.2 v rfl⟩
    cases hw
    exact h

@[simp] theorem stops_map {x : TR α} {f : α → β} : Stops P (f <$> x) ↔ Stops P x := by
  cases x with
  | error e =>
    refine ⟨fun h a ha => h a ?_, fun h a ha => h a ?_⟩
    · cases ha; rfl
    · cases ha; rfl
  | ok v => exact ⟨fun _ => .ok v, fun _ => .ok (f v)⟩

theorem Stops.bind {x : TR α} {f : α → TR β} (hx : Stops P x) (hf : ∀ v, Stops P (f v)) : Stops P (x >>= f) :=
  stops_bind.mpr ⟨hx, fun v _ => hf v⟩

@[simp] theorem Stops.ite {x y : TR α} {p : Prop} [Decidable p] (hx : Stops P x) (hy : Stops P y) : Stops P (if p then x else y) := by
  split
  · exact hx
  · exact hy

end Stops

section Core
variable {P : Nat → Prop} (t : Trowel) (a v : Nat)

@[simp] theorem Stops.pop : Stops P t.pop := by
  unfold Trowel.pop
  split
  · exact .trapOut 3
  · exact .ite (.ok _) (.ok _)

@[simp] theorem Stops.push : Stops P (t.push v) := .ite (.ok _) (.ite (.trapOut 2) (.ite (.trapOut 6) (.ok _)))
@[simp] theorem Stops.popW : Stops P t.popW := .bind (.pop t) fun _ => .bind (.pop _) fun _ => .pure _
@[simp] theorem Stops.pushW : Stops P (t.pushW v) := .bind (.push t _) fun _ => .push _ _
@[simp] theorem Stops.peek : Stops P (t.peek v) := .ite (.ok _) (.ite (.ok _) (.trapOut 3))
@[simp] theorem Stops.rsPush : Stops P (t.rsPush v) := .ite (.ok _) (.trapOut 4)

@[simp] theorem Stops.rsPop : Stops P t.rsPop := by
  unfold Trowel.rsPop
  split
  · exact .trapOut 5
  · exact .ok _

@[simp] theorem Stops.load : Stops P (t.load a) := .ite (.ok _) (.trapOut 6)
@[simp] theorem Stops.store : Stops P (t.store a v) := .ite (.ok _) (.trapOut 6)
@[simp] theorem Stops.loadW : Stops P (t.loadW a) := .bind (.load t _) fun _ => .bind (.load t _) fun _ => .pure _
@[simp] theorem Stops.storeW : Stops P (t.storeW a v) := .bind (.store t _ _) fun _ => .store _ _ _
@[simp] theorem Stops.getBit : Stops P (t.getBit a) := .ite (.ok _) (.trapOut 6)
@[simp] theorem Stops.setBit (b : Bool) : Stops P (t.setBit a b) := .ite (.ok _) (.trapOut 6)
@[simp] theorem Stops.bitNumber : Stops P (bitNumber v) := .ite (.ok _) (.trapOut 1)
@[simp] theorem Stops.cpOf : Stops P (cpOf v) := .ite (.trapOut 7) (.ok _)

end Core

theorem onCore_stays {eff : Nat → Trowel → TR Trowel} (h : EffStays eff) : (onCore eff).Stays :=
  fun P _ imm _ => .bind (h P imm _) fun _ => .pure _

/-! The effects that are not a chain of pops, memory and pushes (R405–R408, R411) -/

section Families
variable (f : Nat → Nat) (g : Nat → Nat → Nat)

theorem unaryB_stays : EffStays (unaryB f) := fun _ _ t => .bind (.pop t) fun _ => .push _ _
theorem binaryB_stays : EffStays (binaryB g) := fun _ _ t => .bind (.pop t) fun _ => .bind (.pop _) fun _ => .push _ _
theorem unaryW_stays : EffStays (unaryW f) := fun _ _ t => .bind (.popW t) fun _ => .pushW _ _
theorem binaryW_stays : EffStays (binaryW g) := fun _ _ t => .bind (.popW t) fun _ => .bind (.popW _) fun _ => .pushW _ _
theorem testW_stays (p : Nat → Nat → Bool) : EffStays (testW p) := fun _ _ t => .bind (.popW t) fun _ => .bind (.popW _) fun _ => .push _ _

theorem cpgo_stays (n : Nat) (ranges : List Nat → List (Nat × Nat)) (f : List Nat → Trowel → Nat × Trowel) : EffStays (cpgo n ranges f) :=
  fun _ _ t => .ite (.pure _) (.bind (.pop t) fun _ => .ite (.pure _) (.trapOut 8))

theorem cp2_stays (n : Nat) (h : Nat → Nat → Nat × Nat) : EffStays (cp2 n h) := cpgo_stays _ _ _

end Families

theorem effLoop_stays : EffStays effLoop := by
  refine fun P imm t => .bind (.popW t) fun p => ?_
  dsimp only
  split
  · exact .trapOut 9
  · exact .pure _

theorem effLbrk_stays : EffStays effLbrk := by
  intro P imm t
  unfold effLbrk
  split <;> exact .ok _

theorem effCpset_stays : EffStays effCpset := fun _ _ _ => .bind (.cpOf _) fun _ => .bind (.pop _) fun _ => .bind (.popW _) fun _ => .pure _
theorem effCpget_stays : EffStays effCpget := fun _ _ _ => .bind (.cpOf _) fun _ => .bind (.pop _) fun _ => .pushW _ _
theorem effCpwait_stays : EffStays effCpwait := fun _ _ _ => .bind (.cpOf _) fun _ => .ite (.pure _) (.push _ _)

theorem effRet_stays : effRet.Stays :=
  fun _ _ _ _ => .bind (.rsPop _) fun _ => .ite (.trapOut 6) (.pure _)

theorem effBranch_stays (want : Bool) (put : Option Bool) : (effBranch want put).Stays := by
  refine fun P c imm s => .bind (.getBit _ _) fun b => .ite ?_ (.pure _)
  cases put with
  | none => exact .pure _
  | some v => exact .bind (.setBit _ _ _) fun _ => .pure _

theorem effWaitIdle_stays : effWaitIdle.Stays := fun _ _ _ _ => .ite (.ok _) (.ok _)

/-! The services (R420) -/

section Services
variable {P : Nat → Prop} (c : Nat) (s : State)

@[simp] theorem Stops.statePop : Stops P (s.popW c) := .bind (.popW _) fun _ => .pure _
@[simp] theorem Stops.statePopB : Stops P (s.popB c) := .bind (.pop _) fun _ => .pure _
@[simp] theorem Stops.statePush (w : Nat) : Stops P (s.pushW c w) := .bind (.pushW _ _) fun _ => .pure _
@[simp] theorem Stops.statePushB (b : Nat) : Stops P (s.pushB c b) := .bind (.push _ _) fun _ => .pure _
@[simp] theorem Stops.popGpios : Stops P (s.popGpios c) := .bind (.statePop c s) fun _ => .bind (.statePop c _) fun _ => .pure _

@[simp] theorem Stops.loadBytes (t : Trowel) (a n : Nat) : Stops P (t.loadBytes a n) := by
  induction n generalizing a with
  | zero => exact .ok _
  | succ n ih => exact .bind (.load t a) fun _ => .bind (ih (a + 1)) fun _ => .pure _

@[simp] theorem Stops.storeBytes (t : Trowel) (a : Nat) (v : Bytes) : Stops P (t.storeBytes a v) := by
  induction v generalizing a t with
  | nil => exact .ok _
  | cons b r ih => exact .bind (.store t a _) fun u => ih u (a + 1)

end Services

/-! The I/O space (R414, R417) -/

/-- Where the I/O space stops core `c`: anywhere on Trowel-S, whose map is not published, and the reserved part on Trowel-H. -/
def beyond (c a : Nat) : Prop := c = 1 ∨ (0x2000 ≤ a ∧ a ≤ 0xEFFF)

section Io
variable (a v : Nat) (s : State)

theorem reserved_of_within {a : Nat} (h : within 0x2000 0xEFFF a = true) : 0x2000 ≤ a ∧ a ≤ 0xEFFF := by
  simpa only [within, Bool.and_eq_true, decide_eq_true_eq] using h

theorem Stops.ioRead (c : Nat) : Stops (beyond c) (s.ioRead a) := by
  unfold State.ioRead
  split
  case isTrue hin =>
    intro b hb
    cases hb
    exact .inr (reserved_of_within hin)
  case isFalse => exact .ite (.ok _) (.ite (.ok _) (.ite (.ok _) (.ite (.ok _) (.ite (.ok _) (.ok _)))))

theorem Stops.ioWrite (c : Nat) : Stops (beyond c) (s.ioWrite a v) := by
  unfold State.ioWrite
  split
  case isTrue hin =>
    intro b hb
    cases hb
    exact .inr (reserved_of_within hin)
  case isFalse => exact .ite (.ok _) (.ite (.ok _) (.ite (.ok _) (.ite (.ok _) (.ite (.ok _) (.ok _)))))

/-- R400: the map of Trowel-S is not published. -/
theorem stops_steward {α : Type} {c : Fin 2} (h : c.val ≠ 0) : Stops (beyond c.val) (.error (.unpublished a) : TR α) := by
  intro b _
  exact .inl (by omega)

@[simp] theorem Stops.instrRead (c : Fin 2) : Stops (beyond c.val) (s.instrRead c.val a) := by
  unfold State.instrRead
  split
  · exact stops_steward _ ‹_›
  · exact .ite (.trapOut 6) (.ioRead _ _ _)

@[simp] theorem Stops.instrWrite (c : Fin 2) : Stops (beyond c.val) (s.instrWrite c.val a v) := by
  unfold State.instrWrite
  split
  · exact stops_steward _ ‹_›
  · exact .ite (.trapOut 6) (.ioWrite _ _ _ _)

end Io

/-! Steps (R404, R410) -/

/-- The step has a next state, or stops at a register of `P`. -/
def CompletesBut (P : Nat → Prop) (r : Step) : Prop := (∃ t, r = .next t) ∨ ∃ a, P a ∧ r = .refused (.unpublishedRegister a)

theorem CompletesBut.next {P : Nat → Prop} (t : State) : CompletesBut P (.next t) := .inl ⟨t, rfl⟩

theorem trowelStep_completes {P : Nat → Prop} {c : Nat} {s : State} {r : TR State} (h : Stops P r) : CompletesBut P (trowelStep c s r) := by
  match r, h with
  | .ok t, _ => exact .next t
  | .error (.trap n), _ => exact .next _
  | .error (.unpublished a), h => exact .inr ⟨a, h a rfl, rfl⟩

theorem trowelRow_completes {P : Nat → Prop} {c : Nat} {f : CoreOp} {s : State} {p : Nat → Bool} (h : ∀ imm u, Stops P (f c imm u)) :
    CompletesBut P (trowelRow p f c s) := by
  have hdo : Stops P (trowelDo c f s) := .bind (h _ _) fun _ => .ite (.pure _) (.pure _)
  unfold trowelRow
  dsimp only
  split
  · exact trowelStep_completes hdo
  · exact .next s

/-- A row whose effect stays out of the I/O space. -/
theorem row_next {c : Nat} {f : CoreOp} {s : State} {p : Nat → Bool} (h : f.Stays) : ∃ t, trowelRow p f c s = .next t :=
  (trowelRow_completes (P := fun _ => False) fun _ _ => h _ _ _ _).resolve_right fun ⟨_, hfalse, _⟩ => hfalse

theorem cpRow_next {n k c : Nat} {eff : Nat → Trowel → TR Trowel} {s : State} (h : EffStays eff) : ∃ t, cpRow n k eff c s = .next t := by
  unfold cpRow
  split
  · exact row_next (onCore_stays h)
  · exact ⟨s, rfl⟩

theorem sysRow_next {n : Nat} {f : CoreOp} {s : State} (h : f.Stays) : ∃ t, sysRow n f s = .next t := by
  unfold sysRow
  split
  · exact row_next h
  · exact ⟨s, rfl⟩

theorem ioRow_completes {c : Fin 2} {f : CoreOp} {s : State} {i : Instr} {p : Nat → Bool} (hi : reachesIo i = some c.val)
    (hexec : exec i s = trowelRow p f c.val s) (h : ∀ imm u, Stops (beyond c.val) (f c.val imm u)) :
    (∃ t, exec i s = .next t) ∨ ∃ c a, reachesIo i = some c ∧ (c = 1 ∨ (0x2000 ≤ a ∧ a ≤ 0xEFFF)) ∧ exec i s = .refused (.unpublishedRegister a) := by
  rw [hexec]
  exact (trowelRow_completes h).imp_right fun ⟨a, ha, hr⟩ => ⟨c.val, a, hi, ha, hr⟩

theorem execCpset_next (core : Fin 2) (s : State) : ∃ t, execCpset core s = .next t := row_next (onCore_stays effCpset_stays)
theorem execCpget_next (core : Fin 2) (s : State) : ∃ t, execCpget core s = .next t := row_next (onCore_stays effCpget_stays)
theorem execCpwait_next (core : Fin 2) (s : State) : ∃ t, execCpwait core s = .next t := row_next (onCore_stays effCpwait_stays)

theorem execWaitIdle_next (core : Fin 2) (s : State) : ∃ t, execWaitIdle core s = .next t := by
  unfold execWaitIdle
  dsimp only
  split
  · exact ⟨s, rfl⟩
  · exact row_next effWaitIdle_stays

theorem execTrap_next (core : Fin 2) (s : State) : ∃ t, execTrap core s = .next t := by
  unfold execTrap
  split
  · exact ⟨_, rfl⟩
  · split <;> exact ⟨_, rfl⟩

/-- Settles O58: only the I/O instructions reach the I/O space, and a register write of firmware. -/
theorem onlyUnpublishedRegistersStop : Obligations.OnlyUnpublishedRegistersStop := by
  intro i s
  -- `over` alone is a token of Mathlib's: its case is reached by its full tag
  refine ?rows
  cases i
  case inIo => exact ioRow_completes rfl rfl (by simp [effIn])
  case outIo => exact ioRow_completes rfl rfl (by simp [effOut])
  case ina => exact ioRow_completes rfl rfl (by simp [effIna])
  case outa => exact ioRow_completes rfl rfl (by simp [effOuta])
  case inw => exact ioRow_completes rfl rfl (by simp [effInw])
  case outw => exact ioRow_completes rfl rfl (by simp [effOutw])
  case registerWrite a v =>
    exact (trowelStep_completes (.ioWrite _ _ s 0)).imp_right fun ⟨b, hb, hr⟩ => ⟨0, b, rfl, hb, hr⟩
  case shl | shr | asr | inc | dec | trowelNeg | notByte | zeq | par | brev => exact .inl (row_next (onCore_stays (unaryB_stays _)))
  case trowelAdd | trowelSub | trowelAnd | trowelOr | trowelXor | eq | ne | ltu | leu | lts | les =>
    exact .inl (row_next (onCore_stays (binaryB_stays _)))
  case incw | decw | shlw | shrw | brevw => exact .inl (row_next (onCore_stays (unaryW_stays _)))
  case addw | subw | andw | orw | xorw => exact .inl (row_next (onCore_stays (binaryW_stays _)))
  case eqw | ltuw | ltsw => exact .inl (row_next (onCore_stays (testW_stays _)))
  case trowelNop | lit8 | lit16 | drop | dup | swap | rows.over | rot | dropw | dupw | swapw | overw | pick | toR | rFrom | rFetch =>
    exact .inl (row_next (onCore_stays (by simp [EffStays, effNop, effLit8, effLit16, effDrop, effDup, effSwap, effOver, effRot, effDropw,
      effDupw, effSwapw, effOverw, effPick, effToR, effRFrom, effRFetch])))
  case addc | subb | mulu | ext | zeqw =>
    exact .inl (row_next (onCore_stays (by simp [EffStays, effAddc, effSubb, effMulu, effExt, effZeqw])))
  case ld | st | ldw | stw | lda | sta | ldaw | staw | ldp | stp | ldc | ldcf =>
    exact .inl (row_next (onCore_stays (by simp [EffStays, effLd, effSt, effLdw, effStw, effLda, effSta, effLdaw, effStaw, effLdp, effStp,
      effLdc, effLdcf])))
  case bset | bclr | bcpl | bpush | bpop | bpushi | bpopi =>
    exact .inl (row_next (onCore_stays (by simp [EffStays, effBset, effBclr, effBcpl, effBpush, effBpop, effBpushi, effBpopi])))
  case trowelJmp | jr | jz | jnz | call | callf | reti | jmpi | calli | jmpf | ei | di =>
    exact .inl (row_next (onCore_stays (by simp [EffStays, effJmp, effJr, effJz, effJnz, effCall, effCallf, effReti, effJmpi, effCalli,
      effJmpf, effEi, effDi])))
  case ret => exact .inl (row_next effRet_stays)
  case trowelLoop => exact .inl (row_next (onCore_stays effLoop_stays))
  case lbrk => exact .inl (row_next (onCore_stays effLbrk_stays))
  case lcnt | crc16 | crc32 => exact .inl (row_next (onCore_stays (by simp [EffStays, effLcnt, effCrc16, effCrc32])))
  case brb1 | brb0 | brb1c | brb0s => exact .inl (row_next (effBranch_stays _ _))
  case cpset => exact .inl (execCpset_next _ _)
  case cpget => exact .inl (execCpget_next _ _)
  case cpwait => exact .inl (execCpwait_next _ _)
  case sha256Init | sha256Update | sha256Final | ed25519Verify | cp2Divu => exact .inl (cpRow_next (cpgo_stays _ _ _))
  case cp2Add | cp2Sub | cp2Mulu | cp2Muls | cp2Cmpu | cp2Shl | cp2Shr => exact .inl (cpRow_next (cp2_stays _ _))
  case replyItem | sysParamGet | sysParamSet | sysJournal | sysGpioWrite | sysGpioRead | sysLog =>
    exact .inl (sysRow_next (by simp [CoreOp.Stays, effReplyItem, effSysParamGet, effSysParamSet, effSysJournal, effSysGpioWrite,
      effSysGpioRead, effSysLog]))
  case waitIdle => exact .inl (execWaitIdle_next _ _)
  case trap => exact .inl (execTrap_next _ _)
  all_goals exact .inl ⟨_, rfl⟩

end Sys2Proof.Machine

/-! PROOFS. The mailbox (R474, R475). -/
namespace Sys2Proof.Machine
open Sys2Proof.Claims

section MailRow
variable {s : State} {m : Mail} {k : Nat} (f : Mail → State → State) (h : s.mail = some m)
include h

/-- R475: a request that is malformed, or of a kind that does not exist, is refused by whichever row comes. -/
theorem mailRow_of_bad (hbad : m.ok = false ∨ mailKind m.kind = false) : s.mailRow k f = (s.takeMail m).refuseMail m .badParam := by
  have hguard : (!m.ok || !mailKind m.kind) = true := by
    rcases hbad with hbad | hbad <;> simp [hbad]
  simp only [State.mailRow, h]
  exact if_pos hguard

/-- R474: a row of another kind leaves the request at the head. -/
theorem mailRow_of_other (hok : m.ok = true) (hkind : mailKind m.kind = true) (hother : m.kind ≠ k) : s.mailRow k f = s := by
  simp only [State.mailRow, h, hok, hkind]
  exact if_pos hother

/-- R475: the row of the request's kind takes it. -/
theorem mailRow_of_kind (hok : m.ok = true) (hkind : mailKind m.kind = true) (hk : m.kind = k) : s.mailRow k f = f m (s.takeMail m) := by
  simp only [State.mailRow, h, hok, hkind]
  exact if_neg (not_not_intro hk)

end MailRow

/-- R482: a journal request comes from the mailbox where the device has none of its own waiting. -/
theorem journalRequest_of_idle {s : State} (happend : s.steward.append = none) (hasked : s.steward.asked = []) (ok : Bool) :
    s.journalRequest ok = s.takeRequest ok := by
  simp only [State.journalRequest, happend, hasked, Option.isSome_none, Bool.false_eq_true, if_false]

/-- R525: a reset by request comes from the mailbox where it holds one. -/
theorem deviceResetRequest_of_mail {m : Mail} {s : State} (h : s.mail = some m) : s.deviceResetRequest = s.mailRow 8 (fun m s =>
    if m.body.length ≠ 1 then s.refuseMail m .badParam else s.stewardReset (requestCause (fieldAt 0 1 m.body))) := by
  simp only [State.deviceResetRequest, h]

/-- R475: what each row of the mailbox is. -/
theorem exec_of_mailRowOf {i : Instr} {k : Nat} {m : Mail} {s : State} (hi : mailRowOf i = some k) (happend : s.steward.append = none)
    (hasked : s.steward.asked = []) (hmail : s.mail = some m) : ∃ f, exec i s = .next (s.mailRow k f) := by
  unfold mailRowOf at hi
  split at hi
  case h_1 ok =>
    cases hi
    exact ⟨_, congrArg Host.Outcome.next (journalRequest_of_idle happend hasked ok)⟩
  case h_6 =>
    cases hi
    exact ⟨_, congrArg Host.Outcome.next (deviceResetRequest_of_mail hmail)⟩
  case h_7 => nomatch hi
  all_goals (cases hi; exact ⟨_, rfl⟩)

/-- Settles O39: every row of the mailbox is `State.mailRow` of its kind. -/
theorem mailboxIsServedInOrder : Obligations.MailboxIsServedInOrder := by
  intro i k m s hi happend hasked hmail
  obtain ⟨f, hexec⟩ := exec_of_mailRowOf hi happend hasked hmail
  refine ⟨fun hok hkind hother => ?_, fun hbad => ?_, _, hexec⟩
  · rw [hexec, mailRow_of_other f hmail hok hkind hother]
  · rw [hexec, mailRow_of_bad f hmail hbad]

end Sys2Proof.Machine

/-! PROOFS. Journal requests, compaction, the event log and how it is exported (R475–R488). -/
namespace Sys2Proof.Machine
open Sys2Proof.Claims

/-! Journal requests (R475, R478, R481, R482) -/

section Request
variable {s : State} {m : Mail} {ok : Bool} {role key need : Nat}

/-- R475: an asked request reaches what serves it. -/
theorem mailRow_of_asked {kind : Nat} {t : State} (f : Mail → State → State) (hkind : mailKind kind = true) (h : Asked kind m s t) :
    s.mailRow kind f = f m t := by
  obtain ⟨hmail, hok, rfl, rfl⟩ := h
  exact mailRow_of_kind f hmail hok hkind rfl

/-- R475, R478: a request whose form is right is checked for its role, its locks, HOLD_READY and room, and then begins its record. -/
theorem serveRequest_of_form (hform : askedForm m.body = true) (hsession : s.stewardSession (fieldAt 0 1 m.body) = some (role, key))
    (hneed : requestRole (fieldAt 2 2 m.body) (askedNew m.body) = some need) : s.serveRequest ok m =
      if role < need then s.refuseMail m .deniedRole
      else if s.requestLocked (fieldAt 2 2 m.body) (askedNew m.body) then s.refuseMail m .deniedLock
      else if !s.power.holdReady then s.answer m .notReady []
      else if !s.journalRoom (askedOld m.body) (askedNew m.body) then s.answer m .nvFull []
      else if !ok then s.nvFault.answer m .nvFault []
      else s.beginAppend (s.journalRecord (requestKind (fieldAt 2 2 m.body)) role key (fieldAt 2 2 m.body) (askedOld m.body)
        (askedNew m.body)) (some m.seq) := by
  have hfits : ¬ (m.body.length < 8 ∨ m.body.length ≠ 8 + fieldAt 4 2 m.body + fieldAt 6 2 m.body ∨ 4096 < fieldAt 4 2 m.body ∨
      4096 < fieldAt 6 2 m.body ∨ fieldAt 1 1 m.body ≠ 0) := by
    simp only [askedForm, Bool.and_eq_true, decide_eq_true_eq] at hform
    omega
  rw [askedNew] at hneed
  simp only [State.serveRequest, if_neg hfits, hsession, hneed, askedOld, askedNew]
  rfl

end Request

/-! Reads of the journal (R485) -/

theorem length_takeRecords (n room : Nat) (l : List JournalRecord) :
    ((takeRecords n room l).1.flatMap JournalRecord.bytes).length ≤ room := by
  induction n, room, l using takeRecords.induct with
  | case1 => exact Nat.zero_le _
  | case2 n room =>
    cases n <;> exact Nat.zero_le _
  | case3 n room r l hlong =>
    rw [takeRecords, if_pos hlong]
    exact Nat.zero_le _
  | case4 n room r l hfits ih =>
    rw [takeRecords, if_neg hfits]
    simp only [List.flatMap_cons, List.length_append]
    omega

/-- R485: a read publishes at most 16 KiB. -/
theorem journalPublish_of_cons {s : State} {w : JournalReadWork} {r : List JournalReadWork} (h : s.steward.journalReads = w :: r) :
    ∃ b, s.journalPublish = ({ s with steward := { s.steward with journalReads := r } } : State).publish w.slot b ∧ b.length ≤ 16384 := by
  simp only [State.journalPublish, h]
  refine ⟨_, rfl, ?_⟩
  have hrecords := length_takeRecords w.max (16384 - 8)
    (s.nv.journal.records.filter (fun r => decide (w.fromJseq ≤ r.jseq) && r.passes w.filter w.filterKind))
  simp only [List.length_append, length_le, zeros, List.length_replicate]
  omega

theorem journalRowsComplete : JournalRowsComplete := by
  intro s t m ok role key need old new id
  refine ⟨?own, ?asked, ?commit, ?commitOwn, ?slice, ?pressed, ?switch, ?begin, fun _ => rfl, ?publish⟩
  case own =>
    intro r happend hasked ht hown
    refine congrArg Host.Outcome.next ((journalRequest_of_idle happend hasked ok).trans ((mailRow_of_asked _ (by decide) ht).trans ?_))
    simp only [hown]
  case asked =>
    intro happend hasked ht hown hform hsession hneed
    have hserve : exec (.journalRequest ok) s = .next (t.serveRequest ok m) := by
      refine congrArg Host.Outcome.next ((journalRequest_of_idle happend hasked ok).trans ((mailRow_of_asked _ (by decide) ht).trans ?_))
      simp only [hown]
    rw [hserve, serveRequest_of_form hform hsession hneed]
    refine ⟨fun hrole => ?_, fun hrole hlocked => ?_, fun hrole hlocked hhold => ?_, fun hrole hlocked hhold hroom => ?_,
      fun hrole hlocked hhold hroom hok => ?_⟩
    · rw [if_pos hrole]
    · rw [if_neg (Nat.not_lt.mpr hrole), if_pos hlocked]
    all_goals rw [if_neg (Nat.not_lt.mpr hrole), if_neg (Bool.eq_false_iff.mp hlocked), hhold]
    · rfl
    all_goals rw [hroom]
    · rfl
    · rw [hok]
      rfl
  case commit =>
    intro r q happend a
    constructor
    all_goals
      refine congrArg Host.Outcome.next ?_
      simp only [State.journalCommit, happend]
      rfl
  case commitOwn =>
    intro r happend
    refine congrArg Host.Outcome.next ?_
    simp only [State.journalCommit, happend, if_true]
  case slice =>
    intro c n hc hstage hpressed
    refine congrArg Host.Outcome.next ?_
    simp only [State.compactionSlice, hc, hstage, hpressed, if_true, Bool.false_eq_true, if_false]
  case pressed =>
    intro c n hc hstage hpressed
    refine congrArg Host.Outcome.next ?_
    simp only [State.compactionSlice, hc, hstage, hpressed, if_true]
  case switch =>
    intro c n hc hstage happend
    refine congrArg Host.Outcome.next ?_
    simp only [State.compactionSlice, hc, if_neg hstage, happend, Option.isSome_none, Bool.false_eq_true, if_false]
  case begin =>
    intro n hc hdue hhold hreset
    refine congrArg Host.Outcome.next ?_
    simp only [State.compactionSlice, hc, hdue, hhold, hreset, Bool.not_false, Bool.and_self, if_true]
  case publish =>
    intro w r h
    obtain ⟨b, hb, hlen⟩ := journalPublish_of_cons h
    exact ⟨_, b, congrArg Host.Outcome.next hb, rfl, rfl, hlen⟩

/-! The event log (R486–R488) -/

/-- R488: what is still to be exported lies at or past the next SEQ. -/
theorem next_le_of_mem_exportRest {x : LogExport} {s : State} {r : LogRecord} (h : r ∈ s.exportRest x) : x.next ≤ r.seq := by
  have hbounds := (List.mem_filter.mp h).2
  simp only [Bool.and_eq_true, decide_eq_true_eq] at hbounds
  exact hbounds.1

/-- R488, R107: an entry of exported records takes up to 32 records and moves past them. -/
theorem exportEntry_of_rest {s : State} {x : LogExport} (h : s.steward.logExport = some x) (hrest : s.exportRest x ≠ [])
    (hroom : s.hasRoom 5 = true) : ∃ y, s.exportEntry.steward.logExport = some y ∧
      y.exported = x.exported + min 32 (s.exportRest x).length ∧ x.next < y.next := by
  have hne : (s.exportRest x).take 32 ≠ [] := by simp [hrest]
  obtain ⟨r, hlast⟩ := Option.ne_none_iff_exists'.mp (mt List.getLast?_eq_none_iff.mp hne)
  have hnext := next_le_of_mem_exportRest (List.mem_of_mem_take (List.mem_of_getLast? hlast))
  have hentry : s.exportEntry.steward.logExport =
      some { x with next := r.seq + 1, exported := x.exported + ((s.exportRest x).take 32).length } := by
    simp only [State.exportEntry, h, hlast, hroom, Bool.not_true, Bool.false_eq_true, if_false]
  exact ⟨_, hentry, congrArg (x.exported + ·) List.length_take, Nat.lt_succ_of_le hnext⟩

theorem logRowsComplete : LogRowsComplete := by
  intro s t m
  refine ⟨?request, ?write, ?entry, ?done⟩
  case request =>
    intro ht hlen
    refine congrArg Host.Outcome.next ((mailRow_of_asked _ (by decide) ht).trans ?_)
    exact if_neg (not_not_intro hlen)
  case write =>
    intro r rest hq hgaps
    refine congrArg Host.Outcome.next ?_
    simp only [State.logWrite, hq, State.putLog, if_true, State.bump_steward, hgaps]
  case entry =>
    intro x hx hrest hroom
    obtain ⟨y, hy⟩ := exportEntry_of_rest hx hrest hroom
    exact ⟨_, y, rfl, hy⟩
  case done =>
    intro x hx hrest
    refine congrArg Host.Outcome.next ?_
    simp only [State.exportDone, hx, hrest, List.isEmpty_nil, Bool.not_true, Bool.false_eq_true, if_false]

/-- Settles O41: the journal's requests and writes, and the log's. -/
theorem journalAndLogRowsComplete : Obligations.JournalAndLogRowsComplete := ⟨journalRowsComplete, logRowsComplete⟩

end Sys2Proof.Machine

/-! PROOFS. Receiver, transmitter and registers of the UARTs (R423–R440). -/
namespace Sys2Proof.Machine
open Sys2Proof.Claims

/-! One UART of the four -/

theorem State.uart_modUart {n : Nat} {s : State} (f : Uart → Uart) (hn : n < s.uarts.length) :
    (s.modUart n f).uart n = f (s.uart n) :=
  (getD_modAt n n f s.uarts {}).trans (if_pos ⟨rfl, hn⟩)

theorem modAt_modAt {α : Type} (n : Nat) (f g : α → α) (l : List α) : modAt n g (modAt n f l) = modAt n (fun a => g (f a)) l := by
  induction l generalizing n with
  | nil => simp only [modAt]
  | cons a r ih =>
    cases n with
    | zero => simp only [modAt]
    | succ n => simp only [modAt, ih n]

/-- Two changes of one UART are one. -/
@[simp] theorem State.modUart_modUart (n : Nat) (f g : Uart → Uart) (s : State) :
    (s.modUart n f).modUart n g = s.modUart n (fun u => g (f u)) :=
  congrArg (fun l => { s with uarts := l }) (modAt_modAt n f g s.uarts)

theorem State.modUart_congr {n : Nat} {f g : Uart → Uart} {s : State} (h : f (s.uart n) = g (s.uart n)) :
    s.modUart n f = s.modUart n g :=
  congrArg (fun l => { s with uarts := l }) (modAt_congr {} h)

theorem State.modUart_eq_self {n : Nat} {f : Uart → Uart} {s : State} (h : f (s.uart n) = s.uart n) : s.modUart n f = s := by
  have hl : modAt n f s.uarts = s.uarts := by
    refine (modAt_congr (g := id) {} h).trans ?_
    exact modAt_eq_self (fun a _ => rfl)
  exact congrArg (fun l => { s with uarts := l }) hl

theorem Posted.uartParam {s t : State} (h : Posted s t) (n k : Nat) : t.uartParam n k = s.uartParam n k := by
  have heq : t = t.posting s := h
  rw [heq]
  rfl

theorem Posted.uarts {s t : State} (h : Posted s t) : t.uarts = s.uarts := by
  have heq : t = t.posting s := h
  rw [heq]
  rfl

/-! The frame (R424, R426, R428) -/

theorem sum_range_eq_flagSum (f : Nat → Bool) (n : Nat) : ((List.range n).map (fun k => b01 (f k) * 2 ^ k)).sum = flagSum f n := by
  induction n with
  | zero => rfl
  | succ n ih =>
    rw [flagSum_succ, List.range_succ, List.map_append, List.sum_append, ih]
    cases hf : f n <;> simp [hf, b01]

theorem framesAreSampledMidBit : FramesAreSampledMidBit := by
  intro cfg div raw stop levels hsir at_ n
  have hsample : sampleOf cfg div levels = at_ := if_neg (by rw [bit, hsir]; exact Bool.false_ne_true)
  have hn : frameBits cfg = n := by
    by_cases hp : cfgParity cfg = 0 <;> simp [frameBits, n, hp, b01]
  have hframe : uartFrame cfg div levels =
      if at_ 8 then .noise else .frame (flagSum (fun k => at_ (24 + 16 * k)) n) (at_ (24 + 16 * n)) := by
    rw [uartFrame, hsample, hn, ← sum_range_eq_flagSum]
  rw [hframe]
  cases h8 : at_ 8 with
  | true => exact ⟨⟨fun _ => rfl, fun _ => rfl⟩, fun h => by cases h⟩
  | false =>
    refine ⟨⟨fun h => (by cases h), fun h => (by cases h)⟩, fun h => ?_⟩
    cases h
    exact ⟨flagSum_lt _ n, fun k hk => testBit_flagSum _ hk, rfl⟩

/-! The receiver (R425, R428–R433) -/

theorem State.characterReceived_of_receives {n : Nat} {x : UartLine} {s : State} (h : receives n x.began (s.latchRx n x.began) = true) :
    s.characterReceived n x =
      match uartFrame ((s.latchRx n x.began).uart n).rxCfg ((s.latchRx n x.began).uart n).rxDiv x.levels with
      | .noise => (s.latchRx n x.began).bump (0x40 + n) 6
      | .frame raw stop => (s.latchRx n x.began).frameEnd n raw stop := by
  rw [receives, Bool.and_assoc, Bool.and_eq_true] at h
  obtain ⟨hruns, hrx⟩ := h
  have hs : s.uartRuns n = true := hruns
  rw [State.characterReceived, hs]
  exact if_pos hrx

theorem uartReceiverCompletes : UartReceiverCompletes := by
  intro n s x raw stop u c t sampled
  refine ⟨?noise, ?frame, ?idle, ?flush⟩
  case noise =>
    intro hr hs
    refine congrArg Host.Outcome.next ((State.characterReceived_of_receives hr).trans ?_)
    rw [show uartFrame (t.uart n.val).rxCfg (t.uart n.val).rxDiv x.levels = .noise from hs]
  case frame =>
    intro hr hs
    refine congrArg Host.Outcome.next ((State.characterReceived_of_receives hr).trans ?_)
    rw [show uartFrame (t.uart n.val).rxCfg (t.uart n.val).rxDiv x.levels = .frame raw stop from hs]
  case idle =>
    intro hr hi hm hrx
    refine congrArg Host.Outcome.next (if_neg ?_)
    simp [hr, show (s.uart n.val).idleDone = false from hi, show cfgMark (s.uartParam n.val 0) = 2 from hm,
      show cfgRxEn (s.uartParam n.val 0) = true from hrx]
  case flush =>
    intro hr hb hblock
    refine congrArg Host.Outcome.next (if_pos ?_)
    simp [hr, show blockReceives (s.uartParam n.val 0) = true from hb, bits, show (s.uart n.val).block / 256 % 256 ≠ 0 from hblock]

/-! What the block logic leaves as it was (R433) -/

/-- The parameters, and UART `n`'s receive FIFO and the format of its frames, are those of `s` in `t`. -/
structure Blocked (n : Nat) (s t : State) : Prop where
  param : ∀ m k, t.uartParam m k = s.uartParam m k
  length : t.uarts.length = s.uarts.length
  rx : (t.uart n).rx = (s.uart n).rx
  cfg : (t.uart n).rxCfg = (s.uart n).rxCfg

theorem Blocked.of_uarts {n : Nat} {s t : State} (hp : ∀ m k, t.uartParam m k = s.uartParam m k) (hu : t.uarts = s.uarts) :
    Blocked n s t where
  param := hp
  length := congrArg List.length hu
  rx := congrArg (fun l : List Uart => (l.getD n {}).rx) hu
  cfg := congrArg (fun l : List Uart => (l.getD n {}).rxCfg) hu

theorem Blocked.refl (n : Nat) (s : State) : Blocked n s s := .of_uarts (fun _ _ => rfl) rfl

theorem Blocked.trans {n : Nat} {s t u : State} (h : Blocked n s t) (h' : Blocked n t u) : Blocked n s u where
  param := fun m k => (h'.param m k).trans (h.param m k)
  length := h'.length.trans h.length
  rx := h'.rx.trans h.rx
  cfg := h'.cfg.trans h.cfg

theorem Blocked.ite {n : Nat} {s t u : State} {c : Prop} [Decidable c] (h : Blocked n s t) (h' : Blocked n s u) :
    Blocked n s (if c then t else u) := by
  split
  · exact h
  · exact h'

theorem Posted.blocked {s t : State} (n : Nat) (h : Posted s t) : Blocked n s t := .of_uarts h.uartParam h.uarts

theorem Blocked.commit (n : Nat) (s : State) : Blocked n s (s.blockCommit n) :=
  .ite (.refl n s) (.trans (t := (s.modQueue (24 + n) (fun q => { q with cell := [] })).bump (0x40 + n) 10)
    (.of_uarts (fun _ _ => rfl) rfl) ((Posted.offer _ _ _).blocked n))

theorem Blocked.latch {n : Nat} {s : State} (hn : n < s.uarts.length) : Blocked n s (s.latchBlock n) :=
  have hu := State.uart_modUart (fun u => { u with block := s.uartParam n 5 }) hn
  .ite ⟨fun _ _ => rfl, length_modAt _ _ _, by rw [hu], by rw [hu]⟩ (.refl n s)

theorem Blocked.store {n : Nat} {s : State} (ch : Nat) (hn : n < s.uarts.length) : Blocked n s (s.blockStore n ch) := by
  have h1 : Blocked n s (if cfgMark (s.uart n).rxCfg = 1 ∧ bit 8 ch then s.blockCommit n else s) :=
    .ite (.commit n s) (.refl n s)
  have h2 := h1.trans (.latch (h1.length.symm ▸ hn))
  have h3 := h2.trans (u := State.modQueue (24 + n) (fun q =>
    { q with cell := q.cell ++ le (charBytes (s.uart n).rxCfg) (ch % 512) }) _) (.of_uarts (fun _ _ => rfl) rfl)
  exact .ite (h3.trans (.commit n _)) h3

theorem Blocked.stores {n : Nat} (l : List Nat) {s : State} (hn : n < s.uarts.length) :
    Blocked n s (l.foldl (fun t ch => t.blockStore n ch) s) := by
  induction l generalizing s with
  | nil => exact .refl n s
  | cons ch r ih =>
    have h := Blocked.store ch hn
    exact h.trans (ih (h.length.symm ▸ hn))

/-- R433: the block logic leaves the receive FIFO empty. -/
theorem State.blockDrain_blocked {n : Nat} {s : State} (hn : n < s.uarts.length) :
    Blocked n (s.modUart n (fun u => { u with rx := [] })) (s.blockDrain n) :=
  .stores _ ((length_modAt _ _ _).symm ▸ hn)

/-! A sound character (R429, R433) -/

theorem Uart.raise_zero (u : Uart) : u.raise 0 = u := by
  have hx : (fun x : Nat => Nat.xor x (Nat.land x 0)) = id := funext fun x => by
    show x ^^^ (x &&& 0) = x
    simp
  have hf : Nat.lor u.flags 0 = u.flags := Nat.or_zero u.flags
  rw [Uart.raise, hx, hf, Option.map_id]
  rfl

/-- R428, R431: the end of a frame without faults or address matching stores its character. -/
theorem State.frameEnd_of_sound {n raw : Nat} {s : State} (ha : cfgAddrMatch (s.uart n).rxCfg = false)
    (hp : cfgParity (s.uart n).rxCfg = 0) (hn : n < s.uarts.length) :
    s.frameEnd n raw true =
      (s.modUart n (fun u => { u with idleDone := false })).storeChar n (raw % 2 ^ cfgDataBits (s.uart n).rxCfg) 0 0 := by
  have hf (addr data : Nat) (muted : Bool) : addressFilter (s.uart n).rxCfg addr data muted = (true, muted) := by
    simp [addressFilter, ha]
  have hm : (s.modUart n (fun u => { u with idleDone := false })).modUart n (fun u =>
      { u with muted := ((s.modUart n (fun u => { u with idleDone := false })).uart n).muted }) =
        s.modUart n (fun u => { u with idleDone := false }) := by
    refine State.modUart_eq_self ?_
    rw [State.uart_modUart _ hn]
  simp only [State.frameEnd, hf, hm, hp, ha, parityWrong, if_true, Bool.not_true, Bool.and_false, Bool.false_eq_true, if_false,
    Bool.false_and, b01, Nat.mul_zero, Nat.add_zero]

/-- `ch` goes into the receive FIFO of UART `n`, under the UART_FLOW in force (R429, R438). -/
def State.takeChar (n ch : Nat) (s : State) : State :=
  (s.modUart n (fun u => { u with rx := u.rx ++ [ch], flow := s.uartParam n 3 })).bump (0x40 + n) 0

theorem State.storeChar_of_room {n : Nat} {s : State} (ch : Nat) (hlen : (s.uart n).rx.length < 64)
    (hb : blockReceives (s.uart n).rxCfg = false) : s.storeChar n ch 0 0 = (s.takeChar n ch).updateRts n := by
  simp only [State.storeChar, State.takeChar, hb, Bool.false_eq_true, if_false, Nat.not_le.mpr hlen, if_true, Uart.raise_zero]

theorem State.storeChar_of_full {n : Nat} {s : State} (ch : Nat) (hlen : 64 ≤ (s.uart n).rx.length)
    (hb : blockReceives (s.uart n).rxCfg = false) :
    s.storeChar n ch 0 0 = ((s.modUart n (Uart.raise 2)).bump (0x40 + n) 4).uartEvent n 1 ch := by
  simp only [State.storeChar, hb, Bool.false_eq_true, if_false, hlen, if_true, show Nat.lor 0 1 = 1 from rfl]

theorem State.storeChar_of_served {n : Nat} {s : State} (ch : Nat) (hn : n < s.uarts.length)
    (hb : blockReceives (s.uart n).rxCfg = true) :
    s.storeChar n ch 0 0 = (((s.blockDrain n).takeChar n ch).blockDrain n).updateRts n := by
  have hempty : ((s.blockDrain n).uart n).rx = [] := by
    rw [(State.blockDrain_blocked hn).rx, State.uart_modUart _ hn]
  have hroom : ¬ 64 ≤ ([] : List Nat).length := by decide
  simp only [State.storeChar, State.takeChar, hb, if_true, hempty, Uart.raise_zero, hroom, if_false]

theorem soundCharacterIsStored : SoundCharacterIsStored := by
  intro n s raw c t ha hp hn ch
  have ht : t.uart n.val = { s.uart n.val with idleDone := false } := State.uart_modUart _ hn
  have hnt : n.val < t.uarts.length := (length_modAt _ _ _).symm ▸ hn
  have hrx : (t.uart n.val).rx = (s.uart n.val).rx := by rw [ht]
  have hcfg : (t.uart n.val).rxCfg = c := by rw [ht]
  rw [State.frameEnd_of_sound ha hp hn]
  refine ⟨fun hlen hb => ?stored, fun hlen hb => ?lost, fun hb => ?block⟩
  case stored => exact State.storeChar_of_room ch (hrx.symm ▸ hlen) (hcfg.symm ▸ hb)
  case lost => exact State.storeChar_of_full ch (hrx.symm ▸ hlen) (hcfg.symm ▸ hb)
  case block =>
    have hparam : (t.blockDrain n.val).uartParam n.val 3 = s.uartParam n.val 3 := (State.blockDrain_blocked hnt).param n.val 3
    rw [← hparam]
    exact State.storeChar_of_served ch hnt (hcfg.symm ▸ hb)

/-! The transmitter (R434, R435, R437) -/

/-- What a start edge does to the UART's own state: DE leads it in a new run (R435). -/
def State.edged (n cfg div : Nat) (s : State) (u : Uart) : Uart :=
  if u.de then { u with edgeAt := s.up, de := bit 24 cfg }
  else { u with
    de := bit 24 cfg, deLag := samplesQt div (bits 15 8 (s.uartParam n 4))
    edgeAt := s.up + if bit 24 cfg then samplesQt div (bits 7 0 (s.uartParam n 4)) else 0 }

theorem State.startEdge_eq (n cfg div : Nat) (s : State) : s.startEdge n cfg div = s.modUart n (s.edged n cfg div) := (rfl)

/-- What the end of a run does to the UART's own state: DE falls after its lag (R435). -/
def Uart.released (up : Nat) (u : Uart) : Uart :=
  { u with de := false, deFall := if u.de then some (up + u.deLag) else u.deFall }

theorem State.endRun_eq (n : Nat) (s : State) : s.endRun n = s.modUart n (Uart.released s.up) := (rfl)

/-- The character boundary of UART `n`: what `characterTransmit` does before it looks for the next character (R434). -/
def Uart.boundary (cfg up : Nat) (cts : Bool) (u : Uart) : Uart :=
  { u with ctsHigh := cts, shifter := none, txMode := cfg, sentAt := if u.shifter.isSome then some up else u.sentAt }

/-- R434: the character `ch` goes into the shifter of UART `n`. -/
def Uart.shift (ch : Nat) (r : List Nat) (cfg div : Nat) (u : Uart) : Uart :=
  { u with tx := r, shifter := some ch, txCfg := cfg, txDiv := div }

theorem State.characterTransmit_of_next {n ch : Nat} {cts : Bool} {r : List Nat} {s : State} (hruns : s.uartRuns n = true)
    (hbrk : (s.uart n).brk = 0) (htx : (s.uart n).tx = ch :: r) (hen : cfgTxEn (s.uartParam n 0) = true)
    (hcts : bit 23 (s.uartParam n 0) = false ∨ cts = false) (hn : n < s.uarts.length) :
    s.characterTransmit n cts = (s.modUart n (fun u => (s.edged n (s.uartParam n 0) (s.uartParam n 1)
      (u.boundary (s.uartParam n 0) s.up cts)).shift ch r (s.uartParam n 0) (s.uartParam n 1))).bump (0x40 + n) 1 := by
  have hu := State.uart_modUart (Uart.boundary (s.uartParam n 0) s.up cts) hn
  have hnot : ¬ ((!s.uartRuns n) = true ∨ (s.uart n).brk = 2) := by simp [hruns, hbrk]
  have hgo : cfgTxEn (s.uartParam n 0) = true ∧ (s.uart n).brk = 0 ∧ (!(bit 23 (s.uartParam n 0) && cts)) = true :=
    ⟨hen, hbrk, by rcases hcts with h | h <;> simp [h]⟩
  rw [State.characterTransmit, if_neg hnot]
  change (match ((s.modUart n (Uart.boundary (s.uartParam n 0) s.up cts)).uart n).tx with
    | c :: l => if _ ∧ ((s.modUart n (Uart.boundary (s.uartParam n 0) s.up cts)).uart n).brk = 0 ∧ _ then _ else _
    | [] => _) = _
  rw [hu, show ((s.uart n).boundary (s.uartParam n 0) s.up cts).tx = ch :: r from htx]
  refine (if_pos hgo).trans ?_
  rw [State.startEdge_eq, State.modUart_modUart, State.modUart_modUart]
  rfl

theorem State.characterTransmit_of_empty {n : Nat} {cts : Bool} {s : State} (hruns : s.uartRuns n = true)
    (hbrk : (s.uart n).brk ≠ 2) (htx : (s.uart n).tx = []) (hn : n < s.uarts.length) :
    s.characterTransmit n cts = s.modUart n (fun u => (u.boundary (s.uartParam n 0) s.up cts).released s.up) := by
  have hu := State.uart_modUart (Uart.boundary (s.uartParam n 0) s.up cts) hn
  have hnot : ¬ ((!s.uartRuns n) = true ∨ (s.uart n).brk = 2) := by simp [hruns, hbrk]
  rw [State.characterTransmit, if_neg hnot]
  change (match ((s.modUart n (Uart.boundary (s.uartParam n 0) s.up cts)).uart n).tx with
    | c :: l => if _ then _ else _
    | [] => State.endRun n (s.modUart n (Uart.boundary (s.uartParam n 0) s.up cts))) = _
  rw [hu, show ((s.uart n).boundary (s.uartParam n 0) s.up cts).tx = [] from htx]
  exact (State.endRun_eq _ _).trans (State.modUart_modUart _ _ _ _)

/-- The end of a break (R437). -/
def Uart.unbreak (cfg up : Nat) (u : Uart) : Uart := { u with brk := 0, brkBits := 0, txMode := cfg, sentAt := some up }

theorem State.breakEnd_eq {n : Nat} {s : State} (hbrk : (s.uart n).brk = 2) (hn : n < s.uarts.length) :
    s.breakEnd n = if (s.uart n).tx.isEmpty then (s.modUart n (Uart.unbreak (s.uartParam n 0) s.up)).endRun n
      else s.modUart n (Uart.unbreak (s.uartParam n 0) s.up) := by
  have hu : ((s.modUart n (Uart.unbreak (s.uartParam n 0) s.up)).uart n).tx = (s.uart n).tx := by
    rw [State.uart_modUart _ hn]
    rfl
  rw [State.breakEnd, if_pos hbrk, ← hu]
  rfl

/-! The entries the block logic sends (R433) -/

theorem entryChars_one (k : Nat) (b : Bytes) (hk : b.length ≤ k) : entryChars 1 k b = b.map (fun x => x.toNat) := by
  induction k generalizing b with
  | zero => rw [List.length_eq_zero_iff.mp (Nat.le_zero.mp hk)]; rfl
  | succ k ih =>
    cases b with
    | nil => rfl
    | cons x r =>
      have hx : x.toNat % 512 = x.toNat := Nat.mod_eq_of_lt (Nat.lt_trans x.isLt (by decide))
      simp [entryChars, ofLE, hx, ih r (Nat.le_of_succ_le_succ hk)]

theorem State.consume_uarts (n : Nat) (s : State) : (s.consume n).uarts = s.uarts := by
  have hr (t : State) : (t.refill n).uarts = t.uarts := by
    rw [State.refill]
    split
    · rfl
    · split
      · exact (Posted.offer n _ _).uarts
      · rfl
  have hh : (s.removeHead n).uarts = s.uarts := by
    rw [State.removeHead]
    split
    · rfl
    · split <;> rfl
  exact (hr _).trans hh

/-- R433: an entry that fits the transmit FIFO enters it whole and is consumed. -/
theorem State.blockTx_of_fits {n : Nat} {e : QEntry} {q : List QEntry} {s : State} (hruns : s.uartRuns n = true)
    (hserve : cfgTxServe (s.uart n).txMode = 1) (hdir : cfgQdir (s.uartParam n 0) = 1) (hbits : cfgDataBits (s.uartParam n 0) ≠ 9)
    (he : (s.queue (24 + n)).entries = e :: q) (hmoved : (s.uart n).moved = 0)
    (hroom : e.data.length + (s.uart n).tx.length ≤ 64) :
    s.blockTx n = (s.modUart n (fun u =>
      { u with tx := u.tx ++ e.data.map (fun b => b.toNat), moved := 0 })).consume (24 + n) := by
  have hnot : ¬ ((!s.uartRuns n) = true ∨ cfgTxServe (s.uart n).txMode ≠ 1 ∨ cfgQdir (s.uartParam n 0) ≠ 1) := by
    simp [hruns, hserve, hdir]
  have hwidth : charBytes (s.uartParam n 0) = 1 := if_neg hbits
  have htake : (e.data.map (fun b => b.toNat)).take (64 - (s.uart n).tx.length) = e.data.map (fun b => b.toNat) :=
    List.take_of_length_le (by rw [List.length_map]; omega)
  rw [State.blockTx, if_neg hnot]
  simp only [he, hwidth, entryChars_one e.data.length e.data le_rfl, hmoved, List.drop_zero, htake, if_true, State.modUart_modUart]

theorem uartTransmitterCompletes : UartTransmitterCompletes := by
  intro n s cts v ch r u cfg de lead begun ended left
  have hbegun (div : Nat) (x : Uart) : begun div x = s.edged n.val cfg div x := by
    have hsamples (k : Nat) : samplesQt div k = k * div * 20480 := by rw [samplesQt, show qtClock / 16 = 20480 by decide]
    have hlow : bits 7 0 de = de % 256 := by simp [bits]
    have hhigh : bits 15 8 de = de / 256 % 256 := by simp [bits]
    rw [State.edged, hsamples, hsamples, hlow, hhigh]
    rfl
  refine ⟨?next, ?empty, ?block, rfl, ?pop, ?popped, ?write, ?full, ?brkBegin, ?brkEnd, ?brkNext⟩
  case next =>
    intro hruns hbrk htx hen hcts hn
    refine congrArg Host.Outcome.next ((State.characterTransmit_of_next hruns hbrk htx hen hcts hn).trans ?_)
    refine congrArg (State.bump (0x40 + n.val) 1) (congrArg (fun f => s.modUart n.val f) (funext fun x => ?_))
    rw [hbegun]
    cases hde : x.de <;> simp only [State.edged, Uart.boundary, Uart.shift, hde, if_true, Bool.false_eq_true, if_false] <;> rfl
  case empty =>
    intro hruns hbrk htx hn
    exact congrArg Host.Outcome.next (State.characterTransmit_of_empty hruns hbrk htx hn)
  case block =>
    intro e q hruns hserve hdir hbits he _ hmoved hroom hn
    have ht := State.blockTx_of_fits hruns hserve hdir hbits he hmoved hroom
    have hu : (s.blockTx n.val).uart n.val = { s.uart n.val with tx := u.tx ++ e.data.map (fun b => b.toNat), moved := 0 } := by
      rw [ht, State.uart, State.consume_uarts]
      exact State.uart_modUart _ hn
    refine ⟨s.blockTx n.val, rfl, congrArg Uart.tx hu, congrArg Uart.moved hu, ?_⟩
    rw [hu]
    refine ht.trans (congrArg (State.consume (24 + n.val)) (State.modUart_congr rfl))
  case pop => exact fun h => congrArg Host.Outcome.next (if_pos h)
  case popped => exact fun h => congrArg Host.Outcome.next (if_neg h)
  case write =>
    intro hroom hn
    exact congrArg Host.Outcome.next (State.modUart_congr (if_pos hroom))
  case full =>
    intro hfull
    exact congrArg Host.Outcome.next (State.modUart_eq_self (if_neg (Nat.not_lt.mpr hfull)))
  case brkBegin =>
    intro hbrk hn
    refine congrArg Host.Outcome.next ((if_pos hbrk).trans ?_)
    rw [State.startEdge_eq, State.modUart_modUart]
    exact congrArg (fun f => s.modUart n.val f) (funext fun x => by rw [hbegun])
  case brkEnd =>
    intro hbrk htx hn
    exact congrArg Host.Outcome.next ((State.breakEnd_eq hbrk hn).trans
      ((if_pos (List.isEmpty_iff.mpr htx)).trans (State.modUart_modUart _ _ _ _)))
  case brkNext =>
    intro hbrk htx hn
    exact congrArg Host.Outcome.next ((State.breakEnd_eq hbrk hn).trans (if_neg (mt List.isEmpty_iff.mp htx)))

/-- Settles O32: each of its four parts from the lemmas on the receiver and the transmitter above. -/
theorem uartRowsComplete : Obligations.UartRowsComplete :=
  ⟨framesAreSampledMidBit, uartReceiverCompletes, soundCharacterIsStored, uartTransmitterCompletes⟩

end Sys2Proof.Machine

/-! PROOFS. Windows, sync, headers, codewords and delivery of the modem (R343–R361). -/
namespace Sys2Proof.Machine
open Sys2Proof.Claims

/-! What leaves the modem as it was -/

theorem Posted.modem {s t : State} (h : Posted s t) : t.modem = s.modem := by
  have heq : t = t.posting s := h
  rw [heq]
  rfl

theorem Posted.refill (n : Nat) (s : State) : Posted s (s.refill n) := by
  rw [State.refill]
  split
  · exact .refl s
  · split
    · exact .trans (t := s.modQueue n _) rfl (.offer _ _ _)
    · exact .refl s

theorem Posted.refillN (n k : Nat) (s : State) : Posted s (s.refillN n k) := by
  induction k generalizing s with
  | zero => exact .refl s
  | succ k ih => exact (Posted.refill n s).trans (ih _)

theorem Posted.occurDrops (n k : Nat) (s : State) : Posted s (s.occurDrops n k) := by
  induction k generalizing s with
  | zero => exact .refl s
  | succ k ih => exact (Posted.occur _ _ _ s).trans (ih _)

theorem Posted.reclaimEvent (n k reason station : Nat) (s : State) : Posted s (s.reclaimEvent n k reason station) := by
  rw [State.reclaimEvent]
  split
  · exact .refl s
  · exact .occur _ _ _ s

@[simp] theorem State.occur_modem (n code : Nat) (detail : Bytes) (s : State) : (s.occur n code detail).modem = s.modem :=
  (Posted.occur n code detail s).modem

@[simp] theorem State.advance_modem (t : Nat) (s : State) : (s.advance t).modem = s.modem := (rfl)

@[simp] theorem State.losePeer_modem (st reason : Nat) (s : State) : (s.losePeer st reason).2.2.modem = s.modem :=
  (Posted.reclaimEvent _ _ _ _ _).modem.trans ((Posted.refillN _ _ _).modem.trans (Posted.occurDrops _ _ _).modem)

theorem State.markAbsent_modem (st : Nat) (s : State) : (s.markAbsent st).modem = s.modem := by
  rw [State.markAbsent]
  split <;> simp

theorem State.uplinkMissed_modem (st : Nat) (s : State) : (s.uplinkMissed st).modem = s.modem := by
  rw [State.uplinkMissed, State.ascending]
  simp only [State.modQueue_modem]
  split
  · rw [State.markAbsent_modem]
    simp
  · simp

theorem State.decodeFail_modem (reason mcs failed : Nat) (b : RxBurst) (s : State) :
    (s.decodeFail reason mcs failed b).modem = s.modem := State.occur_modem _ _ _ _

/-- R347: the AGC unfreezes; nothing else of the modem changes. -/
theorem State.unfreezeAgc_modem (s : State) : s.unfreezeAgc.modem = { s.modem with frozen := false } := by
  rw [State.unfreezeAgc]
  cases h : s.modem.frozen
  · show s.modem = _
    rw [← h]
  · rfl

theorem State.burstOver_modem (t : Nat) (s : State) :
    (s.burstOver t).modem.buffers = s.modem.buffers ∧ (s.burstOver t).modem.lastStation = s.modem.lastStation ∧
      (s.burstOver t).modem.delivered = s.modem.delivered := by
  rw [State.burstOver]
  split
  · rw [State.resumeSearch, State.unfreezeAgc_modem]
    exact ⟨rfl, rfl, rfl⟩
  · exact ⟨rfl, rfl, rfl⟩

theorem State.burstOver_of_searching {t : Nat} {s : State} (h : s.modem.rx = 1) : s.burstOver t = s := by
  rw [State.burstOver, h]
  rfl

/-! What a slot expects does not hang on the time or the radio's state (R366) -/

theorem State.wakeRadio_expects (kind u f : Nat) (s : State) : s.wakeRadio.expects kind u f = s.expects kind u f := by
  rw [State.wakeRadio]
  split
  · rfl
  · dsimp only
    split <;> rfl

theorem State.rxWindowOpen_of_slot {kind u fr : Nat} {l : List (Nat × Nat)} {s : State} (hl : s.mayListen = true)
    (hw : s.modem.window = none) (he : s.plumb.estimated = true) (hs : s.slotsAhead kind = (u, fr) :: l) :
    s.rxWindowOpen kind = ((s.advance (fr * qtFrame + (slotSpan kind u).1 * qtUs)).wakeRadio).openWindow kind
      ((s.expects kind u fr).getD 0) fr (fr * qtFrame + (slotSpan kind u).2 * qtUs) := by
  rw [State.rxWindowOpen]
  simp only [hl, hw, he, hs, Bool.not_true, Bool.false_eq_true, Option.isSome_none, or_self, if_false, State.wakeRadio_expects]
  rfl

theorem State.rxWindowClose_modem {w : RxWindow} {s : State} (hw : s.modem.window = some w) :
    s.rxWindowClose.modem = { s.modem with window := none, rx := 0, current := none, frozen := false } := by
  rw [State.rxWindowClose, hw]
  simp only
  split
  · simp [State.unfreezeAgc_modem]
  · split
    · simp [State.uplinkMissed_modem, State.unfreezeAgc_modem]
    · split <;> simp [State.unfreezeAgc_modem]

/-! The LDPC decoder's iterations (R355) -/

theorem LdpcState.iterate_le {c n most k : Nat} (x : LdpcState) (hk : k ≤ most) :
    (x.iterate c n most k).2 ≤ most ∧
      ((x.iterate c n most k).2 < most → syndromeFails c n (x.iterate c n most k).1 = false) := by
  induction k generalizing x with
  | zero => exact ⟨le_rfl, fun h => absurd h (Nat.lt_irrefl _)⟩
  | succ k ih =>
    simp only [LdpcState.iterate]
    split
    · exact ih _ (Nat.le_of_succ_le hk)
    · next hs => exact ⟨Nat.sub_le _ _, fun _ => by simpa using hs⟩

/-! LQ (R361) -/

theorem RxBurst.quality_le (e : Int) (b : RxBurst) : b.quality e ≤ 255 := by
  rw [RxBurst.quality]
  split
  · exact Nat.zero_le _
  · dsimp only
    omega

theorem RxBurst.quality_eq_zero (e : Int) (b : RxBurst) : b.quality e = 0 ↔ b.failed ≠ [] := by
  rw [RxBurst.quality]
  cases b.failed with
  | nil =>
    simp only [List.isEmpty_nil, Bool.not_true, Bool.false_eq_true, if_false, ne_eq, not_true_eq_false, iff_false]
    omega
  | cons k r => simp

/-! Sync detection (R347–R351) -/

theorem Equaliser.train_lengths (rate sync mu : Nat) (turned : Bool) (x : List (Int × Int)) :
    (Equaliser.train rate sync mu turned x).ff.length = 24 ∧ (Equaliser.train rate sync mu turned x).fb.length = 16 := by
  simp [Equaliser.train]

theorem State.syncDetect_of_bad {w : RxWindow} {hard at_ : Nat} {x : RxFront} {s : State} (hw : Windowed w 1 s)
    (hbad : s.param 0x3100 < syncErrors hard (s.param 0x3101)) : s.syncDetect hard x at_ = s := by
  obtain ⟨hwin, hrx⟩ := hw
  rw [State.syncDetect, hwin]
  simp only [State.burstOver_of_searching hrx, hbad, true_or, or_true, if_true]

/-- R347–R351: what the modem holds from sync detection on. -/
theorem State.syncDetect_modem {w : RxWindow} {hard at_ : Nat} {x : RxFront} {s : State} (hw : Windowed w 1 s)
    (hgood : syncErrors hard (s.param 0x3101) ≤ s.param 0x3100) (hlate : at_ + symbolSpan (s.rxRate w.kind) 140 ≤ w.close) :
    let m := (s.advance (at_ + symbolSpan (s.rxRate w.kind) 64)).freezeAgc x
    (s.syncDetect hard x at_).modem = { m.modem with
      rx := 2, lastStamp := syncStamp (s.rxRate w.kind) at_
      current := some {
        kind := w.kind, frame := w.frame, station := w.station, stamp := syncStamp (s.rxRate w.kind) at_
        errs := syncErrors hard (s.param 0x3101), rssi := rssiOf x.powers
        eq := Equaliser.train (s.rxRate w.kind) (s.param 0x3101) (m.param 0x3102) (syncTurned hard (s.param 0x3101))
          (x.samples.map (fun v => m.removeDc v)) } } := by
  intro m
  obtain ⟨hwin, hrx⟩ := hw
  rw [State.syncDetect, hwin]
  simp only [State.burstOver_of_searching hrx]
  rw [if_neg (by rw [hrx]; omega), State.occur_modem, State.bump_modem]

/-! The header (R343, R349, R357) -/

theorem State.headerSoft_kind (h : HeaderSymbols) (b : RxBurst) (s : State) : (s.headerSoft h b).2.kind = b.kind := by
  rw [State.headerSoft]

theorem State.headerRow_of_likely {h : HeaderSymbols} {b : RxBurst} {s : State} (hc : s.modem.current = some b)
    (hlen : h.samples.length = 304) (hml : mostLikely (bitsOf 32 h.header.toNat) (s.headerSoft h b).1 = true) :
    s.headerRow h = State.headerDecode h.header.toNat { s with modem := { s.modem with current := some (s.headerSoft h b).2 } } := by
  rw [State.headerRow, hc]
  simp only [hlen, hml, ne_eq, not_true_eq_false, Bool.not_true, Bool.false_eq_true, or_self, if_false]

section
variable {h : Nat} {b : RxBurst} {w : RxWindow} {s : State} (hc : s.modem.current = some b) (hw : s.modem.window = some w)
include hc hw

theorem State.headerDecode_of_bad (hbad : headerOk h = false) :
    s.headerDecode h = (s.resumeSearch.bump 0x31 3).decodeFail 0 (bits 3 0 h) 0 b := by
  rw [State.headerDecode, hc, hw]
  simp only [hbad, Bool.not_false, if_true]

theorem State.headerDecode_of_late {r : Nat} (hr : s.rxRate b.kind = r) (hok : headerOk h = true)
    (hlate : w.close < { b with mcs := bits 3 0 h, length := bits 23 8 h }.endAt r) :
    s.headerDecode h = (s.resumeSearch.bump 0x31 4).decodeFail 2 (bits 3 0 h) 0 b := by
  subst hr
  rw [State.headerDecode, hc, hw]
  simp only [hok, hlate, Bool.not_true, Bool.false_eq_true, if_false, if_true]

theorem State.headerDecode_of_fits {r : Nat} (hr : s.rxRate b.kind = r) (hok : headerOk h = true) (hroom : s.modem.buffers.length < 2)
    (hfits : { b with mcs := bits 3 0 h, length := bits 23 8 h }.endAt r ≤ w.close) :
    (s.headerDecode h).modem = { s.modem with
      rx := 3, rxEnd := { b with mcs := bits 3 0 h, length := bits 23 8 h }.endAt r, current := none
      window := some { w with heard := true }
      buffers := s.modem.buffers ++ [{ b with
        mcs := bits 3 0 h, length := bits 23 8 h, seed := bits 7 4 h, codewords := codewordCount (bits 3 0 h) (bits 23 8 h) }] } := by
  subst hr
  rw [State.headerDecode, hc, hw]
  simp only [hok, Nat.not_lt.mpr hfits, Nat.not_le.mpr hroom, Bool.not_true, Bool.false_eq_true, if_false]

end

/-! Codewords and delivery (R355–R362) -/

theorem State.codewordDecode_of_next {before rest : List RxBurst} {b : RxBurst} {samples : List (Int × Int)} {noise : Nat} {s : State}
    (hd : decodeNext s.modem.buffers = some (before, b, rest)) (hlen : samples.length = 4 * (b.ahead b.needs).length) :
    let y := s.ratios samples noise b
    let d := ldpcDecode (mcsCode b.mcs) (b.infoBits b.decoded) (s.param 0x3103) (y.1.take b.sentBits)
    let c := { y.2 with llr := y.1.drop b.sentBits }.codeword d.1 d.2
    let u := (({ s with modem := { s.modem with buffers := before ++ c :: rest } } : State).bump 0x31 5).bumpBy 0x31 7 d.2
    s.codewordDecode samples noise = if b.fails d.1 then u.bump 0x31 6 else u := by
  rw [State.codewordDecode, hd]
  exact if_neg (not_not.mpr hlen)

theorem State.burstDelivered_modem {b : RxBurst} {rest : List RxBurst} {x : PayloadSymbols} {evm : Int} {scale : Nat} {payload : Bytes}
    {s : State} (hb : s.modem.buffers = b :: rest) (hlen : x.samples.length = 4 * (b.ahead b.convSymbols).length)
    (hdone : b.codewords ≤ b.decoded)
    (hp : (s.hear b.convSymbols x.samples b).2.payload ((s.hear b.convSymbols x.samples b).1.map (soft4 scale)) x.payload = some payload)
    (hevm : evmFits evm (s.hear b.convSymbols x.samples b).2.eq.error (s.hear b.convSymbols x.samples b).2.eq.reference = true) :
    (s.burstDelivered x evm scale).modem.buffers = rest ∧ (s.burstDelivered x evm scale).modem.lastStation = some b.station ∧
      (s.burstDelivered x evm scale).modem.delivered =
        s.modem.delivered ++ [(s.hear b.convSymbols x.samples b).2.frame_ payload evm] := by
  have hdone' : ¬ (s.hear b.convSymbols x.samples b).2.decoded < (s.hear b.convSymbols x.samples b).2.codewords :=
    Nat.not_lt.mpr hdone
  rw [State.burstDelivered, hb]
  simp only [hlen, hdone', hevm, hp, ne_eq, not_true_eq_false, Bool.not_true, Bool.false_eq_true, or_self, if_false]
  split
  · simp only [State.bump_modem]
    exact State.burstOver_modem _ _
  · simp only [State.decodeFail_modem, State.bump_modem]
    exact State.burstOver_modem _ _

/-- Settles O48: each clause from the lemma on its row above. -/
theorem modemRowsComplete : Obligations.ModemRowsComplete := by
  intro s kind hard front stamp noise h scale samples x evm payload w b before rest
  refine ⟨?opens, ?closes, ?detects, ?ignores, ?header, ?codeword, ?decoder, ?delivered, ?quality⟩
  case opens =>
    intro u fr l hl hw he hs
    exact congrArg Host.Outcome.next (State.rxWindowOpen_of_slot hl hw he hs)
  case closes =>
    intro hw
    have hm := State.rxWindowClose_modem hw
    exact ⟨s.rxWindowClose, rfl, congrArg Modem.window hm, congrArg Modem.rx hm, congrArg Modem.frozen hm⟩
  case detects =>
    intro hw hgood hlate
    have hm := State.syncDetect_modem (x := front) hw hgood hlate
    exact ⟨s.syncDetect hard.toNat front stamp, _, rfl, congrArg Modem.rx hm, congrArg Modem.frozen hm, congrArg Modem.gain hm,
      congrArg Modem.current hm, (Equaliser.train_lengths _ _ _ _ _).1, (Equaliser.train_lengths _ _ _ _ _).2, rfl, rfl, rfl, rfl⟩
  case ignores =>
    intro hw hbad
    exact congrArg Host.Outcome.next (State.syncDetect_of_bad hw hbad)
  case header =>
    intro hw hc hlen y last hml
    let s1 : State := { s with modem := { s.modem with current := some y.2 } }
    have hrow : s.headerRow h = s1.headerDecode h.header.toNat := State.headerRow_of_likely hc hlen hml
    have hc1 : s1.modem.current = some y.2 := rfl
    have hw1 : s1.modem.window = some w := hw
    have hr : s1.rxRate y.2.kind = s.rxRate b.kind := congrArg s.rxRate (State.headerSoft_kind h b s)
    refine ⟨fun hbad => ?_, fun hok hlate => ?_, fun hok hfits hroom => ?_⟩
    · exact congrArg Host.Outcome.next (hrow.trans (State.headerDecode_of_bad hc1 hw1 hbad))
    · exact congrArg Host.Outcome.next (hrow.trans (State.headerDecode_of_late hc1 hw1 hr hok hlate))
    · have hm := State.headerDecode_of_fits hc1 hw1 hr hok hroom hfits
      exact ⟨_, congrArg Host.Outcome.next hrow, congrArg Modem.rx hm, congrArg Modem.rxEnd hm, congrArg Modem.buffers hm⟩
  case codeword =>
    intro hd hlen y d c u
    have hrow := State.codewordDecode_of_next (noise := noise) hd hlen
    exact ⟨fun hf => congrArg Host.Outcome.next (hrow.trans (if_pos hf)),
      fun hf => congrArg Host.Outcome.next (hrow.trans (if_neg (Bool.eq_false_iff.mp hf)))⟩
  case decoder => exact fun c n most llr => LdpcState.iterate_le _ le_rfl
  case delivered =>
    intro hb hlen y hdone hp hevm
    exact ⟨_, rfl, State.burstDelivered_modem hb hlen hdone hp hevm⟩
  case quality => exact fun e => ⟨b.quality_le e, (b.quality_eq_zero e).symm⟩

end Sys2Proof.Machine

/-! PROOFS. Bursts and messages of a cell, and the end of its commit (R372–R398). -/
namespace Sys2Proof.Machine
open Sys2Proof.Claims

/-! The members of a cell -/

/-- R397: of the records of a list, the one just put there is the first of its station. -/
theorem find?_putMember (m : Member) (l : List Member) : (putMember m l).find? (fun x => x.station == m.station) = some m := by
  induction l with
  | nil => simp [putMember]
  | cons x r ih =>
    rw [putMember]
    split
    · simp
    · next hlt =>
      split
      · simp
      · next hne => rw [List.find?_cons_of_neg (by simpa using Ne.symm hne), ih]

theorem State.member_station (st : Nat) (s : State) : (s.member st).station = st := by
  rw [State.member]
  cases h : s.cell.members.find? (fun m => m.station == st) with
  | none => rfl
  | some m => simpa using List.find?_some h

theorem State.member_modMember {st : Nat} {f : Member → Member} {s : State} (hf : (f (s.member st)).station = st) :
    (s.modMember st f).member st = f (s.member st) := by
  have hfind := find?_putMember (f (s.member st)) s.cell.members
  rw [hf] at hfind
  exact congrArg (fun o : Option Member => o.getD { station := st }) hfind

/-- What keeps a record's station changes that member's record. -/
theorem State.member_modMember_of_keeps {f : Member → Member} (hf : ∀ m, (f m).station = m.station) (st : Nat) (s : State) :
    (s.modMember st f).member st = f (s.member st) :=
  State.member_modMember ((hf _).trans (State.member_station st s))

@[simp] theorem State.bump_member (unit i st : Nat) (s : State) : (s.bump unit i).member st = s.member st := (rfl)

theorem Posted.cell {s t : State} (h : Posted s t) : t.cell = s.cell := by
  have heq : t = t.posting s := h
  rw [heq]
  rfl

theorem Posted.member {s t : State} (h : Posted s t) (st : Nat) : t.member st = s.member st := by
  rw [State.member, h.cell]
  rfl

/-! A lost peer (R374, R386, R392) -/

theorem State.losePeer_cell (st reason : Nat) (s : State) :
    (s.losePeer st reason).2.2.cell =
      (s.modMember st (fun m => { m with limitIn := 0, base := 0, sent := 0, limitOut := 0, expect := 0 })).cell :=
  (Posted.reclaimEvent _ _ _ _ _).cell.trans ((Posted.refillN _ _ _).cell.trans (Posted.occurDrops _ _ _).cell)

theorem State.losePeer_member (st reason : Nat) (s : State) :
    (s.losePeer st reason).2.2.member st =
      { s.member st with limitIn := 0, base := 0, sent := 0, limitOut := 0, expect := 0 } := by
  rw [State.member, State.losePeer_cell]
  exact State.member_modMember_of_keeps (by exact fun _ => rfl) st s

theorem State.beaconLost_of_due {s : State} (hrole : s.cellRole = 2) (hlost : s.cell.lost = false) (hmissed : s.param 0x3200 ≤ s.cell.missed) :
    s.beaconLost.cell.lost = true ∧ ((s.member 0).state = 1 → (s.beaconLost.member 0).state = 2) := by
  have hdue : s.cellRole = 2 ∧ (!s.cell.lost) = true ∧ s.param 0x3200 ≤ s.cell.missed := ⟨hrole, by rw [hlost]; rfl, hmissed⟩
  let a : State := { s with cell := { s.cell with lost := true } }
  have hm := State.losePeer_member 0 2 a
  have hpost := Posted.occur 97 1 (le 2 s.cell.missed) ((a.losePeer 0 2).2.2.modMember 0 (fun m =>
    { m with state := if m.state = 1 then 2 else m.state }))
  rw [State.beaconLost, if_pos hdue]
  constructor
  · exact (congrArg Cell.lost hpost.cell).trans (congrArg Cell.lost (State.losePeer_cell 0 2 a))
  · intro h1
    rw [hpost.member, State.member_modMember_of_keeps, hm]
    · exact if_pos h1
    · exact fun _ => rfl

/-! Bursts (R372–R375, R381–R384, R391, R393) -/

/-- R382: x of the worker that replied. -/
theorem State.takeTtReply_member {x : RxFrame} {t3 : Nat} {s : State} (hwire : s.wired = false) (hcrc : crcPayload x.payload = true)
    (hkind : fieldAt 0 1 x.payload = 1) (hst : fieldAt 2 1 x.payload ≠ 0) (hturn : fieldAt 2 1 x.payload = ttWorker x.frame)
    (hadm : s.admittedStation (fieldAt 2 1 x.payload) = true) :
    ((s.takeTtReply x t3).member (fieldAt 2 1 x.payload)).x = (signedAt 4 8 x.payload - ((x.stamp : Int) - t3)) / 2 := by
  have hgo : ¬ ((!crcPayload x.payload) = true ∨ fieldAt 0 1 x.payload ≠ 1 ∨ fieldAt 2 1 x.payload = 0 ∨
      fieldAt 2 1 x.payload ≠ ttWorker x.frame ∨ (!s.admittedStation (fieldAt 2 1 x.payload)) = true) := by
    simp only [hcrc, hkind, hst, ← hturn, hadm]
    simp
  rw [State.takeTtReply, if_neg hgo]
  simp only [hwire, Bool.false_eq_true, if_false, Int.sub_zero, State.bump_member]
  rw [State.member_modMember_of_keeps]
  exact fun _ => rfl

/-- R393: an intact uplink burst of the wire as the manager takes it. -/
def State.wiredUplink (station : Nat) (payload : Bytes) (start : Nat) (s : State) : RxFrame :=
  { kind := 4, frame := frameOf start, station := station, stamp := s.wireStamp start, payload := payload, mcs := 0, failed := []
    lq := (Config.freeByte s.freeTick).toNat }

theorem State.wiredBurstRx_of_uplink {station start dev comb : Nat} {payload : Bytes} {s : State} (hwire : s.wired = true)
    (hrole : s.cellRole = 1) :
    s.wiredBurstRx 4 station payload true start dev comb =
      (({ s.advance start with freeTick := s.freeTick + 1 } : State).wireUp start).takeUplink (s.wiredUplink station payload start) := by
  have hgo : ¬ ((!s.wired) = true ∨ s.cellRole = 0 ∨ (!true) = true) := by simp [hwire, hrole]
  rw [State.wiredBurstRx, if_neg hgo, hrole]
  rfl

theorem cellBurstsComplete : CellBurstsComplete := by
  intro s t x dev comb start st payload
  refine ⟨?beacon, ?lost, ?downlink, ?manager, ?reply, ?uplink, ?wired, ?crc, ?cell, ?offset⟩
  case beacon =>
    intro hrole hx
    refine congrArg Host.Outcome.next ?_
    rw [State.beaconRx, if_neg (not_not.mpr hrole), hx]
  case lost =>
    intro hrole hlost hmissed
    exact ⟨s.beaconLost, rfl, State.beaconLost_of_due hrole hlost hmissed⟩
  case downlink =>
    intro hrole hx
    refine congrArg Host.Outcome.next ?_
    rw [State.downlinkRx, if_neg (not_not.mpr hrole), hx]
  case manager =>
    intro hrole hx
    refine congrArg Host.Outcome.next ?_
    rw [State.ttManagerBurstRx, if_neg (not_not.mpr hrole), hx]
  case reply =>
    intro hrole hx
    refine congrArg Host.Outcome.next ?_
    rw [State.ttReplyRx, if_neg (not_not.mpr hrole), hx]
  case uplink =>
    intro hrole hx
    refine congrArg Host.Outcome.next ?_
    rw [State.uplinkRx, if_neg (not_not.mpr hrole), hx]
  case wired =>
    intro hwire hrole
    exact ⟨s.wiredUplink st.toNat payload start, congrArg Host.Outcome.next (State.wiredBurstRx_of_uplink hwire hrole), rfl, rfl, rfl, rfl⟩
  case crc =>
    intro lead hcrc
    rw [State.takeBeacon, hcrc]
    rfl
  case cell =>
    intro lead hcrc hid
    rw [State.takeBeacon, hcrc]
    exact if_pos hid
  case offset =>
    intro hwire hcrc hkind hst hturn hadm t3
    exact State.takeTtReply_member hwire hcrc hkind hst hturn hadm

/-! Messages (R376–R380, R384, R386, R388, R390) -/

theorem State.measMessage_of_unknown {ownR mgrR ws : List Nat} {bound : Nat} {m : CellMessage} {s t : State} (hrole : s.cellRole = 2)
    (hm : Waits 1 m s t) (hset : t.cell.cvSets.find? (fun x => qtBytes x.1 == slice 4 10 m.body) = none) :
    s.measMessage ownR mgrR ws bound = t := by
  have htake : s.takeMessage 1 = some (m, t) := hm
  rw [State.measMessage, if_neg (not_not.mpr hrole), htake]
  simp only [hset]

/-- R384: what a MEAS message of a known instant adds to its set. -/
theorem State.measMessage_of_known {ownR mgrR ws : List Nat} {bound inst : Nat} {set : List (Bytes × Nat)} {m : CellMessage} {s t : State}
    (hrole : s.cellRole = 2) (hm : Waits 1 m s t)
    (hset : t.cell.cvSets.find? (fun x => qtBytes x.1 == slice 4 10 m.body) = some (inst, set)) :
    let old := if t.cell.cvSeq = some (fieldAt 0 4 m.body) then t.cell.cvPairs else []
    let u : State := { t with cell := { t.cell with
      cvSeq := some (fieldAt 0 4 m.body), cvPairs := old ++ cvPairs (t.cell.twoWayX.getD 0) set ownR mgrR ws m.body } }
    s.measMessage ownR mgrR ws bound = if fieldAt 14 1 m.body + 1 = fieldAt 15 1 m.body then u.cvResult bound inst else u := by
  have htake : s.takeMessage 1 = some (m, t) := hm
  rw [State.measMessage, if_neg (not_not.mpr hrole), htake]
  simp only [hset]

theorem State.ctrlMessage_eq {m : CellMessage} {s t : State} (hm : Waits 2 m s t) :
    let a := t.takeAck m.from_ (fieldAt 1 1 m.body) (fieldAt 2 1 m.body)
    let p := a.member m.from_
    s.ctrlMessage =
      if p.state = 1 ∧ fieldAt 0 1 m.body = p.expect ∧ within 1 128 ((p.limitOut + 256 - fieldAt 0 1 m.body) % 256) then
        (a.modMember m.from_ (fun p => { p with expect := (p.expect + 1) % 256 })).offerOmba 22 m.from_ (frameOf a.qt) true (m.body.drop 4)
      else a := by
  have htake : s.takeMessage 2 = some (m, t) := hm
  rw [State.ctrlMessage, htake]

theorem State.commitMessageRx_eq {st : Nat} {b : Bytes} {s t : State} (hb : Heads 19 4 st b s t) :
    s.commitMessageRx =
      if bit 7 (fieldAt 1 1 b) then
        if !t.newCommitId (fieldAt 0 1 b) && t.cell.commitState == 1 then t.withdrawCellCommits else t
      else if t.newCommitId (fieldAt 0 1 b) then t.applyCellCommit (fieldAt 0 1 b) (fieldAt 1 1 b % 128) (fieldAt 4 8 b)
      else t := by
  have htake : s.takeQueued 19 4 = some (st, b, t) := hb
  rw [State.commitMessageRx, htake]

/-- R390: the stations whose last ADMIT named this part with ACTION 1, after one more. -/
def admitPermits (b : Bytes) (permits : List Nat) : List Nat :=
  let others := permits.filter (· != fieldAt 0 1 b)
  if fieldAt 1 1 b == 1 && fieldAt 4 8 b == Config.serial.toNat then fieldAt 0 1 b :: others else others

theorem mem_admitPermits_self (b : Bytes) (permits : List Nat) :
    fieldAt 0 1 b ∈ admitPermits b permits ↔ fieldAt 1 1 b = 1 ∧ fieldAt 4 8 b = Config.serial.toNat := by
  rw [admitPermits]
  split <;> simp_all

theorem mem_admitPermits_of_ne {n : Nat} {b : Bytes} (hn : n ≠ fieldAt 0 1 b) (permits : List Nat) :
    n ∈ admitPermits b permits ↔ n ∈ permits := by
  rw [admitPermits]
  split <;> simp [hn]

theorem State.admitMessageRx_eq {st : Nat} {b : Bytes} {s t : State} (hb : Heads 19 5 st b s t) :
    s.admitMessageRx = { t with cell := { t.cell with permits := admitPermits b t.cell.permits } } := by
  have htake : s.takeQueued 19 5 = some (st, b, t) := hb
  rw [State.admitMessageRx, htake]
  rfl

/-- R388: what CELL_COMMIT_DONE says of a commit. -/
def State.commitDetail (c : CellCommit) (s : State) : Bytes :=
  let l := (s.commitMembers c).map (s.reported c)
  let count := fun (p : Nat → Bool) => (l.filter p).length
  let own := s.ownOutcome c
  le 1 (count (· == 2) + b01 (own == 2)) ++ le 1 (count (fun n => n == 3 || n == 5) + b01 (own == 3 || own == 5)) ++
    le 1 (count (· == 0)) ++ zeros 1 ++ le 8 c.index

theorem State.cellCommitDone_eq {c : CellCommit} {s : State} (hc : s.cell.commits.find? (fun c => c.waits && s.commitEnded c) = some c)
    (hrole : s.cellRole = 1) :
    s.cellCommitDone = ({ s with cell := { s.cell with
      commits := s.cell.commits.map (fun d => if d = c then { d with waits := false } else d) } } : State).occur 100 c.id (s.commitDetail c) := by
  rw [State.cellCommitDone, hc]
  exact if_pos hrole

theorem State.commitDetail_length (c : CellCommit) (s : State) : (s.commitDetail c).length = 12 := by
  simp [State.commitDetail, zeros, length_le]

theorem State.commitDetail_index (c : CellCommit) (s : State) : slice 4 8 (s.commitDetail c) = le 8 c.index := by
  simp only [State.commitDetail, slice]
  rw [List.drop_left' (by simp [zeros, length_le]), List.take_of_length_le (by rw [length_le])]

theorem cellMessagesComplete : CellMessagesComplete := by
  intro s t m st b ownR mgrR ws bound
  refine ⟨?unknown, ?known, ?ctrl, ?grant, ?commit, ?cancel, ?permits, ?report, ?diag, ?done, ?member⟩
  case unknown => exact fun hrole hm hset => congrArg Host.Outcome.next (State.measMessage_of_unknown hrole hm hset)
  case known =>
    intro inst set hrole hm hset old new u fixed v
    have hrow := State.measMessage_of_known (ownR := ownR) (mgrR := mgrR) (ws := ws) (bound := bound.toNat) hrole hm hset
    refine ⟨fun hpart => congrArg Host.Outcome.next (hrow.trans (if_neg hpart)), fun hpart hfew => ?_, fun hpart hfour hbase => ?_⟩
    · have hnot : ¬ (4 ≤ fixed.length ∧ v.baselineOk = true) := by
        rintro ⟨hfour, hbase⟩
        rcases hfew with h | h
        · omega
        · exact Bool.false_ne_true (h.symm.trans hbase)
      exact congrArg Host.Outcome.next (hrow.trans ((if_pos hpart).trans (if_neg hnot)))
    · exact congrArg Host.Outcome.next (hrow.trans ((if_pos hpart).trans (if_pos ⟨hfour, hbase⟩)))
  case ctrl =>
    intro hm a p n
    have hrow := State.ctrlMessage_eq hm
    refine ⟨fun hstate hseq h1 h128 => ?_, fun hseq => ?_⟩
    · exact congrArg Host.Outcome.next (hrow.trans (if_pos ⟨hstate, hseq, within_of_mem h1 h128⟩))
    · exact congrArg Host.Outcome.next (hrow.trans (if_neg (fun h => hseq h.2.1)))
  case grant =>
    intro hb
    have htake : s.takeQueued 19 3 = some (st, b, t) := hb
    refine congrArg Host.Outcome.next ?_
    rw [State.grantMessageRx, htake]
  case commit =>
    intro hb hbit hnew
    refine congrArg Host.Outcome.next ?_
    rw [State.commitMessageRx_eq hb, hbit, hnew]
    rfl
  case cancel =>
    intro hb hbit hnew hstate
    refine congrArg Host.Outcome.next ?_
    rw [State.commitMessageRx_eq hb, hbit, hnew, hstate]
    rfl
  case permits =>
    intro hb
    exact ⟨_, congrArg Host.Outcome.next (State.admitMessageRx_eq hb), mem_admitPermits_self b _,
      fun n hn => mem_admitPermits_of_ne hn _⟩
  case report =>
    intro hb
    have htake : s.takeQueued 20 6 = some (st, b, t) := hb
    refine congrArg Host.Outcome.next ?_
    rw [State.reportMessageRx, htake]
  case diag =>
    intro hm
    have htake : s.takeMessage 7 = some (m, t) := hm
    refine congrArg Host.Outcome.next ?_
    rw [State.diagMessage, htake]
  case done =>
    intro c hc hrole
    exact ⟨_, s.commitDetail c, congrArg Host.Outcome.next (State.cellCommitDone_eq hc hrole), s.commitDetail_length c,
      s.commitDetail_index c, rfl⟩
  case member => exact fun i f hf => State.member_modMember hf

/-- Settles O49: its two parts from the lemmas on the bursts and messages above. -/
theorem cellRowsComplete : Obligations.CellRowsComplete := ⟨cellBurstsComplete, cellMessagesComplete⟩

end Sys2Proof.Machine
